-- ==== Sys2Proof/Word.lean ====
section
/-! DEFINITION. The word types of the device and the plainest arithmetic on them (Scope and Conventions, R1, R2).
Every packet, register and record is made of these widths. -/

namespace Sys2Proof

/-- One byte of a packet, record or memory. -/
abbrev Byte := BitVec 8
/-- A 16-bit field (sequence numbers, tags, fault codes). -/
abbrev Half := BitVec 16
/-- A 32-bit field (FRAME32, move identifiers, masks). -/
abbrev Word := BitVec 32
/-- A 64-bit field (FRAME64, parameter values). -/
abbrev Long := BitVec 64

end Sys2Proof
end

