-- ==== Sys2Proof/Syntax.lean ====
section
/-! DEFINITION. The commands of the device: one constructor per row of the table of operations and events
(opcode_table.json), with the row's operands.

Three kinds of operand occur.
* An opcode row takes a `Req` (who sent it, with which sequence number and tag, and when it arrived, R45) and the
  fields of its payload (Table 3.6).
* A transport row takes the bytes or the transfer as the port saw it.
* An event row takes the evidence of the event: what the analog part, the link or the integrator's circuit showed. -/

namespace Sys2Proof

/-- The ports of R45 and R46, in the order of R46. -/
inductive Port where
  | spi | east | west | can0 | can1
  deriving DecidableEq, Repr

/-- The source of a packet: its ingress port and the sender's identity there (Sessions and ownership).
`node` is the node at which a ring packet entered (0 elsewhere); `host` is the index of the CAN identifier pair. -/
structure Source where
  port : Port
  node : Byte := 0
  host : Byte := 0
  deriving DecidableEq, Repr

/-- The header fields that a request carries into its execution, and its arrival time in timebase counts (R45). -/
structure Req where
  src : Source
  seq : Half
  tag : Half
  arrived : Nat
  deriving DecidableEq, Repr

/-- One entry of PARAM_WRITE_MULTI: index, sub-index, type byte and 8-byte value. -/
structure WriteEntry where
  index : Half
  sub : Byte
  type : Byte
  value : Long
  deriving DecidableEq, Repr

/-- One listed axis of MOVE_GROUP: axis byte and target. -/
structure GroupTarget where
  axis : Byte
  target : Word
  deriving DecidableEq, Repr

/-- The four limits of a motion request; a limit of 0 uses the axis default (R228). -/
structure Limits where
  vmax : Word
  amax : Word
  dmax : Word
  jmax : Word
  deriving DecidableEq, Repr

/-- The fields of Table 18.1, with the channel descriptors of Table 18.2 as they arrived. Its reserved bytes are ignored
(R3). -/
structure QuarryBlock where
  d : Nat
  decimation : Nat
  count : Nat
  segments : Nat
  pre : Nat
  source : Nat
  kind : Nat
  item : Nat
  ringOut : Nat
  level : Int
  hysteresis : Nat
  ringIn : Nat
  channels : List Nat
  deriving DecidableEq, Repr

/-- How the SPI host clocked a frame (Host Port and Data Port): the counts at which CS_N fell, the last command or header bit
arrived, and CS_N rose; whether its type was one outside Table 15.1 and whether it ended inside its command or header (R348: the
port ignores such a frame, whichever row names it); quad width; whether the host held SCK until RDY rose and kept the port's
timing (R347, R349); the bytes that arrived or were clocked out, and whether the frame ran to its end before CS_N rose. -/
structure SpiFrame where
  fell : Nat := 0
  headed : Nat := 0
  rose : Nat := 0
  otherType : Bool := false
  cut : Bool := false
  quad : Bool
  timingOk : Bool
  complete : Bool
  count : Nat
  deriving DecidableEq, Repr

/-- What one lane showed at the lane deadline (R325 to R327). -/
structure LaneReport where
  complete : Bool
  sramFault : Bool
  coreFault : Bool
  inputCrcOk : Bool
  halted : Bool
  imageOk : Bool
  deriving DecidableEq, Repr

/-- The comparisons of R326 as the arbiter made them: the bays whose sets differ, and whether the frame signature
and the state scan were equal. -/
structure Comparison where
  bays : Half
  signatureEqual : Bool
  scanEqual : Bool
  deriving DecidableEq, Repr

/-- The status a driver die reports with a transfer (R135, R138, R152): frame mean of VBUS in mV, junction temperature in
0.1 °C, and the highest `BRK_SNS_d` in mV since its last report. -/
structure DieReport where
  vbus : Nat
  temp : Int
  brakeSense : Nat := 0
  deriving DecidableEq, Repr

/-- A filtered level of the two safety inputs or comparators A and B. -/
structure PairAB where
  a : Bool
  b : Bool
  deriving DecidableEq, Repr

/-- The supplies of Table 19.3a. -/
inductive Supply where
  | vcore | vaux | vddm | vio | vbat
  deriving DecidableEq, Repr

/-- The memories of Table 1.3. -/
inductive MemoryKind where
  | laneA | laneB | dram | flash
  deriving DecidableEq, Repr

/-- The reset events that restart the device (Table 19.2). -/
inductive ResetEvent where
  | vbatPowerOn | keepWake | pin | supervisor | fwActivate | debugPort
  deriving DecidableEq, Repr

/-- A reset: its event, and the level on TEST, which holds the device in reset while it is high (R482). -/
structure ResetReport where
  event : ResetEvent
  test : Bool
  deriving DecidableEq, Repr

/-- The wake sources of R449, and a MODE_SET in Dormant. -/
inductive WakeSource where
  | wakeA | wakeB | timer | can0 | can1 | di
  deriving DecidableEq, Repr

/-- The evidence of a boot (Table 19.4, R341, R465 to R468): what verified, in the order of the steps, the duration in
µs, and the straps as sampled (R481). -/
structure BootReport where
  romOk : Bool
  sramOk : Bool
  laneSlotOk : PairAB
  safetySlotOk : PairAB
  trimsOk : Bool
  lanesMatch : Bool
  laneAOk : Bool
  dieLinkOk : Bool
  safetyTestsOk : Bool
  vgdPresent : Bool
  switchTestOk : Bool
  duration : Nat
  addr : Fin 8
  masterSel : Bool
  deriving DecidableEq, Repr

/-- The outcome of a flash operation: the state records it read back after program and verify. -/
structure FlashReport where
  verified : Bool
  deriving DecidableEq, Repr

/-- One safety-ADC scan of a driver die (R164): CRC and timing good, and the 24 phase voltages and VBUS in mV. -/
structure ScanReport where
  die : Fin 2
  crcOk : Bool
  phases : List Nat
  vbus : Nat
  time : Nat
  deriving DecidableEq, Repr

/-- One received CAN frame (R412): identifier with IDE, data and the FD and remote flags. -/
structure CanFrame where
  ident : BitVec 29
  extended : Bool
  fd : Bool
  remote : Bool
  data : List Byte
  deriving DecidableEq, Repr

/-- The diagnostics of Table 13.8 that have no row of their own, as their faults. -/
inductive SafetyDiagnostic where
  | crosscheck | clock | sadc | sadcPlaus | memory | plumbCfg | setInvalid | supply
  deriving DecidableEq, Repr

/-- A heartbeat (R302): whether its CRC-8 and window are good, and what it carries: the processor's state in the coding of Table
13.2, its readings of the two inputs, and its switch demand, whether it permits torque. -/
structure Heartbeat where
  valid : Bool
  state : Fin 6
  inputs : PairAB
  permits : Bool
  deriving DecidableEq, Repr

/-- The latch a retry works on (R147): the short-comparator latch of a bay or the bootstrap latch of a half-bridge. -/
inductive RetryRef where
  | short (bay : Fin 16)
  | boot (hb : Fin 48)
  deriving DecidableEq, Repr

/-- An ECHO exchange as it ends at a port (Table 16.2, R376): the responding node, its turnaround in bit times, and the code
violations since the last item of the port, those of IDLE among them. -/
structure EchoReport where
  node : Byte
  turnaround : Nat
  codeErrors : Nat := 0
  deriving DecidableEq, Repr

/-- What a JOIN ordered set carries beside its node (Table 16.2), and the code violations since the last item of the port. -/
structure JoinReport where
  epoch : Byte
  codeErrors : Nat := 0
  deriving DecidableEq, Repr

/-- What a segment's TRAIN exchange showed (Table 16.2): the partner's node, epoch, master and configuration check
code. -/
structure TrainReport where
  node : Byte
  epoch : Byte
  master : Byte
  code : Word
  deriving DecidableEq, Repr

/-- What a listening node decodes from its through path (Table 16.6, steps 2 to 4). `running` is whether the path
carries a running link; `frame` is the master's present FRAME64, `joined` the mask of the joined nodes, and `residence` the node's own residence in
0.1 ns. -/
structure ListenReport where
  running : Bool
  master : Byte
  epoch : Byte
  frame : Long
  joined : Byte
  code : Word
  residence : Nat
  codeErrors : Nat := 0
  deriving DecidableEq, Repr

/-- An operation through CORE_ACCESS (Table 21.16). -/
inductive CoreOp where
  | halt (core : Fin 2) | resume (core : Fin 2) | step (core : Fin 2)
  | registerRead (core : Fin 2) (number : Nat) | registerWrite (core : Fin 2) (number value : Nat)
  | memoryRead (memory : MemoryKind) (address length : Nat) | memoryWrite (address : Nat) (bytes : List Byte)
  deriving DecidableEq, Repr

/-- The commands of the device, one per row of opcode_table.json, in its order. -/
inductive Instr where
  -- opcodes of Table 3.6
  | ping (r : Req) (bytes : List Byte)
  | identify (r : Req)
  | sessionOpen (r : Req) (role flags : Byte) (keepalive : Half) (client : Word)
  | sessionClose (r : Req)
  | paramRead (r : Req) (index : Half) (sub : Byte)
  | paramWrite (r : Req) (e : WriteEntry)
  | paramReadMulti (r : Req) (entries : List (Half × Byte))
  | paramWriteMulti (r : Req) (entries : List WriteEntry)
  | txnBegin (r : Req) (flags : Byte) (timeout : Half)
  | txnCommitAt (r : Req) (flags : Byte) (frame : Word)
  | txnAbort (r : Req)
  | txnStatus (r : Req)
  | moveAbs (r : Req) (axis blend : Byte) (flags : Half) (target : Word) (lim : Limits)
  | moveRel (r : Req) (axis blend : Byte) (flags : Half) (distance : Word) (lim : Limits)
  | moveVel (r : Req) (axis blend : Byte) (flags : Half) (velocity amax dmax jmax : Word)
  | moveGroup (r : Req) (group blend : Byte) (flags : Half) (lim : Limits) (members : List GroupTarget)
  | queueFlush (r : Req) (axis : Byte)
  | axisAbort (r : Req) (axis kind : Byte)
  | gearEngage (r : Req) (master slave : Byte) (flags : Half) (ratio offset : Word)
  | gearRelease (r : Req) (slave : Byte)
  | latchArm (r : Req) (axis source edge : Byte)
  | stepFollow (r : Req) (axis counter : Byte) (flags : Half) (ratio : Word)
  | axisEnable (r : Req) (axis : Byte)
  | axisDisable (r : Req) (axis : Byte)
  | axisShortBrake (r : Req) (axis : Byte)
  | axisHome (r : Req) (axis method : Byte) (flags : Half) (velocity : Word) (force : Half)
  | faultClear (r : Req) (code : Half) (inst : Byte)
  | motorIdentify (r : Req) (axis steps : Byte)
  | snapshot (r : Req) (sections : Word)
  | statusAxes (r : Req) (axes : Word)
  | eventRead (r : Req) (from_ : Word) (max : Byte)
  | subscribe (r : Req) (classes : Word) (period : Half) (axes : Word)
  | dataOpen (r : Req) (space flags : Byte) (address length : Word)
  | dataRead (r : Req) (handle : Byte) (length : Half)
  | dataWrite (r : Req) (handle : Byte) (bytes : List Byte)
  | dataClose (r : Req) (handle : Byte)
  | quarrySetup (r : Req) (block : QuarryBlock)
  | quarryArm (r : Req) (flags : Byte)
  | quarryForce (r : Req)
  | quarryStatus (r : Req)
  | cfgStage (r : Req) (slot : Byte) (offset length : Word)
  | cfgActivate (r : Req) (slot flags : Byte) (trial : Half)
  | cfgConfirm (r : Req) (slot : Byte)
  | cfgRollback (r : Req)
  | fwStage (r : Req) (image : Byte) (offset length : Word)
  | fwActivate (r : Req) (image : Byte)
  | safetyStatus (r : Req)
  | safetyStopRequest (r : Req) (scope : Byte)
  | safetySetLoad (r : Req) (offset length : Word)
  | ringStatus (r : Req)
  | ringTopology (r : Req)
  | ringRetrain (r : Req) (ports : Byte)
  | modeSet (r : Req) (mode : Byte)
  | latencySet (r : Req) (latency : Word)
  | modeStatus (r : Req)
  | diagSelftest (r : Req) (tests : Word)
  | laneSwap (r : Req) (flags : Byte)
  | templateLearn (r : Req) (axis mode : Byte) (cycles : Half)
  | templateFreeze (r : Req) (axis freeze : Byte)
  | templateReset (r : Req) (axis directions : Byte)
  -- parameter writes with a row of their own
  | statusWordWrite (r : Req) (e : WriteEntry)
  | tplSave (r : Req) (value : Long)
  | qryRelease (r : Req) (value : Long)
  | cntPreset (r : Req) (counter : Byte) (value : Long)
  | gateOverride (r : Req) (hb : Byte) (value : Long)
  | carrierWrite (r : Req) (bay : Byte) (value : Long)
  | bankSwap (r : Req) (axis : Byte) (value : Long)
  -- the SPI host port
  | packetWrite (f : SpiFrame) (arrived : Nat) (bytes : List Byte)
  | packetRead (f : SpiFrame)
  | statusRead (f : SpiFrame)
  | rawRead (f : SpiFrame) (handle : Byte) (length : Word)
  | rawWrite (f : SpiFrame) (handle : Byte) (length : Word) (bytes : List Byte) (crc : Word)
  | packetReread (f : SpiFrame)
  | statusPush (slot : Fin 8)
  | sessionExpiry (slot : Fin 8)
  -- the frame
  | tick
  | txnTimeout (slot : Fin 8) (tag : Half)
  | recordRelease (slot : Fin 8) (tag : Half)
  | tbPhaseAlarm
  | axisComputeSlot (axis : Fin 16) (fb : BitVec 3) (edges : Word)
  | laneDeadline (a b : LaneReport) (cmp : Comparison) (slack : Nat)
  | copyFinalPhase (dirty : Nat)
  | copyRelease
  | laneCopyFail
  | proofSwap (readbackOk : Bool)
  | proofSwapResult (clean : Bool)
  | laneSwapOverdue
  | carrierPeriodStart (bay : Fin 16) (second : Bool)
  | adcTrigger (bay : Fin 16) (which : Fin 2) (raw : BitVec 12)
  | sampleRecord (bay : Fin 16) (report : DieReport)
  | snsMissing (bay : Fin 16)
  | snsRange (bay : Fin 16)
  | snsPeak (bay : Fin 16)
  | dieLinkCrcFail (bay : Fin 16)
  -- gate drive and protection
  | shortComparatorTrip (bay : Fin 16) (lowOn : BitVec 3)
  | bootUv (hb : Fin 48)
  | autoRetryTry (which : RetryRef) (sourceActive : Bool)
  | shootThroughInterlock (hb : Fin 48)
  | vgdLockout (die : Fin 2)
  | vgdLockoutRelease (die : Fin 2)
  | gdVgdHigh (die : Fin 2)
  | ov1Assert (die : Fin 2)
  | brakeOff (die : Fin 2)
  | ov2Assert (die : Fin 2)
  | ov2Release
  | gdBrakeFail (die : Fin 2)
  | gdBrakeOverload (die : Fin 2)
  | gdBrakeShorted (die : Fin 2)
  | gdVbusUv (die : Fin 2)
  | gdVbusMismatch
  | gdDieHot (die : Fin 2) (temp : Int)
  | gdDieOvertemp (die : Fin 2) (temp : Int)
  | tbClockLoss
  | pwmDebugHalt
  | chopTrip (bay : Fin 16) (count : Nat)
  | chopOffTimeEnd (bay : Fin 16)
  -- commutation
  | diodeTest (axis : Fin 16)
  | catchBrakeEnd (axis : Fin 16)
  | acquisitionDecision (axis : Fin 16)
  | injectionConverged (axis : Fin 16)
  | comInjConverge (axis : Fin 16)
  | polarityTestEnd (axis : Fin 16)
  | dcAlignEnd (axis : Fin 16)
  | comLos (axis : Fin 16)
  | comPlausibility (axis : Fin 16)
  | comOverspeed (axis : Fin 16)
  | comHallInvalid (axis : Fin 16)
  | comEncIndex (axis : Fin 16) (count : Word)
  | identifyStepDone (axis : Fin 16) (turns : Nat) (results : List Int)
  -- steppers
  | stepperEnergise (k : Fin 8)
  | stpCatchFail (k : Fin 8)
  | holdCurrent (k : Fin 8)
  | stpStall (k : Fin 8)
  | stpStallBlind (k : Fin 8)
  | stpNoRegulation (k : Fin 8)
  | stpOpenCoil (k : Fin 8)
  -- profile, loops, template
  | reversalRequest (axis : Fin 16)
  | groupStart (group : Fin 8)
  | prfGroupStop (group : Fin 8) (source : Fin 16)
  | ringGroupStop (group : Fin 8)
  | prfEotExceeded (axis : Fin 16)
  | homeFound (axis : Fin 16)
  | prfHomeFail (axis : Fin 16)
  | latchCapture (axis : Fin 16) (source : Byte) (rising : Bool) (count : Nat)
  | gearSynchronised (axis : Fin 16)
  | lpFollowErr (axis : Fin 16)
  | lpEnvelopeExceeded (axis : Fin 16)
  | lpCurrentLimit (axis : Fin 16)
  | gainRampEnd (axis : Fin 16)
  | templateSaveComplete (report : FlashReport)
  -- the safety channel
  | siChange (levels : PairAB)
  | safeSiDiscrepancy
  | stoReqPulse (tenths : Nat)
  | heartbeat (beat : Heartbeat)
  | safeWatchdog
  | safetyStateWord
  | safetyScan (scan : ScanReport)
  | ss1TimerExpiry
  | plumbSs1Expiry
  | safeStoFb (a b : Nat)
  | stoRelease
  | safeRailAbsent (a b : Nat)
  | switchTestStart
  | switchTestStep (a b : Nat) (inTime : Bool)
  | safeTestFail
  | safeTestOverdue
  | safeTestGrace
  | safetyDiagnosticFail (d : SafetyDiagnostic)
  -- field inputs and outputs
  | diEdge (input : Fin 32) (level : Bool) (count : Nat)
  | counterEdge (counter : Fin 8) (up : Bool)
  | freqGateEnd (counter : Fin 8) (edges span : Nat)
  | vfieldUv (group : Fin 4) (mv : Nat)
  | vfieldOv (group : Fin 4) (mv : Nat)
  | vfieldRecover (group : Fin 4) (mv : Nat)
  | fioDoGroupOverload (group : Fin 4)
  | fioDoOverload (channel : Fin 16) (toVfield : Bool)
  | fioDoMismatch (channel : Fin 16)
  | fioDoOpen (channel : Fin 16)
  | fioDoThermal (group : Fin 4)
  -- CAN
  | canFrameReceived (c : Fin 2) (frame : CanFrame) (arrived : Nat)
  | canSegment (c : Fin 2)
  | canSegmentTimeout (c : Fin 2) (host : Fin 8)
  | canTransmit (c : Fin 2)
  | canStatusFrame (c : Fin 2)
  | canErrorPassive (c : Fin 2) (transmit receive : Nat)
  | canBusOff (c : Fin 2)
  | canBusOffRecovered (c : Fin 2)
  -- the Bolhus link
  | tickSymbolReceived (port : Fin 2) (block : List Byte) (count residence codeErrors : Nat)
  | holdover
  | masterLost
  | ringLinkDown (port : Fin 2)
  | trainingComplete (port : Fin 2) (train : TrainReport) (codeErrors : Nat)
  | ringTrainFail (port : Fin 2)
  | echoExchange (port : Fin 2) (roundTrip : Nat) (echo : EchoReport)
  | stateSlotReceived (port : Fin 2) (node : Fin 8) (slot : List Byte) (codeErrors : Nat)
  | asyncBlockReceived (port : Fin 2) (block : List Byte) (codeErrors count : Nat)
  | creditReturn (node : Fin 8)
  | ringListenAcquired (report : ListenReport)
  | join
  | insertionWindowAnnounce
  | ringStart
  | unwrap
  | retrainAtFrame (port : Fin 2)
  | prepareReceived (node : Fin 8) (index : Fin 2)
  | commitDecision (slot : Fin 8) (tag : Half)
  | decisionReceived (node : Fin 8) (index : Fin 2)
  -- Quarry
  | quarryTrigger
  | ringTrigger (node : Fin 8)
  | quarryRecordEnd
  | quarryRearm
  -- modes and power
  | wake (source : WakeSource)
  | idleDescent
  | dormantEntry
  | keepEntry
  | modeTransitionComplete
  | reset (cause : ResetReport)
  | boot (report : BootReport)
  | supplyReset (supply : Supply)
  | pwrStartRetry
  | pwrVbatLow (mv : Nat)
  | quarryInitDone
  | flashOpComplete (report : FlashReport)
  | trialExpiry
  | rollbackApply
  | eventFlashProgram
  | scrubRead (m : MemoryKind) (address : Nat) (errors : Nat)
  -- the debug port
  | idcode
  | challenge
  | unlock (token : List Byte)
  | tokenCheckDone
  | dbgStatus
  | coreAccess (lane : Fin 2) (op : CoreOp)
  | debugReset (bit : Bool)
  | bypass
  -- the remaining rows
  | vgdBrkLow (die : Fin 2)
  | safetySetCheckDone
  | selftestComplete (test : Nat) (passed : Bool)
  | railPresent (a b : Nat)
  | joinReceived (port : Fin 2) (node : Byte) (item : JoinReport)
  | retrainTimeout
  | islandSupplyRestored (testsOk : Bool)
  deriving DecidableEq, Repr

end Sys2Proof
end

