-- ==== Sys2Proof/Decode.lean ====
section
/-! DEFINITION. The command a table word spells. The table of operations and events gives no row any bits, so no word
spells a command (notes/assumptions/2); packets are decoded by the rules of Command Packets in Machine/Packets.lean. -/

namespace Sys2Proof

/-- The command a word of `nbits` bits spells by the table's own bits: none, since no row has any. -/
def decodeTableWord (_nbits _w : Nat) : Option Instr := none

end Sys2Proof
end

