-- ==== Sys2Proof/Config.lean ====
section
/-! DEFINITION. The free values and the fixed unknowns of one device. Every constant here is opaque: nothing can be
proved about its value, so a claim that holds of the model holds whatever the value is. notes/assumptions names each
one with the place of the manual that leaves it open. -/

namespace Sys2Proof.Config

/-- A fresh value the manual leaves open, the k-th that a run draws; `k` is the counter `State.free`. -/
opaque freeInt : Nat → Int
/-- A fresh yes-or-no the manual leaves open. -/
opaque freeBool : Nat → Bool

/-- Where in the carrier period the pulse of a LOW_PWM half-bridge stands (Table 5.1 gives its length alone): its first count, from the
period and the pulse's length. -/
opaque lowPwmStart : Int → Int → Int

/-- The event code of an uncorrectable word in firmware staging (0), the event-log mirror (1) and a Template slot (2): Table 1.6
gives the reaction, and no fault table lists a code. -/
opaque memoryCode : Nat → Nat

/-- The identity of the part (IDENTIFY, Table 3.6): die revisions, image versions and serial number, all set at test. -/
opaque ctlRevision : BitVec 8
opaque drvRevision : Fin 2 → BitVec 8
/-- The header (first 4 KiB, Table 20.4) of the images the device ships with, by kind (0 lane, 1 safety) and slot. -/
opaque factoryHeader : Nat → Nat → List (BitVec 8)
/-- The key records the device ships with (R459). -/
opaque shippedKeys : List (List (BitVec 8))
opaque serialByte : Fin 16 → BitVec 8

/-- The factory trim of a bay at a gain, q16.16, as each die receives it at boot, and the bytes of the factory record that holds the
trims and its CRC-32C; the record's layout is not given (R161). -/
opaque factoryTrim : Fin 16 → Nat → Int
opaque factoryRecord : Nat → BitVec 8

/-- The current-frequency ramp of Table 8.7, bit 3, whose current and course the manual leaves open: the current in mA from COM.I_MAX,
and the electrical angle from COM.SPEED_RATED and the frame of the step. -/
opaque rampCurrent : Int → Int
opaque rampAngle : Int → Nat → Int
/-- The PLL gains that give a bandwidth in Hz (R181, R183): proportional and integral, 2^-16 per frame. -/
opaque pllKp : Nat → Int
opaque pllKi : Nat → Int
/-- The filter of |ε| that R182 names without its law: the filtered value from the one before and the new one. -/
opaque injectionFilter : Int → Int → Int

/-- STP.LOAD at a demand velocity of 0, where R216 divides by 0; from STP.BEMF. -/
opaque loadAtStandstill : Nat → Nat

/-- Whether CFG.TRIAL_LEFT counts a part of a second as one; Table 20.7 gives the unit alone. -/
opaque trialRoundsUp : Bool
/-- The state code of a slot whose newest record is ACTIVATED or CONFIRMED and which is neither active nor previous; Table
20.7 lists none. -/
opaque olderSlotState : Nat

/-- Whether an ECDSA P-256 signature over SHA-256 of a message verifies under a public key (R318, R459, R467). -/
opaque verifies : List (BitVec 8) → List (BitVec 8) → List (BitVec 8) → Bool
/-- The Golmin root public key in the boot ROM (R459), and the image keys the device ships with. -/
opaque rootKey : List (BitVec 8)
/-- The next nonce of the debug port (R493). -/
opaque nonce : Nat → List (BitVec 8)

/-- What TXN_STATUS carries as the commit frame where no commit frame is set (Table 3.6). -/
opaque noCommitFrame : BitVec 32
/-- The frames, less one, that leaving Service takes (Table 19.2: Ready within 20 frames). -/
opaque leaveService : Fin 20

/-- The first address of the Template table in each lane's SRAM (R21), whose layout is not given. -/
opaque templateTable : Fin 4063233

/-- Which part of Mortar's DRAM region owns a word (Table 1.4): 0 the snapshot, n the n-th transaction that is not in a final state. -/
opaque mortarOwner : Nat → Nat

end Sys2Proof.Config
end

