-- ==== Sys2Proof/Machine/State.lean ====
section
/-! DEFINITION. The state of the device as plain data, its faults and refusals, and the state after reset.

A parameter of the parameter tables lives in `State.regs`, a sparse list by key `index * 256 + sub-index`; a parameter
the list does not name has the default of its table (Machine/ParamTable.lean). The sticky (W1C) bits of a status
word live there too, under the status word's own index; its read-only bits are computed from the state
(Machine/Flags.lean). Every other structure below is one block of the manual. -/

namespace Sys2Proof.Machine

/-- Why a step stops with a fault. No meaning of this model raises one: every command of the table has an effect. -/
inductive Fault where
  /-- Raised by nobody; kept so that the type is not empty. Safe. -/
  | none
  deriving DecidableEq, Repr

/-- Why a step is refused. -/
inductive Refusal where
  /-- Raised by an arm of `exec` whose command has no meaning in the model yet. Safe. -/
  | notModelled (mnemonic : String)
  deriving DecidableEq, Repr

/-- The modes of Table 19.1, in the coding of MODE_SET. -/
inductive Mode where
  | keep | dormant | ready | run | limp | service
  deriving DecidableEq, Repr

/-- The axis states of Table 3.7. -/
inductive AxisState where
  | disabled | enabling | standstill | moving | stopping | fault | shorted | coasting | sto
  deriving DecidableEq, Repr

/-- The fault records of R503: an active fault with its instance, the frame of its detection, the rank of the
reaction in force, whether that reaction has begun, and its clear-attempt counter. -/
structure Active where
  code : Nat
  inst : Nat
  frame : Long
  rank : Nat
  started : Bool := false
  attempts : Nat := 0
  /-- The data of its event entries (Table 20.5). -/
  data : List Byte := []
  deriving DecidableEq, Repr

/-- An event before its number is given: the fields of Table 20.5 that its origin fixes. `order` is the place of
R469: 0 to 15 for the axis slots, 16 for the device. -/
structure Event where
  code : Nat
  inst : Nat
  kind : Nat
  cls : Nat
  detail : Nat := 0
  session : Nat := 255
  extra : Nat := 0
  data : List Byte := []
  frame : Long
  order : Nat := 16
  deriving DecidableEq, Repr

/-- A numbered event-log entry (Table 20.5). `flashed` is whether the flash ring holds it, `invalid` whether its
mirror word was uncorrectable (Table 1.6). -/
structure Entry where
  seq : Word
  ev : Event
  flashed : Bool := false
  invalid : Bool := false
  deriving DecidableEq, Repr

/-! ### Timebase -/

/-- The timebase (The Frame and the Tick). Times are timebase counts; `tickAt` is the count of T(frame64). -/
structure Timebase where
  tickAt : Nat := 0
  frameLen : Nat := 10000
  /-- The first tick after PLL lock has made FRAME64 0 (R39). -/
  started : Bool := false
  /-- Whether the tick runs: false in Dormant and Keep (R39). -/
  running : Bool := true
  clockLost : Bool := false
  /-- e of the frame in counts, when a valid tick symbol gave one (R47). -/
  phase : Option Int := none
  phaseErr : Int := 0
  inWindow : Nat := 0
  outWindow : Nat := 0
  locked : Bool := false
  holdover : Bool := false
  missed : Nat := 0
  /-- R50: the lengths of the last frames before holdover, newest first, and the frames ended at their mean since. -/
  lengths : List Nat := []
  held : Nat := 0
  /-- R51: this node becomes master at its next tick. -/
  succeeds : Bool := false
  alarmRun : Nat := 0
  quietRun : Nat := 0
  overran : Bool := false
  deriving DecidableEq, Repr

/-! ### Commands -/

inductive Role where
  | observer | control
  deriving DecidableEq, Repr

/-- What a reply carries after FRAME32; the bytes are formed when the reply is built (R66). -/
inductive Body where
  | bare
  | bytes (b : List Byte)
  | param (index : Nat) (sub : Nat)
  | params (keys : List (Half × Byte))
  | txn (slot : Fin 8) (tag : Half)
  | sections (mask : Word)
  | axes (mask : Word)
  | events (from_ : Word) (max : Nat)
  | safety
  | quarry
  | ring
  | topology
  | modes
  deriving DecidableEq, Repr

/-- A request executed at the last tick whose reply is not yet built (R66). -/
structure Awaiting where
  src : Source
  slot : Option (Fin 8)
  opcode : Byte
  seq : Half
  tag : Half
  status : Byte
  body : Body
  deriving DecidableEq, Repr

/-- One cached reply (R63). `reply` is empty until the reply has been built. -/
structure Cached where
  seq : Half
  crc : Word
  reply : List Byte := []
  /-- The numbers of the event entries in the reply (R76). -/
  events : List Word := []
  deriving DecidableEq, Repr

/-- One session (Sessions and ownership). -/
structure Session where
  src : Source
  role : Role
  client : Word
  keepalive : Nat
  lastSeq : Half
  /-- R60: the request that opened the session, its reply, and whether nothing else was accepted since. -/
  opener : List Byte := []
  openReply : List Byte := []
  untouched : Bool := true
  /-- Arrival of the last packet that passed check 7, in counts (R64). -/
  refreshed : Nat
  cache : List Cached := []
  classes : Word := 0
  period : Nat := 0
  axes : Word := 0
  sinceStatus : Nat := 0
  pushSeq : Half := 0
  deriving DecidableEq, Repr

/-- A packet waiting to leave the device for a host, the event numbers its entries carry (R76), and the session whose
queue it counts in. `forward` is the node, or 0xFF, of a request that travels on for its host (R59); `left` counts the
bytes not yet sent in blocks on the ring (R388). -/
structure OutPacket where
  bytes : List Byte
  host : Source := { port := .spi }
  forward : Option Byte := none
  left : Nat := 0
  slot : Option (Fin 8) := none
  push : Bool := false
  events : List Word := []
  deriving DecidableEq, Repr

/-- A request that has passed checks 1 to 7 and waits for its tick; `ingress` is the port it arrived at (R45, R46). -/
structure Arrival where
  req : Req
  ingress : Port
  opcode : Byte
  cmd : Instr
  deriving DecidableEq, Repr

/-- Packets, sessions and replies (Command Packets, Opcodes and Replies). -/
structure Commands where
  sessions : Vector (Option Session) 8 := Vector.replicate 8 none
  arrivals : List Arrival := []
  awaiting : List Awaiting := []
  /-- The queues toward SPI, EAST, WEST, CAN0, CAN1. -/
  out : Vector (List OutPacket) 5 := Vector.replicate 5 []
  /-- R352: replies to the SPI session that became ready while its output queue was full, and wait in its reply cache. -/
  late : List OutPacket := []
  /-- R352, R353: the packet that PACKET_READ removed last. -/
  lastRead : List Byte := []
  /-- R76: sequence numbers of WARN events that no EVENT_READ has carried out yet. -/
  unread : List Word := []
  deriving DecidableEq, Repr

/-! ### Mortar -/

/-- The kinds of Table 10.1. -/
inductive MoveKind where
  | abs | rel | vel | group | reversal
  deriving DecidableEq, Repr

/-- A queue entry (Table 10.1). `target` is none for a REL entry that is resolved when it starts (R228); `relative`
is its distance. `began` is slot state 2, in progress. -/
structure Move where
  kind : MoveKind
  blend : Nat := 0
  flags : Nat := 0
  id : Nat := 0
  target : Option Int := none
  relative : Int := 0
  v : Nat := 0
  a : Nat := 0
  d : Nat := 0
  j : Nat := 0
  duration : Nat := 0
  group : Option (Fin 8) := none
  began : Bool := false
  /-- Direction at the start, and the frame of the start. -/
  dir : Int := 0
  startedAt : Long := 0
  /-- The demand has landed on the target (R231), reached its joint, or passed its target (R232). -/
  landed : Bool := false
  /-- A SMOOTH successor has started (Table 10.4): this entry is no longer planned. -/
  passed : Bool := false
  /-- R232: the speed that an entry which was braking when its CORNER successor came may not exceed, in counts/s. -/
  jointCap : Option Int := none
  /-- R234: the deceleration and jerk in force in the last frame, whether rule 4 keeps them, and whether the entry
  replaced another in this frame. -/
  keptD : Option Nat := none
  keptJ : Option Nat := none
  deferred : Bool := false
  fresh : Bool := false
  /-- R232: the first frame in which its predecessor, which was braking when it came, plans toward their joint. -/
  joinsAt : Long := 0
  /-- R285: at least one bin was learned in the entry. -/
  learned : Bool := false
  deriving DecidableEq, Repr

/-- The transaction states of Table 4.6; a record in NONE does not exist. -/
inductive TxnState where
  | open_ | voting | committing | committed | partial_ | aborted | timedOut | inconsistent
  deriving DecidableEq, Repr

/-- A staged request (R91): the command, its opcode, and the queue entries it prepared at staging, with their
move identifiers and resolved targets (R222, R226). -/
structure Staged where
  cmd : Instr
  opcode : Byte
  prepared : List (Fin 16 × Move) := []
  deriving DecidableEq, Repr

/-- A transaction record (Mortar: Coherent State and Transactions). -/
structure Txn where
  slot : Fin 8
  tag : Half
  client : Word
  ring : Bool
  state : TxnState
  deadline : Nat
  commit : Option Long := none
  /-- The request that waits for the outcome: TXN_COMMIT_AT's SEQ, and for the order of step 5 its arrival and its place among
those executed, which is in port order where arrivals are equal (R46). -/
  commitSeq : Half := 0
  commitArrived : Nat := 0
  commitOrder : Nat := 0
  staged : List Staged := []
  bytes : Nat := 0
  entries : Nat := 0
  applied : Nat := 0
  finalAt : Long := 0
  /-- The tick whose step 4 or 5 made it final (R84). -/
  doneAt : Option Long := none
  /-- Ring part: coordinator here, coordinator node, participants and acknowledgements. -/
  coordinator : Bool := false
  coordNode : Byte := 0
  begunAt : Long := 0
  participants : Byte := 0
  acks : Byte := 0
  decided : Option Bool := none
  /-- R98: an uncorrectable word was met in what a ring participant staged; it cannot apply. -/
  spoiled : Bool := false
  /-- Its session has ended (R98): no request finds it, and its record goes as soon as it is final. -/
  orphan : Bool := false
  /-- R61: a takeover aborted it, and its next request has not been answered yet. -/
  notice : Bool := false
  deriving DecidableEq, Repr

/-- A latched snapshot (R85): its frame and the bytes of the nine sections of Table 4.2. -/
structure Snapshot where
  frame : Long := 0
  sections : List (List Byte) := []
  axes : List (Nat × List Byte) := []
  /-- The lanes' fields of the own state slot (R385): axis states, device fault and group-stop mask. -/
  slotAxes : List Byte := List.replicate 16 0
  slotFault : Nat := 0
  slotStops : Byte := 0
  corrupt : Bool := false
  deriving DecidableEq, Repr

structure Mortar where
  txns : List Txn := []
  now : Snapshot := {}
  before : Snapshot := {}
  hold : Bool := false
  /-- The TXN_COMMIT_AT requests executed so far. -/
  commits : Nat := 0
  /-- The ring transactions that this coordinator decided to abort, whose completion is due at T(c) (Table 4.9, step 9). -/
  owed : List Txn := []
  books : Word := 0
  lastRing : Option (Word × Half × TxnState × Word) := none
  deriving DecidableEq, Repr

/-! ### PWM generator, gate drive and sense array -/

/-- What a half-bridge released from its last forcing latch, or one of an axis that is being enabled, waits for in OFF before it
follows its loaded entry: nothing, the next period start (R148), the next AXIS_ENABLE (R120), or a frame (R188). -/
inductive Release where
  | no | untilStart | untilEnable
  /-- R188: until its first period start in this frame. -/
  | untilFrame (f : Long)
  deriving DecidableEq, Repr

/-- The edges and gate pulses of the period in progress, in counts from its start (R108, R111): edge commands a and b, and
the intervals in which each gate's command line is on. -/
structure Gates where
  a : Int := 0
  b : Int := 0
  high : List (Int × Int) := []
  low : List (Int × Int) := []
  deriving DecidableEq, Repr

/-- One half-bridge: the entry the lanes computed, the shadow, pending and active entry (Table 5.1 or 9.2), the COAST and
SHORT latches by source code of Table 5.6, and the driver die's view of it. -/
structure HalfBridge where
  offered : Word := 0x4000
  shadow : Word := 0x4000
  pending : Word := 0x4000
  active : Word := 0x4000
  coast : List Nat := []
  short : List Nat := []
  /-- R111: the timebase count from which the low-side gate of a winding short is on, a dead time after its partner. -/
  lowFrom : Nat := 0
  /-- The sources of `coast` as of the last tick (Table 14.1). -/
  coastAt : List Nat := []
  /-- R128: no short trip excludes the low-side path since the last clear. -/
  lowClean : Bool := true
  /-- R130, R131: the bootstrap monitor is below its level; a high-side pulse has been issued since the mode left. -/
  bootUv : Bool := false
  highPulsed : Bool := false
  /-- The count of R117. -/
  refresh : Nat := 0
  /-- The period in progress is the half-bridge's refresh period. -/
  refreshing : Bool := false
  release : Release := .no
  gates : Gates := {}
  deriving DecidableEq, Repr

/-- A retry of R147: the end of the wait in progress, the frames of the tries of the last 10 s, and exhaustion. -/
structure Retry where
  waitEnd : Option Long := none
  tries : List Long := []
  exhausted : Bool := false
  deriving DecidableEq, Repr

/-- The phase of a chopper cycle (Table 9.3): the off-time is its fast and its slow phase. -/
inductive ChopPhase where
  | off | onTime | offTime
  deriving DecidableEq, Repr

/-- The chopper of a bay's coil (R209 to R211): its phase and the count at which the phase began, from the start of the
period in progress; and the high-side time so far in that period of the U and the V leg. -/
structure Chopper where
  phase : ChopPhase := .off
  since : Int := 0
  /-- The count to which the comparator is ignored. -/
  blankTo : Int := 0
  /-- R209, R111: the other leg's low side was on as the cycle began, and stays on. -/
  lowKept : Bool := false
  /-- R211: the count at which the driving leg's high side is on again after a refresh, 0 where none interrupted it. -/
  resume : Int := 0
  highU : Int := 0
  highV : Int := 0
  deriving DecidableEq, Repr

/-- One bay: triggers, chop byte, carrier, forcing record, samples and calibration. -/
structure Bay where
  /-- What the lanes computed for the next set (Table 14.1 step 4). -/
  trigOffered : Word := 0
  chopOffered : Byte := 0
  trigShadow : Word := 0
  trigPending : Word := 0
  trigActive : Word := 0
  chopShadow : Byte := 0
  chopPending : Byte := 0
  chopActive : Byte := 0
  /-- R107, R114: the committed carrier that waits for LOAD_ALL, the one pending, the one in force (counts). -/
  carrierHeld : Option Nat := none
  periodPending : Nat := 10000
  period : Nat := 10000
  /-- The count at which the period in progress began (R40), and what R109 added to its end. -/
  startedAt : Nat := 0
  stretch : Int := 0
  lastSource : Nat := 0
  shifted : Bool := false
  halted : Bool := false
  retry : Retry := {}
  /-- Raw codes taken in the frame (R156) and the record being built and delivered (Table 7.4). -/
  raw0 : Option Nat := none
  raw1 : Option Nat := none
  forcedInAperture : Bool := false
  tripped : Bool := false
  chops : Nat := 0
  /-- A chop assertion has come in the present frame (R162). -/
  chopped : Bool := false
  sample0 : Int := 0
  sample1 : Int := 0
  recordFlags : Nat := 3
  recordChops : Nat := 0
  missRun : Nat := 0
  satRun : Nat := 0
  peakRun : Nat := 0
  /-- R160: calibration in progress; conversions so far through the shorted input and through the shunt. -/
  calibrating : Bool := false
  internalSum : Int := 0
  shuntSum : Int := 0
  conversions : Nat := 0
  calibrated : Bool := false
  offsetInternal : Bool := false
  trimDefault : Bool := false
  /-- The chopper of the bay's coil, and its record of the window (R209, R212). -/
  chopper : Chopper := {}
  firstTrip : Option Nat := none
  trips : Nat := 0
  spanned : Bool := false
  refreshed : Bool := false
  chopRecord : Nat × Nat × Nat := (65535, 0, 17)
  /-- The record as the lanes use it in the axis's compute slot: that of the last frame (R42, R167). -/
  used0 : Int := 0
  used1 : Int := 0
  usedFlags : Nat := 3
  usedChop : Nat × Nat × Nat := (65535, 0, 17)
  deriving DecidableEq, Repr

/-- One driver die: supervision, over-voltage and brake chopper, and the runs its faults count. -/
structure Die where
  vgdLocked : Bool := false
  ov1 : Bool := false
  ov2 : Bool := false
  brakeOn : Bool := false
  brakeFailed : Bool := false
  linkFailed : Bool := false
  linkFailedBefore : Bool := false
  vbus : Nat := 0
  temp : Int := 0
  /-- The two as of the last tick, in the lanes' input block (Table 14.1). -/
  vbusAt : Nat := 0
  tempAt : Int := 0
  /-- The highest `BRK_SNS_d` of the frame in mV, and whether `BRK_d` has been on in it. -/
  brakeSense : Nat := 0
  brakeSeen : Bool := false
  /-- `BRK_d` has turned off in the frame. -/
  brakeBroken : Bool := false
  /-- `brakeFailed` as of the last tick. -/
  brakeFailedAt : Bool := false
  /-- Consecutive frames: with `BRK_d` on; with OV1 asserted and no brake current; with current and `BRK_d` off; with the
  mean of VBUS below GD.VBUS_UV and an axis enabled (R138, R142, R143). -/
  brakeRun : Nat := 0
  idleRun : Nat := 0
  shortRun : Nat := 0
  uvRun : Nat := 0
  deriving DecidableEq, Repr

/-- The PWM generator beyond its half-bridges and bays. -/
structure Pwm where
  hbs : Vector HalfBridge 48 := Vector.replicate 48 {}
  bays : Vector Bay 16 := Vector.replicate 16 {}
  boot : Vector Retry 48 := Vector.replicate 48 {}
  dies : Vector Die 2 := Vector.replicate 2 {}
  loadAll : Bool := false
  /-- Row 2 of Table 14.2: the bays to which the transfer of the accepted set gives the entries in force again. -/
  loadHold : Half := 0
  /-- Source 0x04 active (R140). -/
  overVoltage : Bool := false
  backupClock : Bool := false
  /-- Consecutive frames in which the two means of VBUS differ by more than 5% (R135). -/
  mismatchRun : Nat := 0
  deriving DecidableEq, Repr

/-! ### Axes -/

/-- A deceleration to rest without a move: which limits it uses. -/
inductive Stop where
  | profile | hard
  deriving DecidableEq, Repr

/-- The demand state of R221, in 2^-16 counts, counts/s and counts/s²; its operations keep each an i64. -/
structure Demand where
  p : Int := 0
  v : Int := 0
  a : Int := 0
  deriving DecidableEq, Repr

/-- An `AXIS_HOME` in progress (R244 to R246). -/
structure Homing where
  method : Nat
  velocity : Int
  force : Int
  backoff : Bool
  since : Long
  still : Nat := 0
  captured : Option Int := none
  found : Bool := false
  /-- The back-off target in counts, once home is found. -/
  target : Int := 0
  slot : Option (Fin 8)
  seq : Half
  deriving DecidableEq, Repr

/-- A gearing engagement seen from the slave (R248 to R251): ratio q16.16, offset and catch-up term. -/
structure Gear where
  master : Fin 16
  ratio : Int
  offset : Int
  term : Demand := {}
  synced : Bool := false
  deriving DecidableEq, Repr

/-- Step following (R219). -/
structure Follow where
  counter : Fin 8
  ratio : Int
  invert : Bool
  origin : Int
  sum : Int := 0
  last : Word
  deriving DecidableEq, Repr

/-- A latch armed by LATCH_ARM (R247), and one captured in the frame that waits for the next tick. -/
structure Latch where
  source : Byte
  edge : Byte
  deriving DecidableEq, Repr

/-- The steps of the enable sequence (Table 8.5, R213). -/
inductive EnableStep where
  | calibrate | diode | brake | acquire | injection | polarity | align
  deriving DecidableEq, Repr

structure Enabling where
  step : EnableStep
  since : Long
  failures : Nat := 0
  attempts : Nat := 0
  deriving DecidableEq, Repr

/-- A motor identification in progress (R196). -/
structure Identify where
  steps : Nat
  /-- The frame in which the step in progress began. -/
  since : Long := 0
  slot : Option (Fin 8)
  seq : Half
  deriving DecidableEq, Repr

/-- Three values of the phases U, V and W. -/
structure Tri where
  u : Int := 0
  v : Int := 0
  w : Int := 0
  deriving DecidableEq, Repr

/-- What the engine computed for one frame of a bay (R172, R175): duties, shifts and triggers in counts for a period, and
the voltages they apply in mV. -/
structure Plan where
  period : Int := 10000
  duty : Tri := {}
  shift : Tri := {}
  trig0 : Int := 0
  trig1 : Int := 0
  /-- The commanded dq voltages; the applied vector after dead-time compensation (R183); the leg out of use (R179). -/
  vd : Int := 0
  vq : Int := 0
  vAlpha : Int := 0
  vBeta : Int := 0
  dead : Option (Fin 3) := none
  deriving DecidableEq, Repr

/-- The commutation engine of one axis (Table 8.1 formats). `plan` is what the next frame applies, `planNow` what the
present frame applies, `planBefore` what the last frame applied. -/
structure Commutation where
  /-- The reconstructed vector of the last frame; its dq components at the sample instant; and the fundamental of R181, which
  while injecting is the mean of two frames. -/
  iAlpha : Int := 0
  iBeta : Int := 0
  idFrame : Int := 0
  iqFrame : Int := 0
  id : Int := 0
  iq : Int := 0
  theta : Nat := 0
  omega : Int := 0
  source : Nat := 0
  /-- The angle and the speed of the frame in which the engine worked at the last sample instant (R168, R178). -/
  driveTheta : Int := 0
  driveOmega : Int := 0
  intD : Int := 0
  intQ : Int := 0
  plan : Plan := {}
  planNow : Plan := {}
  planBefore : Plan := {}
  fluxA : Int := 0
  fluxB : Int := 0
  fluxRun : List Int := []
  obsTheta : Int := 0
  obsOmega : Int := 0
  injTheta : Int := 0
  injOmega : Int := 0
  /-- Frames of injection amplitude left of COM.INJ_RAMP (R184). -/
  injFade : Nat := 0
  injError : Int := 0
  converged : Bool := false
  convergeRun : Nat := 0
  polarity : Bool := false
  posPulse : Int := 0
  negPulse : Int := 0
  aligned : Bool := false
  alignOffset : Nat := 0
  zCount : Option Word := none
  encoder : Word := 0
  hall : Nat := 0
  hallInterval : Nat := 0
  hallSince : Nat := 0
  hallBad : Nat := 0
  twoPhase : Bool := false
  predicted : Bool := false
  incomplete : Nat := 0
  losRun : Nat := 0
  losTries : List Long := []
  plausRun : Nat := 0
  overRun : Nat := 0
  angleAcc : Int := 0
  emf : List (Int × Int) := []
  power : Int := 0
  /-- R138: the axis regenerated in the last frame with a failed chopper and VBUS at OV1 or more. -/
  regenerates : Bool := false
  idDone : Nat := 0
  idFail : Nat := 0
  /-- The d-axis voltage and current at the two current levels of identification step 0 (Table 8.7). -/
  idLow : Int × Int := (0, 0)
  idHigh : Int × Int := (0, 0)
  /-- The encoder lines that identification found (Table 8.7); no parameter reports them. -/
  idLines : Nat := 0
  deriving DecidableEq, Repr

/-- The loop engine of one axis (Control Loops and Door Envelopes); integrators and gains in q16.16. -/
structure Loops where
  running : Bool := false
  int : Vector Int 4 := Vector.replicate 4 0
  selected : Nat := 0
  reported : Nat := 0
  selectRun : Nat := 0
  zone : Fin 8 := 0
  bank : Nat := 0
  gains : Vector Int 5 := Vector.replicate 5 0
  goal : Vector Int 5 := Vector.replicate 5 0
  rampLeft : Nat := 0
  limited : Bool := false
  baselineUsed : Bool := false
  out : Int := 0
  followRun : Nat := 0
  envRun : Nat := 0
  envQuiet : Nat := 0
  limitRun : Nat := 0
  deriving DecidableEq, Repr

/-- The Template unit of one axis. -/
structure Template where
  force : Int := 0
  baseline : Int := 0
  /-- The baseline came from the table (R267, R282). -/
  fromTable : Bool := false
  excess : Int := 0
  bin : Option (Nat × Bool) := none
  /-- The frame's direction is closing (R262, R280). -/
  closing : Bool := false
  speeds : List Int := []
  frozen : Bool := false
  teach : Option (Nat × Nat) := none
  teachSlot : Option (Fin 8) := none
  teachSeq : Half := 0
  count : Nat := 0
  detecting : Bool := false
  masked : Bool := false
  passBin : Option (Nat × Bool) := none
  passMove : Nat := 0
  passSum : Int := 0
  passN : Nat := 0
  passSpoiled : Bool := false
  deriving DecidableEq, Repr

/-- What the Stepper engine computed for one frame: amplitudes, current setting in mA, thresholds, and which coils are
in CHOP (R204, R205). -/
structure CoilPlan where
  a : Int := 0
  b : Int := 0
  amps : Int := 0
  chopA : Bool := false
  chopB : Bool := false
  deriving DecidableEq, Repr

/-- The Stepper engine of one axis. `plan` is for the next frame, `planNow` for the present one. -/
structure Stepper where
  energised : Bool := false
  slow : Bool := false
  holding : Bool := true
  stillFor : Nat := 0
  braked : Bool := false
  plan : CoilPlan := {}
  planNow : CoilPlan := {}
  index : Nat := 0
  /-- The frame has an estimate, at a speed of STP.STALL_VMIN or more (R217, R278). -/
  valid : Bool := false
  emf : List Int := []
  bemf : Nat := 0
  load : Nat := 0
  stallRun : Nat := 0
  blindRun : Nat := 0
  noTripA : Nat := 0
  noTripB : Nat := 0
  openA : Nat := 0
  openB : Nat := 0
  deriving DecidableEq, Repr

/-- One axis slot. Slot 2k is AX(2k), or STk while pair k is a stepper pair; slot 2k+1 is then absent (R20). -/
structure Axis where
  state : AxisState := .disabled
  since : Long := 0
  /-- The rank of the reaction in progress (R12), 0 none, and how the demand is being stopped. `reversing` below is a
  reversal request that waits for its tick (R288). -/
  reaction : Nat := 0
  stop : Option Stop := none
  held : Bool := false
  /-- R138, R139: regenerating, the axis was changed to winding short, and a brake fault still holds it. -/
  regenShort : Bool := false
  demand : Demand := {}
  /-- The demand of the last frame, as a geared slave uses it (R249). -/
  demandLast : Demand := {}
  measured : Int := 0
  speed : Int := 0
  measuredBefore : Int := 0
  positionOffset : Int := 0
  queue : List Move := []
  reserved : Nat := 0
  nextId : Nat := 1
  lastDone : Nat := 0
  homed : Bool := false
  homing : Option Homing := none
  obstruction : Bool := false
  reversing : Bool := false
  caught : Bool := false
  caughtNegative : Bool := false
  deferred : Bool := false
  inPosition : Bool := false
  inPosRun : Nat := 0
  /-- The target of the newest entry begun, and the first frame in which the next entry may start (Table 10.4). -/
  lastTarget : Int := 0
  startAt : Long := 0
  /-- The tick at which the newest entry completed (R84). -/
  completedAt : Option Long := none
  /-- R222: the reported position has wrapped since reset, and its wrap count when it was last looked at. -/
  wrapped : Bool := false
  wraps : Int := 0
  beyond : Bool := false
  /-- The active bank at the start of the tick (R272). -/
  bank : Nat := 0
  latch : Option Latch := none
  latchValid : Bool := false
  latchTaken : Option (Int × Word) := none
  gear : Option Gear := none
  /-- The tick at which gearing ended last (R254). -/
  releasedAt : Option Long := none
  follow : Option Follow := none
  enabling : Option Enabling := none
  identify : Option Identify := none
  com : Commutation := {}
  loops : Loops := {}
  template : Template := {}
  stepper : Stepper := {}
  deriving DecidableEq, Repr

/-- A coordinated group in progress or waiting to start (R255 to R257). -/
structure Group where
  id : Nat
  members : List (Fin 16)
  started : Bool := false
  fixedTime : Option Nat := none
  ringCoupled : Bool := false
  deriving DecidableEq, Repr

/-- A Template entry (Table 12.1). -/
structure Bin where
  mean : Int := 0
  spread : Nat := 0
  count : Nat := 0
  age : Nat := 0
  updated : Bool := false
  /-- The learning updates applied to the entry, which the Template book compares with its count (Table 4.10). -/
  updates : Nat := 0
  deriving DecidableEq, Repr

/-- The motion engines of the lanes. -/
structure Motion where
  axes : Vector Axis 16 := Vector.replicate 16 {}
  groups : Vector (Option Group) 8 := Vector.replicate 8 none
  nextGroupId : Nat := 1
  groupStops : Byte := 0
  stopping : Vector (List (Fin 16)) 8 := Vector.replicate 8 []
  /-- The table of R281 by entry number; an entry not listed is the cleared one. -/
  bins : List (Nat × Bin) := []
  /-- The table as it stood after the last frame (R294, R355). -/
  binsLast : List (Nat × Bin) := []
  saving : Bool := false
  saveGeneration : Nat := 0
  /-- An uncorrectable word was read in a Template slot (Table 1.6). -/
  badSlot : Vector Bool 2 := Vector.replicate 2 false
  deriving DecidableEq, Repr

/-! ### Safety channel -/

/-- The reading of a rail comparator (R301). -/
inductive Rail where
  | present | indeterminate | removed
  deriving DecidableEq, Repr

inductive SafetyState where
  | boot | runPermitted | ss1 | sto | testing | locked
  deriving DecidableEq, Repr

/-- The speed estimate of one axis (R309) and its limit record (R310). -/
structure Estimate where
  last : Bool := false
  seen : Bool := false
  crossings : Nat := 0
  crossing : Nat := 0
  interval : Nat := 0
  /-- The line voltage of each scan of the last 1.0 ms, with the scan's time in µs. -/
  window : List (Nat × Int) := []
  speed : Nat := 0
  overLimit : Bool := false
  start : Nat := 0
  deriving DecidableEq, Repr

structure Safety where
  state : SafetyState := .boot
  /-- The state word as the lanes received it last (R303). -/
  word : SafetyState := .boot
  wordCause : Nat := 0
  cause : Nat := 6
  a : Bool := false
  b : Bool := false
  /-- R322, SAFE_SI_DISCREPANCY: both inputs were de-energised together since the fault. -/
  bothLow : Bool := false
  hs : Bool := false
  ls : Bool := false
  railA : Rail := .removed
  railB : Rail := .removed
  releasing : Bool := false
  ss1At : Nat := 0
  now : Nat := 0
  plumbTimer : Bool := false
  /-- R302: the frame of the STO demand on `STO_REQ` that holds `STO_HS` off. -/
  stoReqAt : Option Long := none
  /-- Plumb's SS1 timer has opened `STO_HS`, which stays open until a release (R298, R311). -/
  plumbOpen : Bool := false
  /-- The last valid heartbeat, as Plumb holds it (R302). -/
  beat : Option Heartbeat := none
  /-- The last scan of each safety ADC was good, and its VBUS in mV (R164). -/
  scanOk : Vector Bool 2 := Vector.replicate 2 true
  scanVbus : Vector Nat 2 := Vector.replicate 2 0
  est : Vector Estimate 16 := Vector.replicate 16 {}
  violating : Half := 0
  testStep : Nat := 0
  testByHost : Option (Option (Fin 8) × Half) := none
  /-- R315: the boot switch test waits for VGD, or runs; its steps count in `testStep`. -/
  bootTest : Bool := false
  graceExpired : Bool := false
  overdue : Bool := false
  acknowledged : Bool := false
  setValid : Bool := false
  reportedShort : Bool := false
  /-- A safety set under check or accepted and waiting for the end of Service (R319). -/
  setChecking : Option (Nat × Option (Fin 8) × Half) := none
  setAccepted : Option (List Byte) := none
  supplyLost : Bool := false
  deriving DecidableEq, Repr

/-! ### Lanes -/

inductive Standby where
  | comparing | copying | faulty | imageMismatch | booting
  deriving DecidableEq, Repr

structure Lanes where
  activeB : Bool := false
  standby : Standby := .booting
  redundancyLost : Bool := false
  byImage : Bool := false
  row : Nat := 1
  /-- Divergence frames of A and of B, newest first, at most three (R340). -/
  historyA : List Long := []
  historyB : List Long := []
  lastFrame : Option Word := none
  lastBays : Half := 0
  lastCause : Nat := 0
  lastLane : Nat := 0
  copySince : Long := 0
  finalPhase : Bool := false
  dirty : Nat := 0
  /-- A role change decided for the next tick (R328, R337), and the row's hold of the load. -/
  swapAtTick : Bool := false
  /-- The standby leaves comparison at the next tick (R333). -/
  copyAtTick : Bool := false
  /-- Frames for which the conditions of R338 have held, and the request that asked for a swap at once (R339). -/
  dwellRun : Nat := 0
  swapNow : Option (Option (Fin 8) × Half) := none
  swapWaiting : Option (Option (Fin 8) × Half) := none
  swapping : Option (Long × Option (Option (Fin 8) × Half)) := none
  /-- R21: the engines of the standby as they stood when it left comparison; none while it takes part. -/
  apart : Option Motion := none
  /-- An uncorrectable word was read in the lane's SRAM, A and B, since the last decision (R327, Table 1.6). -/
  sramBad : Vector Bool 2 := Vector.replicate 2 false
  lost : Bool := false
  deriving DecidableEq, Repr

/-! ### Event log, modes, configuration -/

/-- The event log (R469 to R471): entries raised in the present frame, and the mirror, oldest first. -/
structure EventLog where
  fresh : List Event := []
  entries : List Entry := []
  next : Word := 1
  deriving DecidableEq, Repr

/-- Mode controller and Keystone (Operating Modes, Start-Up and Power). -/
structure Power where
  mode : Mode := .ready
  /-- The boot sequence has not reached its first mode yet. -/
  booting : Bool := true
  /-- The level on TEST as the last reset met it (R482). -/
  test : Bool := false
  pending : Option Mode := none
  dueAt : Long := 0
  requester : Option (Option (Fin 8) × Half) := none
  idleFrames : Nat := 0
  wakeCause : Nat := 0
  wakeLatched : Bool := false
  pwrEn : Bool := true
  startTries : Nat := 0
  quarryInit : Bool := true
  vbatLow : Bool := false
  supplyReset : Bool := false
  startRetried : Bool := false
  selftests : Option (Nat × Option (Fin 8) × Half) := none
  deriving DecidableEq, Repr

/-- The kinds of state record (Table 20.1). -/
inductive RecordKind where
  | staged | activated | trial | confirmed | booted | rolledBack
  deriving DecidableEq, Repr

/-- The newest state record of a slot and what is known of the slot's content (R456). -/
structure Slot where
  record : Option (RecordKind × Nat) := none
  wasConfirmed : Bool := false
  version : Word := 0
  valid : Bool := true
  corrected : Bool := false
  deriving DecidableEq, Repr

/-- The one flash operation of R457. -/
inductive FlashOp where
  | configStage (slot : Fin 8) (bytes : List Byte)
  | imageStage (kind slot : Fin 2) (bytes : List Byte)
  | templateSave
  deriving DecidableEq, Repr

/-- Configuration sets, images and the flash operation in progress. -/
structure Config where
  slots : Vector Slot 8 := Vector.replicate 8 {}
  lane : Vector Slot 2 := Vector.replicate 2 {}
  safety : Vector Slot 2 := Vector.replicate 2 {}
  laneBoot : Fin 2 := 0
  safetyBoot : Fin 2 := 0
  activeSlot : Option (Fin 8) := none
  /-- A set that takes effect on leaving Service (R462), with its trial time in seconds and the request that waits. -/
  activating : Option (Fin 8 × Option Nat) := none
  activateWaiting : List (Option (Fin 8) × Half) := []
  trial : Option (Fin 8) := none
  trialEnd : Nat := 0
  rollbackPending : Bool := false
  flash : Option FlashOp := none
  /-- The staging range that a pending operation reads (R358): offset and length. -/
  flashRange : Option (Nat × Nat) := none
  requester : Option (Byte × Option (Fin 8) × Half) := none
  /-- The key store (R459): the records added, and the shipped keys removed, by ID. -/
  keys : List (List Byte) := []
  revoked : List Nat := []
  /-- The two safety-set records of R460: generation and the 1,184 bytes. -/
  safetySets : Vector (Option (Nat × List Byte)) 2 := Vector.replicate 2 none
  /-- A rollback that waits was commanded (R464): the request, if its completion is due. -/
  rollbackBy : Option (Option (Fin 8) × Half) := none
  deriving DecidableEq, Repr


/-! ### Host port and data port -/

/-- A data-port handle (R354 to R357). `ended` after its session has ended in the middle of a raw burst (R357). -/
structure Handle where
  owner : Fin 8
  space : Nat
  write : Bool
  base : Nat
  length : Nat
  moved : Nat := 0
  ended : Bool := false
  deriving DecidableEq, Repr

/-- The pin RDY (R349): the counts at which CS_N fell and rose in the last frame, the count from which RDY is 1 inside that
frame, the count until which a write frame holds it at 0 afterwards, and those at which the receive buffers are released. -/
structure SpiPins where
  fell : Nat := 0
  rose : Nat := 0
  readyAt : Option Nat := none
  busyTo : Nat := 0
  buffers : List Nat := []
  /-- The handle of a raw burst in the frame (R357). -/
  burst : Option (Fin 8) := none
  deriving DecidableEq, Repr

structure HostPort where
  pins : SpiPins := {}
  handles : Vector (Option Handle) 8 := Vector.replicate 8 none
  burstStatus : Byte := 0
  /-- What the device drove in the last SPI frame after `RDY` rose (Table 15.1). -/
  driven : List Byte := []
  deriving DecidableEq, Repr

/-! ### Bolhus link -/

/-- The port states of Table 16.9. -/
inductive PortState where
  | down | listen | training | standby | inService
  deriving DecidableEq, Repr

/-- One port (EAST 0, WEST 1). Delays are in 0.1 ns. `badRun` counts consecutive frames with a CRC failure (R372);
`assembling` holds the packets being received from each source node with their entry port and host index. What left the port in
the present frame: `sent` the tick block (R374), `guard` the ordered set of its guard (Table 16.2), and `blocks` the occupied
async blocks (Table 16.7). `ticked` is whether a tick block has arrived in the frame, `silent` the frames in a row without one,
`lost` a loss of signal or lock that the next tick acts on, and `declared` a RING_LINK_DOWN whose segment is not back (R372). -/
structure RingPort where
  state : PortState := .down
  since : Long := 0
  partner : Byte := 0
  delay : Option Nat := none
  echoes : List Nat := []
  frameBad : Bool := false
  badRun : Nat := 0
  ticked : Bool := false
  silent : Nat := 0
  lost : Bool := false
  declared : Bool := false
  pathDelay : Nat := 0
  endPort : Bool := false
  assembling : List (Source × List Byte) := []
  sent : List Byte := []
  guard : List Byte := []
  blocks : List (List Byte) := []
  deriving DecidableEq, Repr

/-- An announcement of Table 16.7a. -/
structure Announcement where
  event : Nat
  frame : Long
  node : Byte := 0
  ports : Byte := 0
  deriving DecidableEq, Repr

/-- A Mortar field of Table 4.8 and the frames whose slots carry it. -/
structure MortarField where
  first : Long
  last : Long
  bytes : List Byte
  deriving DecidableEq, Repr

/-- The link (Bolhus Link, Cascade and Bypass). `received` are the slots of the present frame as they arrive,
`slots` those delivered at the last tick (R386). -/
structure Ring where
  ports : Vector RingPort 2 := Vector.replicate 2 {}
  /-- The straps as sampled at the last reset (R481): ADDR[2:0] and MASTER_SEL. -/
  addr : Fin 8 := 0
  masterSel : Bool := false
  joined : Bool := false
  detached : Bool := false
  wrapped : Bool := false
  quiet : Bool := false
  /-- Table 16.6: the frame at which LISTEN began, whether step 2 was reached and the checks of step 3 passed. -/
  listenSince : Long := 0
  acquired : Option ListenReport := none
  /-- R48: the one step of the tick before JOIN has been made. -/
  stepped : Bool := false
  heardTick : Bool := false
  /-- The phase error that the last tick block heard while listening gives, in counts (Table 16.6, step 4). -/
  heardPhase : Option Int := none
  /-- The residence of the last tick block forwarded (Table 16.7a, bytes 24 and 25). -/
  residence : Nat := 0
  lockedOnce : Bool := false
  epoch : Byte := 0
  hadEpoch : Bool := false
  master : Byte := 0
  received : Vector (Option (List Byte)) 8 := Vector.replicate 8 none
  slots : Vector (Option (List Byte)) 8 := Vector.replicate 8 none
  /-- The last valid slot of each node ([] before one), and the frames since it (notes/assumptions/60). -/
  last : Vector (List Byte) 8 := Vector.replicate 8 []
  missing : Vector Nat 8 := Vector.replicate 8 0
  /-- The own slot of the present frame with its CRC-16, [] before the first (R368, R385). -/
  own : List Byte := []
  announced : Option Announcement := none
  lastWindow : Long := 0
  credits : Vector Nat 8 := Vector.replicate 8 0
  /-- The ring-credit book (R104): the credits in flight toward each node, the total it was last filled to, and whether a
  segment has gone down since without the JOIN or UNWRAP that follows. -/
  spent : Vector Nat 8 := Vector.replicate 8 0
  filled : Vector Nat 8 := Vector.replicate 8 0
  segmentDown : Bool := false
  buffered : Vector Nat 8 := Vector.replicate 8 0
  returns : Vector Nat 8 := Vector.replicate 8 0
  retrainRequest : Byte := 0
  retraining : Option (Byte × Long × Option (Fin 8) × Half) := none
  /-- R48: the FRAME64 that the next tick takes, and the counts by which the frame before it is shortened. -/
  stepTo : Option (Long × Int) := none
  /-- The Mortar fields that this node's slots carry (Table 4.8). -/
  fields : List MortarField := []
  groupStopUntil : Vector Long 8 := Vector.replicate 8 0
  deriving DecidableEq, Repr

/-! ### Field inputs, outputs and CAN -/

/-- One counter and its frequency measurement (R396 to R398). `last` is the time of the last edge used, `idle` the frames since the
last edge, and `gate` those since the gate began. -/
structure Counter where
  count : Word := 0
  wrapped : Bool := false
  mode : Nat := 0
  last : Option Nat := none
  idle : Nat := 0
  gate : Nat := 0
  deriving DecidableEq, Repr

/-- The four field groups and the outputs (R393 to R407). -/
structure FieldIo where
  /-- The accepted levels before FIO.DI_INVERT, and the levels latched at the last tick. -/
  levels : Word := 0
  latched : Word := 0
  rising : Vector (Option (Word × Half)) 32 := Vector.replicate 32 none
  falling : Vector (Option (Word × Half)) 32 := Vector.replicate 32 none
  freshRising : List (Nat × Nat) := []
  freshFalling : List (Nat × Nat) := []
  counters : Vector Counter 8 := Vector.replicate 8 {}
  /-- The counts latched at the last tick (R37). -/
  counts : Vector Word 8 := Vector.replicate 8 0
  /-- C(n−1) of R219. -/
  countsBefore : Vector Word 8 := Vector.replicate 8 0
  /-- The output word the lanes computed in the last frame (set, enable), and the one driven. -/
  nextSet : Half := 0
  nextEnable : Half := 0
  driveSet : Half := 0
  driveEnable : Half := 0
  underVoltage : BitVec 4 := 0
  overVoltage : BitVec 4 := 0
  groupLatch : BitVec 4 := 0
  thermalLatch : BitVec 4 := 0
  channelLatch : BitVec 4 := 0
  channelCause : BitVec 4 := 0
  mismatch : BitVec 4 := 0
  openLoad : BitVec 4 := 0
  /-- The outputs whose latch or monitor has cleared, which return at the next tick (R393, R407). -/
  returning : Half := 0
  /-- R401: the failstate is in force, with the levels it took. -/
  failed : Bool := false
  failSet : Half := 0
  failEnable : Half := 0
  /-- The frame at which FIO.LOCK_ON last became 1 (R408), by half-bridge. -/
  lockSince : List (Nat × Long) := []
  deriving DecidableEq, Repr

/-- A frame in a receive queue, with the host index of the filter that stored it and its validity time (R414). -/
structure CanEntry where
  frame : CanFrame
  host : Fin 8
  time : Nat
  deriving DecidableEq, Repr

/-- A packet in progress at the reassembler (R417). -/
structure CanPacket where
  host : Fin 8
  length : Nat
  bytes : List Byte
  index : Nat
  frames : Nat := 0
  deriving DecidableEq, Repr

/-- A packet in a transmit buffer: the segments not yet sent, cut for CAN FD or classical frames. -/
structure CanTx where
  host : Fin 8
  fd : Bool := true
  ident : Word
  segments : List (List Byte)
  events : List Word := []
  deriving DecidableEq, Repr

/-- The states of Table 17.11. -/
inductive CanState where
  | active | passive | busOff | disabled
  deriving DecidableEq, Repr

structure Can where
  state : CanState := .disabled
  recovering : Bool := false
  queue0 : List CanEntry := []
  queue1 : List CanEntry := []
  assembling : List CanPacket := []
  tx : Vector (Option CanTx) 2 := Vector.replicate 2 none
  status : Option (List Byte) := none
  statusAge : Nat := 0
  /-- The last frame sent: identifier as CANc.STATUS_ID codes it, and its data; whether it went out as CAN FD and with the bit
  rate switched (Table 17.10). -/
  sent : Option (Word × List Byte) := none
  sentFd : Bool := false
  sentBrs : Bool := false
  deriving DecidableEq, Repr

/-! ### Quarry -/

/-- The states of Table 18.6. -/
inductive QuarryState where
  | idle | armed | post | stopped | full
  deriving DecidableEq, Repr

/-- An accepted setup with the sizes it gives (R424 to R426). -/
structure QuarrySetup where
  block : QuarryBlock
  segmentSize : Nat
  rowSize : Nat
  rows : Nat
  deriving DecidableEq, Repr

/-- A trigger: its frame, offset, source (Table 18.3) and item. -/
structure Trigger where
  frame : Long
  offset : Nat
  source : Nat
  item : Nat
  deriving DecidableEq, Repr

/-- What a channel has gathered in the present row (R428). -/
structure Gather where
  last : Int := 0
  sum : Int := 0
  peak : Int := 0
  n : Nat := 0
  lastValid : Bool := false
  deriving DecidableEq, Repr

/-- A record: HELD, or the one in progress. -/
structure Record where
  sequence : Word
  segment : Nat
  segmentSize : Nat
  armed : Long
  trigger : Option Trigger := none
  deriving DecidableEq, Repr

structure Quarry where
  state : QuarryState := .idle
  setup : Option QuarrySetup := none
  autoRearm : Bool := false
  fillPre : Bool := false
  /-- HELD records, oldest first, and the record in progress. -/
  held : List Record := []
  current : Option Record := none
  lastSegment : Option Nat := none
  sequence : Word := 1
  rowsWritten : Nat := 0
  /-- The row that holds the trigger, and the tick of acceptance (R432, R433). -/
  triggerRow : Nat := 0
  acceptedAt : Long := 0
  gathers : List Gather := []
  /-- R430: the level was crossed back (RISE, FALL) or the source has fired (ABOVE, BELOW). -/
  crossed : Bool := false
  /-- The triggers of the last frame that await acceptance (R432), and a forced one of this frame (R431). -/
  candidates : List Trigger := []
  forced : Option Trigger := none
  /-- The ring-out trigger published in this frame (R435). -/
  published : Option (Nat × Nat) := none
  deriving DecidableEq, Repr

/-! ### Debug port -/

/-- The debug port (R492 to R494): the instruction selected, what its data register shifts out, the token under
check, and the halted cores: core c of lane l has the number 2l + c (R21). -/
structure Debug where
  selected : Nat := 1
  dr : List Byte := []
  token : Option (List Byte) := none
  scope : Nat := 0
  failures : Nat := 0
  nonces : Nat := 0
  halted : Vector Bool 4 := Vector.replicate 4 false
  /-- What the port has written into the 4 MiB SRAM of each lane since a core of it last ran (R21), by address, and into the
  registers of each core, by number. -/
  sram : Vector (List (Nat × Byte)) 2 := Vector.replicate 2 []
  coreRegs : Vector (List (Nat × Nat)) 4 := Vector.replicate 4 []
  deriving DecidableEq, Repr

/-! ### The whole device -/

/-- The device. -/
structure State where
  frame64 : Long := 0
  tb : Timebase := {}
  regs : List (Nat × Int) := []
  /-- R72: SVC writes that wait for the end of Service, in order; and FRM writes made in Dormant. -/
  svcPending : List (Nat × Int) := []
  frmPending : List (Nat × Int) := []
  /-- R72: sessions whose SVC writes complete on leaving Service: slot, SEQ, opcode. -/
  svcWaiting : List (Option (Fin 8) × Half × Byte) := []
  /-- The same for FRM writes made in Dormant, which complete at the first tick after wake (R446). -/
  frmWaiting : List (Option (Fin 8) × Half × Byte) := []
  faults : List Active := []
  /-- R7: the counters whose first saturation or wrap has been logged, by key (`regs`). -/
  saturated : List Nat := []
  log : EventLog := {}
  cmd : Commands := {}
  mtr : Mortar := {}
  pwm : Pwm := {}
  motion : Motion := {}
  saf : Safety := {}
  lanes : Lanes := {}
  power : Power := {}
  cfg : Config := {}
  hp : HostPort := {}
  ring : Ring := {}
  fio : FieldIo := {}
  can : Vector Can 2 := Vector.replicate 2 {}
  qry : Quarry := {}
  dbg : Debug := {}
  /-- DRAM and NOR flash by address (Tables 1.4 and 1.5), canonical sparse lists of bytes. -/
  dram : List Host.Cell := []
  flash : List Host.Cell := []
  /-- The 64-bit words of each found uncorrectable and not rewritten since, by address / 8 (R25). -/
  badDram : List Nat := []
  badFlash : List Nat := []
  /-- The corrected- and uncorrectable-error counters of the lane SRAMs A and B, DRAM and flash (R25). -/
  corrected : Vector Nat 4 := Vector.replicate 4 0
  uncorrectable : Vector Nat 4 := Vector.replicate 4 0
  /-- The number of free values drawn so far (the model's own field). -/
  free : Nat := 0
  /-- The commands that wait, first in, first out (the model's own field). -/
  pending : List Instr := []
  deriving DecidableEq, Repr

/-- The device right after reset: every field at the value the manual gives, or the value notes/assumptions names. -/
def State.reset : State := {}

end Sys2Proof.Machine
end

