-- ==== Sys2Proof/Machine/Arith.lean ====
section
/-! DEFINITION. Integer arithmetic, byte order, CRC-32C and sparse lists: the helpers every block uses (R2, R55,
R158, R166). -/

namespace Sys2Proof.Machine

/-! ### Integers -/

/-- Division rounded half away from zero (R158, R166). -/
def rdiv (a b : Int) : Int :=
  let q : Int := ((2 * a.natAbs + b.natAbs) / (2 * b.natAbs) : Nat)
  if (0 ≤ a) = (0 ≤ b) then q else -q

/-- The integer root, rounded down, found bit by bit from bit `k`. -/
def isqrtFrom (n : Nat) : Nat → Nat → Nat
  | 0, r => if (r + 1) * (r + 1) ≤ n then r + 1 else r
  | k + 1, r =>
    let t := r + 2 ^ (k + 1)
    isqrtFrom n k (if t * t ≤ n then t else r)

/-- The integer root of R166. -/
def isqrt (n : Nat) : Nat := isqrtFrom n 63 0

/-- The integer root of an integer; 0 for a negative one. -/
def isqrtI (n : Int) : Int := isqrt n.toNat

def clampI (lo hi x : Int) : Int := if x < lo then lo else if hi < x then hi else x

/-- Saturation at the limits of an i32, an i64 and an i16 (R166). -/
def sat32 (x : Int) : Int := clampI (-2147483648) 2147483647 x
def sat64 (x : Int) : Int := clampI (-9223372036854775808) 9223372036854775807 x
def sat16 (x : Int) : Int := clampI (-32768) 32767 x

/-- The representative of `x` modulo 2^bits over a half range (R6, R222). -/
def wrapSigned (bits : Nat) (x : Int) : Int := x.bmod (2 ^ bits : Nat)

def signI (x : Int) : Int := if 0 < x then 1 else if x < 0 then -1 else 0

/-- The 64-bit value nearest `near` whose low 32 bits equal those of `x` (R222). -/
def resolve32 (near x : Int) : Int := near + wrapSigned 32 (x - near)

/-- `later a b`: frame a is later than frame b (R6). -/
def later (a b : Word) : Bool := let d := (a - b).toNat; 1 ≤ d && d < 2147483648

/-- Sum of a list of integers. -/
def sumI (l : List Int) : Int := l.foldl (· + ·) 0

/-! ### Bytes -/

/-- The `n` low bytes of a number, least significant first (R2). -/
def leBytes : Nat → Nat → List Byte
  | 0, _ => []
  | n + 1, v => BitVec.ofNat 8 v :: leBytes n (v / 256)

/-- The number that little-endian bytes carry (R2). -/
def ofLe : List Byte → Nat
  | [] => 0
  | b :: bs => b.toNat + 256 * ofLe bs

/-- The bytes of an integer in two's complement. -/
def leBytesI (n : Nat) (v : Int) : List Byte := leBytes n (v % (2 ^ (8 * n) : Nat)).toNat

/-- `n` bytes from offset `k`; bytes past the end read 0. -/
def slice (k n : Nat) (bs : List Byte) : List Byte :=
  let t := (bs.drop k).take n
  t ++ List.replicate (n - t.length) 0

/-- The little-endian field of `n` bytes at offset `k`. -/
def field (k n : Nat) (bs : List Byte) : Nat := ofLe (slice k n bs)

/-- A field of `bits` bits of a number from bit `lo`. -/
def bitsOf (lo bits v : Nat) : Nat := v / 2 ^ lo % 2 ^ bits

def boolBit (b : Bool) (k : Nat) : Nat := if b then 2 ^ k else 0

def boolNat (b : Bool) : Nat := if b then 1 else 0

/-! ### CRC-32C (R55) -/

/-- One bit of the reflected Castagnoli polynomial 0x82F63B78. -/
def crcBit (c : Word) : Word :=
  if c &&& 1 = 1 then (c >>> 1) ^^^ 0x82F63B78 else c >>> 1

def crcBits : Nat → Word → Word
  | 0, c => c
  | n + 1, c => crcBits n (crcBit c)

def crcByte (c : Word) (b : Byte) : Word := crcBits 8 (c ^^^ b.setWidth 32)

/-- The CRC-32C of a list of bytes (R55). -/
def crc32c (bs : List Byte) : Word := bs.foldl crcByte 0xFFFFFFFF ^^^ 0xFFFFFFFF

/-! ### CRC-16 (R368) -/

def crc16Bits : Nat → Half → Half
  | 0, c => c
  | n + 1, c => crc16Bits n (if c.getLsbD 15 then (c <<< 1) ^^^ 0x1021 else c <<< 1)

def crc16 (bs : List Byte) : Half :=
  bs.foldl (fun (c : Half) (b : Byte) => crc16Bits 8 (c ^^^ ((b.setWidth 16 : Half) <<< (8 : Nat)))) 0xFFFF

/-- The CRC of a tick block or slot, most significant byte first. -/
def crc16Bytes (bs : List Byte) : List Byte :=
  let c := crc16 bs
  [(c >>> 8).setWidth 8, c.setWidth 8]

/-! ### Sparse lists

A sparse list gives a value to each key it lists and the default to every other; its canonical form has strictly
rising keys and no entry equal to the default. -/

/-- The value at key `k`. -/
def Sparse.read {α : Type} (dflt : Nat → α) : List (Nat × α) → Nat → α
  | [], k => dflt k
  | (j, v) :: rest, k => if j = k then v else Sparse.read dflt rest k

/-- Insert a value at a key, keeping the keys rising. -/
def Sparse.insert {α : Type} (k : Nat) (v : α) : List (Nat × α) → List (Nat × α)
  | [] => [(k, v)]
  | (j, w) :: rest =>
    if k < j then (k, v) :: (j, w) :: rest
    else if k = j then (k, v) :: rest
    else (j, w) :: Sparse.insert k v rest

/-- Remove a key. -/
def Sparse.erase {α : Type} (k : Nat) : List (Nat × α) → List (Nat × α)
  | [] => []
  | (j, w) :: rest => if j = k then rest else (j, w) :: Sparse.erase k rest

/-- Write a value; writing the default removes the entry. -/
def Sparse.write {α : Type} [DecidableEq α] (dflt : Nat → α) (m : List (Nat × α)) (k : Nat) (v : α) :
    List (Nat × α) :=
  if v = dflt k then Sparse.erase k m else Sparse.insert k v m

/-- Every key of the list is above `lo`, the keys rise, and no entry equals the default. -/
def Sparse.okFrom {α : Type} [DecidableEq α] (dflt : Nat → α) : Option Nat → List (Nat × α) → Bool
  | _, [] => true
  | lo, (j, v) :: rest =>
    (match lo with | none => true | some l => decide (l < j)) && decide (v ≠ dflt j) && Sparse.okFrom dflt (some j) rest

/-- The canonical form. -/
def Sparse.wf {α : Type} [DecidableEq α] (dflt : Nat → α) (m : List (Nat × α)) : Bool := Sparse.okFrom dflt none m

/-! ### Memory -/

/-- What an unlisted DRAM byte reads as (notes/assumptions/5). -/
def dramDefault : Nat → Byte := fun _ => 0
/-- What an unlisted flash byte reads as: the factory record of R161, written at test, and erased elsewhere
(notes/assumptions/6). -/
def flashDefault : Nat → Byte := fun a => if 0xFFF000 ≤ a ∧ a < 0x1000000 then Config.factoryRecord (a - 0xFFF000) else 0xFF

abbrev Memory := List Host.Cell

/-- The bytes of a memory from an address. -/
def Memory.readBytes (dflt : Nat → Byte) (m : Memory) (a : Nat) : Nat → List Byte
  | 0 => []
  | n + 1 => Sparse.read dflt m a :: Memory.readBytes dflt m (a + 1) n

/-- Store bytes from an address. -/
def Memory.writeBytes (dflt : Nat → Byte) (m : Memory) (a : Nat) : List Byte → Memory
  | [] => m
  | b :: bs => Memory.writeBytes dflt (Sparse.write dflt m a b) (a + 1) bs

/-- The canonical form of a memory. -/
def Memory.wf (dflt : Nat → Byte) (m : Memory) : Bool := Sparse.wf dflt m

/-! ### Vectors -/

/-- Change one element. -/
def upd {α : Type} {n : Nat} (v : Vector α n) (i : Fin n) (f : α → α) : Vector α n := v.set i (f v[i])

end Sys2Proof.Machine
end

