-- ==== Sys2Proof/Machine/ParamTable.lean ====
section
/-! DEFINITION. The parameter tables of every chapter as data (R4, R5, R8, R13): name, index, class, type, range,
default, commit class and access of each parameter, and the look-up of one by index. -/

namespace Sys2Proof.Machine

/-- The class of a parameter's sub-index (R4): `upTo n` takes 0 to n − 1; `doLatch` takes the latches of R407. -/
inductive SubClass where
  | device | axis | bay | halfBridge | stepper | upTo (n : Nat) | doLatch
  deriving DecidableEq, Repr

/-- The types of Table 3.3. -/
inductive PType where
  | u8 | u16 | u32 | u64 | i16 | i32 | i64 | q16 | bool | enum
  deriving DecidableEq, Repr

/-- The commit classes of Table 0.3. -/
inductive Commit where
  | imm | frm | svc | saf
  deriving DecidableEq, Repr

/-- Read-write, read-only, or a status word with its W1C bits (R504). -/
inductive Access where
  | rw | ro | status (w1c : Nat)
  deriving DecidableEq, Repr

/-- One row of a parameter table. `extra` is a value allowed beside the range; `step` is the multiple required. -/
structure ParamRow where
  index : Nat
  name : String
  cls : SubClass
  type : PType
  lo : Int
  hi : Int
  extra : Option Int
  step : Nat
  dflt : Int
  commit : Commit
  access : Access
  deriving DecidableEq, Repr

/-- Block 0x00, Table 19.x of modes and 21.x of identity. -/
def ParamTable.block00 : List ParamRow := [
  ⟨0x0000, "MODE.BOOT_TARGET", .device, .enum, 2, 3, none, 1, 2, .svc, .rw⟩,
  ⟨0x0010, "MODE.RESET_CAUSE", .device, .enum, 0, 5, none, 1, 0, .imm, .ro⟩,
  ⟨0x0011, "MODE.BOOT_TIME", .device, .u32, 0, 4294967295, none, 1, 0, .imm, .ro⟩,
  ⟨0x0020, "ID.DEBUG_STATE", .device, .enum, 0, 3, none, 1, 0, .imm, .ro⟩]

/-- Block 0x01, Table 2.3. -/
def ParamTable.block01 : List ParamRow := [
  ⟨0x0100, "TB.SLEW_MAX", .device, .u8, 1, 2, none, 1, 2, .svc, .rw⟩,
  ⟨0x0101, "TB.LOCK_WINDOW", .device, .u8, 1, 2, none, 1, 2, .svc, .rw⟩,
  ⟨0x0102, "TB.PHASE_ALARM", .device, .u16, 25, 1000, none, 1, 100, .frm, .rw⟩,
  ⟨0x0103, "TB.HOLDOVER_AVG", .device, .u16, 16, 1024, none, 1, 256, .svc, .rw⟩,
  ⟨0x0110, "TB.STATUS", .device, .u32, 0, 4294967295, none, 1, 0, .imm, (.status 0x38)⟩,
  ⟨0x0111, "TB.FRAME64", .device, .u64, 0, 18446744073709551615, none, 1, 0, .imm, .ro⟩,
  ⟨0x0112, "TB.PHASE_ERR", .device, .i16, (-32768), 32767, none, 1, 0, .imm, .ro⟩,
  ⟨0x0113, "TB.SLACK_MIN", .device, .u16, 0, 8000, none, 1, 8000, .imm, .ro⟩,
  ⟨0x0114, "TB.OVERRUN_COUNT", .device, .u16, 0, 65535, none, 1, 0, .imm, .ro⟩]

/-- Block 0x02, Tables 3.8 and 4.11a. -/
def ParamTable.block02 : List ParamRow := [
  ⟨0x0200, "CMD.HOST_LOSS_REACTION", .device, .enum, 0, 2, none, 1, 2, .svc, .rw⟩,
  ⟨0x0201, "CMD.TAKEOVER", .device, .enum, 0, 2, none, 1, 1, .svc, .rw⟩,
  ⟨0x0210, "CMD.STATUS", .device, .u32, 0, 4294967295, none, 1, 0, .imm, (.status 0x1F)⟩,
  ⟨0x0211, "CMD.CRC_ERRORS", .device, .u32, 0, 4294967295, none, 1, 0, .imm, .ro⟩,
  ⟨0x0212, "CMD.SEQ_STALE_COUNT", .device, .u32, 0, 4294967295, none, 1, 0, .imm, .ro⟩,
  ⟨0x0213, "CMD.DUPLICATE_COUNT", .device, .u32, 0, 4294967295, none, 1, 0, .imm, .ro⟩,
  ⟨0x0214, "CMD.PUSH_LOST", .device, .u32, 0, 4294967295, none, 1, 0, .imm, .ro⟩,
  ⟨0x0220, "MTR.RING_K", .device, .u8, 4, 32, none, 1, 8, .svc, .rw⟩,
  ⟨0x0221, "MTR.TXN_TIMEOUT", .device, .u16, 20, 65535, none, 1, 2000, .frm, .rw⟩,
  ⟨0x0222, "MTR.COMMIT_HORIZON", .device, .u32, 32, 1200000, none, 1, 200000, .frm, .rw⟩,
  ⟨0x0223, "MTR.RECORD_HOLD", .device, .u16, 200, 65535, none, 1, 20000, .frm, .rw⟩,
  ⟨0x0230, "MTR.STATUS", .device, .u32, 0, 4294967295, none, 1, 0, .imm, (.status 0x1E)⟩,
  ⟨0x0231, "MTR.COMMIT_COUNT", .device, .u32, 0, 4294967295, none, 1, 0, .imm, .ro⟩,
  ⟨0x0232, "MTR.ABORT_COUNT", .device, .u32, 0, 4294967295, none, 1, 0, .imm, .ro⟩,
  ⟨0x0233, "MTR.HOLD_COUNT", .device, .u16, 0, 65535, none, 1, 0, .imm, .ro⟩,
  ⟨0x0234, "MTR.DROP_COUNT", .device, .u32, 0, 4294967295, none, 1, 0, .imm, .ro⟩]

/-- Block 0x03, Table 5.7. -/
def ParamTable.block03 : List ParamRow := [
  ⟨0x0300, "PWM.CARRIER", .bay, .enum, 0, 1, none, 1, 0, .frm, .rw⟩,
  ⟨0x0301, "PWM.DEADTIME", .bay, .u16, 0, 2555, none, 5, 500, .svc, .rw⟩,
  ⟨0x0302, "PWM.MIN_PULSE", .bay, .u16, 0, 1000, none, 5, 100, .svc, .rw⟩,
  ⟨0x0303, "PWM.BOOT_DMAX", .bay, .u16, 5000, 10000, none, 1, 9700, .svc, .rw⟩,
  ⟨0x0304, "PWM.BOOT_TREF", .bay, .u16, 200, 2000, none, 5, 400, .svc, .rw⟩,
  ⟨0x0305, "PWM.BOOT_N", .bay, .u8, 1, 64, none, 1, 8, .svc, .rw⟩,
  ⟨0x0306, "PWM.HALT_ACTION", .device, .enum, 0, 1, none, 1, 0, .svc, .rw⟩,
  ⟨0x0307, "PWM.GATE_OVERRIDE", .halfBridge, .u8, 0, 7, none, 1, 0, .imm, .rw⟩,
  ⟨0x0310, "PWM.BAY_STATUS", .bay, .u32, 0, 4294967295, none, 1, 0, .imm, (.status 0x3C0)⟩,
  ⟨0x0311, "PWM.CLEAR_ATTEMPTS", .halfBridge, .u16, 0, 65535, none, 1, 0, .imm, .ro⟩]

/-- Block 0x04, Table 6.6. -/
def ParamTable.block04 : List ParamRow := [
  ⟨0x0400, "GD.OV1", .device, .u32, 20000, 175000, none, 500, 150000, .svc, .rw⟩,
  ⟨0x0401, "GD.OV2", .device, .u32, 25000, 180000, none, 500, 165000, .svc, .rw⟩,
  ⟨0x0402, "GD.BRK_HYST", .device, .u16, 500, 10000, none, 1, 2000, .svc, .rw⟩,
  ⟨0x0403, "GD.BRK_SNS_MIN", .device, .u16, 5, 200, none, 1, 20, .svc, .rw⟩,
  ⟨0x0404, "GD.BRK_ONMAX", .device, .u16, 20, 60000, none, 1, 2000, .svc, .rw⟩,
  ⟨0x0405, "GD.VBUS_UV", .device, .u32, 12000, 150000, none, 1, 15000, .svc, .rw⟩,
  ⟨0x0406, "GD.BUS_SHARED", .device, .bool, 0, 1, none, 1, 1, .svc, .rw⟩,
  ⟨0x0407, "GD.SC_FILTER", .bay, .u8, 0, 150, none, 10, 100, .svc, .rw⟩,
  ⟨0x0408, "GD.SC_RETRY_WAIT", .bay, .u8, 1, 255, none, 1, 100, .svc, .rw⟩,
  ⟨0x0409, "GD.SC_RETRY_MAX", .bay, .u8, 0, 15, none, 1, 0, .svc, .rw⟩,
  ⟨0x040A, "GD.BOOT_RETRY_WAIT", .bay, .u8, 1, 255, none, 1, 10, .svc, .rw⟩,
  ⟨0x040B, "GD.BOOT_RETRY_MAX", .bay, .u8, 0, 15, none, 1, 3, .svc, .rw⟩,
  ⟨0x0410, "GD.VBUS", .bay, .u32, 0, 220000, none, 1, 0, .imm, .ro⟩,
  ⟨0x0411, "GD.SC_TRIPS", .bay, .u16, 0, 65535, none, 1, 0, .imm, .ro⟩,
  ⟨0x0412, "GD.DIE_TEMP", .bay, .i16, (-400), 1750, none, 1, 0, .imm, .ro⟩,
  ⟨0x0413, "GD.STATUS", .device, .u32, 0, 4294967295, none, 1, 0, .imm, (.status 0xE0)⟩]

/-- Block 0x05, Table 7.5. -/
def ParamTable.block05 : List ParamRow := [
  ⟨0x0500, "SNS.GAIN", .bay, .enum, 0, 3, none, 1, 1, .svc, .rw⟩,
  ⟨0x0501, "SNS.SHUNT", .bay, .u32, 100, 100000, none, 1, 5000, .svc, .rw⟩,
  ⟨0x0502, "SNS.GAIN_TRIM", .bay, .q16, 58982, 72090, none, 1, 65536, .svc, .rw⟩,
  ⟨0x0503, "SNS.SC_THRESHOLD", .bay, .u16, 10, 640, none, 10, 400, .svc, .rw⟩,
  ⟨0x0504, "SNS.CHOP_FILTER", .bay, .u16, 0, 300, none, 10, 50, .svc, .rw⟩,
  ⟨0x0505, "SNS.OFFSET_MAX", .bay, .u8, 8, 255, none, 1, 64, .svc, .rw⟩,
  ⟨0x0506, "SNS.RANGE_FRAMES", .bay, .u8, 1, 64, none, 1, 8, .svc, .rw⟩,
  ⟨0x0507, "SNS.MISS_MAX", .bay, .u8, 1, 64, none, 1, 4, .svc, .rw⟩,
  ⟨0x0508, "SNS.PEAK_CODE", .bay, .u8, 1, 255, none, 1, 230, .svc, .rw⟩,
  ⟨0x0509, "SNS.PEAK_FRAMES", .bay, .u8, 0, 64, none, 1, 4, .svc, .rw⟩,
  ⟨0x0510, "SNS.OFFSET", .bay, .i16, (-255), 255, none, 1, 0, .imm, .ro⟩,
  ⟨0x0511, "SNS.STATUS", .bay, .u32, 0, 4294967295, none, 1, 0, .imm, (.status 0x78)⟩,
  ⟨0x0512, "SNS.SAT_COUNT", .bay, .u16, 0, 65535, none, 1, 0, .imm, .ro⟩,
  ⟨0x0513, "SNS.PHASE_V", .halfBridge, .u32, 0, 220000, none, 1, 0, .imm, .ro⟩]

/-- Block 0x06, Table 8.8, part 1. -/
def ParamTable.block06a : List ParamRow := [
  ⟨0x0600, "COM.FEEDBACK", .axis, .enum, 0, 2, none, 1, 0, .svc, .rw⟩,
  ⟨0x0601, "COM.POLE_PAIRS", .axis, .u8, 1, 32, none, 1, 4, .svc, .rw⟩,
  ⟨0x0602, "COM.RS", .axis, .u32, 10000, 50000000, none, 1, 500000, .svc, .rw⟩,
  ⟨0x0603, "COM.LD", .axis, .u32, 10000, 100000000, none, 1, 1000000, .svc, .rw⟩,
  ⟨0x0604, "COM.LQ", .axis, .u32, 10000, 100000000, none, 1, 1200000, .svc, .rw⟩,
  ⟨0x0605, "COM.PSI", .axis, .u32, 100, 1000000, none, 1, 20000, .svc, .rw⟩,
  ⟨0x0606, "COM.SPEED_RATED", .axis, .u16, 10, 20000, none, 1, 2000, .svc, .rw⟩,
  ⟨0x0607, "COM.I_MAX", .axis, .u32, 100, 48000, none, 1, 10000, .svc, .rw⟩,
  ⟨0x0608, "COM.ID_REF", .axis, .i32, (-48000), 0, none, 1, 0, .frm, .rw⟩,
  ⟨0x0610, "COM.CUR_BW", .axis, .u16, 100, 2000, none, 1, 800, .svc, .rw⟩,
  ⟨0x0611, "COM.VMOD_MAX", .axis, .u16, 5000, 10000, none, 1, 9500, .frm, .rw⟩,
  ⟨0x0612, "COM.DTC_BAND", .axis, .u32, 0, 5000, none, 1, 200, .svc, .rw⟩,
  ⟨0x0620, "COM.INJ_AMPL", .axis, .u32, 500, 20000, none, 1, 5000, .svc, .rw⟩,
  ⟨0x0621, "COM.INJ_PLL_BW", .axis, .u16, 5, 500, none, 1, 50, .svc, .rw⟩,
  ⟨0x0622, "COM.HANDOVER", .axis, .u16, 100, 2000, none, 1, 300, .svc, .rw⟩,
  ⟨0x0623, "COM.HANDOVER_HYST", .axis, .u16, 50, 500, none, 1, 100, .svc, .rw⟩,
  ⟨0x0624, "COM.INJ_RAMP", .axis, .u8, 1, 64, none, 1, 16, .svc, .rw⟩,
  ⟨0x0625, "COM.POL_VOLT", .axis, .u32, 1000, 60000, none, 1, 12000, .svc, .rw⟩,
  ⟨0x0626, "COM.POL_MARGIN", .axis, .u16, 10, 500, none, 1, 50, .svc, .rw⟩,
  ⟨0x0627, "COM.ALIGN", .axis, .enum, 0, 1, none, 1, 0, .svc, .rw⟩,
  ⟨0x0630, "COM.OBS_BW", .axis, .u16, 10, 2000, none, 1, 300, .svc, .rw⟩,
  ⟨0x0631, "COM.OBS_PLL_BW", .axis, .u16, 5, 1000, none, 1, 100, .svc, .rw⟩,
  ⟨0x0640, "COM.HALL_OFFSET", .axis, .u16, 0, 65535, none, 1, 0, .svc, .rw⟩,
  ⟨0x0641, "COM.HALL_DIR", .axis, .bool, 0, 1, none, 1, 0, .svc, .rw⟩]

/-- Block 0x06, Table 8.8, part 2. -/
def ParamTable.block06b : List ParamRow := [
  ⟨0x0642, "COM.ENC_LINES", .axis, .u32, 16, 65536, none, 1, 1024, .svc, .rw⟩,
  ⟨0x0643, "COM.ENC_Z_TOL", .axis, .u16, 1, 1000, none, 1, 8, .svc, .rw⟩,
  ⟨0x0644, "COM.FB_FILTER", .axis, .u8, 0, 80, none, 5, 20, .svc, .rw⟩,
  ⟨0x0650, "COM.CS_DIODE_I", .axis, .u32, 50, 5000, none, 1, 200, .svc, .rw⟩,
  ⟨0x0651, "COM.CS_ACQ", .axis, .u8, 2, 16, none, 1, 4, .svc, .rw⟩,
  ⟨0x0652, "COM.CS_BRAKE_T", .axis, .u16, 200, 20000, none, 1, 2000, .svc, .rw⟩,
  ⟨0x0653, "COM.CS_BRAKE_MAX", .axis, .u8, 1, 15, none, 1, 5, .svc, .rw⟩,
  ⟨0x0660, "COM.LOS_FLUX", .axis, .u16, 100, 900, none, 1, 300, .svc, .rw⟩,
  ⟨0x0661, "COM.LOS_ANGLE", .axis, .u16, 1820, 16384, none, 1, 5461, .svc, .rw⟩,
  ⟨0x0662, "COM.LOS_FRAMES", .axis, .u8, 2, 32, none, 1, 8, .svc, .rw⟩,
  ⟨0x0663, "COM.LOS_RETRY_MAX", .axis, .u8, 0, 15, none, 1, 2, .svc, .rw⟩,
  ⟨0x0664, "COM.PLAUS_LEVEL", .axis, .u16, 50, 250, none, 1, 125, .svc, .rw⟩,
  ⟨0x0665, "COM.PLAUS_FRAMES", .axis, .u8, 1, 3, none, 1, 3, .svc, .rw⟩,
  ⟨0x0666, "COM.OVERSPEED", .axis, .u16, 1000, 3000, none, 1, 1500, .svc, .rw⟩,
  ⟨0x0670, "COM.ID_MAX_TURNS", .axis, .u8, 1, 64, none, 1, 8, .svc, .rw⟩]

/-- Block 0x06, Table 8.8. -/
def ParamTable.block06 : List ParamRow := ParamTable.block06a ++ ParamTable.block06b

/-- Block 0x07, Table 8.8. -/
def ParamTable.block07 : List ParamRow := [
  ⟨0x0700, "COM.STATUS", .axis, .u32, 0, 4294967295, none, 1, 0, .imm, (.status 0x700)⟩,
  ⟨0x0701, "COM.SPEED_E", .axis, .i32, (-2147483648), 2147483647, none, 1, 0, .imm, .ro⟩,
  ⟨0x0702, "COM.PDC", .axis, .i32, (-2147483648), 2147483647, none, 1, 0, .imm, .ro⟩,
  ⟨0x0703, "COM.FLUX_EST", .axis, .u32, 0, 4294967295, none, 1, 0, .imm, .ro⟩,
  ⟨0x0704, "COM.LOS_COUNT", .axis, .u16, 0, 65535, none, 1, 0, .imm, .ro⟩,
  ⟨0x0710, "COM.ID_RS", .axis, .u32, 0, 4294967295, none, 1, 0, .imm, .ro⟩,
  ⟨0x0711, "COM.ID_LD", .axis, .u32, 0, 4294967295, none, 1, 0, .imm, .ro⟩,
  ⟨0x0712, "COM.ID_LQ", .axis, .u32, 0, 4294967295, none, 1, 0, .imm, .ro⟩,
  ⟨0x0713, "COM.ID_PSI", .axis, .u32, 0, 4294967295, none, 1, 0, .imm, .ro⟩,
  ⟨0x0714, "COM.ID_HALL_OFFSET", .axis, .u16, 0, 65535, none, 1, 0, .imm, .ro⟩,
  ⟨0x0715, "COM.ID_DIR", .axis, .bool, 0, 1, none, 1, 0, .imm, .ro⟩]

/-- Block 0x08, Table 9.6, part 1. -/
def ParamTable.block08a : List ParamRow := [
  ⟨0x0800, "STP.PAIR_MASK", .device, .u8, 0, 255, none, 1, 0, .svc, .rw⟩,
  ⟨0x0801, "STP.MICROSTEP", .stepper, .enum, 0, 8, none, 1, 8, .frm, .rw⟩,
  ⟨0x0802, "STP.I_RUN", .stepper, .u32, 50, 48000, none, 1, 1000, .frm, .rw⟩,
  ⟨0x0803, "STP.I_HOLD", .stepper, .u32, 0, 48000, none, 1, 500, .frm, .rw⟩,
  ⟨0x0804, "STP.HOLD_DELAY", .stepper, .u16, 0, 65535, none, 1, 4000, .frm, .rw⟩,
  ⟨0x0805, "STP.TOFF", .stepper, .u8, 5, 200, none, 1, 50, .svc, .rw⟩,
  ⟨0x0806, "STP.BLANK", .stepper, .u8, 2, 20, none, 1, 10, .svc, .rw⟩,
  ⟨0x0807, "STP.FAST_RISE", .stepper, .u8, 0, 15, none, 1, 2, .frm, .rw⟩,
  ⟨0x0808, "STP.FAST_FALL", .stepper, .u8, 0, 15, none, 1, 8, .frm, .rw⟩,
  ⟨0x0809, "STP.K_MIN", .stepper, .u8, 0, 32, none, 1, 4, .svc, .rw⟩,
  ⟨0x080A, "STP.H3", .stepper, .q16, (-13107), 13107, none, 1, 0, .svc, .rw⟩,
  ⟨0x080B, "STP.B_GAIN", .stepper, .q16, 58982, 72090, none, 1, 65536, .svc, .rw⟩,
  ⟨0x080C, "STP.COIL_R", .stepper, .u32, 10000, 50000000, none, 1, 2000000, .svc, .rw⟩,
  ⟨0x080D, "STP.COIL_L", .stepper, .u32, 10000, 100000000, none, 1, 4000000, .svc, .rw⟩,
  ⟨0x080E, "STP.KE", .stepper, .u32, 1, 1000000, none, 1, 4000, .svc, .rw⟩,
  ⟨0x080F, "STP.STALL_VMIN", .stepper, .u32, 2560, 2560000, none, 1, 51200, .svc, .rw⟩,
  ⟨0x0810, "STP.STALL_LEVEL", .stepper, .u16, 50, 900, none, 1, 300, .svc, .rw⟩,
  ⟨0x0811, "STP.STALL_FRAMES", .stepper, .u8, 2, 64, none, 1, 16, .svc, .rw⟩,
  ⟨0x0812, "STP.STALL_REACTION", .stepper, .enum, 0, 2, none, 1, 1, .svc, .rw⟩,
  ⟨0x0813, "STP.NOREG_FRAMES", .stepper, .u8, 2, 255, none, 1, 20, .svc, .rw⟩,
  ⟨0x0814, "STP.FOLLOW_LAG_MAX", .stepper, .u32, 256, 16777216, none, 1, 2560, .frm, .rw⟩,
  ⟨0x0815, "STP.CS_DIODE_I", .stepper, .u32, 50, 5000, none, 1, 200, .svc, .rw⟩,
  ⟨0x0816, "STP.CS_BRAKE_T", .stepper, .u16, 200, 20000, none, 1, 2000, .svc, .rw⟩,
  ⟨0x0817, "STP.CS_BRAKE_MAX", .stepper, .u8, 1, 15, none, 1, 5, .svc, .rw⟩]

/-- Block 0x08, Table 9.6, part 2. -/
def ParamTable.block08b : List ParamRow := [
  ⟨0x0820, "STP.STATUS", .stepper, .u32, 0, 4294967295, none, 1, 0, .imm, (.status 0xE0)⟩,
  ⟨0x0821, "STP.BEMF", .stepper, .u32, 0, 4294967295, none, 1, 0, .imm, .ro⟩,
  ⟨0x0822, "STP.LOAD", .stepper, .u16, 0, 65535, none, 1, 0, .imm, .ro⟩,
  ⟨0x0823, "STP.STALL_COUNT", .stepper, .u16, 0, 65535, none, 1, 0, .imm, .ro⟩]

/-- Block 0x08, Table 9.6. -/
def ParamTable.block08 : List ParamRow := ParamTable.block08a ++ ParamTable.block08b

/-- Block 0x09, Table 10.6, part 1. -/
def ParamTable.block09a : List ParamRow := [
  ⟨0x0900, "AX.SCALE", .axis, .u32, 100, 100000000, none, 1, 100000, .svc, .rw⟩,
  ⟨0x0901, "AX.OPEN_DIR", .axis, .enum, 0, 1, none, 1, 0, .svc, .rw⟩,
  ⟨0x0902, "AX.VMAX", .axis, .i32, 1, 20000000, none, 1, 50000, .frm, .rw⟩,
  ⟨0x0903, "AX.AMAX", .axis, .u32, 1, 2000000000, none, 1, 100000, .frm, .rw⟩,
  ⟨0x0904, "AX.DMAX", .axis, .u32, 1, 2000000000, none, 1, 100000, .frm, .rw⟩,
  ⟨0x0905, "AX.JMAX", .axis, .u32, 1, 4000000000, none, 1, 1000000, .frm, .rw⟩,
  ⟨0x0906, "AX.VMAX_HARD", .axis, .i32, 1, 20000000, none, 1, 100000, .svc, .rw⟩,
  ⟨0x0907, "AX.DMAX_HARD", .axis, .u32, 1, 2000000000, none, 1, 400000, .svc, .rw⟩,
  ⟨0x0908, "AX.JMAX_HARD", .axis, .u32, 1, 4000000000, none, 1, 10000000, .svc, .rw⟩,
  ⟨0x0909, "AX.POS_MIN", .axis, .i32, (-2147483648), 2147483647, none, 1, (-1000), .svc, .rw⟩,
  ⟨0x090A, "AX.POS_MAX", .axis, .i32, (-2147483648), 2147483647, none, 1, 61000, .svc, .rw⟩,
  ⟨0x090B, "AX.EOT_ENABLE", .axis, .bool, 0, 1, none, 1, 1, .svc, .rw⟩,
  ⟨0x090C, "AX.EOT_MARGIN", .axis, .u32, 0, 1000000, none, 1, 500, .svc, .rw⟩,
  ⟨0x090D, "AX.HOME_REQUIRED", .axis, .bool, 0, 1, none, 1, 1, .svc, .rw⟩,
  ⟨0x090E, "AX.VMAX_UNHOMED", .axis, .i32, 1, 20000000, none, 1, 5000, .svc, .rw⟩,
  ⟨0x0910, "AX.HOME_POS", .axis, .i32, (-2147483648), 2147483647, none, 1, 0, .svc, .rw⟩,
  ⟨0x0911, "AX.HOME_FORCE", .axis, .i16, 10, 10000, none, 1, 1000, .svc, .rw⟩,
  ⟨0x0912, "AX.HOME_VEL_STILL", .axis, .u32, 1, 100000, none, 1, 200, .svc, .rw⟩,
  ⟨0x0913, "AX.HOME_FRAMES", .axis, .u16, 20, 20000, none, 1, 2000, .svc, .rw⟩,
  ⟨0x0914, "AX.HOME_BACKOFF", .axis, .u32, 0, 1000000, none, 1, 200, .svc, .rw⟩,
  ⟨0x0915, "AX.HOME_TIMEOUT", .axis, .u32, 2000, 2000000, none, 1, 400000, .svc, .rw⟩,
  ⟨0x0916, "AX.HOME_INPUT", .axis, .u8, 0, 31, none, 1, 0, .svc, .rw⟩,
  ⟨0x0917, "AX.HOME_EDGE", .axis, .enum, 0, 1, none, 1, 0, .svc, .rw⟩,
  ⟨0x0918, "AX.INPOS_WINDOW", .axis, .u32, 1, 1000000, none, 1, 50, .frm, .rw⟩]

/-- Block 0x09, Table 10.6, part 2. -/
def ParamTable.block09b : List ParamRow := [
  ⟨0x0919, "AX.INPOS_FRAMES", .axis, .u16, 1, 20000, none, 1, 20, .frm, .rw⟩,
  ⟨0x091A, "AX.REV_DIST", .axis, .u32, 0, 2147483647, none, 1, 0, .frm, .rw⟩,
  ⟨0x091B, "AX.REV_VMAX", .axis, .i32, 1, 20000000, none, 1, 20000, .frm, .rw⟩,
  ⟨0x091C, "AX.GEAR_CATCH_V", .axis, .u32, 1, 20000000, none, 1, 10000, .frm, .rw⟩,
  ⟨0x091D, "AX.GEAR_LAG_MAX", .axis, .u32, 1, 1000000, none, 1, 2000, .frm, .rw⟩,
  ⟨0x0930, "AX.STATUS", .axis, .u32, 0, 4294967295, none, 1, 0, .imm, (.status 0xE00)⟩,
  ⟨0x0931, "AX.DEMAND_POS", .axis, .i64, (-9223372036854775808), 9223372036854775807, none, 1, 0, .imm, .ro⟩,
  ⟨0x0932, "AX.LATCH_POS", .axis, .i32, (-2147483648), 2147483647, none, 1, 0, .imm, .ro⟩,
  ⟨0x0933, "AX.LATCH_FRAME", .axis, .u32, 0, 4294967295, none, 1, 0, .imm, .ro⟩,
  ⟨0x0934, "AX.MOVE_COUNT", .axis, .u32, 0, 4294967295, none, 1, 0, .imm, .ro⟩,
  ⟨0x0935, "AX.DEFER_COUNT", .axis, .u16, 0, 65535, none, 1, 0, .imm, .ro⟩]

/-- Block 0x09, Table 10.6. -/
def ParamTable.block09 : List ParamRow := ParamTable.block09a ++ ParamTable.block09b

/-- Block 0x0A, Table 11.4, part 1. -/
def ParamTable.block0Aa : List ParamRow := [
  ⟨0x0A00, "LP.MASS", .axis, .u16, 100, 65535, none, 1, 4000, .svc, .rw⟩,
  ⟨0x0A01, "LP.KF", .axis, .u32, 1000, 10000000, none, 1, 50000, .svc, .rw⟩,
  ⟨0x0A02, "LP.KE_CLOSE", .axis, .u16, 100, 65535, none, 1, 5000, .frm, .rw⟩,
  ⟨0x0A03, "LP.KE_OPEN", .axis, .u16, 0, 65535, none, 1, 0, .frm, .rw⟩,
  ⟨0x0A04, "LP.NOSE_LEN", .axis, .u32, 0, 10000000, none, 1, 5000, .frm, .rw⟩,
  ⟨0x0A05, "LP.NOSE_VMAX", .axis, .i32, 1, 20000000, none, 1, 5000, .frm, .rw⟩,
  ⟨0x0A06, "LP.NOSE_DECEL", .axis, .u32, 1000, 2000000000, none, 1, 50000, .frm, .rw⟩,
  ⟨0x0A07, "LP.FORCE_CLOSE", .axis, .i16, 10, 6000, none, 1, 1500, .frm, .rw⟩,
  ⟨0x0A08, "LP.FORCE_OPEN", .axis, .i16, 0, 6000, none, 1, 0, .frm, .rw⟩,
  ⟨0x0A09, "LP.FRICTION", .axis, .i16, 0, 6000, none, 1, 300, .frm, .rw⟩,
  ⟨0x0A0A, "LP.SEL_HYST", .axis, .u16, 0, 5000, none, 1, 200, .frm, .rw⟩,
  ⟨0x0A0B, "LP.SEL_FRAMES", .axis, .u8, 1, 32, none, 1, 4, .frm, .rw⟩,
  ⟨0x0A0C, "LP.TRACK_MARGIN", .axis, .u16, 0, 5000, none, 1, 200, .frm, .rw⟩,
  ⟨0x0A0D, "LP.BANK", .axis, .enum, 0, 1, none, 1, 0, .frm, .rw⟩,
  ⟨0x0A0E, "LP.GAIN_RAMP", .axis, .u8, 0, 255, none, 1, 40, .frm, .rw⟩,
  ⟨0x0A0F, "LP.ZONE_HYST", .axis, .u32, 0, 100000, none, 1, 100, .frm, .rw⟩,
  ⟨0x0A10, "LP.ZONE_UNHOMED", .axis, .u8, 0, 7, none, 1, 0, .frm, .rw⟩,
  ⟨0x0A11, "LP.ZONE_EDGE1", .axis, .i32, (-2147483648), 2147483647, none, 1, 2147483647, .frm, .rw⟩,
  ⟨0x0A12, "LP.ZONE_EDGE2", .axis, .i32, (-2147483648), 2147483647, none, 1, 2147483647, .frm, .rw⟩,
  ⟨0x0A13, "LP.ZONE_EDGE3", .axis, .i32, (-2147483648), 2147483647, none, 1, 2147483647, .frm, .rw⟩,
  ⟨0x0A14, "LP.ZONE_EDGE4", .axis, .i32, (-2147483648), 2147483647, none, 1, 2147483647, .frm, .rw⟩,
  ⟨0x0A15, "LP.ZONE_EDGE5", .axis, .i32, (-2147483648), 2147483647, none, 1, 2147483647, .frm, .rw⟩,
  ⟨0x0A16, "LP.ZONE_EDGE6", .axis, .i32, (-2147483648), 2147483647, none, 1, 2147483647, .frm, .rw⟩,
  ⟨0x0A17, "LP.ZONE_EDGE7", .axis, .i32, (-2147483648), 2147483647, none, 1, 2147483647, .frm, .rw⟩]

/-- Block 0x0A, Table 11.4, part 2. -/
def ParamTable.block0Ab : List ParamRow := [
  ⟨0x0A18, "LP.FOLLOW_MAX", .axis, .u32, 1, 10000000, none, 1, 5000, .frm, .rw⟩,
  ⟨0x0A19, "LP.FOLLOW_FRAMES", .axis, .u16, 1, 20000, none, 1, 200, .frm, .rw⟩,
  ⟨0x0A1A, "LP.ENV_TOL", .axis, .u16, 0, 500, none, 1, 100, .frm, .rw⟩,
  ⟨0x0A1B, "LP.ENV_FRAMES", .axis, .u16, 1, 20000, none, 1, 40, .frm, .rw⟩,
  ⟨0x0A1C, "LP.ILIM_FRAMES", .axis, .u16, 1, 60000, none, 1, 2000, .frm, .rw⟩,
  ⟨0x0A40, "LP.STATUS", .axis, .u32, 0, 4294967295, none, 1, 0, .imm, (.status 0xE000)⟩,
  ⟨0x0A41, "LP.IQ_DEMAND", .axis, .i32, (-2147483648), 2147483647, none, 1, 0, .imm, .ro⟩,
  ⟨0x0A42, "LP.V_KE", .axis, .i32, (-2147483648), 2147483647, none, 1, 0, .imm, .ro⟩,
  ⟨0x0A43, "LP.V_NOSE", .axis, .i32, (-2147483648), 2147483647, none, 1, 0, .imm, .ro⟩,
  ⟨0x0A44, "LP.FOLLOW_ERR", .axis, .i32, (-2147483648), 2147483647, none, 1, 0, .imm, .ro⟩,
  ⟨0x0A45, "LP.ENV_GOV_FRAMES", .axis, .u32, 0, 4294967295, none, 1, 0, .imm, .ro⟩]

/-- Block 0x0A, Table 11.4. -/
def ParamTable.block0A : List ParamRow := ParamTable.block0Aa ++ ParamTable.block0Ab

/-- Block 0x0B, Table 12.3, part 1. -/
def ParamTable.block0Ba : List ParamRow := [
  ⟨0x0B00, "TPL.DETECT_ENABLE", .axis, .bool, 0, 1, none, 1, 1, .frm, .rw⟩,
  ⟨0x0B01, "TPL.DETECT_OPEN", .axis, .bool, 0, 1, none, 1, 0, .frm, .rw⟩,
  ⟨0x0B02, "TPL.MARGIN_ABS", .axis, .i16, 10, 6000, none, 1, 400, .frm, .rw⟩,
  ⟨0x0B03, "TPL.MARGIN_ADJ", .axis, .i16, (-2000), 2000, none, 1, 0, .frm, .rw⟩,
  ⟨0x0B04, "TPL.K_SPREAD", .axis, .q16, 0, 524288, none, 1, 196608, .frm, .rw⟩,
  ⟨0x0B05, "TPL.PERSIST", .axis, .u8, 2, 16, none, 1, 4, .frm, .rw⟩,
  ⟨0x0B06, "TPL.MARGIN_INVALID", .axis, .i16, 10, 6000, none, 1, 600, .frm, .rw⟩,
  ⟨0x0B07, "TPL.MASK_LEN", .axis, .u32, 0, 1000000, none, 1, 1000, .frm, .rw⟩,
  ⟨0x0B08, "TPL.FORCE_FILT", .axis, .u8, 0, 4, none, 1, 2, .svc, .rw⟩,
  ⟨0x0B09, "TPL.ACC_WIN", .axis, .u8, 1, 64, none, 1, 16, .svc, .rw⟩,
  ⟨0x0B0A, "TPL.LEARN_SHIFT", .axis, .u8, 4, 8, none, 1, 6, .frm, .rw⟩,
  ⟨0x0B0B, "TPL.LEARN_VMIN", .axis, .u32, 0, 1000000, none, 1, 2000, .frm, .rw⟩,
  ⟨0x0B0C, "TPL.LEARN_MIN_N", .axis, .u8, 1, 64, none, 1, 4, .frm, .rw⟩,
  ⟨0x0B0D, "TPL.LEARN_MAX_STEP", .axis, .i16, 10, 2000, none, 1, 200, .frm, .rw⟩,
  ⟨0x0B0E, "TPL.VALID_COUNT", .axis, .u16, 1, 1000, none, 1, 8, .frm, .rw⟩,
  ⟨0x0B0F, "TPL.BASELINE_MAX", .axis, .i16, 10, 6000, none, 1, 1200, .frm, .rw⟩,
  ⟨0x0B10, "TPL.STP_FSCALE", .axis, .i16, 10, 6000, none, 1, 1000, .svc, .rw⟩,
  ⟨0x0B18, "TPL.SAVE", .device, .u8, 1, 1, none, 1, 0, .imm, .rw⟩,
  ⟨0x0B20, "TPL.STATUS", .axis, .u32, 0, 4294967295, none, 1, 0, .imm, (.status 0xE0)⟩,
  ⟨0x0B21, "TPL.F_EST", .axis, .i16, (-32768), 32767, none, 1, 0, .imm, .ro⟩,
  ⟨0x0B22, "TPL.EXCESS", .axis, .i16, (-32768), 32767, none, 1, 0, .imm, .ro⟩,
  ⟨0x0B23, "TPL.BIN", .axis, .u16, 0, 65535, none, 1, 0, .imm, .ro⟩,
  ⟨0x0B24, "TPL.OBST_COUNT", .axis, .u32, 0, 4294967295, none, 1, 0, .imm, .ro⟩,
  ⟨0x0B25, "TPL.SAVE_GEN", .device, .u32, 0, 4294967295, none, 1, 0, .imm, .ro⟩]

/-- Block 0x0B, Table 12.3, part 2. -/
def ParamTable.block0Bb : List ParamRow := [
  ⟨0x0B26, "TPL.TEACH_LEFT", .axis, .u16, 0, 1000, none, 1, 0, .imm, .ro⟩]

/-- Block 0x0B, Table 12.3. -/
def ParamTable.block0B : List ParamRow := ParamTable.block0Ba ++ ParamTable.block0Bb

/-- Block 0x0C, Table 13.10. -/
def ParamTable.block0C : List ParamRow := [
  ⟨0x0C00, "SAF.SI_MODE", .device, .enum, 0, 1, none, 1, 1, .saf, .rw⟩,
  ⟨0x0C01, "SAF.SI_DISC", .device, .u16, 5, 500, none, 1, 50, .saf, .rw⟩,
  ⟨0x0C02, "SAF.RESTART", .device, .enum, 0, 1, none, 1, 1, .saf, .rw⟩,
  ⟨0x0C03, "SAF.T_SS1", .device, .u16, 10, 10000, none, 1, 2000, .saf, .rw⟩,
  ⟨0x0C04, "SAF.DEC_DELAY", .device, .u16, 0, 500, none, 1, 20, .saf, .rw⟩,
  ⟨0x0C05, "SAF.ZC_HYST", .device, .u16, 200, 20000, none, 1, 1000, .saf, .rw⟩,
  ⟨0x0C06, "SAF.FALL_MAX", .device, .u8, 1, 20, none, 1, 5, .saf, .rw⟩,
  ⟨0x0C07, "SAF.RISE_MAX", .device, .u8, 1, 20, none, 1, 5, .saf, .rw⟩,
  ⟨0x0C08, "SAF.TEST_INTERVAL", .device, .u32, 3600, 604800, none, 1, 86400, .saf, .rw⟩,
  ⟨0x0C09, "SAF.TEST_GRACE", .device, .u32, 0, 86400, none, 1, 14400, .saf, .rw⟩,
  ⟨0x0C10, "SAF.AX_MON", .axis, .bool, 0, 1, none, 1, 1, .saf, .rw⟩,
  ⟨0x0C11, "SAF.AX_CPH", .axis, .u32, 64, 1048576, none, 1, 4096, .saf, .rw⟩,
  ⟨0x0C12, "SAF.DEC_MIN", .axis, .u32, 1000, 100000000, none, 1, 100000, .saf, .rw⟩,
  ⟨0x0C13, "SAF.DEC_TOL", .axis, .u32, 0, 10000000, none, 1, 8192, .saf, .rw⟩,
  ⟨0x0C14, "SAF.V_STANDSTILL", .axis, .u32, 64, 1000000, none, 1, 4096, .saf, .rw⟩,
  ⟨0x0C20, "SAF.TEST_DUE", .device, .u32, 600, 604800, none, 1, 43200, .svc, .rw⟩,
  ⟨0x0C21, "SAF.DWELL_DI", .device, .u8, 0, 31, (some 255), 1, 255, .svc, .rw⟩,
  ⟨0x0C22, "SAF.DWELL_MIN", .device, .u16, 10, 60000, none, 1, 500, .svc, .rw⟩,
  ⟨0x0C30, "SAF.STATUS", .device, .u32, 0, 4294967295, none, 1, 0, .imm, (.status 0xC000)⟩,
  ⟨0x0C31, "SAF.SPEED", .axis, .u32, 0, 4294967295, none, 1, 0, .imm, .ro⟩,
  ⟨0x0C32, "SAF.SET_CODE", .device, .u32, 0, 4294967295, none, 1, 0, .imm, .ro⟩,
  ⟨0x0C33, "SAF.TEST_AGE", .device, .u32, 0, 4294967295, none, 1, 0, .imm, .ro⟩,
  ⟨0x0C34, "SAF.TEST_COUNT", .device, .u16, 0, 65535, none, 1, 0, .imm, .ro⟩,
  ⟨0x0C35, "SAF.SS1_COUNT", .device, .u16, 0, 65535, none, 1, 0, .imm, .ro⟩]

/-- Block 0x0D, Table 14.4. -/
def ParamTable.block0D : List ParamRow := [
  ⟨0x0D00, "LANE.SINGLE_OK", .device, .bool, 0, 1, none, 1, 0, .svc, .rw⟩,
  ⟨0x0D01, "LANE.SWAP_INTERVAL", .device, .u32, 600, 604800, none, 1, 28800, .svc, .rw⟩,
  ⟨0x0D02, "LANE.DWELL_MIN", .device, .u16, 10, 60000, none, 1, 500, .svc, .rw⟩,
  ⟨0x0D03, "LANE.DWELL_DI", .device, .u8, 0, 31, (some 255), 1, 255, .svc, .rw⟩,
  ⟨0x0D04, "LANE.COPY_TIMEOUT", .device, .u16, 200, 20000, none, 1, 2000, .svc, .rw⟩,
  ⟨0x0D05, "LANE.LIMP_VSCALE", .device, .u16, 1000, 10000, none, 1, 5000, .svc, .rw⟩,
  ⟨0x0D10, "LANE.STATUS", .device, .u32, 0, 4294967295, none, 1, 0, .imm, (.status 0x380)⟩,
  ⟨0x0D11, "LANE.SWAP_AGE", .device, .u32, 0, 4294967295, none, 1, 0, .imm, .ro⟩,
  ⟨0x0D12, "LANE.DIV_COUNT", .device, .u32, 0, 4294967295, none, 1, 0, .imm, .ro⟩,
  ⟨0x0D13, "LANE.COPY_COUNT", .device, .u32, 0, 4294967295, none, 1, 0, .imm, .ro⟩]

/-- Block 0x0E, the host-port parameters. -/
def ParamTable.block0E : List ParamRow := [
  ⟨0x0E00, "HP.QUAD_ENABLE", .device, .bool, 0, 1, none, 1, 1, .svc, .rw⟩,
  ⟨0x0E10, "HP.STATUS", .device, .u32, 0, 4294967295, none, 1, 0, .imm, (.status 0x7)⟩,
  ⟨0x0E11, "HP.FRAME_ERRORS", .device, .u32, 0, 4294967295, none, 1, 0, .imm, .ro⟩,
  ⟨0x0E12, "HP.RAW_CRC_ERRORS", .device, .u32, 0, 4294967295, none, 1, 0, .imm, .ro⟩]

/-- Block 0x0F, the ring parameters. -/
def ParamTable.block0F : List ParamRow := [
  ⟨0x0F00, "RING.ENABLE", .device, .bool, 0, 1, none, 1, 1, .svc, .rw⟩,
  ⟨0x0F01, "RING.SUCCESSION", .device, .u32, 0, 268435455, none, 1, 0, .svc, .rw⟩,
  ⟨0x0F02, "RING.EXPECTED", .device, .u8, 0, 255, none, 1, 255, .svc, .rw⟩,
  ⟨0x0F03, "RING.CREDITS", .device, .u8, 1, 4, none, 1, 2, .svc, .rw⟩,
  ⟨0x0F04, "RING.BLOCK_SHARE", .device, .u8, 1, 20, none, 1, 4, .svc, .rw⟩,
  ⟨0x0F05, "RING.START_WAIT", .device, .u16, 100, 20000, none, 1, 400, .svc, .rw⟩,
  ⟨0x0F06, "RING.INSERT_PERIOD", .device, .u16, 200, 60000, none, 1, 2000, .svc, .rw⟩,
  ⟨0x0F07, "RING.TRAIN_TIMEOUT", .device, .u16, 200, 20000, none, 1, 2000, .svc, .rw⟩,
  ⟨0x0F08, "RING.ERR_FRAMES", .device, .u8, 2, 6, none, 1, 3, .svc, .rw⟩,
  ⟨0x0F10, "RING.STATUS", .device, .u32, 0, 4294967295, none, 1, 0, .imm, (.status 0x1E0)⟩,
  ⟨0x0F11, "RING.SLOT_ERRORS", .device, .u32, 0, 4294967295, none, 1, 0, .imm, .ro⟩,
  ⟨0x0F12, "RING.BLOCK_ERRORS", .device, .u32, 0, 4294967295, none, 1, 0, .imm, .ro⟩,
  ⟨0x0F13, "RING.CODE_ERRORS", .device, .u32, 0, 4294967295, none, 1, 0, .imm, .ro⟩,
  ⟨0x0F14, "RING.WRAP_COUNT", .device, .u16, 0, 65535, none, 1, 0, .imm, .ro⟩,
  ⟨0x0F15, "RING.MASTER_CHANGES", .device, .u16, 0, 65535, none, 1, 0, .imm, .ro⟩,
  ⟨0x0F16, "RING.LOOP_DELAY", .device, .u32, 0, 250000, none, 1, 0, .imm, .ro⟩,
  ⟨0x0F20, "RING.USER0", .device, .u64, 0, 18446744073709551615, none, 1, 0, .frm, .rw⟩,
  ⟨0x0F21, "RING.USER1", .device, .u64, 0, 18446744073709551615, none, 1, 0, .frm, .rw⟩,
  ⟨0x0F22, "RING.USER2", .device, .u64, 0, 18446744073709551615, none, 1, 0, .frm, .rw⟩,
  ⟨0x0F23, "RING.USER3", .device, .u64, 0, 18446744073709551615, none, 1, 0, .frm, .rw⟩,
  ⟨0x0F24, "RING.USER4", .device, .u64, 0, 18446744073709551615, none, 1, 0, .frm, .rw⟩,
  ⟨0x0F25, "RING.USER5", .device, .u64, 0, 18446744073709551615, none, 1, 0, .frm, .rw⟩,
  ⟨0x0F26, "RING.USER6", .device, .u64, 0, 18446744073709551615, none, 1, 0, .frm, .rw⟩]

/-- Block 0x10, the field-I/O parameters. -/
def ParamTable.block10 : List ParamRow := [
  ⟨0x1000, "FIO.DI_FILTER", (.upTo 32), .u16, 0, 10000, none, 10, 1000, .frm, .rw⟩,
  ⟨0x1001, "FIO.DI_INVERT", .device, .u32, 0, 4294967295, none, 1, 0, .frm, .rw⟩,
  ⟨0x1002, "FIO.CNT_MODE", (.upTo 8), .enum, 0, 3, none, 1, 0, .svc, .rw⟩,
  ⟨0x1003, "FIO.CNT_FILTER", (.upTo 8), .u16, 0, 2000, none, 5, 100, .svc, .rw⟩,
  ⟨0x1004, "FIO.CNT_PRESET", (.upTo 8), .u32, 0, 4294967295, none, 1, 0, .frm, .rw⟩,
  ⟨0x1005, "FIO.FREQ_GATE", (.upTo 8), .u16, 1, 2000, none, 1, 20, .frm, .rw⟩,
  ⟨0x1010, "FIO.DO_SET", .device, .u16, 0, 65535, none, 1, 0, .frm, .rw⟩,
  ⟨0x1011, "FIO.DO_ENABLE", .device, .u16, 0, 65535, none, 1, 0, .frm, .rw⟩,
  ⟨0x1012, "FIO.DO_LIM_TIME", .device, .u8, 1, 200, none, 1, 20, .svc, .rw⟩,
  ⟨0x1013, "FIO.DO_FAILSTATE", (.upTo 16), .enum, 0, 3, none, 1, 0, .svc, .rw⟩,
  ⟨0x1014, "FIO.DO_OPEN_DETECT", .device, .u8, 0, 15, none, 1, 0, .svc, .rw⟩,
  ⟨0x1015, "FIO.VF_UV", .device, .u32, 14000, 20000, none, 1, 16000, .svc, .rw⟩,
  ⟨0x1020, "FIO.LOCK_MODE", .halfBridge, .enum, 0, 2, none, 1, 0, .svc, .rw⟩,
  ⟨0x1021, "FIO.LOCK_ON", .halfBridge, .bool, 0, 1, none, 1, 0, .frm, .rw⟩,
  ⟨0x1022, "FIO.LOCK_PULL", .halfBridge, .u16, 0, 20000, none, 1, 2000, .svc, .rw⟩,
  ⟨0x1023, "FIO.LOCK_HOLD", .halfBridge, .u16, 500, 10000, none, 1, 4000, .svc, .rw⟩,
  ⟨0x1030, "FIO.DI", .device, .u32, 0, 4294967295, none, 1, 0, .imm, .ro⟩,
  ⟨0x1031, "FIO.CNT", (.upTo 8), .u32, 0, 4294967295, none, 1, 0, .imm, .ro⟩,
  ⟨0x1032, "FIO.FREQ", (.upTo 8), .u32, 0, 200000000, none, 1, 0, .imm, .ro⟩,
  ⟨0x1033, "FIO.VFIELD", (.upTo 4), .u32, 0, 40000, none, 1, 0, .imm, .ro⟩,
  ⟨0x1034, "FIO.STATUS", .device, .u32, 0, 4294967295, none, 1, 0, .imm, (.status 0xF0000)⟩,
  ⟨0x1035, "FIO.DO_TRIPS", (.upTo 16), .u16, 0, 65535, none, 1, 0, .imm, .ro⟩,
  ⟨0x1036, "FIO.CLEAR_ATTEMPTS", .doLatch, .u16, 0, 65535, none, 1, 0, .imm, .ro⟩]

/-- Block 0x12, the Quarry parameters. -/
def ParamTable.block12 : List ParamRow := [
  ⟨0x1200, "QRY.REGION", .device, .u8, 1, 96, none, 1, 96, .svc, .rw⟩,
  ⟨0x1201, "QRY.RELEASE", .device, .u32, 1, 4294967295, none, 1, 0, .frm, .rw⟩,
  ⟨0x1210, "QRY.STATUS", .device, .u32, 0, 4294967295, none, 1, 0, .imm, (.status 0xF0)⟩,
  ⟨0x1211, "QRY.RECORDS", .device, .u32, 0, 4294967295, none, 1, 0, .imm, .ro⟩,
  ⟨0x1212, "QRY.TRIG_IGNORED", .device, .u32, 0, 4294967295, none, 1, 0, .imm, .ro⟩,
  ⟨0x1213, "QRY.REARM_BLOCKED", .device, .u32, 0, 4294967295, none, 1, 0, .imm, .ro⟩,
  ⟨0x1214, "QRY.WRITTEN", .device, .u64, 0, 18446744073709551615, none, 1, 0, .imm, .ro⟩,
  ⟨0x1215, "QRY.RELEASED", .device, .u64, 0, 18446744073709551615, none, 1, 0, .imm, .ro⟩]

/-- Block 0x13, the power parameters. -/
def ParamTable.block13 : List ParamRow := [
  ⟨0x1300, "PWR.LATENCY", .device, .u32, 0, 4294967295, none, 1, 0, .frm, .rw⟩,
  ⟨0x1301, "PWR.IDLE_TIME", .device, .u32, 20, 72000000, none, 1, 1200000, .frm, .rw⟩,
  ⟨0x1302, "PWR.WAKE_SRC", .device, .u8, 0, 63, none, 1, 3, .svc, .rw⟩,
  ⟨0x1303, "PWR.WAKE_DI", .device, .u32, 0, 4294967295, none, 1, 0, .svc, .rw⟩,
  ⟨0x1304, "PWR.WAKE_POL", .device, .u8, 0, 3, none, 1, 3, .svc, .rw⟩,
  ⟨0x1305, "PWR.WAKE_TIMER", .device, .u32, 0, 604800, none, 1, 0, .frm, .rw⟩,
  ⟨0x1306, "PWR.RING_SLEEP", .device, .bool, 0, 1, none, 1, 0, .svc, .rw⟩,
  ⟨0x1310, "PWR.STATUS", .device, .u32, 0, 4294967295, none, 1, 0, .imm, (.status 0xC00)⟩,
  ⟨0x1311, "PWR.VBAT", .device, .u16, 0, 4000, none, 1, 0, .imm, .ro⟩,
  ⟨0x1312, "PWR.WAKE_COUNT", .device, .u32, 0, 4294967295, none, 1, 0, .imm, .ro⟩]

/-- Block 0x14, the configuration, firmware and event parameters. -/
def ParamTable.block14 : List ParamRow := [
  ⟨0x1400, "CFG.TRIAL_DEFAULT", .device, .u16, 10, 65535, none, 1, 600, .frm, .rw⟩,
  ⟨0x1410, "CFG.STATUS", .device, .u32, 0, 4294967295, none, 1, 0, .imm, (.status 0x1E0)⟩,
  ⟨0x1411, "CFG.ACTIVE_SLOT", .device, .u8, 0, 7, none, 1, 0, .imm, .ro⟩,
  ⟨0x1412, "CFG.ACTIVE_VERSION", .device, .u32, 0, 4294967295, none, 1, 0, .imm, .ro⟩,
  ⟨0x1413, "CFG.SLOT_STATE", (.upTo 8), .u32, 0, 4294967295, none, 1, 0, .imm, .ro⟩,
  ⟨0x1414, "CFG.SLOT_VERSION", (.upTo 8), .u32, 0, 4294967295, none, 1, 0, .imm, .ro⟩,
  ⟨0x1415, "CFG.TRIAL_LEFT", .device, .u16, 0, 65535, none, 1, 0, .imm, .ro⟩,
  ⟨0x1420, "FW.SLOT_STATE", (.upTo 4), .u32, 0, 4294967295, none, 1, 0, .imm, .ro⟩,
  ⟨0x1430, "EVT.NEWEST", .device, .u32, 0, 4294967295, none, 1, 0, .imm, .ro⟩,
  ⟨0x1431, "EVT.OLDEST", .device, .u32, 0, 4294967295, none, 1, 0, .imm, .ro⟩,
  ⟨0x1432, "EVT.LOST", .device, .u32, 0, 4294967295, none, 1, 0, .imm, .ro⟩]

/-- Table 11.3, the fields of a gain set; the index is the field number. -/
def ParamTable.gainFields : List ParamRow := [
  ⟨0x0000, "LP.x.Gk.POS_KP", .axis, .q16, 0, 65536000, none, 1, 1966080, .frm, .rw⟩,
  ⟨0x0001, "LP.x.Gk.VEL_KP", .axis, .q16, 0, 65536000, none, 1, 65536, .frm, .rw⟩,
  ⟨0x0002, "LP.x.Gk.VEL_KI", .axis, .q16, 0, 65536000, none, 1, 1310720, .frm, .rw⟩,
  ⟨0x0003, "LP.x.Gk.ACC_FF", .axis, .q16, 0, 131072, none, 1, 65536, .frm, .rw⟩,
  ⟨0x0004, "LP.x.Gk.FORCE_KI", .axis, .q16, 0, 32768, none, 1, 655, .frm, .rw⟩]

/-- The parameters of one CAN controller; the index is the offset from 0x1100 + 0x40 × c, part 1. -/
def ParamTable.canFieldsa : List ParamRow := [
  ⟨0x0000, "CANc.ENABLE", .device, .bool, 0, 1, none, 1, 0, .svc, .rw⟩,
  ⟨0x0001, "CANc.FD", .device, .bool, 0, 1, none, 1, 1, .svc, .rw⟩,
  ⟨0x0002, "CANc.BRS", .device, .bool, 0, 1, none, 1, 1, .svc, .rw⟩,
  ⟨0x0003, "CANc.NBRP", .device, .u8, 1, 32, none, 1, 1, .svc, .rw⟩,
  ⟨0x0004, "CANc.NTSEG1", .device, .u16, 2, 256, none, 1, 63, .svc, .rw⟩,
  ⟨0x0005, "CANc.NTSEG2", .device, .u8, 1, 128, none, 1, 16, .svc, .rw⟩,
  ⟨0x0006, "CANc.NSJW", .device, .u8, 1, 128, none, 1, 16, .svc, .rw⟩,
  ⟨0x0007, "CANc.DBRP", .device, .u8, 1, 32, none, 1, 1, .svc, .rw⟩,
  ⟨0x0008, "CANc.DTSEG1", .device, .u8, 1, 32, none, 1, 15, .svc, .rw⟩,
  ⟨0x0009, "CANc.DTSEG2", .device, .u8, 1, 16, none, 1, 4, .svc, .rw⟩,
  ⟨0x000A, "CANc.DSJW", .device, .u8, 1, 16, none, 1, 4, .svc, .rw⟩,
  ⟨0x000B, "CANc.TDC", .device, .enum, 0, 1, none, 1, 1, .svc, .rw⟩,
  ⟨0x000C, "CANc.TDC_OFFSET", .device, .u8, 0, 127, none, 1, 16, .svc, .rw⟩,
  ⟨0x000D, "CANc.TRIPLE", .device, .bool, 0, 1, none, 1, 0, .svc, .rw⟩,
  ⟨0x000E, "CANc.TX_PRIO", .device, .enum, 0, 1, none, 1, 0, .svc, .rw⟩,
  ⟨0x000F, "CANc.AUTO_RECOVER", .device, .bool, 0, 1, none, 1, 1, .svc, .rw⟩,
  ⟨0x0010, "CANc.SEG_TIMEOUT", .device, .u16, 20, 20000, none, 1, 200, .svc, .rw⟩,
  ⟨0x0011, "CANc.STATUS_ID", .device, .u32, 0, 4294967295, none, 1, 4294967295, .svc, .rw⟩,
  ⟨0x0012, "CANc.STATUS_PERIOD", .device, .u16, 0, 20000, none, 1, 0, .frm, .rw⟩,
  ⟨0x0013, "CANc.HOST_RESP_ID", (.upTo 8), .u32, 0, 4294967295, none, 1, 4294967295, .svc, .rw⟩,
  ⟨0x0014, "CANc.FLT_ID", (.upTo 32), .u32, 0, 536870911, none, 1, 0, .svc, .rw⟩,
  ⟨0x0015, "CANc.FLT_MASK", (.upTo 32), .u32, 0, 536870911, none, 1, 0, .svc, .rw⟩,
  ⟨0x0016, "CANc.FLT_CFG", (.upTo 32), .u16, 0, 65535, none, 1, 0, .svc, .rw⟩,
  ⟨0x0020, "CANc.STATUS", .device, .u32, 0, 4294967295, none, 1, 0, .imm, (.status 0x70000)⟩]

/-- The parameters of one CAN controller; the index is the offset from 0x1100 + 0x40 × c, part 2. -/
def ParamTable.canFieldsb : List ParamRow := [
  ⟨0x0021, "CANc.ERR_COUNTERS", .device, .u32, 0, 4294967295, none, 1, 0, .imm, .ro⟩,
  ⟨0x0022, "CANc.RXQ_OVERFLOW", (.upTo 2), .u32, 0, 4294967295, none, 1, 0, .imm, .ro⟩,
  ⟨0x0023, "CANc.SEG_DISCARDS", .device, .u32, 0, 4294967295, none, 1, 0, .imm, .ro⟩,
  ⟨0x0024, "CANc.BUS_OFF_COUNT", .device, .u16, 0, 65535, none, 1, 0, .imm, .ro⟩]

/-- The parameters of one CAN controller; the index is the offset from 0x1100 + 0x40 × c. -/
def ParamTable.canFields : List ParamRow := ParamTable.canFieldsa ++ ParamTable.canFieldsb

/-- The rows of one index block (Table 0.5). -/
def ParamTable.block : Nat → List ParamRow
  | 0x00 => ParamTable.block00
  | 0x01 => ParamTable.block01
  | 0x02 => ParamTable.block02
  | 0x03 => ParamTable.block03
  | 0x04 => ParamTable.block04
  | 0x05 => ParamTable.block05
  | 0x06 => ParamTable.block06
  | 0x07 => ParamTable.block07
  | 0x08 => ParamTable.block08
  | 0x09 => ParamTable.block09
  | 0x0A => ParamTable.block0A
  | 0x0B => ParamTable.block0B
  | 0x0C => ParamTable.block0C
  | 0x0D => ParamTable.block0D
  | 0x0E => ParamTable.block0E
  | 0x0F => ParamTable.block0F
  | 0x10 => ParamTable.block10
  | 0x12 => ParamTable.block12
  | 0x13 => ParamTable.block13
  | 0x14 => ParamTable.block14
  | _ => []

/-- The row of an index: gain sets by R273, CAN parameters by controller, every other by its block. -/
def ParamTable.find (index : Nat) : Option ParamRow :=
  if 0x0A80 ≤ index ∧ index < 0x0B00 then
    (ParamTable.gainFields.find? (fun r => r.index = index % 8)).map (fun r => { r with index := index })
  else if 0x1100 ≤ index ∧ index < 0x1180 then
    (ParamTable.canFields.find? (fun r => r.index = index % 64)).map (fun r => { r with index := index })
  else (ParamTable.block (index / 256)).find? (fun r => r.index = index)

/-- The number of sub-indices of a class, and whether a sub-index belongs to it (R4). -/
def SubClass.has : SubClass → Nat → Bool
  | .device, sub => sub = 255
  | .axis, sub => sub < 16
  | .bay, sub => sub < 16
  | .halfBridge, sub => sub < 48
  | .stepper, sub => sub < 8
  | .upTo n, sub => sub < n
  | .doLatch, sub => sub < 4 || (12 ≤ sub && sub < 16)

/-- The type codes of Table 3.3. -/
def PType.code : PType → Nat
  | .u8 => 1 | .u16 => 2 | .u32 => 3 | .u64 => 4 | .i16 => 5
  | .i32 => 6 | .i64 => 7 | .q16 => 8 | .bool => 9 | .enum => 10

/-- The width of a type in bytes, and whether its upper bytes are sign extension (R70). -/
def PType.bytes : PType → Nat
  | .u8 | .bool | .enum => 1
  | .u16 | .i16 => 2
  | .u32 | .i32 | .q16 => 4
  | .u64 | .i64 => 8

def PType.signed : PType → Bool
  | .i16 | .i32 | .i64 | .q16 => true
  | _ => false

/-- The value that an 8-byte field carries for a type, when its upper bytes keep R70. -/
def PType.decode (t : PType) (v : Long) : Option Int :=
  if t.signed then
    let x := v.toInt
    if x = wrapSigned (8 * t.bytes) x then some x else none
  else
    let x := v.toNat
    if x < 2 ^ (8 * t.bytes) then some x else none

/-- The 8-byte field of a value (R70). -/
def PType.encode (_ : PType) (x : Int) : List Byte := leBytesI 8 x

/-- A parameter's key in `State.regs`. -/
def regKey (index sub : Nat) : Nat := index * 256 + sub

/-- The default of a key: the default of its table row. -/
def regDefault (k : Nat) : Int :=
  match ParamTable.find (k / 256) with
  | some r => r.dflt
  | none => 0

/-- The value in force of a parameter. -/
def State.par (s : State) (index sub : Nat) : Int := Sparse.read regDefault s.regs (regKey index sub)

def State.parN (s : State) (index sub : Nat) : Nat := (s.par index sub).toNat

/-- A device-wide parameter. -/
def State.dev (s : State) (index : Nat) : Int := s.par index 255

def State.devN (s : State) (index : Nat) : Nat := (s.dev index).toNat

/-- Set a parameter, counter or sticky word. -/
def State.setPar (s : State) (index sub : Nat) (v : Int) : State :=
  { s with regs := Sparse.write regDefault s.regs (regKey index sub) v }

def State.setDev (s : State) (index : Nat) (v : Int) : State := s.setPar index 255 v

/-- Set sticky bits of a status word. -/
def State.stick (s : State) (index sub : Nat) (bit : Nat) : State :=
  s.setPar index sub (s.parN index sub ||| 2 ^ bit : Nat)

/-- Whether a sticky bit is set. -/
def State.stuck (s : State) (index sub bit : Nat) : Bool := (s.parN index sub).testBit bit

end Sys2Proof.Machine
end

