-- ==== Sys2Proof/Machine/FaultTable.lean ====
section
/-! DEFINITION. The fault tables of every chapter as data (R10, R13, R32, R33, R503): code, name, rank of the reaction,
scope, instance and means of clearing. -/

namespace Sys2Proof.Machine

/-- The scopes of R11. -/
inductive Scope where
  | axis | bay | device | ring
  deriving DecidableEq, Repr

/-- What the instance byte of a fault names (R32, R150, R346). -/
inductive InstClass where
  | device | axis | axisOrDevice | bay | die | halfBridge | lane | stepper | upTo (n : Nat)
  /-- The first output of a group, and a privileged output (R423); of a group of DO0 to DO11 (R403); a slot (R472). -/
  | outputs | channel | groups | slotOrDevice
  deriving DecidableEq, Repr

/-- The clearing of R503: by FAULT_CLEAR, an occurrence, at a condition, at a later named event, or by something that
FAULT_CLEAR cannot replace (reset, repair, boot, a passing test). -/
inductive ClearKind where
  | faultClear | occurrence | condition | laterEvent | other
  deriving DecidableEq, Repr

structure FaultRow where
  code : Nat
  name : String
  rank : Nat
  scope : Scope
  inst : InstClass
  clear : ClearKind
  deriving DecidableEq, Repr

/-- The fault table of chapter 2. -/
def FaultTable.ch02 : List FaultRow := [
  ⟨0x0101, "TB_CLOCK_LOSS", 5, .device, .device, .other⟩,
  ⟨0x0102, "TB_OVERRUN", 2, .device, .device, .occurrence⟩,
  ⟨0x0103, "TB_OVERRUN_REPEAT", 5, .device, .device, .faultClear⟩,
  ⟨0x0104, "TB_HOLDOVER", 1, .device, .device, .condition⟩,
  ⟨0x0105, "TB_PHASE_ALARM", 2, .device, .device, .condition⟩,
  ⟨0x0106, "TB_MASTER_LOST", 2, .ring, .device, .condition⟩,
  ⟨0x0107, "TB_FRAME32_WRAP", 1, .device, .device, .occurrence⟩,
  ⟨0x0108, "TB_COUNT_SAT", 1, .device, .device, .occurrence⟩]

/-- The fault table of chapter 3. -/
def FaultTable.ch03 : List FaultRow := [
  ⟨0x0201, "CMD_HOST_LOSS", 3, .device, .device, .faultClear⟩,
  ⟨0x0202, "CMD_COUNT_SAT", 1, .device, .device, .occurrence⟩]

/-- The fault table of chapter 4. -/
def FaultTable.ch04 : List FaultRow := [
  ⟨0x0210, "MTR_ISOLATED_HOLD", 3, .device, .device, .faultClear⟩,
  ⟨0x0211, "MTR_STAGING_ECC", 2, .device, .device, .occurrence⟩,
  ⟨0x0212, "MTR_SNAPSHOT_ECC", 2, .device, .device, .occurrence⟩,
  ⟨0x0213, "MTR_BOOK_MISMATCH", 2, .device, .device, .occurrence⟩,
  ⟨0x0214, "MTR_ENTRY_DROPPED", 1, .axis, .axis, .occurrence⟩,
  ⟨0x0215, "MTR_COUNT_SAT", 1, .device, .device, .occurrence⟩]

/-- The fault table of chapter 5. -/
def FaultTable.ch05 : List FaultRow := [
  ⟨0x0301, "PWM_ENTRY_INVALID", 2, .bay, .bay, .occurrence⟩,
  ⟨0x0302, "PWM_DUTY_CLAMPED", 1, .bay, .bay, .occurrence⟩,
  ⟨0x0303, "PWM_SHOOT_THROUGH_BLOCKED", 2, .bay, .bay, .occurrence⟩,
  ⟨0x0304, "PWM_DEBUG_HALT", 5, .device, .device, .faultClear⟩,
  ⟨0x0305, "PWM_COUNT_SAT", 1, .bay, .bay, .occurrence⟩]

/-- The fault table of chapter 6. -/
def FaultTable.ch06 : List FaultRow := [
  ⟨0x0401, "GD_SHORT", 6, .bay, .bay, .faultClear⟩,
  ⟨0x0402, "GD_BOOT_UV", 6, .bay, .halfBridge, .faultClear⟩,
  ⟨0x0403, "GD_RETRY_EXHAUSTED", 1, .bay, .bay, .occurrence⟩,
  ⟨0x0404, "GD_INTERLOCK", 6, .bay, .bay, .faultClear⟩,
  ⟨0x0405, "GD_VGD_LOCKOUT", 6, .bay, .die, .condition⟩,
  ⟨0x0406, "GD_VGD_HIGH", 2, .bay, .die, .occurrence⟩,
  ⟨0x0407, "GD_VBUS_OV1", 1, .bay, .die, .occurrence⟩,
  ⟨0x0408, "GD_VBUS_OV2", 5, .device, .device, .faultClear⟩,
  ⟨0x0409, "GD_BRAKE_FAIL", 2, .bay, .die, .faultClear⟩,
  ⟨0x040A, "GD_BRAKE_OVERLOAD", 2, .bay, .die, .faultClear⟩,
  ⟨0x040B, "GD_BRAKE_SHORTED", 3, .device, .device, .faultClear⟩,
  ⟨0x040C, "GD_VBUS_UV", 5, .bay, .die, .faultClear⟩,
  ⟨0x040D, "GD_VBUS_MISMATCH", 2, .device, .device, .occurrence⟩,
  ⟨0x040E, "GD_DIE_LINK", 5, .bay, .die, .faultClear⟩,
  ⟨0x040F, "GD_DIE_HOT", 2, .bay, .die, .condition⟩,
  ⟨0x0410, "GD_DIE_OVERTEMP", 5, .bay, .die, .faultClear⟩,
  ⟨0x0411, "GD_COUNT_SAT", 1, .bay, .bay, .occurrence⟩]

/-- The fault table of chapter 7. -/
def FaultTable.ch07 : List FaultRow := [
  ⟨0x0501, "SNS_OFFSET", 6, .bay, .bay, .faultClear⟩,
  ⟨0x0502, "SNS_RANGE", 5, .bay, .bay, .faultClear⟩,
  ⟨0x0503, "SNS_MISSING", 2, .axis, .axis, .condition⟩,
  ⟨0x0504, "SNS_PEAK", 3, .axis, .axis, .faultClear⟩,
  ⟨0x0505, "SNS_TRIM_INVALID", 2, .device, .device, .other⟩,
  ⟨0x0506, "SNS_COUNT_SAT", 1, .bay, .bay, .occurrence⟩]

/-- The fault table of chapter 8. -/
def FaultTable.ch08 : List FaultRow := [
  ⟨0x0601, "COM_LOS", 6, .axis, .axis, .faultClear⟩,
  ⟨0x0602, "COM_PLAUSIBILITY", 6, .bay, .bay, .faultClear⟩,
  ⟨0x0603, "COM_OVERSPEED", 4, .axis, .axis, .faultClear⟩,
  ⟨0x0604, "COM_HALL_INVALID", 5, .axis, .axis, .faultClear⟩,
  ⟨0x0605, "COM_ENC_INDEX", 3, .axis, .axis, .faultClear⟩,
  ⟨0x0606, "COM_POLARITY", 6, .axis, .axis, .faultClear⟩,
  ⟨0x0607, "COM_INJ_CONVERGE", 6, .axis, .axis, .faultClear⟩,
  ⟨0x0608, "COM_CATCH_FAIL", 5, .axis, .axis, .faultClear⟩,
  ⟨0x0609, "COM_ID_FAIL", 2, .axis, .axis, .laterEvent⟩,
  ⟨0x060A, "COM_TWO_PHASE", 1, .axis, .axis, .occurrence⟩,
  ⟨0x060B, "COM_SALIENCY", 2, .axis, .axis, .condition⟩,
  ⟨0x060C, "COM_COUNT_SAT", 1, .axis, .axis, .occurrence⟩]

/-- The fault table of chapter 9. -/
def FaultTable.ch09 : List FaultRow := [
  ⟨0x0801, "STP_STALL", 3, .axis, .stepper, .faultClear⟩,
  ⟨0x0802, "STP_NO_REGULATION", 3, .axis, .stepper, .faultClear⟩,
  ⟨0x0803, "STP_OPEN_COIL", 6, .axis, .stepper, .faultClear⟩,
  ⟨0x0804, "STP_FOLLOW_LAG", 3, .axis, .stepper, .faultClear⟩,
  ⟨0x0805, "STP_CATCH_FAIL", 5, .axis, .stepper, .faultClear⟩,
  ⟨0x0806, "STP_STALL_BLIND", 1, .axis, .stepper, .occurrence⟩,
  ⟨0x0807, "STP_COUNT_SAT", 1, .axis, .stepper, .occurrence⟩]

/-- The fault table of chapter 10. -/
def FaultTable.ch10 : List FaultRow := [
  ⟨0x0901, "PRF_LIMIT_DEFERRED", 1, .axis, .axis, .occurrence⟩,
  ⟨0x0902, "PRF_EOT_EXCEEDED", 4, .axis, .axis, .faultClear⟩,
  ⟨0x0903, "PRF_ENTRY_REJECTED", 1, .axis, .axis, .occurrence⟩,
  ⟨0x0904, "PRF_GEAR_LAG", 3, .axis, .axis, .faultClear⟩,
  ⟨0x0905, "PRF_GEAR_EOT", 3, .axis, .axis, .faultClear⟩,
  ⟨0x0906, "PRF_HOME_FAIL", 2, .axis, .axis, .laterEvent⟩,
  ⟨0x0907, "PRF_GROUP_STOP", 3, .axis, .axis, .faultClear⟩,
  ⟨0x0908, "PRF_REVERSAL", 1, .axis, .axis, .occurrence⟩,
  ⟨0x0909, "PRF_POS_WRAP", 1, .axis, .axis, .occurrence⟩,
  ⟨0x090A, "PRF_COUNT_SAT", 1, .axis, .axis, .occurrence⟩]

/-- The fault table of chapter 11. -/
def FaultTable.ch11 : List FaultRow := [
  ⟨0x0A01, "LP_FOLLOW_ERR", 3, .axis, .axis, .faultClear⟩,
  ⟨0x0A02, "LP_ENVELOPE_EXCEEDED", 2, .axis, .axis, .condition⟩,
  ⟨0x0A03, "LP_CURRENT_LIMIT", 2, .axis, .axis, .condition⟩,
  ⟨0x0A04, "LP_COUNT_SAT", 1, .axis, .axis, .occurrence⟩]

/-- The fault table of chapter 12. -/
def FaultTable.ch12 : List FaultRow := [
  ⟨0x0B01, "TPL_OBSTRUCTION", 2, .axis, .axis, .occurrence⟩,
  ⟨0x0B02, "TPL_BASELINE_HIGH", 2, .axis, .axis, .occurrence⟩,
  ⟨0x0B03, "TPL_TABLE_INVALID", 1, .axis, .axisOrDevice, .occurrence⟩,
  ⟨0x0B04, "TPL_SAVE_FAIL", 2, .device, .device, .laterEvent⟩,
  ⟨0x0B05, "TPL_COUNT_SAT", 1, .axis, .axis, .occurrence⟩]

/-- The fault table of chapter 13. -/
def FaultTable.ch13 : List FaultRow := [
  ⟨0x0C01, "SAFE_STO_ACTIVE", 1, .device, .device, .occurrence⟩,
  ⟨0x0C02, "SAFE_SI_DISCREPANCY", 7, .device, .device, .faultClear⟩,
  ⟨0x0C03, "SAFE_DECEL_VIOLATION", 7, .device, .device, .faultClear⟩,
  ⟨0x0C04, "SAFE_STO_FB", 7, .device, .device, .other⟩,
  ⟨0x0C05, "SAFE_RAIL_ABSENT", 2, .device, .device, .condition⟩,
  ⟨0x0C06, "SAFE_TEST_FAIL", 7, .device, .device, .other⟩,
  ⟨0x0C07, "SAFE_TEST_OVERDUE", 2, .device, .device, .other⟩,
  ⟨0x0C08, "SAFE_TEST_GRACE", 2, .device, .device, .other⟩,
  ⟨0x0C09, "SAFE_WATCHDOG", 7, .device, .device, .other⟩,
  ⟨0x0C0A, "SAFE_CROSSCHECK", 7, .device, .device, .faultClear⟩,
  ⟨0x0C0B, "SAFE_CLOCK", 7, .device, .device, .other⟩,
  ⟨0x0C0C, "SAFE_SADC", 7, .device, .device, .faultClear⟩,
  ⟨0x0C0D, "SAFE_SADC_PLAUS", 7, .device, .device, .faultClear⟩,
  ⟨0x0C0E, "SAFE_MEMORY", 7, .device, .device, .other⟩,
  ⟨0x0C0F, "SAFE_SUPPLY", 7, .device, .device, .laterEvent⟩,
  ⟨0x0C10, "SAFE_PLUMB_CFG", 7, .device, .device, .other⟩,
  ⟨0x0C11, "SAFE_SET_INVALID", 7, .device, .device, .other⟩,
  ⟨0x0C12, "SAFE_COUNT_SAT", 1, .device, .device, .occurrence⟩]

/-- The fault table of chapter 14. -/
def FaultTable.ch14 : List FaultRow := [
  ⟨0x0D01, "LANE_DIVERGENCE", 1, .device, .lane, .occurrence⟩,
  ⟨0x0D02, "LANE_SWITCHOVER", 2, .device, .lane, .occurrence⟩,
  ⟨0x0D03, "LANE_COPY_FAIL", 2, .device, .lane, .occurrence⟩,
  ⟨0x0D04, "LANE_REDUNDANCY_LOST", 2, .device, .lane, .faultClear⟩,
  ⟨0x0D05, "LANE_IMAGE_MISMATCH", 2, .device, .lane, .other⟩,
  ⟨0x0D06, "LANE_ACTIVE_LOST", 5, .device, .device, .other⟩,
  ⟨0x0D07, "LANE_SWAP_FAIL", 2, .device, .lane, .occurrence⟩,
  ⟨0x0D08, "LANE_SWAP_OVERDUE", 2, .device, .device, .other⟩,
  ⟨0x0D09, "LANE_COUNT_SAT", 1, .device, .device, .occurrence⟩]

/-- The fault table of chapter 15. -/
def FaultTable.ch15 : List FaultRow := [
  ⟨0x0E01, "HP_FRAME_ERROR", 1, .device, .device, .occurrence⟩,
  ⟨0x0E02, "HP_COUNT_SAT", 1, .device, .device, .occurrence⟩]

/-- The fault table of chapter 16. -/
def FaultTable.ch16 : List FaultRow := [
  ⟨0x0F01, "RING_LINK_DOWN", 2, .device, .device, .condition⟩,
  ⟨0x0F02, "RING_TRAIN_FAIL", 2, .device, .device, .occurrence⟩,
  ⟨0x0F03, "RING_CONFIG_MISMATCH", 2, .device, .device, .condition⟩,
  ⟨0x0F04, "RING_ADDR_CONFLICT", 2, .device, .device, .other⟩,
  ⟨0x0F05, "RING_DELAY_BUDGET", 2, .device, .device, .condition⟩,
  ⟨0x0F06, "RING_FOREIGN", 2, .device, .device, .condition⟩,
  ⟨0x0F07, "RING_FRAME_MISMATCH", 3, .device, .device, .other⟩,
  ⟨0x0F08, "RING_SLOT_LOST", 1, .device, .device, .occurrence⟩,
  ⟨0x0F09, "RING_MASTER_TAKEOVER", 1, .device, .device, .occurrence⟩,
  ⟨0x0F0A, "RING_COUNT_SAT", 1, .device, .device, .occurrence⟩,
  ⟨0x0F0B, "RING_MASTER_STRAP", 2, .device, .device, .condition⟩]

/-- The fault table of chapter 17. -/
def FaultTable.ch17 : List FaultRow := [
  ⟨0x1001, "FIO_SUPPLY_UV", 2, .device, (.upTo 4), .condition⟩,
  ⟨0x1002, "FIO_SUPPLY_OV", 2, .device, (.upTo 4), .condition⟩,
  ⟨0x1003, "FIO_DO_GROUP_OVERLOAD", 2, .device, .groups, .faultClear⟩,
  ⟨0x1004, "FIO_DO_OVERLOAD", 2, .device, .channel, .faultClear⟩,
  ⟨0x1005, "FIO_DO_THERMAL", 2, .device, .outputs, .faultClear⟩,
  ⟨0x1006, "FIO_DO_OPEN", 2, .device, .channel, .condition⟩,
  ⟨0x1007, "FIO_DO_MISMATCH", 2, .device, .channel, .condition⟩,
  ⟨0x1008, "FIO_CONFIG", 2, .device, .device, .condition⟩,
  ⟨0x1009, "FIO_CNT_WRAP", 1, .device, .device, .occurrence⟩,
  ⟨0x100A, "FIO_COUNT_SAT", 1, .device, .device, .occurrence⟩,
  ⟨0x1101, "CAN_CONFIG", 2, .device, (.upTo 2), .condition⟩,
  ⟨0x1102, "CAN_ERROR_PASSIVE", 2, .device, (.upTo 2), .condition⟩,
  ⟨0x1103, "CAN_BUS_OFF", 2, .device, (.upTo 2), .condition⟩,
  ⟨0x1104, "CAN_RXQ_OVERFLOW", 1, .device, (.upTo 2), .occurrence⟩,
  ⟨0x1105, "CAN_SEG_DISCARD", 1, .device, (.upTo 2), .occurrence⟩,
  ⟨0x1106, "CAN_COUNT_SAT", 1, .device, (.upTo 2), .occurrence⟩]

/-- The fault table of chapter 18. -/
def FaultTable.ch18 : List FaultRow := [
  ⟨0x1201, "QRY_REARM_BLOCKED", 1, .device, .device, .condition⟩,
  ⟨0x1202, "QRY_SAMPLE_ECC", 1, .device, .device, .occurrence⟩,
  ⟨0x1203, "QRY_COUNT_SAT", 1, .device, .device, .occurrence⟩]

/-- The fault table of chapter 19. -/
def FaultTable.ch19 : List FaultRow := [
  ⟨0x0001, "BOOT_SELFTEST_FAIL", 6, .device, .device, .other⟩,
  ⟨0x1301, "PWR_SUPPLY_RESET", 1, .device, .device, .occurrence⟩,
  ⟨0x1302, "PWR_VBAT_LOW", 2, .device, .device, .condition⟩,
  ⟨0x1303, "PWR_START_RETRY", 1, .device, .device, .occurrence⟩,
  ⟨0x1304, "PWR_COUNT_SAT", 1, .device, .device, .occurrence⟩]

/-- The fault table of chapter 20. -/
def FaultTable.ch20 : List FaultRow := [
  ⟨0x1401, "CFG_TRIAL_ROLLBACK", 2, .device, .device, .occurrence⟩,
  ⟨0x1402, "CFG_SLOT_INVALID", 2, .device, (.upTo 8), .condition⟩,
  ⟨0x1403, "CFG_VERSION_MISMATCH", 6, .device, .device, .other⟩,
  ⟨0x1404, "FW_FALLBACK", 2, .device, .device, .occurrence⟩,
  ⟨0x1405, "EVT_OVERFLOW", 1, .device, .device, .occurrence⟩,
  ⟨0x1406, "EVT_FLASH_LAG", 1, .device, .device, .occurrence⟩,
  ⟨0x1407, "CFG_FLASH_CORRECTED", 1, .device, .slotOrDevice, .condition⟩,
  ⟨0x1408, "CFG_COUNT_SAT", 1, .device, .device, .occurrence⟩]

/-- The fault table of chapter 21. -/
def FaultTable.ch21 : List FaultRow := [
  ⟨0x0002, "DBG_UNLOCKED", 2, .device, .device, .other⟩,
  ⟨0x0003, "DBG_TOKEN_FAIL", 1, .device, .device, .occurrence⟩]

/-- Every fault of the manual (R13, R33). -/
def FaultTable.all : List FaultRow :=
  FaultTable.ch02 ++ FaultTable.ch03 ++ FaultTable.ch04 ++ FaultTable.ch05 ++ FaultTable.ch06 ++ FaultTable.ch07 ++ FaultTable.ch08 ++ FaultTable.ch09 ++ FaultTable.ch10 ++ FaultTable.ch11 ++ FaultTable.ch12 ++ FaultTable.ch13 ++ FaultTable.ch14 ++ FaultTable.ch15 ++ FaultTable.ch16 ++ FaultTable.ch17 ++ FaultTable.ch18 ++ FaultTable.ch19 ++ FaultTable.ch20 ++ FaultTable.ch21

/-- The row of a code. -/
def FaultTable.find (code : Nat) : Option FaultRow := FaultTable.all.find? (fun r => r.code = code)

/-- Whether an instance byte is one that a class can carry (R32). -/
def InstClass.has : InstClass → Nat → Bool
  | .device, i => i = 255
  | .axis, i => i < 16
  | .axisOrDevice, i => i < 16 || i = 255
  | .bay, i => i < 16
  | .die, i => i = 0 || i = 8
  | .halfBridge, i => i < 48
  | .lane, i => i < 2
  | .stepper, i => i < 8
  | .upTo n, i => i < n
  | .outputs, i => i % 4 = 0 && i < 16
  | .groups, i => i % 4 = 0 && i < 12
  | .slotOrDevice, i => i < 8 || i = 255
  | .channel, i => 12 ≤ i && i < 16

end Sys2Proof.Machine
end

