-- ==== Sys2Proof/Machine/Ops.lean ====
section
/-! DEFINITION. The named operations over registers, counters, faults, events, forcing latches and axes that the
meanings share. -/

namespace Sys2Proof.Machine

/-! ### Reading and changing parts of the state -/

def State.frame32 (s : State) : Word := s.frame64.setWidth 32

def State.ax (s : State) (a : Fin 16) : Axis := s.motion.axes[a]
def State.bay (s : State) (b : Fin 16) : Bay := s.pwm.bays[b]
def State.hb (s : State) (h : Fin 48) : HalfBridge := s.pwm.hbs[h]
def State.die (s : State) (d : Fin 2) : Die := s.pwm.dies[d]

def State.onAx (s : State) (a : Fin 16) (f : Axis → Axis) : State :=
  { s with motion := { s.motion with axes := upd s.motion.axes a f } }
def State.onBay (s : State) (b : Fin 16) (f : Bay → Bay) : State :=
  { s with pwm := { s.pwm with bays := upd s.pwm.bays b f } }
def State.onHb (s : State) (h : Fin 48) (f : HalfBridge → HalfBridge) : State :=
  { s with pwm := { s.pwm with hbs := upd s.pwm.hbs h f } }
def State.onDie (s : State) (d : Fin 2) (f : Die → Die) : State :=
  { s with pwm := { s.pwm with dies := upd s.pwm.dies d f } }

/-- Draw a fresh free value. -/
def State.draw (s : State) : Int × State := (Config.freeInt s.free, { s with free := s.free + 1 })

/-- The indices 0 to n − 1. -/
def allFin (n : Nat) : List (Fin n) := List.finRange n

/-- Apply a change for each element in turn. -/
def State.each {α : Type} (s : State) (l : List α) (f : α → State → State) : State := l.foldl (fun t x => f x t) s

/-! ### Bays, axes and pairs (R17 to R20) -/

/-- Whether a core of a lane is halted by the debug port (R121). -/
def Debug.laneHalted (d : Debug) (lane : Fin 2) : Bool :=
  d.halted[(⟨2 * lane.val, by omega⟩ : Fin 4)] || d.halted[(⟨2 * lane.val + 1, by omega⟩ : Fin 4)]

/-- Whether pair k is a stepper pair (R200). -/
def State.isStepper (s : State) (k : Nat) : Bool := (s.devN 0x0800).testBit k

/-- Half-bridge x of bay b (R17). -/
def hbOf (b : Fin 16) (x : Fin 3) : Fin 48 := ⟨3 * b.val + x.val, by omega⟩

def bayOfHb (h : Fin 48) : Fin 16 := ⟨h.val / 3, by omega⟩

/-- The die of a bay (R17). -/
def dieOf (b : Fin 16) : Fin 2 := if b.val < 8 then 0 else 1

def baysOfDie (d : Fin 2) : List (Fin 16) := (allFin 16).filter (fun b => dieOf b = d)

/-- The slot 2k of a pair, and its other bay. -/
def evenOf (a : Fin 16) : Fin 16 := ⟨a.val / 2 * 2, by omega⟩
def oddOf (a : Fin 16) : Fin 16 := ⟨a.val / 2 * 2 + 1, by omega⟩
def slotOfStepper (k : Fin 8) : Fin 16 := ⟨2 * k.val, by omega⟩

/-- Whether the slot is a stepper axis, and whether it is an axis at all (R20). -/
def State.stepperAt (s : State) (a : Fin 16) : Bool := s.isStepper (a.val / 2)
def State.axisExists (s : State) (a : Fin 16) : Bool := !(s.stepperAt a && a.val % 2 = 1)

/-- The axis that uses a bay, and the bays that an axis uses (R18, R30). -/
def State.axisOfBay (s : State) (b : Fin 16) : Fin 16 := if s.stepperAt b then evenOf b else b
def State.baysOfAxis (s : State) (a : Fin 16) : List (Fin 16) := if s.stepperAt a then [evenOf a, oddOf a] else [a]

/-- The bays that a bay-scope forcing acts on: a stepper axis takes it on both bays of its pair (R30). -/
def State.baysWith (s : State) (b : Fin 16) : List (Fin 16) := s.baysOfAxis (s.axisOfBay b)

def State.presentAxes (s : State) : List (Fin 16) := (allFin 16).filter s.axisExists

/-- An axis is enabled in every state but DISABLED and STO (Table 3.7). -/
def AxisState.enabled : AxisState → Bool
  | .disabled | .sto => false
  | _ => true

def State.anyEnabled (s : State) : Bool := s.presentAxes.any (fun a => (s.ax a).state.enabled)
def State.allDisabled (s : State) : Bool := s.presentAxes.all (fun a => (s.ax a).state = .disabled)

/-- Change an axis's state, recording the frame of the change. -/
def State.setAxisState (s : State) (a : Fin 16) (st : AxisState) : State :=
  s.onAx a (fun x => { x with state := st, since := s.frame64 })

/-! ### Events and counters (R7, R68, R230, R469) -/

def State.event (s : State) (e : Event) : State := { s with log := { s.log with fresh := s.log.fresh ++ [e] } }

/-- The event class of a fault by its block (Table 20.5). -/
def faultClass (code : Nat) : Nat :=
  match code / 256 with
  | 0x0B => 3
  | 0x0C => 4
  | 0x0F => 5
  | 0x0D => 6
  | _ => 0

/-- The place of a fault in the order of R469: its axis slot, or 16 for the device. -/
def faultOrder (row : FaultRow) (inst : Nat) : Nat :=
  match row.inst with
  | .axis => inst
  | .axisOrDevice => if inst < 16 then inst else 16
  | .stepper => 2 * inst
  | _ => 16

/-- The rank of a fault's reaction now: parameters and causes replace the table's where its entry says so. -/
def State.rankOf (s : State) (row : FaultRow) (inst : Nat) : Nat :=
  match row.code with
  | 0x0201 => match s.devN 0x0200 with | 0 => 1 | 1 => 2 | _ => 3
  | 0x0304 => if s.devN 0x0306 = 0 then 5 else 6
  | 0x0405 => if s.saf.state = .sto ∨ s.saf.state = .testing ∨ s.saf.state = .locked ∨ s.saf.state = .boot then 1 else 6
  | 0x0801 => match s.parN 0x0812 inst with | 0 => 2 | 1 => 3 | _ => 4
  | 0x0B03 => if inst = 255 then 2 else 1
  | _ => row.rank

def State.isActive (s : State) (code inst : Nat) : Bool := s.faults.any (fun f => f.code = code && f.inst = inst)
def State.isActiveAny (s : State) (code : Nat) : Bool := s.faults.any (fun f => f.code = code)

/-- Raise a fault: it becomes active in this frame and its event waits for the next tick (R10, R503). A fault that is
active already is not raised again. -/
def State.raiseWith (s : State) (code inst : Nat) (data : List Byte) (session : Nat := 255) : State :=
  match FaultTable.find code with
  | none => s
  | some row =>
    if s.isActive code inst then s
    else
      let rank := s.rankOf row inst
      State.event { s with faults := s.faults ++ [{ code := code, inst := inst, frame := s.frame64, rank := rank, data := data }] }
        { code := code, inst := inst, kind := 0, cls := faultClass code, detail := rank, session := session, data := data,
          frame := s.frame64, order := faultOrder row inst }

def State.raise (s : State) (code inst : Nat) : State := s.raiseWith code inst []

/-- Raise a fault whose reaction has begun asynchronously (Table 1.7, faults detected in hardware). -/
def State.raiseForced (s : State) (code inst : Nat) : State :=
  let t := s.raise code inst
  { t with faults := t.faults.map (fun f => if f.code = code && f.inst = inst then { f with started := true } else f) }

/-- Clear an active fault; the clearing is logged when the fault stayed active beyond its frame (R503). -/
def State.clearFault (s : State) (code inst : Nat) : State :=
  match s.faults.find? (fun f => f.code = code && f.inst = inst) with
  | none => s
  | some f =>
    let order := match FaultTable.find code with | some row => faultOrder row inst | none => 16
    let t := { s with faults := s.faults.filter (fun f => !(f.code = code && f.inst = inst)) }
    if f.frame = s.frame64 then t
    else t.event { code := code, inst := inst, kind := 1, cls := faultClass code, detail := f.rank, data := f.data,
                   frame := s.frame64, order := order }

/-- Clear every instance of a fault. -/
def State.clearAll (s : State) (code : Nat) : State :=
  s.each (s.faults.filter (fun f => f.code = code)) (fun f t => t.clearFault f.code f.inst)

/-- Where a counter's saturation shows (R7): status word, sticky bit, fault. -/
def counterSaturation (index : Nat) : Nat × Nat × Nat :=
  if index = 0x0114 then (0x0110, 5, 0x0108)
  else if index = 0x0211 then (0x0210, 0, 0x0202)
  else if index = 0x0212 then (0x0210, 1, 0x0202)
  else if index = 0x0213 then (0x0210, 2, 0x0202)
  else if index = 0x0214 then (0x0210, 3, 0x0202)
  else if index / 256 = 2 then (0x0230, 4, 0x0215)
  else if index / 256 = 3 then (0x0310, 9, 0x0305)
  else if index / 256 = 4 then (0x0413, 7, 0x0411)
  else if index / 256 = 5 then (0x0511, 6, 0x0506)
  else if index / 256 = 7 then (0x0700, 10, 0x060C)
  else if index / 256 = 8 then (0x0820, 7, 0x0807)
  else if index / 256 = 9 then (0x0930, 11, 0x090A)
  else if index / 256 = 10 then (0x0A40, 15, 0x0A04)
  else if index / 256 = 11 then (0x0B20, 7, 0x0B05)
  else if index / 256 = 12 then (0x0C30, 15, 0x0C12)
  else if index / 256 = 13 then (0x0D10, 9, 0x0D09)
  else if index / 256 = 14 then (0x0E10, 2, 0x0E02)
  else if index / 256 = 15 then (0x0F10, 8, 0x0F0A)
  else if index / 256 = 16 then (0x1034, 19, 0x100A)
  else if index / 256 = 17 then (index / 64 * 64 + 32, 18, 0x1106)
  else if index / 256 = 18 then (0x1210, 7, 0x1203)
  else if index / 256 = 19 then (0x1310, 11, 0x1304)
  else (0x1410, 8, 0x1408)

/-- The sub-index of the status word that owns a counter. -/
def statusSub (index sub : Nat) : Nat :=
  if index / 256 = 3 then sub / 3
  else if index / 256 = 5 ∨ index / 256 = 7 ∨ index / 256 = 8 ∨ index / 256 = 9 ∨ index / 256 = 10 ∨ index / 256 = 11
  then sub else 255

/-- The instance of a counter's saturation fault. -/
def saturationInst (index sub : Nat) : Nat :=
  if index / 256 = 4 then sub else if index / 256 = 17 then (index / 64) % 2 else statusSub index sub

/-- Log the event of an occurrence of its own, and make its fault active in this frame: an instance that is active in the
frame already hides no second event (R7, R503). -/
def State.raiseAgain (s : State) (code inst : Nat) : State :=
  let t := { s with faults := s.faults.filter (fun f => !(f.code = code && f.inst = inst)) }
  t.raise code inst

/-- The first saturation or wrap of a counter since reset sets its sticky bit and logs one event; later ones add none (R7). -/
def State.firstSaturation (s : State) (key st su bit code inst : Nat) : State :=
  if s.saturated.contains key then s
  else ({ s with saturated := key :: s.saturated }.stick st su bit).raiseAgain code inst

/-- Count one more in a saturating counter (R7). -/
def State.count (s : State) (index sub : Nat) : State :=
  match ParamTable.find index with
  | none => s
  | some row =>
    let v := s.par index sub
    if row.hi ≤ v then s
    else
      let t := s.setPar index sub (v + 1)
      if v + 1 < row.hi then t
      else
        let (st, bit, code) := counterSaturation index
        t.firstSaturation (regKey index sub) st (statusSub index sub) bit code (saturationInst index sub)

def State.countN (s : State) (index sub : Nat) : Nat → State
  | 0 => s
  | n + 1 => (s.count index sub).countN index sub n

/-- The completion event of a request that replied ACCEPTED_PENDING (R68). -/
def State.complete (s : State) (slot : Option (Fin 8)) (seq : Half) (opcode status : Nat) : State :=
  s.event { code := 0x0280, inst := 255, kind := 2, cls := 9, detail := status,
            session := match slot with | some k => k.val | none => 255,
            extra := seq.toNat, data := [BitVec.ofNat 8 opcode], frame := s.frame64 }

/-! ### Forcing latches (R118, R29) -/

def addSource (src : Nat) (l : List Nat) : List Nat := if l.contains src then l else l ++ [src]
def removeSource (src : Nat) (l : List Nat) : List Nat := l.filter (fun x => !(x = src))

/-- Set the COAST or SHORT latch of one half-bridge for a source of Table 5.6. A first SHORT, which these sources set at the tick,
turns the low-side gate on after the dead time (R111). -/
def State.latchHb (s : State) (coast : Bool) (src : Nat) (h : Fin 48) : State :=
  let t := s.onHb h (fun x =>
    if coast then { x with coast := addSource src x.coast, highPulsed := false }
    else { x with short := addSource src x.short
                  lowFrom := if x.short = [] then s.tb.tickAt + (s.par 0x0301 (h.val / 3) / 5).toNat else x.lowFrom })
  t.onBay (bayOfHb h) (fun b => { b with lastSource := src })

def State.latchBay (s : State) (coast : Bool) (src : Nat) (b : Fin 16) : State :=
  s.each (allFin 3) (fun x t => t.latchHb coast src (hbOf b x))

/-- Release a source's latches of a half-bridge. One released from all its latches runs OFF until `wait` has come: its
AXIS_ENABLE (R120), or its next period start (R148). -/
def State.releaseHbTo (s : State) (wait : Release) (src : Nat) (h : Fin 48) : State :=
  s.onHb h (fun x =>
    let c := removeSource src x.coast
    let d := removeSource src x.short
    { x with coast := c, short := d, release := if c = [] ∧ d = [] ∧ ¬(x.coast = [] ∧ x.short = []) then wait else x.release })

def State.releaseHb (s : State) (src : Nat) (h : Fin 48) : State := s.releaseHbTo .untilEnable src h

def State.releaseBay (s : State) (src : Nat) (b : Fin 16) : State :=
  s.each (allFin 3) (fun x t => t.releaseHb src (hbOf b x))

/-- Every half-bridge of a bay runs OFF until its axis is enabled. -/
def State.bayOff (s : State) (b : Fin 16) : State :=
  s.each (allFin 3) (fun x t => t.onHb (hbOf b x) (fun h => { h with release := .untilEnable }))

/-- AXIS_ENABLE gives the half-bridges of a bay back to their loaded entries (R120). -/
def State.bayEnabled (s : State) (b : Fin 16) : State :=
  s.each (allFin 3) (fun x t => t.onHb (hbOf b x) (fun h => { h with release := .no }))

/-- Whether a half-bridge's low-side path is usable (R128). -/
def State.lowUsable (s : State) (h : Fin 48) : Bool :=
  !(s.die (dieOf (bayOfHb h))).vgdLocked && (s.hb h).lowClean

/-- A switch test runs (R314): TESTING, or the test of BOOT (R315). -/
def State.inTest (s : State) : Bool :=
  s.saf.state = .testing || (s.saf.state = .boot && s.saf.bootTest && (s.saf.hs || s.saf.ls))

/-- What a rail comparator reads at a voltage in mV (R301). -/
def railOf (mv : Nat) : Rail := if 9000 ≤ mv then .present else if mv ≤ 5000 then .removed else .indeterminate

/-- The rail of a die is removed: nothing on it can turn a gate on (R301). -/
def State.railOff (s : State) (d : Fin 2) : Bool := (if d = 0 then s.saf.railA else s.saf.railB) = .removed

/-- The level in force on a half-bridge: the list of R119, with a free half-bridge of a stepper pair switched off where the
list shorts (R31); below it the gate override (R123), a released half-bridge in OFF (R120, R148), and the loaded entry. -/
inductive Level where
  | windingShort | coast | short | off | override | released | entry
  deriving DecidableEq, Repr

/-- Whether a half-bridge is a free W half-bridge of a stepper pair (R19). -/
def State.freeW (s : State) (h : Fin 48) : Bool := s.stepperAt (bayOfHb h) && decide (h.val % 3 = 2)

def State.level (s : State) (h : Fin 48) : Level :=
  let x := s.hb h
  if s.pwm.overVoltage && s.lowUsable h then (if s.freeW h then .off else .windingShort)
  else if !(x.coast = []) then .coast
  else if !(x.short = []) then (if s.freeW h then .off else .short)
  else if 4 ≤ s.parN 0x0307 h.val then .override
  else if !(x.release = .no) then .released
  else .entry

/-- Whether a forcing holds the half-bridge (R29, R119). -/
def Level.forces : Level → Bool
  | .windingShort | .coast | .short | .off => true
  | .override | .released | .entry => false

def State.bayForced (s : State) (b : Fin 16) : Bool := (allFin 3).any (fun x => (s.level (hbOf b x)).forces)

/-! ### Removing moves and reacting (R230, R239, R12) -/

/-- Log that an entry left the queue with an outcome of Table 10.3 (R230). -/
def State.entryLeft (s : State) (a : Fin 16) (m : Move) (outcome : Nat) : State :=
  let p := (s.ax a).demand.p / 65536
  let t := s.event { code := 0x0980, inst := a.val, kind := 2, cls := 2, detail := outcome,
                     data := leBytes 4 m.id ++ leBytesI 4 p, frame := s.frame64, order := a.val }
  if outcome = 0 then (t.onAx a (fun x => { x with lastDone := m.id, completedAt := some s.frame64 })).count 0x0934 a.val else t

/-- Remove every queued entry of an axis with one outcome; reserved slots stay reserved. -/
def State.dropQueue (s : State) (a : Fin 16) (outcome : Nat) : State :=
  let t := s.each (s.ax a).queue (fun m t => t.entryLeft a m outcome)
  t.onAx a (fun x => { x with queue := [], deferred := false })

/-- End a homing run; the AXIS_HOME request completes with a status (R244). -/
def State.endHoming (s : State) (a : Fin 16) (status : Nat) : State :=
  match (s.ax a).homing with
  | none => s
  | some h => (s.onAx a (fun x => { x with homing := none })).complete h.slot h.seq 0x43 status

/-- Discard the state of the loops (R261). -/
def Axis.loopsOff (x : Axis) : Axis := { x with loops := {} }

/-- The axes and bays a fault's scope covers (R11, R30, R150). -/
def State.axesInScope (s : State) (row : FaultRow) (inst : Nat) : List (Fin 16) :=
  s.presentAxes.filter (fun a =>
    if row.code = 0x040C ∧ s.dev 0x0406 = 1 then true
    else match row.scope, row.inst with
    | .device, _ => true
    | .ring, _ => true
    | _, .axis => a.val = inst
    | _, .axisOrDevice => inst = 255 || a.val = inst
    | _, .stepper => a.val = 2 * inst
    | _, .bay => (s.baysOfAxis a).any (fun b => b.val = inst)
    | _, .halfBridge => (s.baysOfAxis a).any (fun b => b.val = inst / 3)
    | _, .die => (s.baysOfAxis a).any (fun b => decide (8 ≤ b.val) = decide (inst = 8))
    | _, _ => false)

def State.baysInScope (s : State) (row : FaultRow) (inst : Nat) : List (Fin 16) :=
  (allFin 16).filter (fun b =>
    if row.code = 0x040C ∧ s.dev 0x0406 = 1 then true
    else match row.scope, row.inst with
    | .device, _ => true
    | .ring, _ => true
    | _, .bay => b.val = inst || (s.stepperAt b && b.val / 2 = inst / 2)
    | _, .halfBridge => b.val = inst / 3 || (s.stepperAt b && b.val / 2 = inst / 6)
    | _, .die => decide (8 ≤ b.val) = decide (inst = 8)
    | _, _ => (s.axesInScope row inst).any (fun a => (s.baysOfAxis a).contains b))

/-- A fault acts on an axis when its scope covers the axis (R503). -/
def State.actsOn (s : State) (f : Active) (a : Fin 16) : Bool :=
  match FaultTable.find f.code with
  | none => false
  | some row => (s.axesInScope row f.inst).contains a

/-- The highest-ranked of a list of active faults; on equal rank the lower code (R503). -/
def worstOf (l : List Active) : Option Active :=
  l.foldl (fun best f =>
    match best with
    | none => some f
    | some b => if b.rank < f.rank || (b.rank = f.rank && f.code < b.code) then some f else best) none

def State.axisFault (s : State) (a : Fin 16) : Nat :=
  match worstOf (s.faults.filter (fun f => s.actsOn f a)) with
  | some f => f.code
  | none => 0

/-- A fault of class STOP or higher is active on the axis. -/
def State.stopFault (s : State) (a : Fin 16) : Bool := s.faults.any (fun f => 3 ≤ f.rank && s.actsOn f a)

/-- The states in which an axis runs its loops (R261). -/
def AxisState.holds : AxisState → Bool
  | .standstill | .moving | .stopping | .fault => true
  | _ => false

/-- Begin a reaction of a rank of Table 0.4 on one axis (Table 1.7, R239). A reaction in progress is never replaced by a
lower-ranked one (R12). An axis that does not run its loops has nothing to decelerate: STOP leaves its state, and QUICK
takes one that is ENABLING to winding short at once (DEDUCED, notes/assumptions/13). -/
def State.reactAxis (s : State) (rank : Nat) (a : Fin 16) : State :=
  let x := s.ax a
  if rank ≤ x.reaction ∨ rank < 3 then s
  else if rank < 7 ∧ !x.state.enabled then s
  else
    let t := (s.dropQueue a 4).endHoming a 0x31
    match rank with
    | 3 => t.onAx a (fun x =>
        if x.state.holds then { x with state := .stopping, since := s.frame64, reaction := 3, stop := some .profile, follow := none, reversing := false }
        else { x with follow := none, reversing := false })
    | 4 => t.onAx a (fun x =>
        if x.state.holds then { x with state := .stopping, since := s.frame64, reaction := 4, stop := some .hard, follow := none, reversing := false }
        else if x.state = .enabling then { x.loopsOff with state := .shorted, since := s.frame64, reaction := 4, stop := none, held := false, enabling := none, follow := none, reversing := false, stepper := { x.stepper with energised := false, slow := true } }
        else { x with follow := none, reversing := false })
    | 5 => t.onAx a (fun x => { x.loopsOff with state := .shorted, since := s.frame64, reaction := 5, stop := none, held := false, enabling := none, follow := none, reversing := false, stepper := { x.stepper with energised := false, slow := true } })
    | 6 => t.onAx a (fun x => { x.loopsOff with state := .coasting, since := s.frame64, reaction := 6, stop := none, held := false, enabling := none, follow := none, reversing := false, stepper := { x.stepper with energised := false, slow := false }, homed := x.homed && !s.stepperAt a })
    | _ => t.onAx a (fun x => { x.loopsOff with state := .sto, since := s.frame64, reaction := 7, stop := none, held := false, enabling := none, follow := none, reversing := false, stepper := { x.stepper with energised := false, slow := false }, homed := x.homed && !s.stepperAt a })

/-- The gear partners of an axis (R253). -/
def State.partners (s : State) (a : Fin 16) : List (Fin 16) :=
  (allFin 16).filter (fun b => !(b = a) &&
    ((match (s.ax b).gear with | some g => g.master = a | none => false) ||
     (match (s.ax a).gear with | some g => g.master = b | none => false)))

/-- The other axes of an axis's gear set, which a reaction on it stops (R252): its master or itself, and every slave of that
master. -/
def State.geared (s : State) (a : Fin 16) : List (Fin 16) :=
  let m := match (s.ax a).gear with | some g => g.master | none => a
  (allFin 16).filter (fun b => !(b = a) && (b = m || (match (s.ax b).gear with | some g => g.master = m | none => false)))

/-- End gearing of a slave (R254): it keeps its demand state and decelerates. -/
def State.ungear (s : State) (sl : Fin 16) : State :=
  s.onAx sl (fun x => { x with gear := none, releasedAt := some s.frame64 })

/-- Release every slave of a master, which is disabled (R254). -/
def State.releaseSlaves (s : State) (m : Fin 16) : State :=
  s.each (allFin 16) (fun b t =>
    match (t.ax b).gear with | some g => if g.master = m then t.ungear b else t | none => t)

/-- The forcing source of Table 5.6 that the reaction of a fault sets at its tick; none when the source has set its own
latch already. -/
def forceSource (code : Nat) : Option Nat :=
  if code = 0x0408 then some 4
  else if code = 0x040E then some 5
  else if code = 0x0304 then some 7
  else if code = 0x0401 ∨ code = 0x0402 ∨ code = 0x0404 ∨ code = 0x0405 ∨ code = 0x0101 then none
  else some 8

/-- A VGD lock-out leaves an axis DISABLED; its moves leave the queue as under a reaction (R133, R239). -/
def State.lockedOut (s : State) (a : Fin 16) : State :=
  let t := ((s.dropQueue a 4).endHoming a 0x31).releaseSlaves a
  t.onAx a (fun x =>
    if x.state = .sto then x
    else { x.loopsOff with state := .disabled, since := s.frame64, enabling := none, follow := none, reversing := false
                           reaction := 0, stop := none, held := false, homed := x.homed && !s.stepperAt a
                           stepper := { x.stepper with energised := false, slow := false } })

/-- Begin the reaction of one fault on everything in its scope (R11, R12, R30, R31, R252). -/
def State.beginReaction (s : State) (f : Active) : State :=
  match FaultTable.find f.code with
  | none => s
  | some row =>
    let axes := s.axesInScope row f.inst
    let t := s.each axes (fun a t => if f.code = 0x0405 then t.lockedOut a else t.reactAxis f.rank a)
    let t := if 3 ≤ f.rank then t.each (axes.flatMap s.geared) (fun a t => t.reactAxis 3 a) else t
    let bays := if f.code = 0x0304 then (s.baysInScope row f.inst).filter (fun b => (s.ax (s.axisOfBay b)).state.enabled)
      else s.baysInScope row f.inst
    let t := match forceSource f.code with
      | some src => if f.rank = 5 ∨ f.rank = 6 then t.each bays (fun b t => t.latchBay (f.rank = 6) src b) else t
      | none => t
    let t := if f.code = 0x0304 then t.each bays (fun b t => t.onBay b (fun y => { y with halted := true })) else t
    { t with faults := t.faults.map (fun g => if g.code = f.code && g.inst = f.inst then { g with started := true } else g) }

end Sys2Proof.Machine
end

