-- ==== Sys2Proof/Machine/Operands.lean ====
section
/-! DEFINITION. The operand forms of requests and the way a request is admitted and answered: axis bytes and masks
(R78), the opcode table (R79), checks 8 and 9 of Table 3.2, the hold of R103, the TAG rule of R90, and replies (R56,
R66). -/

namespace Sys2Proof.Machine

/-! ### Status codes of Table 3.4 -/

namespace Status
abbrev ok : Nat := 0x00
abbrev pending : Nat := 0x01
abbrev alreadyDone : Nat := 0x02
abbrev badCrc : Nat := 0x10
abbrev badLength : Nat := 0x11
abbrev unknownOpcode : Nat := 0x12
abbrev badParameter : Nat := 0x13
abbrev outOfRange : Nat := 0x14
abbrev wrongMode : Nat := 0x15
abbrev busy : Nat := 0x16
abbrev queueFull : Nat := 0x17
abbrev txnConflict : Nat := 0x20
abbrev txnAborted : Nat := 0x21
abbrev txnTimeout : Nat := 0x22
abbrev inconsistent : Nat := 0x23
abbrev safetyInhibit : Nat := 0x30
abbrev faultLatched : Nat := 0x31
abbrev versionMismatch : Nat := 0x40
abbrev authFail : Nat := 0x41
abbrev seqStale : Nat := 0x50
abbrev noSession : Nat := 0x51
abbrev notOwner : Nat := 0x52
abbrev sessionLimit : Nat := 0x53
abbrev nodeUnreachable : Nat := 0x54
abbrev txnLimit : Nat := 0x55
abbrev axisDisabled : Nat := 0x56
abbrev imageInvalid : Nat := 0x57
abbrev learnGated : Nat := 0x58
abbrev internal : Nat := 0x7F
end Status

/-! ### The opcode table -/

/-- The Role column of Table 3.6. -/
inductive RoleCol where
  | none | any | observer | control
  deriving DecidableEq, Repr

/-- The Modes column of Table 3.6. -/
inductive ModesCol where
  | all | rs | ml | service
  deriving DecidableEq, Repr

/-- How an opcode treats a non-zero TAG (R90): it may be staged, it ignores it (a read), it names a transaction with
it, or it is refused. -/
inductive TagRule where
  | staged | ignored | names | refused
  deriving DecidableEq, Repr

/-- One row of Table 3.6; `held` is whether isolated hold refuses it (R103). -/
structure OpRow where
  code : Nat
  role : RoleCol
  modes : ModesCol
  bc : Bool
  tag : TagRule
  held : Bool
  deriving DecidableEq, Repr

def opTable : List OpRow := [
  ⟨0x01, .none, .all, true, .ignored, false⟩, ⟨0x02, .none, .all, true, .ignored, false⟩,
  ⟨0x03, .none, .all, true, .refused, false⟩, ⟨0x04, .any, .all, true, .refused, false⟩,
  ⟨0x10, .observer, .all, false, .ignored, false⟩, ⟨0x11, .control, .all, false, .staged, true⟩,
  ⟨0x12, .observer, .all, false, .ignored, false⟩, ⟨0x13, .control, .all, false, .staged, true⟩,
  ⟨0x20, .control, .rs, false, .names, true⟩, ⟨0x21, .control, .rs, false, .names, true⟩,
  ⟨0x22, .control, .rs, false, .names, true⟩, ⟨0x23, .observer, .rs, false, .names, false⟩] ++ [
  ⟨0x30, .control, .ml, false, .staged, true⟩, ⟨0x31, .control, .ml, false, .staged, true⟩,
  ⟨0x32, .control, .ml, false, .staged, true⟩, ⟨0x33, .control, .ml, false, .staged, true⟩,
  ⟨0x34, .control, .ml, false, .staged, true⟩, ⟨0x35, .control, .ml, false, .refused, false⟩,
  ⟨0x36, .control, .ml, false, .staged, true⟩, ⟨0x37, .control, .ml, false, .staged, true⟩,
  ⟨0x38, .control, .ml, false, .staged, true⟩, ⟨0x39, .control, .ml, false, .staged, true⟩,
  ⟨0x40, .control, .ml, false, .staged, true⟩, ⟨0x41, .control, .rs, false, .refused, false⟩,
  ⟨0x42, .control, .rs, false, .refused, false⟩, ⟨0x43, .control, .ml, false, .refused, true⟩,
  ⟨0x44, .control, .rs, false, .refused, false⟩, ⟨0x45, .control, .service, false, .refused, true⟩] ++ [
  ⟨0x50, .observer, .rs, true, .ignored, false⟩, ⟨0x51, .observer, .rs, true, .ignored, false⟩,
  ⟨0x52, .observer, .all, false, .ignored, false⟩, ⟨0x53, .observer, .all, false, .refused, false⟩,
  ⟨0x60, .observer, .rs, false, .refused, false⟩, ⟨0x61, .observer, .rs, false, .ignored, false⟩,
  ⟨0x62, .control, .rs, false, .refused, true⟩, ⟨0x63, .observer, .rs, false, .refused, false⟩,
  ⟨0x70, .control, .rs, false, .refused, true⟩, ⟨0x71, .control, .rs, true, .staged, true⟩,
  ⟨0x72, .control, .rs, true, .refused, true⟩, ⟨0x73, .observer, .rs, false, .ignored, false⟩] ++ [
  ⟨0x80, .control, .rs, false, .refused, true⟩, ⟨0x81, .control, .rs, false, .refused, true⟩,
  ⟨0x82, .control, .rs, false, .refused, true⟩, ⟨0x83, .control, .rs, false, .refused, true⟩,
  ⟨0x84, .control, .rs, false, .refused, true⟩, ⟨0x85, .control, .service, false, .refused, true⟩,
  ⟨0x90, .observer, .all, true, .ignored, false⟩, ⟨0x91, .any, .rs, true, .refused, false⟩,
  ⟨0x92, .control, .service, false, .refused, true⟩, ⟨0xA0, .observer, .all, true, .ignored, false⟩,
  ⟨0xA1, .observer, .all, false, .ignored, false⟩, ⟨0xA2, .control, .rs, false, .refused, true⟩] ++ [
  ⟨0xB0, .control, .all, true, .refused, true⟩, ⟨0xB1, .control, .all, true, .refused, true⟩,
  ⟨0xB2, .observer, .all, true, .ignored, false⟩, ⟨0xC0, .control, .rs, false, .refused, true⟩,
  ⟨0xC1, .control, .rs, false, .refused, true⟩, ⟨0xC2, .control, .ml, false, .refused, true⟩,
  ⟨0xC3, .control, .rs, false, .staged, true⟩, ⟨0xC4, .control, .service, false, .refused, true⟩]

def opRow (code : Nat) : Option OpRow := opTable.find? (fun o => o.code = code)

/-- Whether a mode is in a Modes column. -/
def ModesCol.has : ModesCol → Mode → Bool
  | .all, _ => true
  | .rs, m => m = .ready || m = .run || m = .limp || m = .service
  | .ml, m => m = .run || m = .limp
  | .service, m => m = .service

/-! ### Axis operands (R20, R78) -/

/-- The axis an axis byte names; none for an absent axis or any other value. -/
def State.axisArg (s : State) (b : Byte) : Option (Fin 16) :=
  if h : b.toNat < 16 then
    if s.stepperAt ⟨b.toNat, h⟩ then none else some ⟨b.toNat, h⟩
  else if h : 0x80 ≤ b.toNat ∧ b.toNat < 0x88 then
    let k : Fin 8 := ⟨b.toNat - 0x80, by omega⟩
    if s.isStepper k.val then some (slotOfStepper k) else none
  else none

/-- The axes an axis byte names where 0xFF means all axes. -/
def State.axesArg (s : State) (b : Byte) : Option (List (Fin 16)) :=
  if b = 0xFF then some s.presentAxes else (s.axisArg b).map (fun a => [a])

/-- Bits 0 to 23 of an axis mask as axis bytes. -/
def maskBytes (m : Word) : List Byte :=
  (List.range 24).filterMap (fun k => if m.toNat.testBit k then some (BitVec.ofNat 8 (if k < 16 then k else 0x80 + (k - 16))) else none)

/-- The axes an axis mask names, in bit order; none when it names an absent axis or a bit above 23. -/
def State.maskArg (s : State) (m : Word) : Option (List (Fin 16)) :=
  if 2 ^ 24 ≤ m.toNat then none
  else (maskBytes m).foldr (fun b l => match s.axisArg b, l with | some a, some t => some (a :: t) | _, _ => none) (some [])

/-! ### Sessions and replies -/

/-- The session slot of a source. -/
def State.slotOf (s : State) (src : Source) : Option (Fin 8) :=
  (allFin 8).find? (fun k => match s.cmd.sessions[k] with | some x => x.src = src | none => false)

def State.session (s : State) (k : Fin 8) : Option Session := s.cmd.sessions[k]

def State.onSession (s : State) (k : Fin 8) (f : Session → Session) : State :=
  { s with cmd := { s.cmd with sessions := upd s.cmd.sessions k (fun o => o.map f) } }

/-- The slot that holds CONTROL (R61). -/
def State.controlSlot (s : State) : Option (Fin 8) :=
  (allFin 8).find? (fun k => match s.cmd.sessions[k] with | some x => x.role = .control | none => false)

/-- Queue the reply of a request executed at this tick; it is built from the next snapshot (R66). -/
def State.answer (s : State) (r : Req) (opcode status : Nat) (body : Body) : State :=
  { s with cmd := { s.cmd with awaiting := s.cmd.awaiting ++
      [{ src := r.src, slot := s.slotOf r.src, opcode := BitVec.ofNat 8 opcode, seq := r.seq, tag := r.tag,
         status := BitVec.ofNat 8 status, body := body }] } }

/-- A refusal: FRAME32 alone (R56). -/
def State.refuse (s : State) (r : Req) (opcode status : Nat) : State := s.answer r opcode status .bare

/-- The session's permission for a Role column (check 8). -/
def RoleCol.permits : RoleCol → Role → Bool
  | .control, .observer => false
  | _, _ => true

/-- The request names a transaction of its session that a takeover aborted (R61). -/
def State.abortedByTakeover (s : State) (r : Req) : Bool :=
  s.mtr.txns.any (fun t => t.notice && !t.orphan && decide (t.state = .aborted) && decide (t.tag = r.tag) && decide (s.slotOf r.src = some t.slot))

/-- Checks 8 and 9 of Table 3.2, the hold of R103 and the TAG rule of R90, for a session of role `role`. A session that
has lost CONTROL is answered TXN_ABORTED where it names a transaction that the takeover aborted (R61): the order of that answer and
check 8 is not given (DEDUCED, notes/assumptions/131). -/
def State.admission (s : State) (op : OpRow) (r : Req) (role : Role) : Option Nat :=
  if !op.role.permits role then some (if s.abortedByTakeover r && op.code ≠ 0x20 then Status.txnAborted else Status.notOwner)
  else if !op.modes.has s.power.mode then some Status.wrongMode
  else if s.mtr.hold && op.held then some Status.inconsistent
  else if r.tag ≠ 0 ∧ op.tag = .refused then some Status.badParameter
  else none

/-- The execution of a request under a row of the table: its checks, then the opcode's own meaning with the session's slot. -/
def State.requestRow (s : State) (op : OpRow) (r : Req) (act : Fin 8 → State → State) : State :=
  match s.slotOf r.src with
  | some k =>
    match s.session k with
    | some x =>
      match s.admission op r x.role with
      | some status => s.refuse r op.code status
      | none => act k s
    | none => s.refuse r op.code Status.noSession
  | none => s.refuse r op.code Status.noSession

/-- The execution of a request that needs a session (step 6 of Table 4.1). -/
def State.request (s : State) (code : Nat) (r : Req) (act : Fin 8 → State → State) : State :=
  match opRow code with
  | some op => s.requestRow op r act
  | none => s.refuse r code Status.noSession

/-- The first check of a list that fails (R57). -/
def firstFail : List (Bool × Nat) → Option Nat
  | [] => none
  | (bad, status) :: rest => if bad then some status else firstFail rest

/-- Run a meaning when no check fails, else refuse with the first failing check's status. -/
def State.checked (s : State) (r : Req) (code : Nat) (checks : List (Bool × Nat)) (act : State → State) : State :=
  match firstFail checks with
  | some status => s.refuse r code status
  | none => act s

/-- The same for a request on one axis byte (R78, R20). -/
def State.onAxis (s : State) (r : Req) (code : Nat) (axis : Byte) (act : Fin 16 → State → State) : State :=
  match s.axisArg axis with
  | none => s.refuse r code Status.badParameter
  | some a => act a s

end Sys2Proof.Machine
end

