-- ==== Sys2Proof/Machine/Mortar.lean ====
section
/-! DEFINITION. Transactions (Mortar: Coherent State and Transactions, R89 to R98): claims, staging, reservations,
ending a transaction, and the meanings of TXN_BEGIN, TXN_ABORT, TXN_STATUS, TXN_TIMEOUT and RECORD_RELEASE. -/

namespace Sys2Proof.Machine

/-- What a staged entry claims (R92). -/
inductive Claim where
  | param (index sub : Nat)
  | axis (a : Fin 16)
  | group (g : Nat)
  | quarry
  deriving DecidableEq, Repr

def State.axisClaim (s : State) (b : Byte) : List Claim :=
  match s.axesArg b with | some l => l.map Claim.axis | none => []

/-- The claims of a request (R92). A request that R90 does not list claims nothing, so that none of them meets TXN_CONFLICT:
"the opcodes that R90 never stages" are read as all of those, not as the four it names (DEDUCED, notes/assumptions/99). -/
def State.claims (s : State) : Instr → List Claim
  | .paramWrite _ e => [.param e.index.toNat e.sub.toNat]
  | .paramWriteMulti _ es => es.map (fun e => .param e.index.toNat e.sub.toNat)
  | .qryRelease _ _ => [.param 0x1201 255]
  | .cntPreset _ c _ => [.param 0x1004 c.toNat]
  | .carrierWrite _ b _ => [.param 0x0300 b.toNat]
  | .bankSwap _ a _ => [.param 0x0A0D a.toNat]
  | .moveAbs _ a .. => s.axisClaim a
  | .moveRel _ a .. => s.axisClaim a
  | .moveVel _ a .. => s.axisClaim a
  | .moveGroup _ g _ _ _ ms => .group g.toNat :: ms.flatMap (fun m => s.axisClaim m.axis)
  | .queueFlush _ a => s.axisClaim a
  | .gearEngage _ m sl .. => s.axisClaim m ++ s.axisClaim sl
  | .gearRelease _ sl => s.axisClaim sl
  | .latchArm _ a .. => s.axisClaim a
  | .stepFollow _ a .. => s.axisClaim a
  | .axisEnable _ a => s.axisClaim a
  | .templateFreeze _ a _ => s.axisClaim a
  | .quarryArm _ _ => [.quarry]
  | _ => []

/-- The payload bytes of a request that may be staged (Tables 3.6 and 4.5). -/
def payloadBytes : Instr → Nat
  | .paramWrite .. | .qryRelease .. | .cntPreset .. | .carrierWrite .. | .bankSwap .. | .gearEngage .. => 12
  | .paramWriteMulti _ es => 4 + 12 * es.length
  | .moveAbs .. | .moveRel .. => 24
  | .moveVel .. => 20
  | .moveGroup _ _ _ _ _ ms => 24 + 8 * ms.length
  | .stepFollow .. => 8
  | _ => 4

/-- The entries a request counts as (Table 4.5). -/
def entryCount : Instr → Nat
  | .paramWriteMulti _ es => es.length
  | _ => 1

def TxnState.final : TxnState → Bool
  | .open_ | .voting | .committing => false
  | _ => true

/-- The value of Table 4.6. -/
def TxnState.code : TxnState → Nat
  | .open_ => 1 | .voting => 2 | .committing => 3 | .committed => 4 | .partial_ => 5 | .aborted => 6
  | .timedOut => 7 | .inconsistent => 8

def State.findTxn (s : State) (k : Fin 8) (tag : Half) : Option Txn :=
  s.mtr.txns.find? (fun t => t.slot = k && t.tag = tag && !t.orphan)

/-- Two entries of the list are the same transaction. -/
def Txn.same (t u : Txn) : Bool :=
  t.slot = u.slot && t.tag = u.tag && t.orphan = u.orphan && (!t.orphan || t.commitArrived = u.commitArrived)

def State.putTxn (s : State) (t : Txn) : State :=
  { s with mtr := { s.mtr with txns := s.mtr.txns.map (fun u => if u.same t then t else u) } }

/-- Store a record; a final one whose session has ended is released (R98). -/
def State.keepTxn (s : State) (t : Txn) : State :=
  if t.orphan && t.state.final then { s with mtr := { s.mtr with txns := s.mtr.txns.filter (fun u => !(u.same t)) } }
  else s.putTxn t

def State.txnClaims (s : State) (t : Txn) : List Claim := t.staged.flatMap (fun e => s.claims e.cmd)

/-- Whether a claim is held by a transaction other than `own` that satisfies `p` (R92). -/
def State.claimed (s : State) (own : Option Txn) (p : Txn → Bool) (cs : List Claim) : Bool :=
  s.mtr.txns.any (fun t => !t.state.final && p t && (match own with | some o => !(o.same t) | none => true) &&
    (s.txnClaims t).any (fun c => cs.contains c))

/-- The refusal of a request that names a transaction in a state (R95, R98). -/
def TxnState.refusal : TxnState → Option Nat
  | .open_ => none
  | .voting | .committing => some Status.busy
  | .committed | .partial_ => some Status.alreadyDone
  | .aborted => some Status.txnAborted
  | .timedOut => some Status.txnTimeout
  | .inconsistent => some Status.inconsistent

/-- The refusal of a request at frame n that names a transaction: one that step 4 or 5 of this tick made final is ALREADY_DONE
(R84). -/
def Txn.refusal (t : Txn) (n : Long) : Option Nat := if t.doneAt = some n then some Status.alreadyDone else t.state.refusal

def Axis.free (x : Axis) : Nat := 32 - (x.queue.length + x.reserved)

/-- The slots a staged request reserves: one per motion entry and axis it names (R91). -/
def State.slotsOf (s : State) (cmd : Instr) : List (Fin 16) :=
  match cmd with
  | .moveAbs _ a .. | .moveRel _ a .. | .moveVel _ a .. => (s.axisArg a).toList
  | .moveGroup _ _ _ _ _ ms => ms.filterMap (fun m => s.axisArg m.axis)
  | _ => []

def State.reserve (s : State) (l : List (Fin 16)) : State :=
  s.each l (fun a t => t.onAx a (fun x => { x with reserved := x.reserved + 1 }))

def State.unreserve (s : State) (l : List (Fin 16)) : State :=
  s.each l (fun a t => t.onAx a (fun x => { x with reserved := x.reserved - 1 }))

/-- Execute a request that may be staged (R90 to R93). With TAG 0 it executes directly unless a transaction in VOTING
or COMMITTING claims its resource; otherwise it is stored in its OPEN transaction with what it prepared, `accept`
follows (a move ID is used up), and it replies. The manual does not order the refusals TXN_CONFLICT, TXN_LIMIT and
QUEUE_FULL: they are made in this order (DESIGN CHOICE, notes/assumptions/97). -/
def State.stageOr (s : State) (k : Fin 8) (r : Req) (code : Nat) (cmd : Instr) (prepared : List (Fin 16 × Move))
    (accept : State → State) (status : Nat) (body : State → Body) (direct : State → State) : State :=
  let cs := s.claims cmd
  if r.tag = 0 then
    if s.claimed none (fun t => t.state = .voting || t.state = .committing) cs then s.refuse r code Status.txnConflict
    else direct s
  else
    match s.findTxn k r.tag with
    | none => s.refuse r code Status.badParameter
    | some t =>
      match t.refusal s.frame64 with
      | some st => s.refuse r code st
      | none =>
        let slots := s.slotsOf cmd
        let total := (s.mtr.txns.map (fun u => if u.state.final then 0 else u.bytes)).foldl (· + ·) 0
        if s.claimed (some t) (fun _ => true) cs then s.refuse r code Status.txnConflict
        else if 256 < t.entries + entryCount cmd ∨ 65536 < t.bytes + payloadBytes cmd ∨ 262144 < total + payloadBytes cmd
        then s.refuse r code Status.txnLimit
        else if slots.any (fun a => (s.ax a).free = 0) then s.refuse r code Status.queueFull
        else
          let t' := { t with staged := t.staged ++ [{ cmd := cmd, opcode := BitVec.ofNat 8 code, prepared := prepared }],
                             bytes := t.bytes + payloadBytes cmd, entries := t.entries + entryCount cmd }
          let u := accept ((s.putTxn t').reserve slots)
          u.answer r code status (body u)

/-- The completion status of a transaction's outcome (R68, R96). -/
def TxnState.completion : TxnState → Nat
  | .aborted => Status.txnAborted
  | .timedOut => Status.txnTimeout
  | .inconsistent => Status.inconsistent
  | _ => Status.ok

/-- A staged write replied ACCEPTED_PENDING (R72), and so completes with its transaction (R96). -/
def Staged.awaits (e : Staged) : Bool := e.opcode = 0x11 || e.opcode = 0x13

def Staged.seq (e : Staged) : Half :=
  match e.cmd with
  | .paramWrite r _ | .paramWriteMulti r _ | .qryRelease r _ | .cntPreset r .. | .carrierWrite r .. | .bankSwap r .. => r.seq
  | _ => 0

/-- End a transaction in a final state (Table 4.7): claims and the reservations of entries that were not applied are
released, the counters and the completion events follow (R68, R96). A coordinator's transaction that ends INCONSISTENT counts
neither as committed nor as aborted, and every ring transaction that ends here becomes the last one of Table 4.4, also one
that never reached PREPARE (DESIGN CHOICE, notes/assumptions/98). -/
def State.endTxn (s : State) (t : Txn) (final : TxnState) (status : Nat) : State :=
  let s1 := if final = .committed ∨ final = .partial_ ∨ (final = .inconsistent ∧ t.coordinator) then s
    else s.unreserve (t.staged.flatMap (fun e => s.slotsOf e.cmd))
  let s2 := s1.keepTxn { t with state := final, staged := [], finalAt := s.frame64 }
  let s3 := if t.commit.isSome ∧ (t.coordinator ∨ ¬t.ring) then s2.complete (some t.slot) t.commitSeq 0x21 status else s2
  let s4 := s3.each (t.staged.filter Staged.awaits) (fun e u => u.complete (some t.slot) e.seq e.opcode.toNat status)
  let s5 := if final = .committed ∨ final = .partial_ then s4.count 0x0231 255
    else if final = .aborted ∨ final = .timedOut then s4.count 0x0232 255 else s4
  if t.ring then { s5 with mtr := { s5.mtr with
    lastRing := some (t.client, t.tag, final, (t.commit.getD 0).setWidth 32) } } else s5

def State.abortTxn (s : State) (t : Txn) : State := s.endTxn t .aborted Status.txnAborted

/-- Abort the open transactions of a session (R61, R64). -/
def State.abortOpen (s : State) (k : Fin 8) : State :=
  s.each (s.mtr.txns.filter (fun t => t.slot = k && !t.orphan && t.state = .open_)) (fun t u => u.abortTxn t)

/-- The session of a slot ends: its final records go, and what still votes or commits runs to its end (R64, R98). -/
def State.releaseRecords (s : State) (k : Fin 8) : State :=
  let kept := s.mtr.txns.filter (fun t => !(t.slot = k && !t.orphan && t.state.final))
  { s with mtr := { s.mtr with txns := kept.map (fun (t : Txn) => if t.slot = k then { t with orphan := true } else t) } }

def State.liveTxns (s : State) : Nat := (s.mtr.txns.filter (fun t => !t.state.final)).length
def State.ringTxns (s : State) : Nat :=
  (s.mtr.txns.filter (fun t => t.ring && (t.state = .voting || t.state = .committing))).length

/-! ### Meanings -/

/-- TXN_BEGIN (R89, R93, R99). `joined` is whether the node is on a ring. -/
def State.beginTxn (s : State) (r : Req) (k : Fin 8) (flags : Byte) (timeout : Half) (joined : Bool) : State :=
  let old := s.findTxn k r.tag
  let ring := flags &&& 1 = 1
  let client := match s.session k with | some x => x.client | none => 0
  s.checked r 0x20
    [(r.tag = 0, Status.badParameter),
     (2 ≤ flags.toNat, Status.badParameter),
     (ring && !joined, Status.badParameter),
     (match old with | some t => !t.state.final | none => false, Status.badParameter),
     (1 ≤ timeout.toNat && timeout.toNat < 20, Status.outOfRange),
     (8 ≤ s.liveTxns, Status.txnLimit),
     (4 ≤ (s.mtr.txns.filter (fun t => t.slot = k && !t.orphan && !t.state.final)).length, Status.txnLimit)]
    (fun s =>
      let frames := if timeout = 0 then s.devN 0x0221 else timeout.toNat
      let t : Txn := { slot := k, tag := r.tag, client := client, ring := ring, state := .open_,
                       deadline := r.arrived + frames * 10000 }
      let kept := s.mtr.txns.filter (fun u => !(u.slot = k && u.tag = r.tag && !u.orphan))
      State.answer { s with mtr := { s.mtr with txns := kept ++ [t] } } r 0x20 Status.ok .bare)

/-- TXN_ABORT (R97). R97 answers ALREADY_DONE after the decision or at T(c) where R98 refuses a request by the final state: R97
is taken for a ring transaction whose decision is known here and for the tick T(c), R98 for every other record (DEDUCED,
notes/assumptions/101). -/
def execTxnAbort (r : Req) (s : State) : Host.Outcome State Fault Refusal :=
  .next (s.request 0x22 r (fun k s =>
    match s.findTxn k r.tag with
    | none => s.refuse r 0x22 Status.badParameter
    | some t =>
      if t.doneAt = some s.frame64 then s.refuse r 0x22 Status.alreadyDone
      else match t.state with
      | .open_ => (s.abortTxn t).answer r 0x22 Status.ok .bare
      | .committing =>
        if t.ring then s.refuse r 0x22 Status.alreadyDone
        else (s.abortTxn t).answer r 0x22 Status.ok .bare
      | .voting =>
        if t.coordinator then
          (s.putTxn { t with decided := some false }).answer r 0x22 Status.ok .bare
        else s.refuse r 0x22 Status.busy
      | .aborted => s.refuse r 0x22 (if t.ring && t.decided.isSome then Status.alreadyDone else Status.txnAborted)
      | .timedOut => s.refuse r 0x22 Status.txnTimeout
      | .inconsistent => s.refuse r 0x22 (if t.ring && t.decided.isSome then Status.alreadyDone else Status.inconsistent)
      | .committed | .partial_ => s.refuse r 0x22 Status.alreadyDone))

/-- TXN_STATUS (R98); its fields come from the snapshot of the frame that it reports (R85). -/
def execTxnStatus (r : Req) (s : State) : Host.Outcome State Fault Refusal :=
  .next (s.request 0x23 r (fun k s =>
    s.answer r 0x23 Status.ok (.txn k r.tag)))

/-- TXN_TIMEOUT (R94): an OPEN transaction whose deadline the tick has reached ends TIMED_OUT. -/
def execTxnTimeout (k : Fin 8) (tag : Half) (s : State) : Host.Outcome State Fault Refusal :=
  .next (match s.findTxn k tag with
    | some t => if t.state = .open_ ∧ t.deadline ≤ s.tb.tickAt then s.endTxn t .timedOut Status.txnTimeout else s
    | none => s)

/-- RECORD_RELEASE (R98): a final record is released after MTR.RECORD_HOLD frames. -/
def execRecordRelease (k : Fin 8) (tag : Half) (s : State) : Host.Outcome State Fault Refusal :=
  .next (match s.findTxn k tag with
    | some t =>
      if t.state.final ∧ s.devN 0x0223 ≤ (s.frame64 - t.finalAt).toNat then
        { s with mtr := { s.mtr with txns := s.mtr.txns.filter (fun u => !(u.same t)) } }
      else s
    | none => s)

end Sys2Proof.Machine
end

