-- ==== Sys2Proof/Machine/Planner.lean ====
section
/-! DEFINITION. The jerk-limited planner (Motion Profiles, Queues and Gearing, R221, R229, R231, R235). Positions,
velocities and accelerations are in 2^-16 counts, counts/s and counts/s²; limits are passed in the same scale. -/

namespace Sys2Proof.Machine

/-- Frames per second. -/
abbrev frameRate : Int := 20000

/-- A demand state in i64 (R221): its position is then within the 48 bits of R222. -/
def Demand.fit (d : Demand) : Demand := { p := sat64 d.p, v := sat64 d.v, a := sat64 d.a }

/-- One frame of the demand state at a jerk, each result rounded half away from zero (R221). -/
def Demand.step (d : Demand) (j : Int) : Demand :=
  { p := rdiv (6 * frameRate * frameRate * frameRate * d.p + 6 * frameRate * frameRate * d.v + 3 * frameRate * d.a + j)
      (6 * frameRate * frameRate * frameRate)
    v := rdiv (2 * frameRate * frameRate * d.v + 2 * frameRate * d.a + j) (2 * frameRate * frameRate)
    a := rdiv (frameRate * d.a + j) frameRate : Demand }.fit

/-- Reflect a demand state so that a direction of −1 becomes forward. -/
def Demand.flip (d : Demand) (dir : Int) : Demand := { p := dir * d.p, v := dir * d.v, a := dir * d.a }

/-- The speed that remains once the acceleration of a state has been ramped to 0 at jerk `j`. -/
def restSpeed (v a j : Int) : Int := if j = 0 then v else v + rdiv (a * a.natAbs) (2 * j)

/-- d_stop of R231: the distance from speed `v` and acceleration `a` to speed `vj` with acceleration 0, along the
profile that ramps to −`dd` at jerk `j`, holds, and ramps to 0; the peak is reduced when the hold is not reached. -/
def dStop (v a dd j vj : Int) : Int :=
  if j ≤ 0 ∨ dd ≤ 0 then 0
  else
    let w := 2 * j * (v - vj) + a * a
    if a < -dd then
      let t := -a - dd
      let v1 := v - rdiv (a * a - dd * dd) (2 * j)
      let s0 := rdiv (6 * j * v * t + 3 * a * t * t + t * t * t) (6 * j * j)
      let v2 := vj + rdiv (dd * dd) (2 * j)
      s0 + rdiv (max 0 (v1 * v1 - v2 * v2)) (2 * dd) + rdiv (6 * j * vj * dd + dd * dd * dd) (6 * j * j)
    else if a < 0 ∧ 2 * j * (v - vj) ≤ a * a then
      rdiv (3 * j * v * (-a) - (-a) * (-a) * (-a)) (3 * j * j)
    else if w ≤ 0 then 0
    else
      let dp := min dd (isqrtI (w / 2))
      if dp ≤ 0 then 0
      else
        let t := a + dp
        let s1 := rdiv (6 * j * v * t + 3 * a * t * t - t * t * t) (6 * j * j)
        let v1 := v + rdiv (a * a - dp * dp) (2 * j)
        let v2 := vj + rdiv (dp * dp) (2 * j)
        let s2 := rdiv (max 0 (v1 * v1 - v2 * v2)) (2 * dp)
        s1 + s2 + rdiv (6 * j * vj * dp + dp * dp * dp) (6 * j * j)

/-- trim of R231 for the acceleration: a jerk that would pass `lo` or `hi` lands on it. -/
def trimA (a c lo hi j : Int) : Int :=
  let a1 := a + rdiv c frameRate
  if 0 < c ∧ hi < a1 then clampI (-j) c ((hi - a) * frameRate)
  else if c < 0 ∧ a1 < lo then clampI c j ((lo - a) * frameRate)
  else if c = 0 ∧ a < lo then min j ((lo - a) * frameRate)
  else c

/-- trim of R231 for the speed: a jerk after which the ramp of the acceleration to 0 would pass `vmax` is reduced so
that the ramp ends on `vmax` (DEDUCED, notes/assumptions/40). -/
def trimV (v a c vmax j : Int) : Int :=
  let a1 := a + rdiv c frameRate
  let v1 := v + rdiv (2 * frameRate * a + c) (2 * frameRate * frameRate)
  if a1 ≤ 0 ∨ restSpeed v1 a1 j ≤ vmax then c
  else
    let disc := j * j - 4 * j * frameRate * (2 * v * frameRate + a - 2 * vmax * frameRate)
    let x := if 0 < disc then max 0 ((isqrtI disc - j) / (2 * frameRate)) else 0
    clampI (-j) c ((x - a) * frameRate)

/-- trim of R231 toward the joint speed: a jerk that would leave more deceleration than the final ramp to 0 at `j` can
take off before the speed is `vj` lands on that ramp, so that the planner follows the profile of d_stop
(DEDUCED, notes/assumptions/40). -/
def trimJ (v a c vj j : Int) : Int :=
  let a1 := a + rdiv c frameRate
  let v1 := v + rdiv (2 * frameRate * a + c) (2 * frameRate * frameRate)
  if 0 ≤ a1 ∨ vj ≤ restSpeed v1 a1 j then c
  else
    let disc := j * j + 4 * j * frameRate * (2 * v * frameRate + a - 2 * vj * frameRate)
    let y := if 0 < disc then max 0 ((isqrtI disc - j) / (2 * frameRate)) else 0
    clampI c j ((-y - a) * frameRate)

/-- Take the first candidate jerk whose step passes a test, most forward first; `last` otherwise. -/
def pickStep (d : Demand) (trim : Int → Int) (ok : Demand → Bool) : List Int → Demand → Demand
  | [], last => last
  | c :: cs, last => let s := d.step (trim c); if ok s then s else pickStep d trim ok cs last

/-- Decelerate a forward state to rest at `dd` and `j`; velocity never reverses within a frame (R231, R235). -/
def stopForward (d : Demand) (dd j : Int) : Demand :=
  let s := d.step (trimJ d.v d.a (trimA d.a (-j) (-dd) (max 0 d.a) j) 0 j)
  if s.v ≤ 0 ∨ (s.v ≤ 6553600 ∧ (s.a.natAbs : Int) * frameRate ≤ 4 * j) then { p := s.p, v := 0, a := 0 } else s

/-- Bring a demand to rest (R236, R239, R240). -/
def planStop (d : Demand) (dd j : Int) : Demand :=
  let m := if d.v ≠ 0 then signI d.v else signI d.a
  if m = 0 then { d with a := 0 } else ((stopForward (d.flip m) dd j).flip m)

/-- One frame of a demand that moves away from its target: to a standstill, with the acceleration ramped at J throughout (R231). -/
def planReverse (d : Demand) (dd j : Int) : Demand :=
  let m := signI d.v
  let f := d.flip m
  let s := f.step (trimJ f.v f.a (trimA f.a (-j) (-dd) (max 0 f.a) j) 0 j)
  (if s.v < 0 then { s with v := 0 } else s).flip m

/-- The conditions of landing (R231): within 1 count, |v| ≤ 100 counts/s and |a| ≤ J × 4T. -/
def canLand (d : Demand) (target j : Int) : Bool :=
  decide ((target - d.p).natAbs ≤ 65536) && decide (d.v.natAbs ≤ 6553600) && decide ((d.a.natAbs : Int) * frameRate ≤ 4 * j)

/-- One frame toward a target (R231): the new demand, and whether it has landed on the target or passed its joint.
The landing falls in the last frame of the final ramp, as the worked example of R231 does
(DEDUCED, notes/assumptions/41). -/
def planMove (d : Demand) (target vmax amax dd j vj : Int) : Demand × Bool :=
  let dir := if target ≠ d.p then signI (target - d.p) else if d.v ≠ 0 then signI d.v else 1
  let f := d.flip dir
  let t := dir * target
  if vj = 0 ∧ (target - d.p).natAbs ≤ 65536 ∧ d.v.natAbs ≤ 6553600 ∧ (d.a.natAbs : Int) * frameRate ≤ 12 * j ∧
      d.v * d.a ≤ 0 then
    let m := if d.v ≠ 0 then signI d.v else -(signI d.a)
    let s := (d.flip m).step (clampI (-j) j (-(d.flip m).a * frameRate))
    let s := (if s.v < 0 then { s with v := 0, a := 0 } else s).flip m
    if canLand s target j ∧ (s.v = 0 ∨ (s.a.natAbs : Int) * 2 * frameRate ≤ j) then ({ p := target, v := 0, a := 0 }, true)
    else (s, false)
  else if f.v < 0 then ((planReverse d dd j), false)
  else
    let tol := j / (8 * frameRate * frameRate) + 2
    let trim := fun c => trimJ f.v f.a (trimV f.v f.a (trimA f.a c (-dd) amax j) vmax j) vj j
    let ok := fun s : Demand =>
      decide (restSpeed s.v (max 0 s.a) j ≤ vmax + tol) && decide (dStop s.v s.a dd j vj ≤ t - s.p)
    let brake := f.step (trimJ f.v f.a (trimA f.a (-j) (-dd) amax j) vj j)
    let s := pickStep f trim ok [j, 0, -j] brake
    let s := if s.v < 0 then { p := s.p, v := 0, a := 0 } else s
    let s := if s.a = 0 ∧ (s.v - vmax).natAbs ≤ tol.toNat then { s with v := vmax } else s
    if vj = 0 then
      if canLand s t j ∧ (s.v = 0 ∨ (s.a.natAbs : Int) * 2 * frameRate ≤ j) then ({ p := target, v := 0, a := 0 }, true)
      else (s.flip dir, false)
    else (s.flip dir, decide (t ≤ s.p))

/-- One frame toward a velocity (R229): A while the speed rises, D while it falls. It ends on the velocity with its acceleration
ramped to 0; toward rest it lands from 100 counts/s. -/
def planVelocity (d : Demand) (goal amax dd j : Int) : Demand :=
  let e := if goal ≠ d.v then signI (goal - d.v) else -(signI d.a)
  if e = 0 then d.step 0
  else
    let rising : Bool := d.v = 0 || signI d.v = e
    let hi := if rising then amax else dd
    let lo := -(if rising then dd else amax)
    let f := d.flip e
    let g := e * goal
    let tol := 4 * j / (frameRate * frameRate) + 2
    let trim := fun c => trimV f.v f.a (trimA f.a c lo hi j) g j
    let last := d.step (clampI (-j) j (-d.a * frameRate))
    let s := (pickStep f trim (fun s => decide (restSpeed s.v (max 0 s.a) j ≤ g + tol)) [j, 0] (f.step (trim (-j)))).flip e
    if last.a = 0 ∧ (goal - last.v).natAbs ≤ (j / (8 * frameRate * frameRate) + 2).toNat then { last with v := goal }
    else if goal = 0 ∧ s.v.natAbs ≤ 6553600 ∧ (s.a.natAbs : Int) * frameRate ≤ 4 * j then { p := s.p, v := 0, a := 0 }
    else s

/-- Whether a move would brake toward rest in this frame (SMOOTH joint, R232). -/
def wouldBrake (d : Demand) (target amax dd j : Int) : Bool :=
  let dir := if target ≠ d.p then signI (target - d.p) else if d.v ≠ 0 then signI d.v else 1
  let f := d.flip dir
  if f.v < 0 then true
  else
    let s := f.step (trimA f.a 0 (-dd) amax j)
    decide (dir * target - s.p < dStop s.v s.a dd j 0)

end Sys2Proof.Machine
end

