-- ==== Sys2Proof/Machine/Profile.lean ====
section
/-! DEFINITION. The move queue and the demand of one axis (Motion Profiles, Queues and Gearing, R221 to R243): limits,
the checks of Table 10.2, queueing, and one frame of the planner. -/

namespace Sys2Proof.Machine

/-- One count in the units of R221. -/
abbrev Q : Int := 65536

/-- The integer part of the demand position (R222). -/
def Demand.counts (d : Demand) : Int := d.p / Q

/-! ### Limits (R206, R228, R229, R242 to R244, R344) -/

def capped (cap : Option Int) (v : Int) : Int := match cap with | some c => min v c | none => v

/-- The highest speed of a stepper axis in counts/s: its index advances by at most 128 counts per frame (R206). -/
abbrev stepperSpeed : Int := 2560000

/-- The cap of Limp on every move of an axis (R344). -/
def State.limpCap (s : State) (a : Fin 16) : Option Int :=
  if s.power.mode = .limp then some (s.par 0x0902 a.val * s.dev 0x0D05 / 10000) else none

/-- The caps on an axis's speed: Limp (R344), an unhomed axis (R243), and a stepper axis, whose index no motion advances
further, whatever its parameters were when the motion was accepted (R206). -/
def State.speedCap (s : State) (a : Fin 16) : Option Int :=
  let limp := s.limpCap a
  let homing := if !(s.ax a).homed && s.par 0x090D a.val = 1 then some (capped limp (s.par 0x090E a.val)) else limp
  if s.stepperAt a then some (capped homing stepperSpeed) else homing

/-- V, A, D and J of an entry, in counts (R228). The limits of a started GROUP entry are fixed, but against the cap of Limp
(DEDUCED, notes/assumptions/22); an entry that braked when its successor came keeps its speed (R232). -/
structure MoveLimits where
  v : Int
  a : Int
  d : Int
  j : Int
  deriving DecidableEq, Repr

def State.moveLimits (s : State) (a : Fin 16) (m : Move) : MoveLimits :=
  { v := if m.kind = .group ∧ m.began then capped (s.limpCap a) m.v
         else capped m.jointCap (capped (s.speedCap a) (if m.v = 0 then s.par 0x0902 a.val else m.v))
    a := if m.a = 0 then s.par 0x0903 a.val else m.a
    d := if m.d = 0 then s.par 0x0904 a.val else m.d
    j := if m.j = 0 then s.par 0x0905 a.val else m.j }

/-- End-of-travel is in force (R242). -/
def State.eot (s : State) (a : Fin 16) : Bool := (s.ax a).homed && s.par 0x090B a.val = 1

def State.outside (s : State) (a : Fin 16) (t : Int) : Bool :=
  s.eot a && (decide (t < s.par 0x0909 a.val) || decide (s.par 0x090A a.val < t))

/-- The side on which the measured position lies beyond the margin: 1, −1 or 0 (R242). -/
def State.beyondSide (s : State) (a : Fin 16) : Int :=
  if !s.eot a then 0
  else if s.par 0x090A a.val + s.par 0x090C a.val < (s.ax a).measured then 1
  else if (s.ax a).measured < s.par 0x0909 a.val - s.par 0x090C a.val then -1
  else 0

/-- The bound of end-of-travel in a direction, and the sign of the opening direction (R242). -/
def State.bound (s : State) (a : Fin 16) (dir : Int) : Int := if 0 < dir then s.par 0x090A a.val else s.par 0x0909 a.val
def State.openSign (s : State) (a : Fin 16) : Int := if s.par 0x0901 a.val = 0 then 1 else -1

/-- Where the axis stops at a deceleration and jerk (R235), in counts. -/
def stopPoint (d : Demand) (dd j : Int) : Int :=
  let m := if d.v ≠ 0 then signI d.v else signI d.a
  let f := d.flip m
  rdiv (d.p + m * dStop f.v f.a (dd * Q) (j * Q) 0) Q

/-! ### Checks of motion requests (R227, Table 10.2) -/

/-- The state checks 2 to 4 that every motion request on one axis meets. -/
def State.axisChecks (s : State) (a : Fin 16) : List (Bool × Nat) :=
  let x := s.ax a
  [(x.state = .disabled, Status.axisDisabled),
   (x.state = .stopping || x.state = .fault || x.state = .shorted || x.state = .coasting || x.state = .sto ||
      s.stopFault a, Status.faultLatched),
   (x.gear.isSome || x.follow.isSome || x.homing.isSome, Status.busy)]

/-- Whether an axis is the master of a slave (R248). -/
def State.masters (s : State) (a : Fin 16) : Bool :=
  (allFin 16).any (fun b => match (s.ax b).gear with | some g => g.master = a | none => false)

/-- The limit part of check 5 for a speed `v` and the limits of a request (R206, R229). -/
def State.limitBad (s : State) (a : Fin 16) (v : Int) (lim : Limits) : Bool :=
  decide (v < 0) || decide (s.par 0x0906 a.val < v) ||
  decide (s.par 0x0907 a.val < lim.amax.toNat) || decide (s.par 0x0907 a.val < lim.dmax.toNat) ||
  decide (s.par 0x0908 a.val < lim.jmax.toNat) ||
  (s.stepperAt a && decide (stepperSpeed < v))

/-- The speed a request's V field asks for. -/
def State.askedV (s : State) (a : Fin 16) (lim : Limits) : Int :=
  if lim.vmax = 0 then s.par 0x0902 a.val else lim.vmax.toInt

/-- The entry that plans the present frame: the first that no SMOOTH successor has overtaken. -/
def Axis.planning (x : Axis) : Option Move := x.queue.find? (fun m => !m.passed)

/-- The move in progress as the device reports it: the first queued entry (R224). -/
def Axis.inProgress (x : Axis) : Option Move := x.queue.head?

/-- The entry that the planner moves by: the one that plans the frame, once it has begun. -/
def Axis.planned (x : Axis) : Option Move :=
  match x.planning with | some m => if m.began then some m else none | none => none

/-- R228: the target a REL distance is added to, when it is known at queueing. -/
def Axis.relBase (x : Axis) (replace : Bool) : Option Int :=
  if replace then none
  else match x.queue.getLast? with
    | some m => if m.kind = .vel then none else m.target
    | none => none

/-- Whether a request's entry is planned from the present moving state (R232, R233, R240). -/
def Axis.startsNow (x : Axis) (replace : Bool) : Bool :=
  replace || (x.stop.isNone && (x.queue = [] || (match x.queue.getLast? with | some m => m.kind = .vel | none => false)))

/-- R235: a target behind the axis or nearer than it can stop, whose stopping point lies outside end-of-travel. -/
def State.crossing (s : State) (a : Fin 16) (t : Int) (dd j : Int) (now : Bool) : Bool :=
  let d := (s.ax a).demand
  let m := if d.v ≠ 0 then signI d.v else signI d.a
  now && decide (m ≠ 0) && decide (m * (t - stopPoint d dd j) < 0) && s.outside a (stopPoint d dd j)

/-- R243: positioning is refused on an unhomed axis that must be homed. -/
def State.unhomed (s : State) (a : Fin 16) : Bool := !(s.ax a).homed && s.par 0x090D a.val = 1

/-- The part of check 5 that an entry meets beyond its limits (R235, R242, R243). A REL entry whose target is resolved only
when it starts is checked against end-of-travel then (R228); here its reversal is. -/
def State.entryBad (s : State) (a : Fin 16) (m : Move) : Bool :=
  let x := s.ax a
  let replace : Bool := m.flags % 2 = 1
  if m.kind = .vel then decide (0 < s.beyondSide a * m.target.getD 0)
  else
    let now := x.startsNow replace
    let l := s.moveLimits a m
    let known := m.target.orElse (fun _ => (x.relBase replace).map (fun b => b + m.relative))
    s.unhomed a ||
    match known with
    | some t => s.outside a t || (decide (s.beyondSide a ≠ 0) && decide (0 < s.beyondSide a * (t - x.measured))) ||
        s.crossing a t l.d l.j now
    | none => s.crossing a (x.demand.counts + m.relative) l.d l.j now

/-- Check 6: no free slot, counting those a `REPLACE` would release. -/
def State.queueBad (s : State) (a : Fin 16) (replace : Bool) : Bool :=
  if replace then decide (32 ≤ (s.ax a).reserved) else (s.ax a).free = 0

/-! ### Queue changes -/

/-- Take an axis out of a coordinated group (R255). -/
def State.leaveGroup (s : State) (a : Fin 16) (m : Move) : State :=
  match m.group with
  | none => s
  | some g =>
    match s.motion.groups[g] with
    | none => s
    | some grp =>
      let rest := grp.members.filter (fun b => !(b = a))
      { s with motion := { s.motion with
          groups := s.motion.groups.set g (if rest = [] then none else some { grp with members := rest }) } }

/-- Remove every queued entry with an outcome; members leave their groups (R233, R236, R255). -/
def State.clearQueue (s : State) (a : Fin 16) (outcome : Nat) : State :=
  (s.each (s.ax a).queue (fun m t => t.leaveGroup a m)).dropQueue a outcome

/-- Change the queue entry at a place. -/
def State.setEntry (s : State) (a : Fin 16) (i : Nat) (m : Move) : State :=
  s.onAx a (fun x => { x with queue := x.queue.set i m })

/-- R226: the next move ID of an axis, and of the device's groups. -/
def nextMoveId (n : Nat) : Nat := n % 0x7FFFFFFF + 1

/-- Whether holding the acceleration would make the planner brake toward rest in this frame (R232). -/
def State.braking (s : State) (a : Fin 16) (m : Move) : Bool :=
  let l := s.moveLimits a m
  match m.target with
  | some t => wouldBrake (s.ax a).demand (t * Q) (l.a * Q) (l.d * Q) (l.j * Q)
  | none => false

/-- The speed in counts/s that a demand reaches while its acceleration ramps to 0 at a jerk. -/
def Demand.peakSpeed (d : Demand) (j : Int) : Int :=
  let f := d.flip (if d.v ≠ 0 then signI d.v else signI d.a)
  (restSpeed f.v (max 0 f.a) (j * Q) + 65535) / Q

/-- Queue an accepted entry (R224, R228, R233). A slot reserved for it is released by the caller. One queued to an empty
queue starts at the next tick (R232), but for a group, which starts when its members are ready (R255), and for a slave released
at this tick (R254) (DEDUCED, notes/assumptions/21). A successor of an entry that is braking changes its plan from the next tick
(R232). -/
def State.enqueue (s : State) (a : Fin 16) (m : Move) : State :=
  let replace := m.flags % 2 = 1
  let x0 := s.ax a
  let waits : Bool := !replace && x0.queue = [] && !(m.kind = .group) && !(x0.releasedAt = some s.frame64)
  let kept : Move := match x0.planned with
    | some c => if replace then { m with keptD := c.keptD, keptJ := c.keptJ, fresh := true } else m
    | none => m
  let s := if replace then (s.clearQueue a 2).onAx a (fun x => { x with stop := if x.reaction = 0 then none else x.stop, startAt := s.frame64 }) else s
  let x := s.ax a
  let m := if kept.kind = .rel ∧ kept.target = none then
      { kept with target := (x.relBase false).map (fun b => b + kept.relative) } else kept
  let (queue, m) : List Move × Move := match x.queue.getLast? with
    | some p =>
      if p.began ∧ !p.passed ∧ p.kind ≠ .vel ∧ s.braking a p then
        (if m.blend = 1 then x.queue.dropLast ++ [{ p with jointCap := some (x.demand.peakSpeed (s.moveLimits a p).j) }] else x.queue,
         { m with joinsAt := s.frame64 + 1 })
      else (x.queue, m)
    | none => (x.queue, m)
  s.onAx a (fun x => { x with queue := queue ++ [m], obstruction := x.obstruction && m.kind = .reversal
                              startAt := if waits then s.frame64 + 1 else x.startAt })

/-- Remove the entry at a place as finished with an outcome (R230). -/
def State.finishEntry (s : State) (a : Fin 16) (i : Nat) (outcome : Nat) : State :=
  match (s.ax a).queue[i]? with
  | none => s
  | some m =>
    let t := s.onAx a (fun x => { x with queue := x.queue.eraseIdx i })
    let t := t.entryLeft a m outcome
    t.onAx a (fun x => { x with deferred := x.queue.any (fun q => q.deferred) })

/-! ### One frame of the planner (R228 to R235) -/

/-- The smallest value above `lo` and up to `hi` that passes, `hi` passing (integer bisection). -/
def leastFrom : Nat → Int → Int → (Int → Bool) → Int
  | 0, _, hi, _ => hi
  | n + 1, lo, hi, ok =>
    if hi ≤ lo + 1 then hi
    else
      let mid := (lo + hi) / 2
      if ok mid then leastFrom n lo mid ok else leastFrom n mid hi ok

/-- R234: the deceleration and jerk in force for an entry in this frame, and whether rule 4 begins to keep them. -/
def State.keptLimits (s : State) (a : Fin 16) (m : Move) (t vj : Int) : Int × Int × Bool :=
  let l := s.moveLimits a m
  let d := (s.ax a).demand
  let d0 : Int := match m.keptD with | some v => v | none => l.d
  let j0 : Int := match m.keptJ with | some v => v | none => l.j
  let dir : Int := if d.p ≤ t * Q then 1 else -1
  let f := d.flip dir
  let short : Int → Int → Bool := fun dd jj =>
    decide (0 < f.v) && decide (dir * (t * Q - d.p) < dStop f.v f.a (dd * Q) (jj * Q) (vj * Q))
  let newly := !m.deferred && decide (l.d < d0 ∨ l.j < j0) && short l.d l.j
  if m.deferred || newly then
    let dd := max d0 l.d
    let jj := max j0 l.j
    if m.fresh && short dd jj then
      let dh := s.par 0x0907 a.val
      let jh := s.par 0x0908 a.val
      if !short dh jj then (leastFrom 33 dd dh (fun v => !short v jj), jj, newly)
      else if !short dh jh then (dh, leastFrom 33 jj jh (fun v => !short dh v), newly)
      else (dh, jh, newly)
    else (dd, jj, newly)
  else (l.d, l.j, false)

/-- Note the first frame of rule 4 (R234). -/
def State.deferLimit (s : State) (a : Fin 16) : State :=
  (((s.raise 0x0901 a.val).stick 0x0930 a.val 9).count 0x0935 a.val).onAx a (fun x => { x with deferred := true })

/-- R232: whether the joint of an entry with its successor may be other than STOP. -/
def State.blends (e next : Move) : Bool :=
  decide (next.blend ≠ 0) && decide (e.kind ≠ .vel) && decide (e.kind ≠ .group) && decide (next.kind ≠ .group) &&
  decide (e.dir ≠ 0) &&
  (match e.target, next.target with
    | some t, some u => decide (signI (if next.kind = .vel then u else u - t) = e.dir)
    | _, _ => false)

/-- Resolve the REL entries behind an entry whose target has just been resolved (R228). -/
def resolveBehind (t : Int) : List Move → List Move
  | m :: rest =>
    if m.kind = .rel ∧ m.target = none then
      { m with target := some (t + m.relative) } :: resolveBehind (t + m.relative) rest
    else m :: rest
  | [] => []

/-- Begin an entry in this frame. -/
def State.beginEntry (s : State) (a : Fin 16) (i : Nat) (m : Move) : State :=
  let x := s.ax a
  let t := match m.target with | some t => t | none => x.demand.counts
  let dir := if m.kind = .vel then signI t
    else if t * Q ≠ x.demand.p then signI (t * Q - x.demand.p) else signI x.demand.v
  let l := s.moveLimits a m
  let m := { m with began := true, dir := dir, startedAt := s.frame64,
                    keptD := m.keptD.orElse (fun _ => some l.d.toNat),
                    keptJ := m.keptJ.orElse (fun _ => some l.j.toNat) }
  (s.setEntry a i m).onAx a (fun x => { x with lastTarget := if m.kind = .vel then x.lastTarget else t })

/-- Advance the demand of a positioning entry by one frame (R231). -/
def State.planEntry (s : State) (a : Fin 16) (i : Nat) (m : Move) (vj : Int) : State :=
  match m.target with
  | none => s
  | some t =>
    let l := s.moveLimits a m
    let (dd, jj, newly) := s.keptLimits a m t vj
    let (d, landed) := planMove (s.ax a).demand (t * Q) (l.v * Q) (l.a * Q) (dd * Q) (jj * Q) (vj * Q)
    let m := { m with keptD := some dd.toNat, keptJ := some jj.toNat, deferred := m.deferred || newly, fresh := false,
                      landed := m.landed || landed }
    let s := if newly then s.deferLimit a else s
    (s.setEntry a i m).onAx a (fun x => { x with demand := d })

/-- Advance a VEL entry (R229, R242). One that stops at the bound of end-of-travel keeps its limits as a positioning entry
does (R234). -/
def State.planVelEntry (s : State) (a : Fin 16) (i : Nat) (m : Move) : State :=
  let l := s.moveLimits a m
  let w := match m.target with | some t => t | none => 0
  let v := signI w * capped (s.speedCap a) w.natAbs
  let x := s.ax a
  if s.eot a ∧ v ≠ 0 then
    let (dd, jj, newly) := s.keptLimits a m (s.bound a (signI v)) 0
    let (d, landed) := planMove x.demand (s.bound a (signI v) * Q) (v.natAbs * Q) (l.a * Q) (dd * Q) (jj * Q) 0
    let s := if newly then s.deferLimit a else s
    (s.setEntry a i { m with keptD := some dd.toNat, keptJ := some jj.toNat, deferred := m.deferred || newly, fresh := false
                             landed := m.landed || landed }).onAx a (fun x => { x with demand := d })
  else
    let d := planVelocity x.demand (v * Q) (l.a * Q) (l.d * Q) (l.j * Q)
    (s.setEntry a i { m with keptD := some l.d.toNat, keptJ := some l.j.toNat, fresh := false
                             landed := m.landed || (decide (w = 0) && decide (d.v = 0) && decide (d.a = 0)) }).onAx a
      (fun x => { x with demand := d })

/-- A positioning entry that starts with a target outside end-of-travel is rejected (R228). -/
def State.rejects (s : State) (a : Fin 16) (m : Move) : Bool :=
  (decide (m.kind = .abs) || decide (m.kind = .rel)) && (match m.target with | some t => s.outside a t | none => false)

/-- Plan the entry at a place as though it had no SMOOTH successor. -/
def State.planPlain (s : State) (a : Fin 16) (i : Nat) (m : Move) (vj : Int) : State :=
  if m.kind = .vel then s.planVelEntry a i m else s.planEntry a i m vj

/-- The V of an entry at a joint (Table 10.4). -/
def State.jointV (s : State) (a : Fin 16) (m : Move) : Int :=
  if m.kind = .vel then capped (s.speedCap a) (match m.target with | some t => t.natAbs | none => 0)
  else (s.moveLimits a m).v

/-- Plan the move in progress with its joint (R232). A SMOOTH successor whose target lies outside end-of-travel when it would
start is rejected (R228). -/
def State.planJoint (s : State) (a : Fin 16) (i : Nat) (m : Move) : State :=
  match (s.ax a).queue[i + 1]? with
  | none => s.planPlain a i m 0
  | some n =>
    if !State.blends m n ∨ s.frame64.toNat < n.joinsAt.toNat then s.planPlain a i m 0
    else if n.blend = 1 then
      s.planPlain a i m (min (s.jointV a m) (s.jointV a n))
    else if s.braking a m then
      if s.rejects a n then ((s.raise 0x0903 a.val).finishEntry a (i + 1) 3).planPlain a i m 0
      else
      let s := (s.setEntry a i { m with passed := true }).beginEntry a (i + 1) n
      match (s.ax a).queue[i + 1]? with
      | some n => s.planPlain a (i + 1) n 0
      | none => s
    else s.planPlain a i m 0

/-- Begin the entry at the head. A VEL entry with a successor completes, and the successor starts (R232); an entry whose
target lies outside end-of-travel when it starts is rejected (R228). The number bounds the entries looked at. -/
def State.startHead (s : State) (a : Fin 16) : Nat → State
  | 0 => s
  | n + 1 =>
    let x := s.ax a
    match x.queue.findIdx? (fun m => !m.passed) with
    | none => s
    | some i =>
      match x.queue[i]? with
      | none => s
      | some m =>
        if x.stop.isNone ∧ m.kind = .vel ∧ m.target ≠ some 0 ∧ (x.queue[i + 1]?).isSome ∧ x.startAt.toNat ≤ s.frame64.toNat then
          (s.finishEntry a i 0).startHead a n
        else if m.began ∨ m.kind = .group ∨ x.stop.isSome ∨ s.frame64.toNat < x.startAt.toNat then s
        else
          let m := if (m.kind = .rel ∨ m.kind = .reversal) ∧ m.target = none then
              { m with target := some (x.demand.counts + m.relative) } else m
          match m.target with
          | some t =>
            let s := s.onAx a (fun x => { x with queue := x.queue.take (i + 1) ++ resolveBehind t (x.queue.drop (i + 1)) })
            if s.rejects a m then ((s.raise 0x0903 a.val).finishEntry a i 3).startHead a n
            else s.beginEntry a i m
          | none => s

/-- Bring the demand to rest (R236, R239, R240, R241). -/
def State.stopDemand (s : State) (a : Fin 16) (hard : Bool) : State :=
  let d := planStop (s.ax a).demand (s.par (if hard then 0x0907 else 0x0904) a.val * Q)
    (s.par (if hard then 0x0908 else 0x0905) a.val * Q)
  s.onAx a (fun x => { x with demand := d, stop := if d.v = 0 ∧ d.a = 0 then none else x.stop })

/-- Mark the overtaken entries whose target the demand has passed (R232). -/
def Axis.passTargets (x : Axis) : Axis :=
  { x with queue := x.queue.map (fun m =>
      match m.target with
      | some t => if m.passed ∧ 0 ≤ m.dir * (x.demand.p - t * Q) then { m with landed := true } else m
      | none => m) }

/-- One frame of a homing run's demand (R244 to R246). -/
def State.planHoming (s : State) (a : Fin 16) (h : Homing) : State :=
  let x := s.ax a
  let l := s.moveLimits a { kind := .vel }
  if !h.found then
    let v := signI h.velocity * capped (s.speedCap a) h.velocity.natAbs
    s.onAx a (fun x => { x with demand := planVelocity x.demand (v * Q) (l.a * Q) (l.d * Q) (l.j * Q) })
  else if h.backoff then
    let (d, landed) := planMove x.demand (h.target * Q) (capped (s.speedCap a) (s.par 0x090E a.val) * Q) (l.a * Q) (l.d * Q) (l.j * Q) 0
    s.onAx a (fun x => { x with demand := d, homing := some { h with backoff := !landed } })
  else s.stopDemand a false

/-- One frame of the queue's demand. -/
def State.planQueue (s : State) (a : Fin 16) : State :=
  match (s.ax a).homing with
  | some h => s.planHoming a h
  | none =>
  let s := s.startHead a 32
  let x := s.ax a
  match x.queue.findIdx? (fun m => !m.passed), x.planned with
  | some i, some m => (if m.landed then s else s.planJoint a i m).onAx a Axis.passTargets
  | _, _ =>
    match x.stop with
    | some st => s.stopDemand a (st = .hard)
    | none => if x.demand.v = 0 ∧ x.demand.a = 0 then s else s.stopDemand a false

/-- Set the demand to the measured state (R237, R239, R240). -/
def Axis.toMeasured (x : Axis) : Axis :=
  { x with demand := { p := x.measured * Q, v := x.speed * Q, a := 0 : Demand }.fit }

/-- The state the axis shows (Table 3.7) once its demand is known: a finished STOP shows FAULT while its fault stands, and
QUICK ends in winding short (Table 1.7, R191), which its loaded entries apply. -/
def State.settle (s : State) (a : Fin 16) : State :=
  let x := s.ax a
  let still := x.demand.v = 0 ∧ x.demand.a = 0
  if x.state = .stopping ∧ still then
    if x.reaction = 4 then
      s.onAx a (fun x => { x.loopsOff with state := .shorted, since := s.frame64, stop := none,
                                           stepper := { x.stepper with energised := false, slow := true } })
    else s.onAx a (fun x => { x with state := if s.stopFault a then .fault else .standstill, since := s.frame64,
                                      stop := none, reaction := 0 })
  else if x.state = .moving ∧ still ∧ x.planned = none then s.setAxisState a .standstill
  else if x.state = .standstill ∧ (¬still ∨ x.planned ≠ none) then s.setAxisState a .moving
  else s

/-- The reported position wraps between 2^31 − 1 and −2^31; IN_POSITION counts frames within its window (R222). -/
def State.watchPosition (s : State) (a : Fin 16) : State :=
  let x := s.ax a
  let wraps := (x.demand.counts + 2147483648) / 4294967296
  let inside := (x.lastTarget - x.measured).natAbs ≤ s.parN 0x0918 a.val
  let run := if inside then x.inPosRun + 1 else 0
  let s := s.onAx a (fun x => { x with inPosRun := run, inPosition := decide (s.parN 0x0919 a.val ≤ run),
                                       beyond := x.beyond && decide (s.beyondSide a ≠ 0), wraps := wraps })
  if wraps ≠ x.wraps ∧ !x.wrapped then
    ((s.stick 0x0930 a.val 10).raise 0x0909 a.val).onAx a (fun x => { x with wrapped := true })
  else s

end Sys2Proof.Machine
end

