-- ==== Sys2Proof/Machine/Loops.lean ====
section
/-! DEFINITION. The loop engine of one servo axis (Control Loops and Door Envelopes, R259 to R276). Outputs and
integrators are in 2^-16 mA, velocity errors in 2^-16 counts/s; every scaling rounds half away from zero (R166). -/

namespace Sys2Proof.Machine

/-- The direction of travel σ of a frame (R262). A homing run that has found home backs off toward its target, or else keeps the
sign of its velocity (DEDUCED, notes/assumptions/148). -/
def State.sigma (s : State) (a : Fin 16) : Int :=
  let x := s.ax a
  match x.homing with
  | some h => if h.found ∧ h.backoff then signI (h.target * Q - x.demand.p) else signI h.velocity
  | none =>
    match x.planned with
    | some m =>
      match m.target with
      | some t => if m.kind = .vel then signI t else signI (t * Q - x.demand.p)
      | none => signI x.demand.v
    | none => signI x.demand.v

/-- The closing direction σ_c (R262). -/
def State.closeSign (s : State) (a : Fin 16) : Int := -(s.openSign a)

/-- The distance to the closed end, 0 beyond it (R266). -/
def State.toClosed (s : State) (a : Fin 16) : Int :=
  let c := s.closeSign a
  max 0 (c * (s.bound a c - (s.ax a).measured))

/-! ### The Template's baseline (R280 to R282) -/

/-- The bin of a position (R280). -/
def State.binOf (s : State) (a : Fin 16) : Nat :=
  let lo := s.par 0x0909 a.val
  let hi := s.par 0x090A a.val
  (clampI 0 511 (((s.ax a).measured - lo) * 512 / (hi - lo + 1))).toNat

def binKey (a : Fin 16) (closing : Bool) (bin : Nat) : Nat := 1024 * a.val + (if closing then 512 else 0) + bin

def State.binAt (s : State) (k : Nat) : Bin := Sparse.read (fun _ => {}) s.motion.bins k

def State.setBin (s : State) (k : Nat) (b : Bin) : State :=
  { s with motion := { s.motion with bins := Sparse.write (fun _ => {}) s.motion.bins k b } }

def State.binValid (s : State) (a : Fin 16) (b : Bin) : Bool := decide (s.parN 0x0B0E a.val ≤ b.count)

/-- B of a frame, and whether it came from the table (R282). -/
def State.baseline (s : State) (a : Fin 16) (bin : Option (Nat × Bool)) : Int × Bool :=
  match bin with
  | some (b, closing) =>
    let e := s.binAt (binKey a closing b)
    if (s.ax a).homed ∧ s.binValid a e then (min e.mean (s.par 0x0B0F a.val), true) else (s.par 0x0A09 a.val, false)
  | none => (s.par 0x0A09 a.val, false)

/-! ### Gains and zones (R264, R271 to R275) -/

def State.edge (s : State) (a : Fin 16) (k : Nat) : Int := s.par (0x0A10 + k) a.val

/-- The zone from a zone by hysteresis; the number bounds the edges crossed (R271). -/
def State.zoneFrom (s : State) (a : Fin 16) (h p : Int) : Nat → Fin 8 → Fin 8
  | 0, z => z
  | n + 1, z =>
    if z.val < 7 ∧ s.edge a (z.val + 1) + h ≤ p then s.zoneFrom a h p n (Fin.ofNat 8 (z.val + 1))
    else if 0 < z.val ∧ p < s.edge a z.val - h then s.zoneFrom a h p n (Fin.ofNat 8 (z.val - 1))
    else z

def State.zone (s : State) (a : Fin 16) (h : Int) (z : Fin 8) : Fin 8 :=
  if (s.ax a).homed then s.zoneFrom a h (s.ax a).measured 8 z else Fin.ofNat 8 (s.parN 0x0A10 a.val)

/-- The gains of the active bank for a zone: POS_KP, VEL_KP, VEL_KI, ACC_FF, FORCE_KI in q16.16 (R273). -/
def State.gainSet (s : State) (a : Fin 16) (z : Fin 8) : Vector Int 5 :=
  Vector.ofFn (fun f => s.par (0x0A80 + 0x40 * s.parN 0x0A0D a.val + 8 * z.val + f.val) a.val)

/-- The loops at their start (R261): integrators 0, gains at once. -/
def State.loopsAtStart (s : State) (a : Fin 16) : Loops :=
  let z := s.zone a 0 0
  let g := s.gainSet a z
  { running := true, zone := z, bank := s.parN 0x0A0D a.val, gains := g, goal := g }

/-- One frame of the gain schedule (R271, R275). -/
def State.schedule (s : State) (a : Fin 16) (l : Loops) : Loops :=
  let z := s.zone a (s.par 0x0A0F a.val) l.zone
  let goal := s.gainSet a z
  let ramp := s.parN 0x0A0E a.val
  let changed : Bool := decide (z ≠ l.zone) || decide (s.parN 0x0A0D a.val ≠ l.bank) || decide (goal ≠ l.goal)
  let left := if changed then ramp else l.rampLeft
  let l := { l with zone := z, bank := s.parN 0x0A0D a.val, goal := goal }
  if changed ∧ ramp = 0 then { l with gains := goal, rampLeft := 0 }
  else if left = 0 then l
  else { l with rampLeft := left - 1,
                gains := Vector.ofFn (fun f => l.gains[f] + rdiv (goal[f] - l.gains[f]) left) }

/-! ### The caps (R265 to R267) -/

def State.vKe (s : State) (a : Fin 16) (closing : Bool) : Int :=
  let e := s.par (if closing then 0x0A02 else 0x0A03) a.val
  let sc := s.par 0x0900 a.val
  min (isqrtI (rdiv (e * sc * sc) (5 * s.par 0x0A00 a.val))) (s.par 0x0906 a.val)

def State.vNose (s : State) (a : Fin 16) : Int :=
  let v := s.par 0x0A05 a.val
  let d := s.toClosed a
  let len := s.par 0x0A04 a.val
  if !(s.ax a).homed || decide (d ≤ len) then v
  else min (isqrtI (v * v + 2 * s.par 0x0A06 a.val * (d - len))) (s.par 0x0906 a.val)

def State.forceCap (s : State) (a : Fin 16) (closing : Bool) : Int :=
  match (s.ax a).homing with
  | some h => if h.method = 0 then h.force else s.par (if closing then 0x0A07 else 0x0A08) a.val
  | none => s.par (if closing then 0x0A07 else 0x0A08) a.val

/-- I_Q_LIM in mA (R268). -/
def State.iqLimit (s : State) (a : Fin 16) : Int :=
  isqrtI (s.par 0x0607 a.val * s.par 0x0607 a.val - s.par 0x0608 a.val * s.par 0x0608 a.val)

/-! ### One frame of the loops -/

/-- One loop of Table 11.1 in a frame: whether it is active, its proportional part with feed-forward, and the advance
that R263 gives its integrator when it is selected. -/
structure LoopTerm where
  active : Bool
  part : Int
  advance : Int
  deriving DecidableEq, Repr

/-- The four loops in code order 1 to 4, with F_est and B of the frame before (R259, notes/assumptions/111). -/
def State.loopTerms (s : State) (a : Fin 16) (l : Loops) : List LoopTerm :=
  let x := s.ax a
  let sg := s.sigma a
  let w : Int := if sg = 0 then 1 else sg
  let closing : Bool := sg = s.closeSign a
  let opening : Bool := sg = -(s.closeSign a)
  let kp := l.gains[1]
  let kf := s.par 0x0A01 a.val
  let e1 := w * (x.demand.v + rdiv (l.gains[0] * (x.demand.p - x.measured * Q)) Q - x.speed * Q)
  let ff := rdiv (l.gains[3] * s.par 0x0A00 a.val * w * x.demand.a * 10000) (Q * s.par 0x0900 a.val * kf)
  let e2 := s.vKe a closing - w * x.speed
  let e3 := s.vNose a - w * x.speed
  let b := x.template.baseline
  let cap := s.forceCap a closing
  let velAdvance := fun e : Int => rdiv (kp * l.gains[2] * e) (Q * frameRate)
  [ { active := true, part := rdiv (kp * e1) Q + ff, advance := rdiv (kp * l.gains[2] * e1) (Q * Q * frameRate) },
    { active := closing || (opening && decide (0 < s.par 0x0A03 a.val)), part := kp * e2, advance := velAdvance e2 },
    { active := closing, part := kp * e3, advance := velAdvance e3 },
    { active := closing || (opening && decide (0 < s.par 0x0A08 a.val)), part := rdiv ((cap + b) * 100000 * Q) kf,
      advance := rdiv (l.gains[4] * (cap - (w * x.template.force - b)) * 100000) kf } ]

/-- The code of the active loop with the smallest output; ties go to the higher code (R268). -/
def selectLoop (outs : List (Nat × Bool × Int)) : Nat × Int :=
  outs.foldl (fun best (code, active, u) => if active ∧ u ≤ best.2 ∨ (best.1 = 0 ∧ active) then (code, u) else best) (0, 0)

/-- The reported loop of a frame (R270). -/
def State.report (s : State) (a : Fin 16) (l : Loops) (outs : List (Nat × Bool × Int)) (sel : Nat) (run : Nat) (limited : Bool) : Nat :=
  if limited then 5
  else
    let before := if l.reported = 5 then l.selected else l.reported
    let was := outs.find? (fun (c, act, _) => c = before && act)
    let now := outs.find? (fun (c, _, _) => c = sel)
    match was, now with
    | some (_, _, ur), some (_, _, us) =>
      if s.par 0x0A0A a.val * Q < ur - us then sel else if s.parN 0x0A0B a.val ≤ run then sel else before
    | _, _ => sel

/-- One frame of the loops: the new loop state and i_q* in 2^-16 mA (R261 to R270, R276). -/
def State.loopFrame (s : State) (a : Fin 16) (l0 : Loops) : Loops × Int :=
  let x := s.ax a
  let l := s.schedule a l0
  let terms := s.loopTerms a l
  let outs : List (Nat × Bool × Int) :=
    terms.zipIdx.map (fun (t, i) => (i + 1, t.active, t.part + l.int[Fin.ofNat 4 i]))
  let (sel, us) := selectLoop outs
  let lim := s.iqLimit a * Q
  let out := clampI (-lim) lim us
  let limited : Bool := out ≠ us
  let margin := s.par 0x0A0C a.val * Q
  let imax := s.par 0x0607 a.val * Q
  let ints := Vector.ofFn (fun i : Fin 4 =>
    match terms[i.val]? with
    | some t => clampI (-imax) imax (
      if i.val + 1 = sel then (if limited then out - t.part else l.int[i] + t.advance)
      else if t.active then min l.int[i] (out + margin - t.part)
      else out + margin - t.part)
    | none => l.int[i])
  let run := if sel = l.selected then l.selectRun + 1 else 1
  let rep := s.report a l outs sel run limited
  let sg := s.sigma a
  let w : Int := if sg = 0 then 1 else sg
  let closing : Bool := sg = s.closeSign a
  let tol := fun v : Int => v + v * s.par 0x0A1A a.val / 1000
  let active := fun i : Nat => match terms[i]? with | some t => t.active | none => false
  let outside := (active 1 && decide (tol (s.vKe a closing) < w * x.speed)) ||
              (active 2 && decide (tol (s.vNose a) < w * x.speed))
  let within := (!active 1 || decide (w * x.speed ≤ s.vKe a closing)) && (!active 2 || decide (w * x.speed ≤ s.vNose a))
  let follow : Bool := rep = 1 && decide (s.par 0x0A18 a.val * Q < (x.demand.p - x.measured * Q).natAbs)
  ({ l with int := ints, selected := sel, reported := rep, selectRun := run, limited := limited,
            baselineUsed := x.template.fromTable, out := w * out,
            followRun := if follow then l.followRun + 1 else 0,
            envRun := if outside then l.envRun + 1 else 0, envQuiet := if within then l.envQuiet + 1 else 0,
            limitRun := if limited then l.limitRun + 1 else 0 }, w * out)

/-- The loops of an axis in its compute slot, and the read-only values of Table 11.4. -/
def State.runLoops (s : State) (a : Fin 16) : State :=
  let x := s.ax a
  if !x.loops.running then s
  else
    let closing : Bool := s.sigma a = s.closeSign a
    let (l, iq) := s.loopFrame a x.loops
    let t := s.onAx a (fun x => { x with loops := l })
    let t := ((t.setPar 0x0A41 a.val (rdiv iq Q)).setPar 0x0A42 a.val (s.vKe a closing)).setPar 0x0A43 a.val (s.vNose a)
    if 2 ≤ l.reported ∧ l.reported ≤ 4 then t.count 0x0A45 a.val else t

/-! ### Commands -/

/-- LP_FOLLOW_ERR (R276). -/
def execLpFollowErr (axis : Fin 16) (s : State) : Host.Outcome State Fault Refusal :=
  .next (if s.parN 0x0A19 axis.val ≤ (s.ax axis).loops.followRun ∧ 0 < (s.ax axis).loops.followRun then
    (s.raise 0x0A01 axis.val).stick 0x0A40 axis.val 13 else s)

/-- LP_ENVELOPE_EXCEEDED (R276). -/
def execLpEnvelopeExceeded (axis : Fin 16) (s : State) : Host.Outcome State Fault Refusal :=
  .next (if s.parN 0x0A1B axis.val ≤ (s.ax axis).loops.envRun ∧ 0 < (s.ax axis).loops.envRun then
    (s.raise 0x0A02 axis.val).stick 0x0A40 axis.val 14 else s)

/-- LP_CURRENT_LIMIT (R276). -/
def execLpCurrentLimit (axis : Fin 16) (s : State) : Host.Outcome State Fault Refusal :=
  .next (if s.parN 0x0A1C axis.val ≤ (s.ax axis).loops.limitRun ∧ 0 < (s.ax axis).loops.limitRun then
    s.raise 0x0A03 axis.val else s)

/-- GAIN_RAMP_END (R275): in the last frame of a ramp every gain reaches its new value. -/
def execGainRampEnd (axis : Fin 16) (s : State) : Host.Outcome State Fault Refusal :=
  .next (if (s.ax axis).loops.rampLeft ≤ 1 then
    s.onAx axis (fun x => { x with loops := { x.loops with gains := x.loops.goal, rampLeft := 0 } }) else s)

end Sys2Proof.Machine
end

