-- ==== Sys2Proof/Machine/Groups.lean ====
section
/-! DEFINITION. Coordinated groups (Motion Profiles, Queues and Gearing, R255 to R257): planning, the start and the
stop of a group. -/

namespace Sys2Proof.Machine

/-- The number of frames after which a move from a demand state lands, within a bound; lengths in counts (R255). -/
def landsIn : Nat → Demand → Int → MoveLimits → Nat → Option Nat
  | 0, _, _, _, _ => none
  | n + 1, d, t, l, k =>
    let (d', landed) := planMove d (t * Q) (l.v * Q) (l.a * Q) (l.d * Q) (l.j * Q) 0
    if landed then some (k + 1) else landsIn n d' t l (k + 1)

/-- Whether a move lands within a number of frames. -/
def landsBy (d : Demand) (t : Int) (l : MoveLimits) (frames : Nat) : Bool := (landsIn frames d t l 0).isSome

/-- The duration of a move; the bound is the half range of R6. -/
def duration (d : Demand) (t : Int) (l : MoveLimits) : Nat := (landsIn 2147483648 d t l 0).getD 2147483648

/-- The smallest V with which a move lands within a number of frames (R255, step 3). -/
def slowestV (d : Demand) (t : Int) (l : MoveLimits) (frames : Nat) : Int :=
  leastFrom 33 0 l.v (fun v => landsBy d t { l with v := v } frames)

/-- The group entry of a member, with its place in the queue. -/
def Axis.groupEntry (x : Axis) (g : Fin 8) : Option (Nat × Move) :=
  match x.queue.findIdx? (fun m => m.group = some g) with
  | some i => (x.queue[i]?).map (fun m => (i, m))
  | none => none

/-- A member is ready when its entry is the next to start and nothing holds it (R255). -/
def State.memberReady (s : State) (g : Fin 8) (a : Fin 16) : Bool :=
  let x := s.ax a
  (match x.queue.head? with | some m => m.group = some g && !m.began | none => false) &&
  x.stop = none && !x.held && (x.state = .standstill || x.state = .moving)

/-- Remove every member's entry with an outcome and end the group. -/
def State.endGroup (s : State) (g : Fin 8) (grp : Group) (outcome : Nat) : State :=
  let t := s.each grp.members (fun a t =>
    match (t.ax a).groupEntry g with
    | some (i, _) => t.finishEntry a i outcome
    | none => t)
  { t with motion := { t.motion with groups := t.motion.groups.set g none } }

/-- Start every member of a group that is ready (R255, R256). The longest member keeps its V; each other takes the lowest that
lands in time. -/
def State.startGroup (s : State) (g : Fin 8) (grp : Group) : State :=
  let entries : List (Fin 16 × Nat × Move × Int) := grp.members.filterMap (fun a =>
    match (s.ax a).groupEntry g with
    | some (i, m) => m.target.map (fun t => (a, i, m, t))
    | none => none)
  let reject := fun (s : State) => (s.each grp.members (fun a t => t.raise 0x0903 a.val)).endGroup g grp 3
  if entries.any (fun (a, _, _, t) => s.outside a t) then reject s
  else
    let need := entries.map (fun (a, _, m, t) => duration (s.ax a).demand t (s.moveLimits a m))
    let frames := match grp.fixedTime with | some f => f | none => need.foldl max 0
    let longest := if grp.fixedTime.isSome then need.length else need.findIdx (fun k => k = frames)
    if need.any (fun k => frames < k) then reject s
    else
      let t := s.each entries.zipIdx (fun ((a, i, m, t), place) u =>
        let l := u.moveLimits a m
        let v := if place = longest then l.v else slowestV (u.ax a).demand t l frames
        u.beginEntry a i { m with v := v.toNat, a := l.a.toNat, d := l.d.toNat, j := l.j.toNat, duration := frames })
      { t with motion := { t.motion with groups := t.motion.groups.set g (some { grp with started := true }) } }

/-- GROUP_START (R255): the members start together at the first tick at which every predecessor has completed. -/
def execGroupStart (group : Fin 8) (s : State) : Host.Outcome State Fault Refusal :=
  .next (match s.motion.groups[group] with
    | some grp => if !grp.started ∧ grp.members.all (s.memberReady group) then s.startGroup group grp else s
    | none => s)

/-- Stop the other members of a group (R257): each without a reaction of its own takes STOP and `PRF_GROUP_STOP`, its gear
partners take STOP (R252), and the group ends. The node shows its group-stop bit until its members stand still, and for at least 4 frames (R385),
if the group is RING_COUPLED. -/
def State.stopMembers (s : State) (g : Fin 8) (grp : Group) (stopped : List (Fin 16)) : State :=
  let t := s.each stopped (fun a t =>
    if 3 ≤ (t.ax a).reaction then t
    else ((t.raise 0x0907 a.val).reactAxis 3 a).each (t.geared a) (fun b t => t.reactAxis 3 b))
  { t with motion := { t.motion with groups := t.motion.groups.set g none
                                     groupStops := if grp.ringCoupled then t.motion.groupStops ||| (1 <<< g.val) else t.motion.groupStops
                                     stopping := t.motion.stopping.set g grp.members },
           ring := { t.ring with groupStopUntil := t.ring.groupStopUntil.set g (t.frame64 + 4) } }

/-- PRF_GROUP_STOP (R257): a member of a group in progress took a reaction of class STOP or higher. -/
def execPrfGroupStop (group : Fin 8) (source : Fin 16) (s : State) : Host.Outcome State Fault Refusal :=
  .next (match s.motion.groups[group] with
    | some grp =>
      if grp.started ∧ grp.members.contains source ∧ 3 ≤ (s.ax source).reaction then
        s.stopMembers group grp (grp.members.filter (fun a => !(a = source)))
      else s
    | none => s)

/-- RING_GROUP_STOP (R257): another node's slot, as delivered, shows the group-stop bit of a RING_COUPLED group. -/
def execRingGroupStop (group : Fin 8) (s : State) : Host.Outcome State Fault Refusal :=
  .next (match s.motion.groups[group] with
    | some grp =>
      let seen := (allFin 8).any (fun k => !(k = s.ring.addr) && match s.ring.slots[k] with
        | some bytes => (field 2 1 bytes).testBit group.val
        | none => false)
      if grp.ringCoupled ∧ grp.started ∧ seen then s.stopMembers group grp grp.members else s
    | none => s)

end Sys2Proof.Machine
end

