-- ==== Sys2Proof/Machine/Moves.lean ====
section
/-! DEFINITION. The motion requests (Motion Profiles, Queues and Gearing; Table 3.6, 0x30 to 0x38): MOVE_ABS, MOVE_REL,
MOVE_VEL, MOVE_GROUP, QUEUE_FLUSH, AXIS_ABORT, GEAR_ENGAGE, GEAR_RELEASE and LATCH_ARM. -/

namespace Sys2Proof.Machine

/-! ### Axis moves -/

/-- The reply of an axis move: free slots and move ID. -/
def moveReply (a : Fin 16) (id : Nat) (s : State) : Body :=
  .bytes ([BitVec.ofNat 8 (s.ax a).free, 0, 0, 0] ++ leBytes 4 id)

/-- Use up a move ID; an accepted move clears `OBSTRUCTION` (R226, R241). -/
def State.acceptMove (s : State) (a : Fin 16) : State :=
  s.onAx a (fun x => { x with nextId := nextMoveId x.nextId, obstruction := false })

/-- What a staged entry meets of Table 10.2 at its commit tick (DEDUCED, notes/assumptions/10): checks 2 to 5. -/
def State.moveFails (s : State) (a : Fin 16) (m : Move) : Bool :=
  (s.axisChecks a).any (fun c => c.1) || s.entryBad a m

/-- Admit one axis move (Table 10.2) and stage or queue it. `bad` is the limit part of check 5. A staged request meets
checks 1 and 5, a staged REL the latter at its commit tick with checks 2 to 4; check 6 is R91's reservation
(DEDUCED, notes/assumptions/10). -/
def State.moveRequest (s : State) (k : Fin 8) (r : Req) (code : Nat) (cmd : Instr) (a : Fin 16) (m : Move)
    (bad : Bool) : State :=
  let m := { m with id := (s.ax a).nextId }
  let replace := m.flags % 2 = 1
  let check1 := [(decide (2 ≤ m.flags ∨ 2 < m.blend), Status.badParameter)]
  let check5 := [(bad || (if r.tag = 0 ∨ m.kind ≠ .rel then s.entryBad a m else s.unhomed a), Status.outOfRange)]
  let checks := if r.tag = 0 then check1 ++ s.axisChecks a ++ check5 ++ [(s.queueBad a replace, Status.queueFull)]
    else check1 ++ check5
  s.checked r code checks (fun s =>
    s.stageOr k r code cmd [(a, m)] (fun s => s.acceptMove a) Status.ok (moveReply a m.id)
      (fun s =>
        let s := (s.enqueue a m).acceptMove a
        s.answer r code Status.ok (moveReply a m.id s)))

/-- The entry of a positioning request. -/
def positionMove (kind : MoveKind) (blend : Byte) (flags : Half) (lim : Limits) : Move :=
  { kind := kind, blend := blend.toNat, flags := flags.toNat, v := lim.vmax.toInt.toNat, a := lim.amax.toNat,
    d := lim.dmax.toNat, j := lim.jmax.toNat }

/-- MOVE_ABS (R222, R227). -/
def execMoveAbs (r : Req) (axis blend : Byte) (flags : Half) (target : Word) (lim : Limits) (s : State) :
    Host.Outcome State Fault Refusal :=
  .next (s.request 0x30 r (fun k s => s.onAxis r 0x30 axis (fun a s =>
    let t := resolve32 (s.ax a).demand.counts target.toInt
    s.moveRequest k r 0x30 (.moveAbs r axis blend flags target lim) a
      { positionMove .abs blend flags lim with target := some t } (s.limitBad a (s.askedV a lim) lim))))

/-- MOVE_REL (R228): the target is resolved when the entry is queued, or when it starts. -/
def execMoveRel (r : Req) (axis blend : Byte) (flags : Half) (distance : Word) (lim : Limits) (s : State) :
    Host.Outcome State Fault Refusal :=
  .next (s.request 0x31 r (fun k s => s.onAxis r 0x31 axis (fun a s =>
    s.moveRequest k r 0x31 (.moveRel r axis blend flags distance lim) a
      { positionMove .rel blend flags lim with relative := distance.toInt } (s.limitBad a (s.askedV a lim) lim))))

/-- MOVE_VEL (R229, R242). -/
def execMoveVel (r : Req) (axis blend : Byte) (flags : Half) (velocity amax dmax jmax : Word) (s : State) :
    Host.Outcome State Fault Refusal :=
  .next (s.request 0x32 r (fun k s => s.onAxis r 0x32 axis (fun a s =>
    let lim : Limits := { vmax := 0, amax := amax, dmax := dmax, jmax := jmax }
    s.moveRequest k r 0x32 (.moveVel r axis blend flags velocity amax dmax jmax) a
      { positionMove .vel blend flags lim with target := some velocity.toInt }
      (s.limitBad a velocity.toInt.natAbs lim))))

/-! ### Group moves -/

/-- The entries that a transaction has staged for an axis already (R91, R256). -/
def State.stagedFor (s : State) (k : Fin 8) (r : Req) (a : Fin 16) : List Move :=
  match (if r.tag = 0 then none else s.findTxn k r.tag) with
  | some t => t.staged.flatMap (fun e => (e.prepared.filter (fun p => p.1 = a)).map Prod.snd)
  | none => []

/-- The state in which an entry leaves the axis that reached it in a state: at rest at its target. The end of a VEL entry is
not known; the present state stands for it. -/
def Demand.after (present d : Demand) (m : Move) : Demand :=
  let d := if m.flags % 2 = 1 then present else d
  match m.kind, m.target with
  | .vel, _ => present
  | _, some t => { p := t * Q }
  | _, none => { p := (d.counts + m.relative) * Q }

/-- The state from which a member's FIXED_TIME plan starts at staging (R256): at rest at the preceding target, queued or staged
earlier in the same transaction, or its present state. -/
def State.planFrom (s : State) (a : Fin 16) (replace : Bool) (earlier : List Move) : Demand :=
  let x := s.ax a
  if replace then x.demand else (x.queue ++ earlier).foldl (fun d m => x.demand.after d m) x.demand

/-- The entries of a group request, one per listed axis. -/
def State.groupEntries (s : State) (g : Fin 8) (flags : Half) (lim : Limits) (members : List GroupTarget) :
    List (Fin 16 × Move) :=
  let fixed := flags.toNat.testBit 1
  members.filterMap (fun gt => (s.axisArg gt.axis).map (fun a =>
    (a, { positionMove .group 0 flags lim with
          v := if fixed then 0 else lim.vmax.toInt.toNat, group := some g, id := 2147483648 + s.motion.nextGroupId,
          target := some (resolve32 (s.ax a).demand.counts gt.target.toInt) })))

/-- Queue a group's entries and record the group (R255). -/
def State.enqueueGroup (s : State) (g : Fin 8) (flags : Half) (lim : Limits) (entries : List (Fin 16 × Move)) : State :=
  let t := s.each entries (fun (a, m) t => t.enqueue a m)
  let grp : Group := { id := match entries.head? with | some (_, m) => m.id | none => 0, members := entries.map Prod.fst,
                       fixedTime := if flags.toNat.testBit 1 then some lim.vmax.toNat else none,
                       ringCoupled := flags.toNat.testBit 2 }
  { t with motion := { t.motion with groups := t.motion.groups.set g (some grp) } }

/-- The part of check 5 that a member of a group meets whatever the duration. -/
def State.memberOut (s : State) (flags : Half) (lim : Limits) (a : Fin 16) (m : Move) : Bool :=
  s.limitBad a (if flags.toNat.testBit 1 then s.par 0x0902 a.val else s.askedV a lim) lim || s.entryBad a m

/-- Check 5 of one member of a group, behind the entries staged earlier; the duration of R256 is checked here and when the group
starts. -/
def State.memberBad (s : State) (flags : Half) (lim : Limits) (earlier : List Move) (a : Fin 16) (m : Move) : Bool :=
  s.memberOut flags lim a m ||
  (flags.toNat.testBit 1 && (decide (lim.vmax.toNat < 1 ∨ 1200000 < lim.vmax.toNat) ||
    (match m.target with
      | some t => !landsBy (s.planFrom a (flags.toNat % 2 = 1) earlier) t (s.moveLimits a m) lim.vmax.toNat
      | none => false)))

/-- What a staged group meets of Table 10.2 at its commit tick (DEDUCED, notes/assumptions/10). -/
def State.groupFails (s : State) (g : Fin 8) (flags : Half) (lim : Limits) (entries : List (Fin 16 × Move)) : Bool :=
  (s.motion.groups[g]).isSome || entries.any (fun (a, m) => (s.axisChecks a).any (fun c => c.1) || s.memberOut flags lim a m)

/-- MOVE_GROUP (R255, R256). -/
def execMoveGroup (r : Req) (group blend : Byte) (flags : Half) (lim : Limits) (members : List GroupTarget) (s : State) :
    Host.Outcome State Fault Refusal :=
  .next (s.request 0x33 r (fun k s =>
    let g : Fin 8 := Fin.ofNat 8 group.toNat
    let replace := flags.toNat % 2 = 1
    let axes := members.filterMap (fun m => s.axisArg m.axis)
    let entries := s.groupEntries g flags lim members
    let id := 2147483648 + s.motion.nextGroupId
    let per := fun (f : Fin 16 → List (Bool × Nat)) => axes.flatMap f
    let check1 := [(decide (members.length < 1 ∨ 16 < members.length), Status.outOfRange),
      (decide (7 < group.toNat), Status.badParameter),
      (members.any (fun m => (s.axisArg m.axis).isNone), Status.badParameter),
      (decide (8 ≤ flags.toNat), Status.badParameter), (decide (blend ≠ 0), Status.badParameter),
      (decide (axes.eraseDups ≠ axes), Status.badParameter)]
    let check24 := per (fun a => (s.axisChecks a).take 1) ++ per (fun a => ((s.axisChecks a).drop 1).take 1) ++
      per (fun a => (s.axisChecks a).drop 2) ++ [((s.motion.groups[g]).isSome, Status.busy)]
    let check5 := entries.map (fun (a, m) => (s.memberBad flags lim (s.stagedFor k r a) a m, Status.outOfRange))
    let check6 := per (fun a => [(s.queueBad a replace, Status.queueFull)])
    let accept := fun (s : State) => s.each axes (fun a t => t.onAx a (fun x => { x with obstruction := false }))
    let useId := fun (s : State) => accept { s with motion := { s.motion with nextGroupId := nextMoveId s.motion.nextGroupId } }
    s.checked r 0x33 (if r.tag = 0 then check1 ++ check24 ++ check5 ++ check6 else check1 ++ check5) (fun s =>
      s.stageOr k r 0x33 (.moveGroup r group blend flags lim members) entries useId Status.ok (fun _ => .bytes (leBytes 4 id))
        (fun s => (useId (s.enqueueGroup g flags lim entries)).answer r 0x33 Status.ok (.bytes (leBytes 4 id))))))

/-! ### Flush and abort -/

/-- Remove the entries behind the move in progress, which is the first (R224, R236); answers how many. One that a SMOOTH successor
had overtaken is planned again. -/
def State.flushAxis (s : State) (a : Fin 16) : State × Nat :=
  let gone := (s.ax a).queue.drop 1
  let t := s.each gone (fun m t => (t.leaveGroup a m).entryLeft a m 1)
  (t.onAx a (fun x => { x with queue := (x.queue.take 1).map (fun m => { m with passed := false }) }), gone.length)

def State.flushAxes (s : State) : List (Fin 16) → State × Nat
  | [] => (s, 0)
  | a :: l => let (t, n) := s.flushAxis a; let (u, m) := t.flushAxes l; (u, n + m)

/-- QUEUE_FLUSH (R236). -/
def execQueueFlush (r : Req) (axis : Byte) (s : State) : Host.Outcome State Fault Refusal :=
  .next (s.request 0x34 r (fun k s =>
    match s.axesArg axis with
    | none => s.refuse r 0x34 Status.badParameter
    | some l =>
      s.stageOr k r 0x34 (.queueFlush r axis) [] id Status.ok (fun _ => .bytes [0, 0, 0, 0]) (fun s =>
        let (t, n) := s.flushAxes l
        t.answer r 0x34 Status.ok (.bytes [BitVec.ofNat 8 n, 0, 0, 0]))))

/-- End a TEACH of an axis with a status (R291). -/
def State.endTeach (s : State) (a : Fin 16) (status : Nat) : State :=
  let t := (s.ax a).template
  if t.teach.isSome then
    (s.onAx a (fun x => { x with template := { x.template with teach := none } })).complete t.teachSlot t.teachSeq 0xC2 status
  else s

/-- What AXIS_ABORT does to one axis (R219, R236, R244, R251): the queue empties and the demand decelerates. A stop that
a reaction began keeps its deceleration (R12). -/
def State.abortAxis (s : State) (hard : Bool) (a : Fin 16) : State :=
  let t := ((s.endHoming a 0x21).clearQueue a 1)
  t.onAx a (fun x => { x with
    follow := none
    reversing := false
    stop := if x.stop.isSome ∧ (x.reaction = 4 ∨ (x.reaction = 3 ∧ !hard)) then x.stop
      else some (if hard then .hard else .profile) })

/-- R84: the only move of the axis completed at this tick. -/
def State.justDone (s : State) (a : Fin 16) : Bool :=
  let x := s.ax a
  x.queue = [] && x.homing.isNone && x.completedAt = some s.frame64

/-- AXIS_ABORT (R84, R236, R252): an abort of a slave acts on its master. -/
def execAxisAbort (r : Req) (axis kind : Byte) (s : State) : Host.Outcome State Fault Refusal :=
  .next (s.request 0x35 r (fun _ s =>
    match s.axesArg axis with
    | none => s.refuse r 0x35 Status.badParameter
    | some l =>
      if 1 < kind.toNat then s.refuse r 0x35 Status.badParameter
      else if l ≠ [] ∧ l.all s.justDone then s.refuse r 0x35 Status.alreadyDone
      else
        let targets := l.map (fun a => match (s.ax a).gear with | some g => g.master | none => a)
        let t := s.each (targets.filter (fun a => !s.justDone a)) (fun a t => t.abortAxis (kind = 1) a)
        t.answer r 0x35 Status.ok .bare))

/-! ### Gearing and latches -/

/-- The geared demand that a master's demand gives a slave, before its catch-up term (R249). -/
def Gear.demand (g : Gear) (m : Demand) : Demand :=
  { p := g.offset + rdiv (g.ratio * (2 * frameRate * frameRate * m.p + 2 * frameRate * m.v + m.a)) (65536 * 2 * frameRate * frameRate)
    v := rdiv (g.ratio * (frameRate * m.v + m.a)) (65536 * frameRate)
    a := rdiv (g.ratio * m.a) 65536 }

/-- Engage a slave (R250): the catch-up term starts from the difference to the geared state at engagement. -/
def State.engage (s : State) (m sl : Fin 16) (flags : Half) (ratio offset : Int) : State :=
  let dm := (s.ax m).demand
  let ds := (s.ax sl).demand
  let scaled := fun v : Int => rdiv (ratio * v) 65536
  let off := if flags = 1 then ds.p - scaled dm.p else offset * Q
  let term : Demand := { p := ds.p - (off + scaled dm.p), v := ds.v - scaled dm.v, a := 0 }
  s.onAx sl (fun x => { x with gear := some { master := m, ratio := ratio, offset := off, term := term }, stop := none })

/-- The refusals of GEAR_ENGAGE that read what the axes are doing (R248): the pairing, which comes before the range of the
ratio, and the states. -/
def State.gearPairing (s : State) (m sl : Fin 16) : Bool :=
  (s.ax sl).gear.isSome || s.masters sl || (s.ax m).gear.isSome

def State.gearStates (s : State) (m sl : Fin 16) : List (Bool × Nat) :=
  let xs := s.ax sl
  [((s.ax m).state = .disabled || xs.state = .disabled, Status.axisDisabled),
   (decide (xs.queue ≠ []) || xs.homing.isSome || xs.follow.isSome, Status.busy)]

/-- GEAR_ENGAGE (R248). A staged request meets the refusals that read the axes' states at its commit tick
(DEDUCED, notes/assumptions/10). -/
def execGearEngage (r : Req) (master slave : Byte) (flags : Half) (ratio offset : Word) (s : State) :
    Host.Outcome State Fault Refusal :=
  .next (s.request 0x36 r (fun k s => s.onAxis r 0x36 master (fun m s => s.onAxis r 0x36 slave (fun sl s =>
    let first := [(decide (2 ≤ flags.toNat), Status.badParameter), (decide (m = sl), Status.badParameter)]
    let pairing := [(s.gearPairing m sl, Status.badParameter)]
    let range := [(decide (ratio = 0 ∨ 262144 < ratio.toInt.natAbs), Status.outOfRange)]
    let states := s.gearStates m sl
    s.checked r 0x36 (if r.tag = 0 then first ++ pairing ++ range ++ states else first ++ range) (fun s =>
      s.stageOr k r 0x36 (.gearEngage r master slave flags ratio offset) [] id Status.ok (fun _ => .bare) (fun s =>
        (s.engage m sl flags ratio.toInt offset.toInt).answer r 0x36 Status.ok .bare))))))

/-- GEAR_RELEASE (R254); a slave that is not geared is already released. -/
def execGearRelease (r : Req) (slave : Byte) (s : State) : Host.Outcome State Fault Refusal :=
  .next (s.request 0x37 r (fun k s => s.onAxis r 0x37 slave (fun sl s =>
    s.stageOr k r 0x37 (.gearRelease r slave) [] id Status.ok (fun _ => .bare) (fun s =>
      if (s.ax sl).gear.isSome then (s.ungear sl).answer r 0x37 Status.ok .bare
      else s.refuse r 0x37 Status.alreadyDone))))

/-- Arm a latch (R247). -/
def State.armLatch (s : State) (a : Fin 16) (source edge : Byte) : State :=
  s.onAx a (fun x => { x with latch := some { source := source, edge := edge }, latchValid := false })

/-- LATCH_ARM (R247). -/
def execLatchArm (r : Req) (axis source edge : Byte) (s : State) : Host.Outcome State Fault Refusal :=
  .next (s.request 0x38 r (fun k s => s.onAxis r 0x38 axis (fun a s =>
    s.checked r 0x38 [(decide (¬(source.toNat < 32 ∨ source = 0x40) ∨ 2 < edge.toNat), Status.badParameter)] (fun s =>
      s.stageOr k r 0x38 (.latchArm r axis source edge) [] id Status.ok (fun _ => .bare) (fun s =>
        (s.armLatch a source edge).answer r 0x38 Status.ok .bare)))))

/-- Whether an edge is the one a latch waits for (R247). -/
def Latch.takes (l : Latch) (source : Byte) (rising : Bool) : Bool :=
  decide (l.source = source) && (decide (l.edge = 2) || (decide (l.edge = 0) && rising) || (decide (l.edge = 1) && !rising))

/-- LATCH_CAPTURE (R247, and R244's SWITCH method): the position at an edge, interpolated between the measured positions
of the two frames that bracket it; `count` is the edge's timebase count in its frame. -/
def execLatchCapture (axis : Fin 16) (source : Byte) (rising : Bool) (count : Nat) (s : State) :
    Host.Outcome State Fault Refusal :=
  .next (
    let x := s.ax axis
    let pos := x.measuredBefore + rdiv ((x.measured - x.measuredBefore) * count) s.tb.frameLen
    let s := match x.latch with
      | some l => if l.takes source rising then
          s.onAx axis (fun x => { x with latch := none, latchTaken := some (pos, s.frame32) }) else s
      | none => s
    match x.homing with
    | some h =>
      if h.method = 1 ∧ !h.found ∧ h.captured = none ∧ source.toNat = s.parN 0x0916 axis.val ∧
          (rising = (s.parN 0x0917 axis.val = 0)) then
        s.onAx axis (fun x => { x with homing := some { h with captured := some pos } })
      else s
    | none => s)

/-- GEAR_SYNCHRONISED (R250): GEARED is set at the tick after the catch-up term has reached rest. -/
def execGearSynchronised (axis : Fin 16) (s : State) : Host.Outcome State Fault Refusal :=
  .next (match (s.ax axis).gear with
    | some g =>
      if g.term.p = 0 ∧ g.term.v = 0 ∧ !g.synced then s.onAx axis (fun x => { x with gear := some { g with synced := true } })
      else s
    | none => s)

end Sys2Proof.Machine
end

