-- ==== Sys2Proof/Machine/Homing.lean ====
section
/-! DEFINITION. Homing and end-of-travel (Motion Profiles, Queues and Gearing, R242 to R246): AXIS_HOME, HOME_FOUND,
PRF_HOME_FAIL and PRF_EOT_EXCEEDED. -/

namespace Sys2Proof.Machine

/-- Home is found at the point `point` (R246, steps 1 to 3). -/
def State.homeAt (s : State) (a : Fin 16) (h : Homing) (point : Int) : State :=
  let home := s.par 0x0910 a.val
  let d := home - point
  let back := s.par 0x0914 a.val
  let t := s.onAx a (fun x => { x with
    demand := { x.demand with p := x.demand.p + d * Q }
    measured := x.measured + d
    measuredBefore := x.measuredBefore + d
    positionOffset := x.positionOffset + d
    lastTarget := x.lastTarget + d
    homed := true
    latchValid := false
    homing := some { h with found := true, backoff := h.backoff && decide (back ≠ 0), target := home + s.openSign a * back } })
  t.event { code := 0x0982, inst := a.val, kind := 2, cls := 2, data := leBytesI 4 home, frame := s.frame64, order := a.val }

/-- AXIS_HOME (R244). -/
def execAxisHome (r : Req) (axis method : Byte) (flags : Half) (velocity : Word) (force : Half) (s : State) :
    Host.Outcome State Fault Refusal :=
  .next (s.request 0x43 r (fun k s => s.onAxis r 0x43 axis (fun a s =>
    let x := s.ax a
    let v := velocity.toInt
    let f := force.toInt
    s.checked r 0x43
      [(decide (2 < method.toNat), Status.badParameter),
       (decide (2 ≤ flags.toNat), Status.badParameter),
       (decide (method = 0) && (decide (signI v ≠ s.closeSign a) || s.stepperAt a), Status.badParameter),
       (decide (x.state = .disabled), Status.axisDisabled),
       ((s.axisChecks a).any (fun c => c.1 && c.2 = Status.faultLatched), Status.faultLatched),
       (decide (x.queue ≠ []) || x.gear.isSome || s.masters a || x.follow.isSome || x.homing.isSome ||
          (decide (method = 2) && decide (x.state ≠ .standstill)), Status.busy),
       (decide (s.par 0x090E a.val < v.natAbs), Status.outOfRange),
       (decide (f ≠ 0) && decide (f < 10 ∨ 10000 < f), Status.outOfRange)]
      (fun s =>
        let h : Homing := { method := method.toNat, velocity := v, force := if f = 0 then s.par 0x0911 a.val else f,
                            backoff := flags.toNat % 2 = 0, since := s.frame64, slot := some k, seq := r.seq }
        let t := (s.clearFault 0x0906 a.val).onAx a (fun x => { x with homing := some h, stop := none })
        let t := if method = 2 then t.homeAt a h (t.ax a).measured else t
        t.answer r 0x43 Status.pending .bare))))

/-- HOME_FOUND (R245, R246): the tick after the stop or the switch edge. -/
def execHomeFound (axis : Fin 16) (s : State) : Host.Outcome State Fault Refusal :=
  .next (match (s.ax axis).homing with
    | some h =>
      if h.found then s
      else
        match h.method, h.captured with
        | 1, some p => s.homeAt axis h p
        | 0, _ => if s.parN 0x0913 axis.val ≤ h.still then s.homeAt axis h (s.ax axis).measured else s
        | _, _ => s
    | none => s)

/-- PRF_HOME_FAIL (R246): home was not found in time; the axis decelerates to standstill (Table 10.8). -/
def execPrfHomeFail (axis : Fin 16) (s : State) : Host.Outcome State Fault Refusal :=
  .next (match (s.ax axis).homing with
    | some h =>
      if !h.found ∧ s.parN 0x0915 axis.val ≤ (s.frame64 - h.since).toNat then
        ((s.raise 0x0906 axis.val).onAx axis (fun x => { x with stop := some .profile })).endHoming axis 0x31
      else s
    | none => s)

/-- One frame of R245's count: still, and the force envelope governs. -/
def State.homingFrame (s : State) (a : Fin 16) : State :=
  s.onAx a (fun x => match x.homing with
    | some h =>
      if (x.speed.natAbs : Int) ≤ s.par 0x0912 a.val ∧ x.loops.reported = 4 then
        { x with homing := some { h with still := h.still + 1 } }
      else { x with homing := some { h with still := 0 } }
    | none => x)

/-- R246 step 4: complete a run whose axis has come to standstill. -/
def State.homingComplete (s : State) (a : Fin 16) : State :=
  let x := s.ax a
  match x.homing with
  | some h => if h.found ∧ !h.backoff ∧ x.demand.v = 0 ∧ x.demand.a = 0 then s.endHoming a Status.ok else s
  | none => s

/-- PRF_EOT_EXCEEDED (R242): once, when the measured position first passes the margin. -/
def execPrfEotExceeded (axis : Fin 16) (s : State) : Host.Outcome State Fault Refusal :=
  .next (if s.beyondSide axis ≠ 0 ∧ !(s.ax axis).beyond then
    (s.raise 0x0902 axis.val).onAx axis (fun x => { x with beyond := true }) else s)

end Sys2Proof.Machine
end

