-- ==== Sys2Proof/Machine/Commutation.lean ====
section
/-! DEFINITION. The commutation engine of one servo axis (Commutation and Field Control, R166 to R187, R193, R194):
reconstruction, angle sources, observer, regulators and modulation. Units are those of Table 8.1. -/

namespace Sys2Proof.Machine

/-! ### Numbers (R166, Table 8.1) -/

def Tri.get (t : Tri) : Nat → Int
  | 0 => t.u
  | 1 => t.v
  | _ => t.w

/-- A triple made element by element. -/
def Tri.of (f : Nat → Int) : Tri := { u := f 0, v := f 1, w := f 2 }

/-- The constant 2π to 30 places: x × 2π, rounded half away from zero (R166, R169). -/
def timesTwoPi (x : Int) : Int := rdiv (x * 6283185307179586476925286766559) 1000000000000000000000000000000

/-- The sum of a sine series: `term` is the term of order `n`, `xx` the square of the angle; all in 2^-80. -/
def sineSeries (xx : Int) : Nat → Int → Nat → Int
  | 0, _, _ => 0
  | fuel + 1, term, n => term + sineSeries xx fuel (-(term * xx / 2 ^ 80) / ((n + 1) * (n + 2))) (n + 2)

/-- The entries 0 to 1,024 of the sine table, the first quarter turn. -/
def sineQuarter (k : Nat) : Int :=
  let x : Int := 3141592653589793238462643383280 * k * 2 ^ 80 / (2048 * 1000000000000000000000000000000)
  min 32767 (rdiv (sineSeries (x * x / 2 ^ 80) 16 x 1) (2 ^ 65))

/-- The 4,096-entry sine table of Table 8.1 in q1.15: each entry is the sine rounded half away from zero and saturated to its
format, as R166 has of every scaling (DEDUCED, notes/assumptions/14). -/
def sineTable (i : Nat) : Int :=
  let k := i % 1024
  match i / 1024 % 4 with
  | 0 => sineQuarter k
  | 1 => sineQuarter (1024 - k)
  | 2 => -(sineQuarter k)
  | _ => -(sineQuarter (1024 - k))

/-- Sine of an angle, q1.15 (Table 8.1): the table is indexed by angle[15:4] and interpolated on angle[3:0]. -/
def sine (angle : Int) : Int :=
  let x := (angle % 65536).toNat
  let s := sineTable (x / 16)
  s + rdiv ((sineTable ((x / 16 + 1) % 4096) - s) * (x % 16 : Nat)) 16

def cosine (angle : Int) : Int := sine (angle + 16384)

/-- The angle whose tangent is 2^-i, in angle units, for the 16 steps of the CORDIC. -/
def cordicStep : List Int := [8192, 4836, 2555, 1297, 651, 326, 163, 81, 41, 20, 10, 5, 3, 1, 1, 0]

/-- The steps of a CORDIC in vectoring mode from step `i`: the angle of (x, y), for x not negative. -/
def cordicFrom : List Int → Nat → Int → Int → Int
  | [], _, _, _ => 0
  | g :: rest, i, x, y =>
    if 0 ≤ y then g + cordicFrom rest (i + 1) (x + rdiv y (2 ^ i)) (y - rdiv x (2 ^ i))
    else -g + cordicFrom rest (i + 1) (x - rdiv y (2 ^ i)) (y + rdiv x (2 ^ i))

/-- The angle of a vector by the 16-step CORDIC of R166, in 65,536ths of a turn: the angle is a u16 of Table 8.1 at every step, and
every shift rounds half away from zero (DEDUCED, notes/assumptions/14). -/
def cordicAngle (y x : Int) : Int :=
  if x < 0 then (32768 + cordicFrom cordicStep 0 (-x) (-y)) % 65536 else cordicFrom cordicStep 0 x y % 65536

/-- Park: the dq components of a vector at an angle. -/
def park (alpha beta theta : Int) : Int × Int :=
  (sat32 (rdiv (alpha * cosine theta + beta * sine theta) 32768),
   sat32 (rdiv (beta * cosine theta - alpha * sine theta) 32768))

/-- Inverse Park. -/
def unpark (d q theta : Int) : Int × Int :=
  (sat32 (rdiv (d * cosine theta - q * sine theta) 32768),
   sat32 (rdiv (d * sine theta + q * cosine theta) 32768))

/-- Clarke (step 3 of Table 8.2). -/
def clarke (a b : Int) : Int × Int := (a, sat32 (rdiv ((a + 2 * b) * 37837) 65536))

/-- The three phases of a vector. -/
def phases (alpha beta : Int) : Tri :=
  { u := alpha, v := sat32 (rdiv (113512 * beta - 65536 * alpha) 131072), w := sat32 (rdiv (-113512 * beta - 65536 * alpha) 131072) }

/-- The vector of three phases, whose common part drops out. -/
def vectorOf (t : Tri) : Int × Int := (sat32 (rdiv (2 * t.u - t.v - t.w) 3), sat32 (rdiv ((t.v - t.w) * 37837) 65536))

/-- A share of COM.SPEED_RATED in 0.01%, as electrical speed in q16.16 angle units per frame. -/
def State.speedShare (s : State) (a : Fin 16) (share : Int) : Int :=
  rdiv (share * s.par 0x0606 a.val * 4294967296) 2000000000

/-- H of R184, and the speed below which the injection takes over again. -/
def State.handover (s : State) (a : Fin 16) : Int := s.speedShare a (s.par 0x0622 a.val)
def State.handback (s : State) (a : Fin 16) : Int := s.speedShare a (s.par 0x0622 a.val - s.par 0x0623 a.val)

def State.feedback (s : State) (a : Fin 16) : Nat := s.parN 0x0600 a.val

/-- ω × x × 2π in mV, for a speed in q16.16 and x in nWb (ω × ψ). -/
def emfOf (omega x : Int) : Int := sat32 (rdiv (timesTwoPi (omega * 20000 * x)) 4294967296000000)

/-- The bay's VBUS in mV as the engine has it (R135). -/
def State.vbusOf (s : State) (b : Fin 16) : Int := (s.die (dieOf b)).vbusAt

/-- Dead time and minimum pulse in counts. -/
def State.dead (s : State) (b : Fin 16) : Int := s.par 0x0301 b.val / 5
def State.minPulse (s : State) (b : Fin 16) : Int := s.par 0x0302 b.val / 5

/-- The limit of R170 on the voltage vector, in mV. -/
def State.voltageLimit (s : State) (a : Fin 16) : Int :=
  let v := s.par 0x0611 a.val * s.vbusOf a
  isqrtI (rdiv (v * v) 300000000)

/-! ### Samples and reconstruction (R174 to R178) -/

/-- The records that the lanes use in the compute slot of an axis: by then those of the last frame have come, of every bay, and
none of the present frame (R42, R159, Tables 2.1 and 2.2). -/
def State.takeRecords (s : State) (a : Fin 16) : State :=
  s.each (s.baysOfAxis a) (fun b t => t.onBay b (fun y => { y with
    used0 := y.sample0, used1 := y.sample1, usedFlags := y.recordFlags, usedChop := y.chopRecord }))

/-- The amplifier gain of a bay (Table 7.1). -/
def State.gainOf (s : State) (b : Fin 16) : Int := (5 * 2 ^ s.parN 0x0500 b.val : Nat)

/-- A corrected sample in µA (step 1 of Table 8.2). -/
def State.microamps (s : State) (b : Fin 16) (v : Int) : Int :=
  let k := rdiv (65536 * 6103515625) (10 * s.gainOf b * s.par 0x0501 b.val)
  sat32 (rdiv (v * k) 65536)

/-- The legs in the order of their duties: largest, middle, smallest (Table 8.3). -/
def sector (d : Tri) : Nat × Nat × Nat :=
  if d.v ≤ d.u ∧ d.w ≤ d.v then (0, 1, 2)
  else if d.u < d.v ∧ d.w ≤ d.u then (1, 0, 2)
  else if d.w ≤ d.v ∧ d.u < d.w then (1, 2, 0)
  else if d.v < d.w ∧ d.u < d.v then (2, 1, 0)
  else if d.u < d.w ∧ d.v ≤ d.u then (2, 0, 1)
  else (0, 2, 1)

/-- The first edge of a leg without its shift (R108). -/
def Plan.edge (p : Plan) (k : Nat) : Int := (p.period - p.duty.get k) / 2

/-- δ_k of R177 at a hold count. -/
def Plan.delta (p : Plan) (t : Int) (k : Nat) : Int :=
  let lo := p.edge k
  let d := p.duty.get k
  clampI 0 d (t - (lo + p.shift.get k)) - clampI 0 d (t - lo)

/-- Δi of a phase at a hold count, in µA (R177). -/
def State.shiftCorrection (s : State) (a : Fin 16) (p : Plan) (t : Int) (k : Nat) : Int :=
  let sum := p.delta t 0 + p.delta t 1 + p.delta t 2
  sat32 (rdiv (10000 * s.vbusOf a * (3 * p.delta t k - sum)) (3 * (s.par 0x0603 a.val + s.par 0x0604 a.val)))

/-- The motor model over one frame in the rotor frame: the currents that follow i_d, i_q (R178, R194). -/
def State.motorModel (s : State) (a : Fin 16) (id iq vd vq omega : Int) : Int × Int :=
  let rs := s.par 0x0602 a.val
  let ld := s.par 0x0603 a.val
  let lq := s.par 0x0604 a.val
  let psi := s.par 0x0605 a.val * 1000
  let ed := vd - rdiv (rs * id) 1000000000 + emfOf omega (rdiv (lq * iq) 1000000)
  let eq := vq - rdiv (rs * iq) 1000000000 - emfOf omega (rdiv (ld * id) 1000000 + psi)
  (sat32 (id + rdiv (50000000 * ed) ld), sat32 (iq + rdiv (50000000 * eq) lq))

/-- The reconstructed phases of the sampled frame: the currents, whether every current the frame needs is measured, and the
prediction. -/
structure Reading where
  alpha : Int
  beta : Int
  complete : Bool
  predAlpha : Int
  predBeta : Int
  deriving DecidableEq, Repr

/-- Steps 1 to 3 of Table 8.2. The prediction rotates the last frame's vector by ω and advances it through the motor model
(R178), in the dq frame in which the engine worked and its voltages were applied; with a leg out of use, the one current is taken from whichever sample measures a live phase (R179). -/
def State.reconstruct (s : State) (a : Fin 16) : Reading :=
  let b := s.bay a
  let c := (s.ax a).com
  let p := c.planBefore
  let has0 := !b.usedFlags.testBit 0
  let has1 := !b.usedFlags.testBit 1
  let (first, _, last) := sector p.duty
  let m0 := sat32 (s.microamps a b.used0 - s.shiftCorrection a p (p.trig0 + 40) first)
  let m1 := sat32 (-(s.microamps a b.used1) - s.shiftCorrection a p (p.trig1 + 40) last)
  let (id, iq) := park c.iAlpha c.iBeta c.driveTheta
  let (pd, pq) := s.motorModel a id iq p.vd p.vq c.driveOmega
  let (pa, pb) := unpark pd pq (c.driveTheta + rdiv c.driveOmega 65536)
  let pred := phases pa pb
  match p.dead with
  | some k =>
    let x := (k.val + 1) % 3
    let y := (k.val + 2) % 3
    let live0 := has0 && decide (first ≠ k.val)
    let live1 := has1 && decide (last ≠ k.val)
    let i : Int := if live0 then (if first = x then m0 else -m0) else if live1 then (if last = x then m1 else -m1)
      else rdiv (pred.get x - pred.get y) 2
    let (al, be) := vectorOf (Tri.of (fun j => if j = x then i else if j = y then -i else 0))
    { alpha := al, beta := be, complete := live0 || live1, predAlpha := pa, predBeta := pb }
  | none =>
    let ph : Tri :=
      if has0 && has1 then Tri.of (fun k => if k = first then m0 else if k = last then m1 else -(m0 + m1))
      else if has0 then Tri.of (fun k => if k = first then m0 else pred.get k - rdiv (m0 - pred.get first) 2)
      else if has1 then Tri.of (fun k => if k = last then m1 else pred.get k - rdiv (m1 - pred.get last) 2)
      else pred
    let (al, be) := if has0 || has1 then clarke ph.u ph.v else (pa, pb)
    { alpha := al, beta := be, complete := has0 && has1, predAlpha := pa, predBeta := pb }

/-! ### Angle sources (R180 to R187) -/

/-- The state index of the hall inputs in the order of positive rotation (R185). -/
def State.hallIndex (s : State) (a : Fin 16) (fb : BitVec 3) : Option Nat :=
  let order : List (BitVec 3) := [1, 3, 2, 6, 4, 5]
  (if s.par 0x0641 a.val = 1 then order.reverse else order).findIdx? (fun x => x = fb)

def State.hallCentre (s : State) (a : Fin 16) (j : Nat) : Int := (j : Int) * 10923 + s.par 0x0640 a.val

/-- A frame without a hall transition: θ advances by ω within the state, and past four intervals it stands at the centre. -/
def State.hallHold (s : State) (a : Fin 16) (j : Nat) (bad : Nat) (c : Commutation) : Commutation :=
  let centre := s.hallCentre a j
  let n := c.hallSince + 1
  if c.hallInterval = 0 ∨ 4 * c.hallInterval < n then
    { c with theta := (centre % 65536).toNat, omega := 0, hallSince := n, hallBad := bad }
  else
    let d := clampI (-5461) 5461 (wrapSigned 16 (c.theta + rdiv c.omega 65536 - centre))
    { c with theta := ((centre + d) % 65536).toNat, hallSince := n, hallBad := bad }

/-- One frame of hall feedback (R185). `hall` holds the state's index plus 1, 0 while none is known. An invalid state is no
transition, so that the frame advances like one without. `fb` are the inputs behind the digital filter of COM.FB_FILTER, which
acts within 80 ns (notes/assumptions/54). -/
def State.hallFrame (s : State) (a : Fin 16) (fb : BitVec 3) (c : Commutation) : Commutation :=
  match s.hallIndex a fb with
  | none => if c.hall = 0 then { c with hallBad := c.hallBad + 1 } else s.hallHold a (c.hall - 1) (c.hallBad + 1) c
  | some j =>
    let centre := s.hallCentre a j
    if c.hall = 0 then { c with hall := j + 1, theta := (centre % 65536).toNat, omega := 0, hallSince := 0, hallBad := 0 }
    else
      let i := c.hall - 1
      let step := (j + 6 - i) % 6
      if step = 0 then s.hallHold a j 0 c
      else if step = 1 ∨ step = 5 then
        let dir : Int := if step = 1 then 1 else -1
        let n := c.hallSince + 1
        { c with hall := j + 1, hallInterval := n, hallSince := 0, hallBad := 0,
                 omega := dir * rdiv (10923 * 65536) n,
                 theta := ((s.hallCentre a i + dir * 5461) % 65536).toNat }
      else -- a transition to a state that is no neighbour: its centre, at the speed before (DESIGN CHOICE, notes/assumptions/141)
        { c with hall := j + 1, hallBad := c.hallBad + 1, theta := (centre % 65536).toNat, hallSince := 0 }

/-- The electrical angle of an encoder count before its alignment offset (R186). -/
def State.encoderAngle (s : State) (a : Fin 16) (count : Int) : Int :=
  rdiv (count * s.par 0x0601 a.val * 65536) (4 * s.par 0x0642 a.val)

/-- One frame of encoder feedback (R186). -/
def State.encoderFrame (s : State) (a : Fin 16) (edges : Int) (c : Commutation) : Commutation :=
  let n := c.encoder + BitVec.ofInt 32 edges
  { c with encoder := n
           theta := ((s.encoderAngle a n.toNat + c.alignOffset) % 65536).toNat
           omega := sat32 (rdiv (edges * s.par 0x0601 a.val * 4294967296) (4 * s.par 0x0642 a.val)) }

/-- A PLL of bandwidth `bw` on an angle error; θ is in 2^-16 angle units, and its integrator, the speed, an i64 (R181, R183, Table
8.1). -/
def pll (bw : Nat) (theta omega err : Int) : Int × Int :=
  let w := sat64 (omega + Config.pllKi bw * err)
  ((theta + w + Config.pllKp bw * err) % 4294967296, w)

/-- The hold of the sample taken as the sample instant, in counts from the period start (R168, R181): that of TRIG0, for the manual
does not say which of a frame's two samples it means (DESIGN CHOICE, notes/assumptions/136). -/
def Plan.hold (p : Plan) : Int := p.trig0 + 40

/-- What the engine runs on an axis in a frame. -/
inductive Drive where
  | off | low | run | acquire | inject | polarity | align
  /-- A step of identification, by its bit, in its frame (R196). -/
  | identify (step frame : Nat)
  deriving DecidableEq, Repr

/-- The identification step in progress: the first selected one not completed (R196). -/
def Axis.identifyStep (x : Axis) : Option Nat :=
  match x.identify with
  | some i => (List.range 4).find? (fun b => i.steps.testBit b && !x.com.idDone.testBit b)
  | none => none

def State.drive (s : State) (a : Fin 16) : Drive :=
  let x := s.ax a
  match x.enabling with
  | some e =>
    match e.step with
    | .calibrate | .diode => .off
    | .brake => .low
    | .acquire => .acquire
    | .injection => .inject
    | .polarity => .polarity
    | .align => .align
  | none =>
    if x.state = .shorted then .low
    else if x.loops.running then .run
    else
      match x.identify, x.identifyStep with
      | some i, some b => .identify b (s.frame64 - i.since).toNat
      | _, _ => .off

/-- Whether the engine drives currents. -/
def Drive.active : Drive → Bool
  | .off | .low => false
  | _ => true

/-- Whether the square wave is applied to an axis in this frame (R180, R182, R184, R186). -/
def State.injecting (s : State) (a : Fin 16) : Bool :=
  let x := s.ax a
  match s.drive a with
  | .inject => true
  | .run => s.feedback a = 0 && decide (0 < x.com.injFade)
  | _ => false

/-- The amplitude of the square wave (R184). -/
def State.injAmplitude (s : State) (a : Fin 16) : Int :=
  rdiv (s.par 0x0620 a.val * (s.ax a).com.injFade) (s.par 0x0624 a.val)

/-- s(k) of R180. -/
def injSign (frame : Nat) : Int := if frame % 2 = 0 then 1 else -1

/-- A of R181 in µA. -/
def State.injSwing (s : State) (a : Fin 16) (hold : Int) : Int :=
  let ld := s.par 0x0603 a.val
  let lq := s.par 0x0604 a.val
  rdiv (s.par 0x0620 a.val * (5000 - hold) * 10000 * (lq - ld)) (ld * lq)

/-- The demodulator and the injection PLL (R181, R182). The samples are those of the frame before the present one, and the angle
that transforms them is the PLL's before its update. In the polarity test the PLL runs on without an error; an angle that the
injection does not give follows the observer (R184). -/
def State.injectionFrame (s : State) (a : Fin 16) (al be : Int) (c : Commutation) : Commutation :=
  match s.drive a, c.source with
  | .inject, _ => demodulate
  | .polarity, _ => let (t, w) := pll (s.parN 0x0621 a.val) c.injTheta c.injOmega 0; { c with injTheta := t, injOmega := w }
  | .run, 0 => if s.feedback a = 0 then demodulate else follow
  | _, _ => follow
where
  follow : Commutation := { c with injTheta := c.obsTheta, injOmega := c.obsOmega }
  demodulate : Commutation :=
    let th := rdiv c.injTheta 65536
    let dq := sat32 ((park al be th).2 - (park c.iAlpha c.iBeta th).2)
    let hold := c.planBefore.hold
    let eps := injSign s.frame64.toNat * sat32 (rdiv (dq * 5000) (5000 - hold))
    let swing := s.injSwing a hold
    let err := rdiv (eps * 65536) (2 * timesTwoPi swing)
    let (t, w) := pll (s.parN 0x0621 a.val) c.injTheta c.injOmega err
    let f := Config.injectionFilter c.injError eps.natAbs
    { c with injTheta := t, injOmega := w, injError := f,
             convergeRun := if 10 * f < swing then c.convergeRun + 1 else 0 }

/-- ψ_a of R183 in nWb. -/
def State.activeFlux (s : State) (a : Fin 16) : Int :=
  s.par 0x0605 a.val * 1000 + rdiv ((s.par 0x0603 a.val - s.par 0x0604 a.val) * s.par 0x0608 a.val) 1000

/-- The flux observer and its PLL (R183): η and θ_obs come from the state before its update. -/
def State.observerFrame (s : State) (a : Fin 16) (al be : Int) (c : Commutation) : Commutation :=
  let lq := s.par 0x0604 a.val
  let rs := s.par 0x0602 a.val
  let psi := s.activeFlux a
  let ea := sat32 (c.fluxA - rdiv (lq * al) 1000000)
  let eb := sat32 (c.fluxB - rdiv (lq * be) 1000000)
  let dev := psi * psi - (ea * ea + eb * eb)
  let step := fun (x v i eta : Int) => sat32 (x + 50 * v - rdiv (50 * rs * i) 1000000000 +
    rdiv (timesTwoPi (s.par 0x0630 a.val * eta * dev)) (20000 * psi * psi))
  let fa := step c.fluxA c.planBefore.vAlpha al ea
  let fb := step c.fluxB c.planBefore.vBeta be eb
  let ang := cordicAngle eb ea
  let (t, w) := pll (s.parN 0x0631 a.val) c.obsTheta c.obsOmega (wrapSigned 16 (ang - rdiv c.obsTheta 65536))
  { c with fluxA := fa, fluxB := fb, obsTheta := t, obsOmega := w,
           fluxRun := (isqrtI (ea * ea + eb * eb) :: c.fluxRun).take 8 }

/-- The filtered |η| in nWb (R183): the mean of the last 8 frames (DESIGN CHOICE, notes/assumptions/137). -/
def Commutation.flux (c : Commutation) : Int :=
  if c.fluxRun = [] then 0 else rdiv (sumI c.fluxRun) c.fluxRun.length

/-- The sensorless angle source of the frame (R184): 0 injection, 1 observer. -/
def State.sourceFrame (s : State) (a : Fin 16) (c : Commutation) : Commutation :=
  let w : Int := (if c.source = 1 then c.obsOmega else c.injOmega).natAbs
  let ramp := s.parN 0x0624 a.val
  if c.source = 0 then
    if s.handover a ≤ w then { c with source := 1, obsTheta := c.injTheta, obsOmega := c.injOmega }
    else { c with injFade := ramp }
  else if w < s.handback a then { c with source := 0, injTheta := c.obsTheta, injOmega := c.obsOmega, injFade := ramp }
  else { c with injFade := c.injFade - 1 }

/-- θ_s and ω of an axis from a PLL. -/
def Commutation.takeAngle (c : Commutation) (observer : Bool) : Commutation :=
  let (t, w) := if observer then (c.obsTheta, c.obsOmega) else (c.injTheta, c.injOmega)
  { c with theta := (rdiv t 65536 % 65536).toNat, omega := sat32 w }

/-- Where identification holds or turns its vector (Table 8.7). -/
def State.identifyAngle (s : State) (a : Fin 16) (step k : Nat) : Int :=
  match step with
  | 0 => 0
  | 1 => (k / 4 % 16 * 4096 : Nat)
  | 2 => if k < 40000 then rdiv (65536 * k) 20000 else rdiv (65536 * (80000 - k)) 20000
  | _ => Config.rampAngle (s.par 0x0606 a.val) k

/-- The speed at which that vector turns, in q16.16 angle units per frame (R168). -/
def State.identifySpeed (s : State) (a : Fin 16) (step k : Nat) : Int :=
  match step with
  | 2 => if k < 40000 then rdiv (65536 * 65536) 20000 else -rdiv (65536 * 65536) 20000
  | 3 => sat32 ((s.identifyAngle a 3 (k + 1) - s.identifyAngle a 3 k) * 65536)
  | _ => 0

/-- Step 4 of Table 8.2: θ_s at the sample instant and ω. The PLLs were updated with the sample before, so that their angles are
those of this one. Before the loops run a sensorless axis has its angle from what drives it, else from the observer. -/
def State.angleSource (s : State) (a : Fin 16) (fb : BitVec 3) (edges : Int) (c : Commutation) : Commutation :=
  match s.feedback a with
  | 1 => s.hallFrame a fb c
  | 2 => s.encoderFrame a edges c
  | _ =>
    match s.drive a with
    | .run => let d := s.sourceFrame a c; d.takeAngle (decide (d.source = 1))
    | .inject | .polarity => c.takeAngle false
    | _ => if (s.ax a).state.enabled then c.takeAngle true else { c with omega := 0 }

/-- The angle of the dq frame in which a drive works. -/
def State.driveAngle (s : State) (a : Fin 16) (c : Commutation) : Int :=
  match s.drive a with
  | .align => 0
  | .inject | .polarity => rdiv c.injTheta 65536
  | .identify b k => s.identifyAngle a b k
  | _ => c.theta

/-- The speed at which the dq frame of a drive turns, in q16.16 (R168). -/
def State.driveSpeed (s : State) (a : Fin 16) (c : Commutation) : Int :=
  match s.drive a with
  | .align => 0
  | .inject | .polarity => sat32 c.injOmega
  | .identify b k => s.identifySpeed a b k
  | _ => c.omega

/-! ### Checks (R193, R194) -/

/-- A frame counted toward loss of synchronism (R193). -/
def State.losFrame (s : State) (a : Fin 16) (c : Commutation) : Bool :=
  let psi := s.activeFlux a
  let w : Int := c.omega.natAbs
  let lim := s.par 0x0661 a.val
  let apart := fun (x y : Int) => decide (lim < ((wrapSigned 16 (x - y)).natAbs : Int))
  if s.feedback a = 0 then
    (decide (c.source = 1) && decide (s.par 0x0660 a.val * psi < 1000 * ((c.flux - psi).natAbs : Int))) ||
    (decide (s.handback a ≤ w) && decide (w ≤ s.speedShare a 500) && apart (rdiv c.injTheta 65536) (rdiv c.obsTheta 65536))
  else decide (s.speedShare a 1000 < w) && apart c.theta (rdiv c.obsTheta 65536)

/-- The reconstruction differs from the prediction by more than COM.PLAUS_LEVEL (R194). -/
def State.implausible (s : State) (a : Fin 16) (r : Reading) : Bool :=
  let da := r.alpha - r.predAlpha
  let db := r.beta - r.predBeta
  let lim := rdiv (s.par 0x0664 a.val * s.par 0x0503 a.val * 1000000) (s.par 0x0501 a.val)
  decide (lim * lim < da * da + db * db)

/-! ### The first half of the chain: steps 1 to 5 -/

/-- The half-bridge of a servo bay that R130 alone held in COAST at the tick (R179, R323). -/
def State.deadLeg (s : State) (a : Fin 16) : Option (Fin 3) :=
  match (allFin 3).filter (fun x => (s.hb (hbOf a x)).coastAt = [2]) with
  | [x] => if (allFin 3).all (fun y => y = x || (s.hb (hbOf a y)).coastAt = []) then some x else none
  | _ => none

/-- The delivered position and speed (R187). -/
def State.deliver (s : State) (a : Fin 16) (edges turn : Int) : State :=
  s.onAx a (fun x =>
    let enc := s.feedback a = 2
    let acc := x.com.angleAcc + (if enc then edges else turn)
    let pos := (if enc then acc else rdiv acc 16) + x.positionOffset
    { x with com := { x.com with angleAcc := acc }, measuredBefore := x.measured, measured := pos,
             speed := if enc then edges * 20000 else rdiv (x.com.omega * 20000) 1048576 })

/-- |i_d'| of the pulses of a polarity test (R182), two frames after they are computed: of a pulse's two frames the larger (DESIGN
CHOICE, notes/assumptions/138). -/
def State.polarityPulse (s : State) (a : Fin 16) (d : Int) (c : Commutation) : Commutation :=
  match s.drive a, (s.ax a).enabling with
  | .polarity, some e =>
    let k := (s.frame64 - e.since).toNat % 12
    let m : Int := d.natAbs
    if k = 2 then { c with posPulse := m }
    else if k = 3 then { c with posPulse := max c.posPulse m }
    else if k = 8 then { c with negPulse := m }
    else if k = 9 then { c with negPulse := max c.negPulse m }
    else c
  | _, _ => c

/-- Steps 1 to 5 of Table 8.2. The observer runs in every frame of an enabled axis (R183), and so do the checks of R194 and of the
speed, which a sensorless axis has only where the engine drives currents; R193 checks those frames alone. The position of a
sensorless axis does not follow the observer's angle in the enabled frames that the engine does not drive (DESIGN CHOICE,
notes/assumptions/139). An axis that is not enabled only follows its feedback. -/
def State.measure (s : State) (a : Fin 16) (fb : BitVec 3) (edges : Int) : State :=
  let x := s.ax a
  let dr := s.drive a
  let before : Int := x.com.theta
  let sensorless := decide (s.feedback a = 0)
  let s0 := (s.takeRecords a).onAx a (fun x => { x with com := { x.com with planBefore := x.com.planNow, planNow := x.com.plan } })
  let c0 := (s0.ax a).com
  let c1 := s0.angleSource a fb edges c0
  let turn := if sensorless && !dr.active then 0 else wrapSigned 16 ((c1.theta : Int) - before)
  if !(x.state.enabled || dr.active) then
    (s0.onAx a (fun x => { x with
      com := { c1 with losRun := 0, plausRun := 0, overRun := 0, predicted := false, driveTheta := s0.driveAngle a c1, driveOmega := s0.driveSpeed a c1 } })).deliver a edges turn
  else
    let r := s0.reconstruct a
    let th := s0.driveAngle a c1
    let (d, q) := park r.alpha r.beta th
    let (d0, q0) := park c0.iAlpha c0.iBeta th
    let c2 := s0.injectionFrame a r.alpha r.beta (s0.observerFrame a r.alpha r.beta c1)
    let inj := s0.injecting a
    let los := s0.losFrame a { c1 with fluxRun := c2.fluxRun }
    let tooFast : Bool := decide (s0.speedShare a (s0.par 0x0666 a.val * 10) < c1.omega.natAbs)
    let c3 := { c2 with
      iAlpha := r.alpha, iBeta := r.beta, idFrame := d, iqFrame := q
      id := if inj then rdiv (d + d0) 2 else d
      iq := if inj then rdiv (q + q0) 2 else q
      predicted := dr.active && !r.complete
      incomplete := if r.complete then 0 else c2.incomplete + 1
      losRun := if dr.active && los then c2.losRun + 1 else 0
      plausRun := if r.complete then (if s0.implausible a r then c2.plausRun + 1 else 0) else c2.plausRun
      overRun := if tooFast && (dr.active || !sensorless) then c2.overRun + 1 else 0
      driveTheta := th, driveOmega := s0.driveSpeed a c1 }
    let c3 := match dr with
      | .identify 0 k => if k = 399 then { c3 with idLow := (c3.plan.vd, d) } else if k = 799 then { c3 with idHigh := (c3.plan.vd, d) } else c3
      | .identify 3 _ => { c3 with idHigh := (c3.plan.vq, q) }
      | _ => c3
    (s0.onAx a (fun x => { x with com := s0.polarityPulse a d c3 })).deliver a edges turn

/-! ### The second half: steps 6 to 10 -/

/-- The demand vector in µA, limited to COM.I_MAX with d priority (R169). -/
def State.demandVector (s : State) (a : Fin 16) : Int × Int :=
  let imax := s.par 0x0607 a.val * 1000
  let d := clampI (-imax) imax (s.par 0x0608 a.val * 1000)
  let q := isqrtI (imax * imax - d * d)
  (d, clampI (-q) q (rdiv ((s.ax a).loops.out * 1000) 65536))

/-- A regulator in a frame (R169): the proportional part in mV and the advance of its integrator in 2^-16 mV. -/
def State.regulator (s : State) (a : Fin 16) (l e : Int) : Int × Int :=
  let bw := s.par 0x0610 a.val
  (sat32 (rdiv (timesTwoPi (l * bw * e)) 1000000000000),
   sat64 (rdiv (timesTwoPi (s.par 0x0602 a.val * bw * e) * 65536) 20000000000000))

/-- Both regulators with feed-forward and the limit of R170: the voltages and the integrators. -/
def State.regulate (s : State) (a : Fin 16) (id iq rd rq omega : Int) (c : Commutation) : Int × Int × Commutation :=
  let ld := s.par 0x0603 a.val
  let lq := s.par 0x0604 a.val
  let (pd, ad) := s.regulator a ld (rd - id)
  let (pq, aq) := s.regulator a lq (rq - iq)
  let fd := sat32 (pd - emfOf omega (rdiv (lq * iq) 1000000))
  let fq := sat32 (pq + emfOf omega (rdiv (ld * id) 1000000 + s.par 0x0605 a.val * 1000))
  let ud := sat32 (fd + rdiv c.intD 65536)
  let uq := sat32 (fq + rdiv c.intQ 65536)
  let lim := s.voltageLimit a
  let vd := clampI (-lim) lim ud
  let lq2 := isqrtI (lim * lim - vd * vd)
  let vq := clampI (-lq2) lq2 uq
  let hold := decide (4 ≤ c.incomplete)
  (vd, vq, { c with
    intD := if hold then c.intD else if vd ≠ ud then sat64 ((vd - fd) * 65536) else sat64 (c.intD + ad)
    intQ := if hold then c.intQ else if vq ≠ uq then sat64 ((vq - fq) * 65536) else sat64 (c.intQ + aq) })

/-- Dead-time compensation of a leg voltage (R171). -/
def State.deadTimeVolts (s : State) (a : Fin 16) (period i : Int) : Int :=
  let band := s.par 0x0612 a.val * 1000
  let full := s.vbusOf a * s.dead a
  if band = 0 then 0
  else if i.natAbs < band.natAbs then rdiv (full * i) (period * band)
  else rdiv (full * signI i) period

/-- The period that the next set is checked against (R114). -/
def State.nextPeriod (s : State) (b : Fin 16) : Nat :=
  match (s.bay b).carrierHeld with | some p => p | none => (s.bay b).periodPending

/-- The leg voltages of three phase voltages: about their midpoint, with dead-time compensation (R171, R172). -/
def State.legVolts (s : State) (a : Fin 16) (period : Int) (u : Tri) (i : Tri) : Tri :=
  let hi := max u.u (max u.v u.w)
  let lo := min u.u (min u.v u.w)
  let mid := rdiv (hi + lo) 2
  Tri.of (fun k => sat32 (u.get k - mid + s.deadTimeVolts a period (i.get k)))

/-- Duties of three leg voltages (R172). -/
def State.duties (s : State) (a : Fin 16) (period : Int) (legs : Tri) : Tri :=
  let vbus := s.vbusOf a
  Tri.of (fun k => clampI 0 period (rdiv (period * vbus + 2 * period * legs.get k) (2 * vbus)))

/-- The largest shift of R115. -/
def State.shiftLimit (s : State) (b : Fin 16) (period d : Int) : Int :=
  max 0 ((period - d) / 2 - s.dead b - s.minPulse b)

/-- Shifts and triggers of R175: the plan, and whether each trigger is enabled. -/
def State.window (s : State) (a : Fin 16) (p : Plan) : Plan × Bool × Bool :=
  let (hi, md, lo) := sector p.duty
  let w := 240 + s.dead a
  let lim := fun k => s.shiftLimit a p.period (p.duty.get k)
  let g1 := p.edge md - p.edge hi
  let g2 := p.edge lo - p.edge md
  let sMax := -(min (max 0 (w - g1)) (lim hi))
  let sMin := min (max 0 (w - g2)) (lim lo)
  ({ p with shift := Tri.of (fun k => if k = hi then sMax else if k = lo then sMin else 0)
            trig0 := p.edge hi + sMax + s.dead a + 160
            trig1 := p.edge md + s.dead a + 160 },
   decide (w ≤ g1 - sMax), decide (w ≤ g2 + sMin))

/-- The modes of Table 5.1. -/
def entryWord (mode : Nat) (duty shift : Int) : Word :=
  BitVec.ofNat 32 (duty.toNat % 16384 + mode * 16384 + (shift % 16384).toNat * 65536)

def offEntry : Word := 0x4000
def lowEntry : Word := 0x8000

/-- A bay's trigger word (Table 5.2). -/
def triggerWord (t0 t1 : Int) (en0 en1 : Bool) : Word :=
  BitVec.ofNat 32 ((t0 % 16384).toNat + boolBit en0 14 + (t1 % 16384).toNat * 65536 + boolBit en1 30)

/-- What the lanes compute for a bay's next set: the three entries, the trigger word and the chop byte (R326). -/
def State.shadowBay (s : State) (b : Fin 16) (f : Fin 3 → Word) (trig : Word) (chop : Byte) : State :=
  (s.each (allFin 3) (fun x t => t.onHb (hbOf b x) (fun h => { h with offered := f x }))).onBay b
    (fun y => { y with trigOffered := trig, chopOffered := chop })

/-- The current vector that a drive asks for, in µA, or none where it applies a voltage alone (steps 6 and 7, R182, R186, R190,
R196). -/
def State.wantedCurrent (s : State) (a : Fin 16) : Option (Int × Int) :=
  let imax := s.par 0x0607 a.val
  match s.drive a with
  | .run | .inject => some (s.demandVector a)
  | .acquire => some (0, 0)
  | .align => some (imax * 500, 0)
  | .identify 0 k => some (imax * (if k < 400 then 250 else 500), 0)
  | .identify 2 _ => some (imax * 500, 0)
  | .identify 1 _ | .polarity | .off | .low => none
  | .identify _ _ => some (Config.rampCurrent imax * 1000, 0)

/-- The d-axis voltage of a drive that applies a voltage alone, limited (R170). -/
def State.openVoltage (s : State) (a : Fin 16) : Int :=
  let lim := s.voltageLimit a
  match s.drive a with
  | .polarity =>
    let k := match (s.ax a).enabling with | some e => (s.frame64 - e.since).toNat % 12 | none => 2
    clampI (-lim) lim (if k < 2 then s.par 0x0625 a.val else if 6 ≤ k ∧ k < 8 then -(s.par 0x0625 a.val) else 0)
  | .identify 1 _ => clampI (-lim) lim (injSign (s.frame64.toNat + 1) * s.par 0x0620 a.val)
  | _ => 0

/-- The voltages of a frame in mV, limited (R170) and with the injection, and the integrators they leave (steps 6 and 7). An
acquisition works in the αβ frame (R190), and no vector turns under it. -/
def State.voltages (s : State) (a : Fin 16) : Int × Int × Commutation :=
  let c := (s.ax a).com
  let sq := injSign (s.frame64.toNat + 1)
  match s.wantedCurrent a with
  | none => (s.openVoltage a, 0, if (s.drive a).active then c else { c with intD := 0, intQ := 0 })
  | some (rd, rq) =>
    match s.drive a with
    | .acquire =>
      let (va, vb, c) := s.regulate a c.iAlpha c.iBeta rd rq 0 c
      (va, vb, { c with emf := ((va, vb) :: c.emf).take 16 })
    | .run =>
      let (vd, vq, c) := s.regulate a c.id c.iq rd rq c.omega c
      (if s.injecting a then sat32 (vd + sq * s.injAmplitude a) else vd, vq, c)
    | .inject =>
      let (vd, vq, c) := s.regulate a c.id c.iq rd rq c.driveOmega c
      (sat32 (vd + sq * s.par 0x0620 a.val), vq, c)
    | _ => s.regulate a c.id c.iq rd rq 0 c

/-- Two-leg operation (R179): the line voltage between the live legs controls the one current toward the projection of the
demand on that line, or is the projection of a voltage that a drive applies alone. The vector of legs at ±v has the length 2v/√3,
which R170 limits. No injection is added (DESIGN CHOICE, notes/assumptions/140). -/
def State.twoLegs (s : State) (a : Fin 16) (dead : Fin 3) (th : Int) (c : Commutation) : Tri × Commutation :=
  let x := (dead.val + 1) % 3
  let y := (dead.val + 2) % 3
  let most := s.voltageLimit a
  let lim := isqrtI (rdiv (3 * most * most) 4)
  let line := fun (al be : Int) => rdiv ((phases al be).get x - (phases al be).get y) 2
  let legs := fun (v : Int) => Tri.of (fun k => if k = x then v else if k = y then -v else 0)
  match s.wantedCurrent a with
  | none =>
    let (va, vb) := unpark (s.openVoltage a) 0 th
    (legs (clampI (-lim) lim (line va vb)), c)
  | some (rd, rq) =>
    let (ra, rb) := if s.drive a = Drive.acquire then (rd, rq) else unpark rd rq th
    let (p, ad) := s.regulator a (s.par 0x0604 a.val) (line ra rb - line c.iAlpha c.iBeta)
    let u := sat32 (p + rdiv c.intQ 65536)
    let v := clampI (-lim) lim u
    (legs v, { c with intQ := if 4 ≤ c.incomplete then c.intQ else if v ≠ u then sat64 ((v - p) * 65536) else sat64 (c.intQ + ad) })

/-- Steps 6 to 10 of Table 8.2: the bay's entries, trigger word and chop byte for the next frame. -/
def State.modulate (s : State) (a : Fin 16) : State :=
  let peak : Byte := BitVec.ofNat 8 (s.parN 0x0508 a.val)
  match s.drive a with
  | .off =>
    -- The diode test and the samples of a bay with every gate off issue both triggers (R189).
    (s.shadowBay a (fun _ => offEntry) (triggerWord 500 1000 (s.ax a).state.enabled (s.ax a).state.enabled) peak).onAx a
      (fun x => { x with com := { x.com with plan := { ({} : Plan) with period := s.nextPeriod a, trig0 := 500, trig1 := 1000 }, power := 0,
                                                                       regenerates := false, twoPhase := false, emf := [] } })
  | .low =>
    (s.shadowBay a (fun _ => lowEntry) 0 peak).onAx a
      (fun x => { x with com := { x.com with plan := { ({} : Plan) with period := s.nextPeriod a }, power := 0, regenerates := false, twoPhase := false } })
  | dr =>
    let period : Int := s.nextPeriod a
    let dead := s.deadLeg a
    let (vd0, vq0, c0) := s.voltages a
    let thv := c0.driveTheta + rdiv (c0.driveOmega * (25000 - c0.planBefore.hold)) (10000 * 65536)
    let (u, c) := match dead with
      | some x => s.twoLegs a x c0.driveTheta (s.ax a).com
      | none => (let (va, vb) := if dr = Drive.acquire then (vd0, vq0) else unpark vd0 vq0 thv; (phases va vb, c0))
    let (vd, vq) := match dead with
      | some _ => (let (va, vb) := vectorOf u; park va vb thv)
      | none => if dr = Drive.acquire then park vd0 vq0 c.driveTheta else (vd0, vq0)
    let legs := s.legVolts a period u (phases c.iAlpha c.iBeta)
    let (va, vb) := vectorOf legs
    let p0 : Plan := { period := period, duty := s.duties a period legs, vd := vd, vq := vq, vAlpha := va, vBeta := vb, dead := dead }
    let (p, en0, en1) := s.window a p0
    let power := sat32 (rdiv (3 * (vd * c.idFrame + vq * c.iqFrame)) 2000000)
    let die := s.die (dieOf a)
    let regen := decide (power < 0) && die.brakeFailedAt && decide (s.dev 0x0400 ≤ s.vbusOf a)
    let two := dead.isSome
    let t := s.shadowBay a (fun x => entryWord 0 (p.duty.get x.val) (p.shift.get x.val)) (triggerWord p.trig0 p.trig1 en0 en1) peak
    let t := if two && !(s.ax a).com.twoPhase then t.raise 0x060A a.val else t
    t.onAx a (fun x => { x with com := { c with plan := p, power := power, regenerates := regen, twoPhase := two } })

end Sys2Proof.Machine
end

