-- ==== Sys2Proof/Machine/Enable.lean ====
section
/-! DEFINITION. Enabling, disabling and braking an axis, the enable sequence (Table 8.5, R188 to R191, R213), the
commutation faults of Table 8.10, and motor identification (R196, R197). -/

namespace Sys2Proof.Machine

/-! ### Enabling -/

/-- The running states in which an enable has already been reached (DEDUCED, notes/assumptions/12). -/
def AxisState.running : AxisState → Bool
  | .enabling | .standstill | .moving | .stopping | .fault => true
  | _ => false

/-- R198: the saliency a sensorless axis needs. -/
def State.saliencyBad (s : State) (a : Fin 16) : Bool :=
  !s.stepperAt a && s.feedback a = 0 && decide (100 * s.par 0x0604 a.val < 105 * s.par 0x0603 a.val)

/-- R143: the mean of the axis's die is below GD.VBUS_UV. -/
def State.vbusLow (s : State) (a : Fin 16) : Bool := decide (s.vbusOf a < s.dev 0x0405)

def dieInst (d : Fin 2) : Nat := 8 * d.val

/-- The refusals of AXIS_ENABLE in order: already reached, ring lock (R379), the safety channel (R303, R314, R317), and
latched faults (R120, R165). -/
def State.enableChecks (s : State) (a : Fin 16) : List (Bool × Nat) :=
  let x := s.ax a
  [(x.state.running, Status.alreadyDone),
   (s.ring.joined && !s.ring.lockedOnce, Status.busy),
   (decide (s.saf.word = .testing ∨ s.saf.state = .testing), Status.busy),
   (decide (s.saf.word ≠ .runPermitted) || s.saf.graceExpired, Status.safetyInhibit),
   (s.stopFault a || s.isActive 0x0505 255 || (s.baysOfAxis a).any s.bayForced, Status.faultLatched)]

/-- Start the offset calibration of a bay (R160). -/
def State.calibrateBay (s : State) (b : Fin 16) : State :=
  s.onBay b (fun y => { y with calibrating := true, internalSum := 0, shuntSum := 0, conversions := 0,
                               offsetInternal := false })

/-- The half-bridges of an axis's motor in a bay run OFF until their first period start in a frame, whatever set the tick loads
(R188). -/
def State.bayIdle (s : State) (b : Fin 16) (f : Long) : State :=
  s.each (allFin 3) (fun x t => if t.freeW (hbOf b x) then t else t.onHb (hbOf b x) (fun h => { h with release := .untilFrame f }))

/-- Table 8.5 step 1 and R213: the axis is ENABLING with its bays OFF; calibration begins in the same frame. -/
def State.beginEnable (s : State) (a : Fin 16) : State :=
  let t := s.onAx a (fun x => { x.loopsOff with
    state := .enabling, since := s.frame64, enabling := some { step := .calibrate, since := s.frame64 }
    reaction := 0, stop := none, held := false, caught := false, caughtNegative := false
    com := { x.com with converged := false, convergeRun := 0, polarity := false, emf := [], intD := 0, intQ := 0
                        source := if s.feedback a = 0 then 0 else s.feedback a + 1 }
    stepper := { x.stepper with energised := false, slow := false, braked := false } })
  t.each (t.baysOfAxis a) (fun b t => ((t.bayEnabled b).bayIdle b (s.frame64 + 1)).calibrateBay b)

/-- What an accepted AXIS_ENABLE does; answers the status (R143, R188, R198). -/
def State.enableAxis (s : State) (a : Fin 16) : State × Nat :=
  if s.saliencyBad a then (s.raise 0x060B a.val, Status.faultLatched)
  else
    let t := s.clearFault 0x060B a.val
    if t.vbusLow a then (t.raise 0x040C (dieInst (dieOf a)), Status.faultLatched)
    else (t.beginEnable a, Status.ok)

/-- AXIS_ENABLE (R188, R213). -/
def execAxisEnable (r : Req) (axis : Byte) (s : State) : Host.Outcome State Fault Refusal :=
  .next (s.request 0x40 r (fun k s => s.onAxis r 0x40 axis (fun a s =>
    s.checked r 0x40 (if r.tag = 0 then s.enableChecks a else []) (fun s =>
      s.stageOr k r 0x40 (.axisEnable r axis) [] id Status.ok (fun _ => .bare) (fun s =>
        let (t, st) := s.enableAxis a
        t.answer r 0x40 st .bare)))))

/-! ### Disabling and braking -/

/-- Whether HOMED outlives an AXIS_DISABLE (R214, R243). -/
def State.keepsHome (s : State) (a : Fin 16) : Bool := !s.stepperAt a && s.feedback a = 2 && (s.ax a).com.aligned

/-- Set an axis DISABLED with its bays OFF; a calibration that AXIS_DISABLE, AXIS_SHORT_BRAKE or a reaction overtakes runs on to
its 32 conversions and stores its offset, unless a forcing abandons it (DESIGN CHOICE, notes/assumptions/142); an axis in STO stays so until release (R308). Its slaves are released (R254). -/
def State.setDisabled (s : State) (a : Fin 16) : State :=
  (s.releaseSlaves a).onAx a (fun x => { x.loopsOff with
    state := if x.state = .sto then .sto else .disabled, since := s.frame64, enabling := none, follow := none
    reaction := if x.state = .sto then x.reaction else 0, stop := none, held := false, reversing := false
    stepper := { x.stepper with energised := false, slow := false } })

/-- Whether the winding short at the end of QUICK still holds a servo axis: it is held until its fault is cleared (Table 1.7).
The coils of a stepper axis go OFF all the same (R214). -/
def State.quickHeld (s : State) (a : Fin 16) : Bool :=
  !s.stepperAt a && decide ((s.ax a).state = .shorted) && decide ((s.ax a).reaction = 4) && s.stopFault a

/-- AXIS_DISABLE on one axis (R188, R214, R243, R244, R254). -/
def State.disableAxis (s : State) (a : Fin 16) : State :=
  let keep := s.keepsHome a
  let t := ((s.endHoming a 0x21).clearQueue a 1).releaseSlaves a
  let t := t.ungear a
  (if t.quickHeld a then t else t.setDisabled a).onAx a (fun x => { x with homed := x.homed && keep })

/-- AXIS_DISABLE; an axis already DISABLED is a state already reached (DEDUCED, notes/assumptions/12). -/
def execAxisDisable (r : Req) (axis : Byte) (s : State) : Host.Outcome State Fault Refusal :=
  .next (s.request 0x41 r (fun _ s =>
    match s.axesArg axis with
    | none => s.refuse r 0x41 Status.badParameter
    | some l =>
      if l.all (fun a => (s.ax a).state = .disabled) then s.refuse r 0x41 Status.alreadyDone
      else (s.each l (fun a t => t.disableAxis a)).answer r 0x41 Status.ok .bare))

/-- AXIS_SHORT_BRAKE on one axis (R191, R215, R244); an axis in STO stays so. -/
def State.brakeAxis (s : State) (a : Fin 16) : State :=
  let t := (s.endHoming a 0x21).clearQueue a 1
  t.onAx a (fun x =>
    if x.state = .sto then x
    else { x.loopsOff with state := .shorted, since := s.frame64, enabling := none, follow := none, stop := none, held := false,
                           reversing := false, stepper := { x.stepper with energised := false, slow := true } })

/-- AXIS_SHORT_BRAKE; an axis already SHORTED is a state already reached (DEDUCED, notes/assumptions/12). In TESTING every axis stays
DISABLED and the request is BUSY (R314; DESIGN CHOICE, notes/assumptions/152). -/
def execAxisShortBrake (r : Req) (axis : Byte) (s : State) : Host.Outcome State Fault Refusal :=
  .next (s.request 0x42 r (fun _ s =>
    match s.axesArg axis with
    | none => s.refuse r 0x42 Status.badParameter
    | some l =>
      if l.all (fun a => (s.ax a).state = .shorted) then s.refuse r 0x42 Status.alreadyDone
      else if s.saf.state = .testing then s.refuse r 0x42 Status.busy
      else (s.each l (fun a t => t.brakeAxis a)).answer r 0x42 Status.ok .bare))

/-! ### The sequence -/

/-- Move the enable sequence to a step. An injection starts to converge afresh (R182). -/
def State.enableStep (s : State) (a : Fin 16) (step : EnableStep) : State :=
  s.onAx a (fun x => { x with
    enabling := x.enabling.map (fun e => { e with step := step, since := s.frame64 })
    com := if step = .injection then { x.com with convergeRun := 0, injError := 0 } else x.com })

/-- An axis whose enable sequence has ended: at STANDSTILL, or stopping while a fault of class STOP or higher is latched on
it (Table 1.7). -/
def State.startAxis (s : State) (a : Fin 16) (x : Axis) : Axis :=
  let bad := s.stopFault a
  { x with state := if bad then .stopping else .standstill, since := s.frame64, enabling := none, held := false
           reaction := if bad then 3 else 0, stop := if bad then some .profile else x.stop }

/-- The loops start from the measured state (R240, R261). -/
def State.startLoops (s : State) (a : Fin 16) : State :=
  let l := s.loopsAtStart a
  s.onAx a (fun x => { s.startAxis a x.toMeasured with
    loops := l
    com := { x.com with intD := 0, intQ := 0, losRun := 0, plausRun := 0, overRun := 0 }
    template := { x.template with speeds := [] } })

/-- The enabling ends and the axis stays DISABLED (R160, R182); a stepper axis is no longer homed (R214). -/
def State.abandonEnable (s : State) (a : Fin 16) : State :=
  let t := (s.setDisabled a).onAx a (fun x => { x with homed := x.homed && !s.stepperAt a })
  t.each (t.baysOfAxis a) (fun b t => t.onBay b (fun y => { y with calibrating := false }))

/-- The limits of the diode test of an axis: current in mA, brake time and number of tests. -/
def State.diodeLimits (s : State) (a : Fin 16) : Int × Nat × Nat :=
  if s.stepperAt a then (s.par 0x0815 (a.val / 2), s.parN 0x0816 (a.val / 2), s.parN 0x0817 (a.val / 2))
  else (s.par 0x0650 a.val, s.parN 0x0652 a.val, s.parN 0x0653 a.val)

/-- A failed diode test or a back-EMF too high (R189, R190, R213): winding short, or a catch failure after the last. -/
def State.diodeFailed (s : State) (a : Fin 16) : State :=
  let (_, _, most) := s.diodeLimits a
  let t := (s.onAx a (fun x => { x with
    enabling := x.enabling.map (fun e => { e with failures := e.failures + 1 })
    stepper := { x.stepper with braked := true, slow := true } })).enableStep a .brake
  match (t.ax a).enabling with
  | some e => if most ≤ e.failures ∧ !t.stepperAt a then t.raise 0x0608 a.val else t
  | none => t

/-- Whether the diode test has the samples of a frame with every gate off: two ticks after the step began (Table 8.5 step 3). -/
def State.gatesWereOff (s : State) (e : Enabling) : Bool := decide (2 ≤ (s.frame64 - e.since).toNat)

/-- DIODE_TEST (R189, R213): the samples of the frame with every gate off, and the offset that step 3 of R160 chose. -/
def execDiodeTest (axis : Fin 16) (s : State) : Host.Outcome State Fault Refusal :=
  .next (match (s.ax axis).enabling with
    | some e =>
      if e.step ≠ .diode ∨ !s.gatesWereOff e then s
      else
        let (lim, _, _) := s.diodeLimits axis
        let bad := (s.baysOfAxis axis).any (fun b =>
          let y := s.bay b
          y.offsetInternal ||
          decide (lim * 1000 < (s.microamps b y.sample0).natAbs) || decide (lim * 1000 < (s.microamps b y.sample1).natAbs))
        if bad then s.diodeFailed axis else s.enableStep axis .acquire
    | none => s)

/-- CATCH_BRAKE_END (R189, R213): the short ends after its time, or instead, with hall or encoder feedback, once the line
back-EMF peak is below 70% of VBUS; the diode test repeats. -/
def execCatchBrakeEnd (axis : Fin 16) (s : State) : Host.Outcome State Fault Refusal :=
  .next (match (s.ax axis).enabling with
    | some e =>
      let (_, time, most) := s.diodeLimits axis
      let emf := emfOf (s.ax axis).com.omega (s.par 0x0605 axis.val * 1000)
      let over_ : Bool :=
        if !s.stepperAt axis && decide (s.feedback axis ≠ 0) then decide (300 * emf * emf < 49 * s.vbusOf axis * s.vbusOf axis)
        else decide (time ≤ (s.frame64 - e.since).toNat)
      if e.step = .brake ∧ e.failures < most ∧ over_ then
        (s.enableStep axis .diode).onAx axis (fun x => { x with stepper := { x.stepper with slow := false } })
      else s
    | none => s)

/-- e_αβ of R190. -/
def State.backEmf (s : State) (a : Fin 16) : Int × Int :=
  let c := (s.ax a).com
  let rs := s.par 0x0602 a.val
  match c.emf with
  | (a1, b1) :: (a2, b2) :: _ => (rdiv (a1 + a2) 2 + rdiv (rs * c.iAlpha) 1000000000, rdiv (b1 + b2) 2 + rdiv (rs * c.iBeta) 1000000000)
  | (a1, b1) :: [] => (a1 + rdiv (rs * c.iAlpha) 1000000000, b1 + rdiv (rs * c.iBeta) 1000000000)
  | [] => (0, 0)

/-- The sense of rotation of vectors listed newest first (R190). -/
def turnSense : List (Int × Int) → Int
  | (x1, y1) :: (x0, y0) :: rest => (x0 * y1 - y0 * x1) + turnSense ((x0, y0) :: rest)
  | _ => 0

/-- ω of a back-EMF in mV, in q16.16 angle units per frame (R190). -/
def State.emfSpeed (s : State) (a : Fin 16) (e : Int) : Int :=
  sat32 (rdiv (e * 4294967296000) (timesTwoPi (20000 * s.par 0x0605 a.val)))

/-- Record a caught axis (R190). -/
def State.catchAt (s : State) (a : Fin 16) (omega : Int) : State :=
  if s.handover a ≤ omega.natAbs then s.onAx a (fun x => { x with caught := true, caughtNegative := decide (omega < 0) }) else s

/-- ACQUISITION_DECISION (R186, R190): a sensorless axis decides after COM.CS_ACQ frames of acquisition, one with feedback at once.
Where the loops start, the observer PLL is preloaded. -/
def execAcquisitionDecision (axis : Fin 16) (s : State) : Host.Outcome State Fault Refusal :=
  .next (match (s.ax axis).enabling with
    | some e =>
      if e.step ≠ .acquire ∨ s.stepperAt axis then s
      else if s.feedback axis = 0 ∧ (s.frame64 - e.since).toNat < s.parN 0x0651 axis.val then s
      else if s.feedback axis = 0 then
        let c := (s.ax axis).com
        let (ea, eb) := s.backEmf axis
        let mag := isqrtI (ea * ea + eb * eb)
        let sense := signI (turnSense (c.emf.take (s.parN 0x0651 axis.val)))
        let omega := sense * s.emfSpeed axis mag
        if s.voltageLimit axis ≤ mag then s.diodeFailed axis
        else if omega.natAbs < s.handover axis then s.enableStep axis .injection
        else
          let th := (cordicAngle eb ea - 16384 * sense) % 65536
          let t := s.onAx axis (fun x => { x with speed := rdiv (omega * 20000) 1048576, com := { x.com with
            source := 1, theta := th.toNat, omega := omega, obsTheta := th * 65536, obsOmega := omega
            injTheta := th * 65536, injOmega := omega, injFade := 0 } })
          (t.catchAt axis omega).startLoops axis
      else if s.feedback axis = 2 ∧ !(s.ax axis).com.aligned then
        s.enableStep axis (if s.par 0x0627 axis.val = 1 then .align else .injection)
      else
        let t := s.onAx axis (fun x => { x with com := { x.com with
          polarity := true, source := s.feedback axis + 1, obsTheta := x.com.theta * 65536, obsOmega := x.com.omega } })
        (t.catchAt axis (s.ax axis).com.omega).startLoops axis
    | none => s)

/-- INJECTION_CONVERGED (R182): within 400 frames of its start; the polarity test begins. -/
def execInjectionConverged (axis : Fin 16) (s : State) : Host.Outcome State Fault Refusal :=
  .next (match (s.ax axis).enabling with
    | some e =>
      if e.step = .injection ∧ 20 ≤ (s.ax axis).com.convergeRun ∧ (s.frame64 - e.since).toNat ≤ 400 then
        (s.enableStep axis .polarity).onAx axis (fun x => { x with com := { x.com with converged := true, posPulse := 0, negPulse := 0 } })
      else s
    | none => s)

/-- COM_INJ_CONVERGE (R182): 400 frames have passed without convergence. -/
def execComInjConverge (axis : Fin 16) (s : State) : Host.Outcome State Fault Refusal :=
  .next (match (s.ax axis).enabling with
    | some e =>
      let n := (s.frame64 - e.since).toNat
      if e.step = .injection ∧ 400 ≤ n ∧ ((s.ax axis).com.convergeRun < 20 ∨ 400 < n) then (s.abandonEnable axis).raise 0x0607 axis.val else s
    | none => s)

/-- An aligned encoder after its procedure (R186): the angle `theta` holds at the present count. -/
def State.alignEncoder (s : State) (a : Fin 16) (theta : Int) : State :=
  s.onAx a (fun x => { x with com := { x.com with
    aligned := true, zCount := none, theta := (theta % 65536).toNat, source := 3
    alignOffset := ((theta - s.encoderAngle a x.com.encoder.toNat) % 65536).toNat } })

/-- The loops start after a standstill start (Table 8.5 step 6). -/
def State.standstillStart (s : State) (a : Fin 16) : State :=
  let th := (s.ax a).com.injTheta
  let t := s.onAx a (fun x => { x with com := { x.com with polarity := true } })
  if s.feedback a = 2 then (t.alignEncoder a (rdiv th 65536)).startLoops a
  else (t.onAx a (fun x => { x with com := { x.com with source := 0, theta := (rdiv th 65536 % 65536).toNat,
                                                         obsTheta := th, obsOmega := x.com.injOmega,
                                                         injFade := s.parN 0x0624 a.val } })).startLoops a

/-- POLARITY_TEST_END (R182). COM.POL_MARGIN is a share of the smaller of the two currents (DESIGN CHOICE,
notes/assumptions/138). -/
def execPolarityTestEnd (axis : Fin 16) (s : State) : Host.Outcome State Fault Refusal :=
  .next (match (s.ax axis).enabling with
    | some e =>
      if e.step ≠ .polarity ∨ (s.frame64 - e.since).toNat < 12 then s
      else
        let c := (s.ax axis).com
        let m := 1000 + s.par 0x0626 axis.val
        if c.negPulse * m < c.posPulse * 1000 then s.standstillStart axis
        else if c.posPulse * m < c.negPulse * 1000 then
          (s.onAx axis (fun x => { x with com := { x.com with injTheta := (x.com.injTheta + 2147483648) % 4294967296 } })).standstillStart axis
        else if 2 ≤ e.attempts then (s.abandonEnable axis).raise 0x0606 axis.val
        else s.onAx axis (fun x => { x with
          enabling := some { e with attempts := e.attempts + 1, since := s.frame64 }
          com := { x.com with posPulse := 0, negPulse := 0 } })
    | none => s)

/-- DC_ALIGN_END (R186): after 400 frames the rotor stands at θ = 0. -/
def execDcAlignEnd (axis : Fin 16) (s : State) : Host.Outcome State Fault Refusal :=
  .next (match (s.ax axis).enabling with
    | some e =>
      if e.step = .align ∧ 400 ≤ (s.frame64 - e.since).toNat then
        ((s.onAx axis (fun x => { x with com := { x.com with polarity := true } })).alignEncoder axis 0).startLoops axis
      else s
    | none => s)

/-! ### Faults of a running axis -/

/-- The retries of R195 that began in the last 200,000 frames. -/
def State.losTries (s : State) (a : Fin 16) : Nat :=
  ((s.ax a).com.losTries.filter (fun f => (s.frame64 - f).toNat < 200000)).length

/-- COM_LOS (R193, R195): COAST while a retry remains, else SHORT. -/
def execComLos (axis : Fin 16) (s : State) : Host.Outcome State Fault Refusal :=
  .next (if 0 < (s.ax axis).com.losRun ∧ s.parN 0x0662 axis.val ≤ (s.ax axis).com.losRun then
    let t := (s.raise 0x0601 axis.val).stick 0x0700 axis.val 8
    let rank := if s.losTries axis < s.parN 0x0663 axis.val then 6 else 5
    let t := if s.isActive 0x0601 axis.val then t else t.count 0x0704 axis.val
    { t with faults := t.faults.map (fun f => if f.code = 0x0601 ∧ f.inst = axis.val ∧ !f.started then { f with rank := rank } else f) }
  else s)

/-- The rank of what holds an axis beside COM_LOS (R12): its other faults of rank 4 or more, and the SHORT of R139 and R148. -/
def State.otherRank (s : State) (a : Fin 16) : Nat :=
  let ranks := (s.faults.filter (fun f => !(f.code = 0x0601) && decide (4 ≤ f.rank) && s.actsOn f a)).map Active.rank
  let boots : Bool := (s.baysOfAxis a).any (fun b => (allFin 3).any (fun x => (s.pwm.boot[hbOf b x]).exhausted))
  ranks.foldl max (if (s.ax a).regenShort || boots then 5 else 0)

/-- R12, R195: the COAST step of COM_LOS has ended while another reaction waits behind it, which is the reaction in progress from
here on: winding short with its latch for QUICK and SHORT, and COAST as before. -/
def State.losEnds (s : State) (a : Fin 16) (rank : Nat) : State :=
  let t := s.clearFault 0x0601 a.val
  if 6 ≤ rank then t
  else
    let t := t.each (s.baysOfAxis a) (fun b t => t.each (allFin 3) (fun x t => t.onHb (hbOf b x) (fun h => { h with coast := removeSource 8 h.coast })))
    t.onAx a (fun x => { x.loopsOff with state := .shorted, since := s.frame64, reaction := rank, stop := none, held := false
                                         com := { x.com with losRun := 0 } })

/-- R195: in the frame after the COAST began, the sequence restarts at its diode test with the demand held, unless another
reaction holds the axis (R12). -/
def State.losRetry (s : State) (a : Fin 16) : State :=
  match s.faults.find? (fun f => f.code = 0x0601 && f.inst = a.val) with
  | some f =>
    if f.rank = 6 ∧ f.started ∧ (s.ax a).since < s.frame64 ∧ (s.ax a).state = .coasting then
      if s.otherRank a ≠ 0 then s.losEnds a (s.otherRank a)
      else
      let t := (s.clearFault 0x0601 a.val).each (s.baysOfAxis a) (fun b t => (t.releaseBay 8 b).bayEnabled b)
      t.onAx a (fun x => { x with
        state := .enabling, since := s.frame64, enabling := some { step := .diode, since := s.frame64 - 1, failures := 0 }
        reaction := 0, held := true
        com := { x.com with losRun := 0, converged := false, convergeRun := 0, polarity := false
                            source := if s.feedback a = 0 then 0 else s.feedback a + 1, losTries := (s.frame64 :: x.com.losTries).take 16, emf := [], intD := 0, intQ := 0 } })
    else s
  | none => s

/-- COM_PLAUSIBILITY (R194). -/
def execComPlausibility (axis : Fin 16) (s : State) : Host.Outcome State Fault Refusal :=
  .next (if 0 < (s.ax axis).com.plausRun ∧ s.parN 0x0665 axis.val ≤ (s.ax axis).com.plausRun then
    (s.raise 0x0602 axis.val).stick 0x0700 axis.val 9 else s)

/-- COM_OVERSPEED (R199). -/
def execComOverspeed (axis : Fin 16) (s : State) : Host.Outcome State Fault Refusal :=
  .next (if 4 ≤ (s.ax axis).com.overRun then s.raise 0x0603 axis.val else s)

/-- COM_HALL_INVALID (R185, R199). -/
def execComHallInvalid (axis : Fin 16) (s : State) : Host.Outcome State Fault Refusal :=
  .next (if 0 < (s.ax axis).com.hallBad ∧ s.parN 0x0662 axis.val ≤ (s.ax axis).com.hallBad then s.raise 0x0604 axis.val else s)

/-- COM_ENC_INDEX (R186): a Z edge at an encoder count. The first edge after alignment records the count. A later one is compared
with the record itself and not modulo the counts of a revolution (DESIGN CHOICE, notes/assumptions/143). -/
def execComEncIndex (axis : Fin 16) (count : Word) (s : State) : Host.Outcome State Fault Refusal :=
  .next (
    let c := (s.ax axis).com
    if !c.aligned then s
    else
      match c.zCount with
      | none => s.onAx axis (fun x => { x with com := { x.com with zCount := some count } })
      | some z =>
        if s.parN 0x0643 axis.val < (count - z).toInt.natAbs then
          (s.raise 0x0605 axis.val).onAx axis (fun x => { x with com := { x.com with aligned := false } })
        else s)

/-! ### Identification (R196, R197) -/

/-- MOTOR_IDENTIFY (R196): the engine drives the bay through the selected steps, in bit order. -/
def execMotorIdentify (r : Req) (axis steps : Byte) (s : State) : Host.Outcome State Fault Refusal :=
  .next (s.request 0x45 r (fun k s => s.onAxis r 0x45 axis (fun a s =>
    s.checked r 0x45
      [(decide (steps.toNat < 1 ∨ 15 < steps.toNat) || s.stepperAt a, Status.badParameter),
       (decide ((s.ax a).state ≠ .disabled) || (s.ax a).identify.isSome || decide (s.saf.state = .testing), Status.busy)]
      (fun s =>
        let t := (s.clearFault 0x0609 a.val).onAx a (fun x => { x with
          identify := some { steps := steps.toNat, since := s.frame64, slot := some k, seq := r.seq }
          com := { x.com with idDone := 0, idFail := 0, intD := 0, intQ := 0 } })
        (t.bayEnabled a).answer r 0x45 Status.pending .bare))))

/-- The parameters that a step's results go to, 0 where none does, with the parameters whose range they must meet. -/
def identifyTargets : Nat → List (Nat × Nat)
  | 0 => [(0x0710, 0x0602)]
  | 1 => [(0x0711, 0x0603), (0x0712, 0x0604)]
  | 2 => [(0x0714, 0x0640), (0x0715, 0x0641), (0, 0x0642)]
  | _ => [(0x0713, 0x0605)]

/-- Store a result of identification; the encoder lines have no parameter. -/
def State.storeResult (s : State) (a : Fin 16) (q : Nat) (v : Int) : State :=
  if q = 0 then s.onAx a (fun x => { x with com := { x.com with idLines := v.toNat } }) else s.setPar q a.val v

def inRange (index : Nat) (v : Int) : Bool :=
  match ParamTable.find index with | some row => decide (row.lo ≤ v) && decide (v ≤ row.hi) | none => false

/-- R_s and ψ of Table 8.7 from what the engine applied and measured: R_s over the last frames of the two levels, ψ in the step's
last frame, with the R_s of step 0 where the run had that step. The frames from which a result is taken are not given (DESIGN
CHOICE, notes/assumptions/144). -/
def State.identifyResult (s : State) (a : Fin 16) (step : Nat) : List Int :=
  let c := (s.ax a).com
  if step = 0 then [rdiv ((c.idHigh.1 - c.idLow.1) * 1000000000) (c.idHigh.2 - c.idLow.2)]
  else
    let rs := if c.idDone.testBit 0 then s.par 0x0710 a.val else s.par 0x0602 a.val
    let e := c.idHigh.1 - rdiv (rs * c.idHigh.2) 1000000000
    [rdiv (e * 4294967296000) (timesTwoPi (20000 * c.driveOmega))]

/-- The values that end a step of Table 8.7: computed where the manual gives the formula, else the `results` reported (R196). -/
def State.identifyValues (s : State) (a : Fin 16) (step : Nat) (results : List Int) : List Int :=
  if step = 0 ∨ step = 3 then s.identifyResult a step else results

/-- The frames that a step of Table 8.7 takes at least. -/
def identifyFrames : Nat → Nat
  | 0 => 800
  | 1 => 64
  | 2 => 80000
  | _ => 1

/-- IDENTIFY_STEP_DONE (R196, R197): the next selected step ended after `turns` electrical turns. The resistance and the flux linkage
are what the engine computes from its own voltages and currents; the inductances and the feedback map, for which the manual gives
no formula, are the `results` reported. -/
def execIdentifyStepDone (axis : Fin 16) (turns : Nat) (results : List Int) (s : State) : Host.Outcome State Fault Refusal :=
  .next (match (s.ax axis).identify with
    | some i =>
      let c := (s.ax axis).com
      match (s.ax axis).identifyStep with
      | none => s
      | some b =>
        let targets := (identifyTargets b).zip (s.identifyValues axis b results)
        if turns ≤ s.parN 0x0670 axis.val ∧ (s.frame64 - i.since).toNat < identifyFrames b then s
        else if s.parN 0x0670 axis.val < turns ∨ targets.any (fun ((_, p), v) => !inRange p v) then
          let t := (s.raise 0x0609 axis.val).onAx axis (fun x => { x with identify := none, com := { x.com with idFail := 2 ^ b } })
          t.complete i.slot i.seq 0x45 Status.faultLatched
        else
          let t := s.each targets (fun ((q, _), v) t => t.storeResult axis q v)
          let done := c.idDone + 2 ^ b
          let t := t.onAx axis (fun x => { x with
            identify := x.identify.map (fun j => { j with since := s.frame64 }), com := { x.com with idDone := done, intD := 0, intQ := 0 } })
          if done = i.steps then (t.onAx axis (fun x => { x with identify := none })).complete i.slot i.seq 0x45 Status.ok else t
    | none => s)

end Sys2Proof.Machine
end

