-- ==== Sys2Proof/Machine/Stepper.lean ====
section
/-! DEFINITION. The Stepper engine (Stepper Axes, R200 to R220): coil amplitudes and thresholds, coil entries, the
back-EMF estimate, step following, and the commands of the chapter. -/

namespace Sys2Proof.Machine

/-! ### Microstep angle and thresholds (R203 to R208) -/

/-- The quarter-wave table of R204: Q[j] = round(65,535 × sin(j × 90° / 256)). -/
def quarterWave : List Nat :=
  [0, 402, 804, 1206, 1608, 2010, 2412, 2814, 3216, 3617, 4019, 4420, 4821, 5222, 5623, 6023, 6424, 6824, 7223, 7623] ++
  [8022, 8421, 8820, 9218, 9616, 10014, 10411, 10808, 11204, 11600, 11996, 12391, 12785, 13179, 13573, 13966, 14359, 14751, 15142, 15533] ++
  [15924, 16313, 16703, 17091, 17479, 17866, 18253, 18639, 19024, 19408, 19792, 20175, 20557, 20939, 21319, 21699, 22078, 22456, 22834, 23210] ++
  [23586, 23960, 24334, 24707, 25079, 25450, 25820, 26189, 26557, 26925, 27291, 27656, 28020, 28383, 28745, 29106, 29465, 29824, 30181, 30538] ++
  [30893, 31247, 31600, 31952, 32302, 32651, 32999, 33346, 33692, 34036, 34379, 34721, 35061, 35400, 35738, 36074, 36409, 36743, 37075, 37406] ++
  [37736, 38064, 38390, 38715, 39039, 39361, 39682, 40001, 40319, 40635, 40950, 41263, 41575, 41885, 42194, 42500, 42806, 43109, 43411, 43712] ++
  [44011, 44308, 44603, 44897, 45189, 45479, 45768, 46055, 46340, 46624, 46905, 47185, 47464, 47740, 48014, 48287, 48558, 48827, 49095, 49360] ++
  [49624, 49885, 50145, 50403, 50659, 50913, 51166, 51416, 51664, 51911, 52155, 52398, 52638, 52877, 53113, 53348, 53580, 53811, 54039, 54266] ++
  [54490, 54713, 54933, 55151, 55367, 55582, 55794, 56003, 56211, 56417, 56620, 56822, 57021, 57218, 57413, 57606, 57797, 57985, 58171, 58356] ++
  [58537, 58717, 58895, 59070, 59243, 59414, 59582, 59749, 59913, 60075, 60234, 60391, 60546, 60699, 60850, 60998, 61144, 61287, 61429, 61567] ++
  [61704, 61838, 61970, 62100, 62227, 62352, 62475, 62595, 62713, 62829, 62942, 63053, 63161, 63267, 63371, 63472, 63571, 63668, 63762, 63853] ++
  [63943, 64030, 64114, 64196, 64276, 64353, 64428, 64500, 64570, 64638, 64703, 64765, 64826, 64883, 64939, 64992, 65042, 65090, 65136, 65179] ++
  [65219, 65258, 65293, 65327, 65357, 65386, 65412, 65435, 65456, 65475, 65491, 65504, 65515, 65524, 65530, 65534, 65535]

/-- sine(x) of R204 for an index of 0 to 1,023. -/
def coilSine (x : Nat) : Int :=
  let j := x % 256
  let at_ := fun k => ((quarterWave.getD k 0 : Nat) : Int)
  match x / 256 % 4 with
  | 0 => at_ j
  | 1 => at_ (256 - j)
  | 2 => -(at_ j)
  | _ => -(at_ (256 - j))

/-- m_q of R204 for a position demand in counts. -/
def State.microIndex (s : State) (k : Nat) (p : Int) : Nat :=
  let m := (p % 1024).toNat
  let step := 256 / 2 ^ s.parN 0x0801 k
  m / step * step + step / 2

/-- The amplitudes of coils A and B (R204). -/
def State.coilAmplitudes (s : State) (k : Nat) (mq : Nat) : Int × Int :=
  let third := rdiv (s.par 0x080A k * coilSine (3 * mq % 1024)) 65536
  let lim := clampI (-65535) 65535
  (lim (coilSine ((mq + 256) % 1024) + third), lim (rdiv (lim (coilSine mq + third) * s.par 0x080B k) 65536))

/-- The threshold code of a coil (R205). -/
def State.coilCode (s : State) (b : Fin 16) (i amp : Int) : Nat :=
  (clampI 0 255 (rdiv (s.gainOf b * i * s.par 0x0501 b.val * 255 * amp.natAbs) (1200000000 * 65535) +
    rdiv (s.par 0x0510 b.val * 8500) 65536)).toNat

/-- A coil entry (Table 9.2). -/
def coilEntry (mode : Nat) (negative : Bool) (k fast : Nat) : Word :=
  BitVec.ofNat 32 (mode + boolBit negative 2 + 256 * k + 65536 * fast)

/-- The entry of a free half-bridge (R202, R408). -/
def State.lockEntry (s : State) (h : Fin 48) : Word :=
  let mode := s.par 0x1020 h.val
  if mode = 0 ∨ s.par 0x1021 h.val = 0 then offEntry
  else
    let since := match s.fio.lockSince.find? (fun x => x.1 = h.val) with | some x => (s.frame64 - x.2).toNat | none => 0
    if mode = 1 ∨ since < s.parN 0x1022 h.val then lowEntry
    else entryWord 3 (rdiv (s.par 0x1023 h.val * s.nextPeriod (bayOfHb h)) 10000) 0

/-- The entries of a stepper bay for the next set (R207); its trigger is the generator's own (R212). -/
def State.shadowCoil (s : State) (b : Fin 16) (coil : Word) (k : Nat) : State :=
  s.shadowBay b (fun x => if x = 0 then coil else if x = 1 then offEntry else s.lockEntry (hbOf b 2)) 0 (BitVec.ofNat 8 k)

/-- The coil entries of an energised axis for the next frame. -/
def State.driveCoils (s : State) (a : Fin 16) : State :=
  let k := a.val / 2
  let x := s.ax a
  let mq := s.microIndex k x.demand.counts
  let (aA, aB) := s.coilAmplitudes k mq
  let i := if x.stepper.holding then s.par 0x0803 k else s.par 0x0802 k
  let kA := s.coilCode (evenOf a) i aA
  let kB := s.coilCode (oddOf a) i aB
  let kMin := s.parN 0x0809 k
  let old := x.stepper.plan
  let fast := fun (now before : Int) =>
    if (before.natAbs : Int) * old.amps ≤ (now.natAbs : Int) * i ∧ (now < 0 ↔ before < 0) then s.parN 0x0807 k else s.parN 0x0808 k
  let word := fun (code : Nat) (now before : Int) =>
    coilEntry (if code < kMin then 2 else 1) (decide (now < 0)) code (fast now before)
  let t := (s.shadowCoil (evenOf a) (word kA aA old.a) kA).shadowCoil (oddOf a) (word kB aB old.b) kB
  t.onAx a (fun x => { x with stepper := { x.stepper with
    index := mq
    plan := { a := aA, b := aB, amps := i, chopA := decide (kMin ≤ kA), chopB := decide (kMin ≤ kB) } } })

/-- The entries of an axis that is not energised: SLOW or OFF (R213 to R215). -/
def State.restCoils (s : State) (a : Fin 16) (slow : Bool) : State :=
  let w := coilEntry (if slow then 2 else 0) false 0 0
  ((s.shadowCoil (evenOf a) w 0).shadowCoil (oddOf a) w 0).onAx a (fun x => { x with stepper := { x.stepper with plan := {} } })

/-! ### Back-EMF, load and regulation (R216, R217, R220) -/

/-- The count of the hold of TRIG0 in a stepper bay (R212). -/
def State.coilHold (s : State) (b : Fin 16) : Int :=
  s.dead b + max 160 (s.par 0x0806 (b.val / 2) * 20) + 40

/-- The back-EMF of one coil in mV, when its frame allows the estimate (R216). -/
def State.coilEmf (s : State) (b : Fin 16) (chop : Bool) (amp i : Int) : Option Int :=
  let k := b.val / 2
  let y := s.bay b
  let dt : Int := y.usedChop.1 - s.coilHold b
  if !chop ∨ y.usedFlags.testBit 0 ∨ y.usedChop.1 = 65535 ∨ dt < 40 ∨ amp.natAbs < 16384 then none
  else
    let it := rdiv (i * amp.natAbs) 65535
    let is := rdiv (s.microamps b y.used0) 1000
    some (s.vbusOf b - rdiv (s.par 0x080C k * (is + it)) 2000000 - rdiv (s.par 0x080D k * (it - is)) (5 * dt))

/-- Whether a coil in CHOP showed no trip, and whether its sample was below 10% of i_t (Table 9.8); a frame without a valid
sample is neither (DEDUCED, notes/assumptions/110). -/
def State.coilNoTrip (s : State) (b : Fin 16) (chop : Bool) (amp i : Int) : Bool × Bool :=
  let y := s.bay b
  let none_ : Bool := chop && y.usedChop.2.2.testBit 0 && !y.usedFlags.testBit 0
  let it := rdiv (i * amp.natAbs) 65535
  let low := decide (10 * rdiv (s.microamps b y.used0) 1000 < it)
  (none_ && !low, none_ && low)

/-- The load in 0.1% (R216). -/
def State.coilLoad (s : State) (k : Nat) (bemf : Nat) (v : Int) : Nat :=
  let e := rdiv (s.par 0x080E k * v.natAbs) 256000
  if e = 0 then Config.loadAtStandstill bemf else (min 65535 (rdiv (1000 * bemf) e)).toNat

/-- The estimates and counts of one frame (R216, R217, R220): the records are those of the last frame, whose plan is still
`planNow` here. -/
def State.senseCoils (s : State) (a : Fin 16) : State :=
  let k := a.val / 2
  let x := s.ax a
  let p := x.stepper.planNow
  let v := rdiv x.demand.v Q
  let emf : Option Int := match s.coilEmf (evenOf a) p.chopA p.a p.amps, s.coilEmf (oddOf a) p.chopB p.b p.amps with
    | some ea, some eb => some (isqrtI (ea * ea + eb * eb))
    | _, _ => none
  let (nA, oA) := s.coilNoTrip (evenOf a) p.chopA p.a p.amps
  let (nB, oB) := s.coilNoTrip (oddOf a) p.chopB p.b p.amps
  let fast := decide (s.par 0x080F k ≤ (v.natAbs : Int))
  let run := fun (b : Bool) (n : Nat) => if b then n + 1 else 0
  let st := x.stepper
  let list := match emf with | some e => (e :: st.emf).take 8 | none => st.emf
  let bemf := if list = [] then 0 else (rdiv (sumI list) list.length).toNat
  let load := match emf with | some _ => s.coilLoad k bemf v | none => st.load
  let st := { st with
    valid := emf.isSome && fast, emf := list, bemf := bemf, load := load
    stallRun := if !fast then 0 else match emf with
      | some _ => if load < s.parN 0x0810 k then st.stallRun + 1 else 0
      | none => st.stallRun
    blindRun := if fast && emf.isNone then st.blindRun + 1 else 0
    noTripA := run nA st.noTripA, noTripB := run nB st.noTripB, openA := run oA st.openA, openB := run oB st.openB
    planNow := st.plan }
  s.onAx a (fun x => { x with stepper := st })

/-! ### Step following (R218, R219) -/

/-- One frame of following. -/
def State.followFrame (s : State) (a : Fin 16) (f : Follow) : State :=
  let c := s.fio.counts[f.counter]
  let d := (c - f.last).toInt
  let sum := f.sum + (if f.invert then -d else d)
  let target := f.origin + rdiv (f.ratio * sum) 65536 * Q
  let v := capped (s.speedCap a) (s.par 0x0902 a.val)
  let step := min (rdiv (v * Q) frameRate) (128 * Q)
  let x := s.ax a
  let move := clampI (-step) step (target - x.demand.p)
  let dem : Demand := { p := x.demand.p + move, v := move * frameRate, a := 0 }
  let t := s.onAx a (fun x => { x with demand := dem, follow := some { f with sum := sum, last := c } })
  if s.par 0x0814 (a.val / 2) * Q < (target - dem.p).natAbs then
    (t.raise 0x0804 (a.val / 2)).onAx a (fun x => { x with follow := none, stop := some .profile })
  else t

/-- Begin or end following (R218, R219): flag bit 0 inverts, flag bit 1 ends. The frame of the execution adds
C(e) − C(e−1). -/
def State.followAxis (s : State) (a : Fin 16) (counter : Byte) (flags : Half) (ratio : Word) : State :=
  if flags.toNat.testBit 1 then
    s.onAx a (fun x => if x.follow.isSome then { x with follow := none, stop := some .profile } else x)
  else
    let c : Fin 8 := Fin.ofNat 8 counter.toNat
    s.onAx a (fun x => { x with
      stop := none
      follow := some { counter := c, ratio := ratio.toInt, invert := flags.toNat.testBit 0, origin := x.demand.p, last := s.fio.countsBefore[c] } })

/-- The state checks of STEP_FOLLOW (R218, R219); one that ends following is no new motion. -/
def State.followChecks (s : State) (a : Fin 16) (flags : Half) : List (Bool × Nat) :=
  let x := s.ax a
  (s.axisChecks a).take 2 ++ [(decide (x.queue ≠ []) || x.homing.isSome || x.gear.isSome ||
    (x.follow.isSome && !flags.toNat.testBit 1), Status.busy)]

/-- STEP_FOLLOW (R218). -/
def execStepFollow (r : Req) (axis counter : Byte) (flags : Half) (ratio : Word) (s : State) :
    Host.Outcome State Fault Refusal :=
  .next (s.request 0x39 r (fun k s => s.onAxis r 0x39 axis (fun a s =>
    let check1 := [(decide (axis.toNat < 0x80), Status.badParameter),
      (decide (7 < counter.toNat ∨ 4 ≤ flags.toNat), Status.badParameter)]
    let range := [(decide (ratio = 0 ∨ 16777216 < ratio.toInt.natAbs), Status.outOfRange)]
    let states := s.followChecks a flags
    s.checked r 0x39 (if r.tag = 0 then check1 ++ range ++ states else check1 ++ range) (fun s =>
      s.stageOr k r 0x39 (.stepFollow r axis counter flags ratio) [] id Status.ok (fun _ => .bare) (fun s =>
        (s.followAxis a counter flags ratio).answer r 0x39 Status.ok .bare)))))

/-! ### Commands -/

/-- STEPPER_ENERGISE (R213 step 4, R240). -/
def execStepperEnergise (k : Fin 8) (s : State) : Host.Outcome State Fault Refusal :=
  .next (
    let a := slotOfStepper k
    match (s.ax a).enabling with
    | some e =>
      if e.step = .acquire ∧ s.stepperAt a then
        s.onAx a (fun x => { s.startAxis a x with
          demand := { x.demand with v := 0, a := 0 }
          stepper := { x.stepper with energised := true, slow := false, holding := true, stillFor := 0, stallRun := 0,
                                      blindRun := 0, noTripA := 0, noTripB := 0, openA := 0, openB := 0 } })
      else s
    | none => s)

/-- STP_CATCH_FAIL (R213). -/
def execStpCatchFail (k : Fin 8) (s : State) : Host.Outcome State Fault Refusal :=
  .next (
    let a := slotOfStepper k
    match (s.ax a).enabling with
    | some e => if s.stepperAt a ∧ e.step = .brake ∧ s.parN 0x0817 k.val ≤ e.failures then s.raise 0x0805 k.val else s
    | none => s)

/-- HOLD_CURRENT (R205): the hold delay has passed since the axis reached standstill. -/
def execHoldCurrent (k : Fin 8) (s : State) : Host.Outcome State Fault Refusal :=
  .next (
    let a := slotOfStepper k
    let x := s.ax a
    if s.stepperAt a ∧ x.demand.v = 0 ∧ s.parN 0x0804 k.val ≤ x.stepper.stillFor then
      s.onAx a (fun x => { x with stepper := { x.stepper with holding := true } })
    else s)

/-- STP_STALL (R217, R243). -/
def execStpStall (k : Fin 8) (s : State) : Host.Outcome State Fault Refusal :=
  .next (
    let a := slotOfStepper k
    let n := (s.ax a).stepper.stallRun
    if s.stepperAt a ∧ 0 < n ∧ s.parN 0x0811 k.val ≤ n then
      let t := (s.raise 0x0801 k.val).stick 0x0820 k.val 5
      let t := if s.isActive 0x0801 k.val then t else t.count 0x0823 k.val
      t.onAx a (fun x => { x with homed := false, stepper := { x.stepper with stallRun := 0 } })
    else s)

/-- STP_STALL_BLIND (R217). -/
def execStpStallBlind (k : Fin 8) (s : State) : Host.Outcome State Fault Refusal :=
  .next (
    let a := slotOfStepper k
    if s.stepperAt a ∧ 64 ≤ (s.ax a).stepper.blindRun then
      (s.raise 0x0806 k.val).onAx a (fun x => { x with stepper := { x.stepper with blindRun := 0 } })
    else s)

/-- STP_NO_REGULATION (R220). -/
def execStpNoRegulation (k : Fin 8) (s : State) : Host.Outcome State Fault Refusal :=
  .next (
    let x := (s.ax (slotOfStepper k)).stepper
    if s.isStepper k.val ∧ s.parN 0x0813 k.val ≤ max x.noTripA x.noTripB then
      (s.raise 0x0802 k.val).stick 0x0820 k.val 6
    else s)

/-- STP_OPEN_COIL (R220). -/
def execStpOpenCoil (k : Fin 8) (s : State) : Host.Outcome State Fault Refusal :=
  .next (
    let x := (s.ax (slotOfStepper k)).stepper
    if s.isStepper k.val ∧ s.parN 0x0813 k.val ≤ max x.openA x.openB then
      (s.raise 0x0803 k.val).stick 0x0820 k.val 6
    else s)

/-- The Stepper engine's part of a compute slot, after the profile (Table 9.1 to R217). -/
def State.stepperFrame (s : State) (a : Fin 16) : State :=
  let t := (s.takeRecords a).onAx a (fun x =>
    let still := x.demand.v = 0 ∧ x.demand.a = 0
    { x with
      measuredBefore := x.measured, measured := x.demand.counts, speed := rdiv x.demand.v Q
      stepper := { x.stepper with stillFor := if still then x.stepper.stillFor + 1 else 0,
                                  holding := x.stepper.holding && decide still } })
  let t := t.senseCoils a
  if (t.ax a).stepper.energised then t.driveCoils a else t.restCoils a (t.ax a).stepper.slow

end Sys2Proof.Machine
end

