-- ==== Sys2Proof/Machine/Template.lean ====
section
/-! DEFINITION. The Template unit (Template: Learned Baseline and Obstruction Detection, R277 to R297): the force
estimate, learning, detection, strokes, the reversal request, and saving. -/

namespace Sys2Proof.Machine

/-! ### The force estimate (R277, R278) -/

/-- a_m: the measured acceleration over the window; `before` are the measured speeds of the earlier frames in which the
loops ran, newest first. -/
def measuredAcceleration (w : Nat) (now : Int) (before : List Int) : Int :=
  let k := min w before.length
  match before[k - 1]? with
  | some v => rdiv ((now - v) * frameRate) k
  | none => 0

/-- F_raw of a servo axis; i_q is in µA. -/
def State.rawForce (s : State) (a : Fin 16) : Int :=
  let x := s.ax a
  let am := measuredAcceleration (s.parN 0x0B09 a.val) x.speed x.template.speeds
  rdiv (x.com.iqFrame * s.par 0x0A01 a.val) 100000000 - rdiv (s.par 0x0A00 a.val * am) (10 * s.par 0x0900 a.val)

/-- The force estimate of the frame. -/
def State.forceFrame (s : State) (a : Fin 16) : State :=
  let x := s.ax a
  if s.stepperAt a then
    if x.stepper.valid then
      let f := s.sigma a * rdiv (s.par 0x0B10 a.val * (1000 - min x.stepper.load 1000)) 1000
      s.onAx a (fun x => { x with template := { x.template with force := f } })
    else s
  else if x.loops.running then
    let raw := s.rawForce a
    let f := if x.template.speeds = [] then raw
      else x.template.force + rdiv (raw - x.template.force) ((2 ^ s.parN 0x0B08 a.val : Nat) : Int)
    s.onAx a (fun x => { x with template := { x.template with
      force := sat16 f, speeds := (x.speed :: x.template.speeds).take 64 } })
  else s.onAx a (fun x => { x with template := { x.template with speeds := [] } })

/-! ### Bins, thresholds and detection (R280 to R282, R287, R288) -/

/-- The bin in use and whether it is of the closing direction (R280). -/
def State.binInUse (s : State) (a : Fin 16) : Option (Nat × Bool) :=
  let sg := s.sigma a
  if (s.ax a).homed ∧ sg ≠ 0 then some (s.binOf a, decide (sg = s.closeSign a)) else none

/-- The TPL.BIN word: the bin with its in-use bit, and the direction. -/
def binWord (bin : Option (Nat × Bool)) (closing : Bool) : Nat :=
  (match bin with | some (b, _) => b + 16384 | none => 0) + boolBit closing 15

/-- T_h of a frame (R287). -/
def State.threshold (s : State) (a : Fin 16) (bin : Option (Nat × Bool)) : Int :=
  let adj := s.par 0x0B03 a.val
  let invalid := s.par 0x0B06 a.val + adj
  max 10 (match bin with
    | some (b, closing) =>
      let e := s.binAt (binKey a closing b)
      if s.binValid a e then s.par 0x0B02 a.val + adj + rdiv (s.par 0x0B04 a.val * e.spread) 65536 else invalid
    | none => invalid)

/-- The leaf is within the mask (R287). -/
def State.inMask (s : State) (a : Fin 16) : Bool :=
  decide (s.sigma a = s.closeSign a) && decide (s.toClosed a ≤ s.par 0x0B07 a.val)

/-- The frame counts for an axis: its loops run, or its back-EMF is valid (R278, R287). -/
def State.estimated (s : State) (a : Fin 16) : Bool :=
  if s.stepperAt a then (s.ax a).stepper.valid else (s.ax a).loops.running

/-- Detection runs in the frame (R287). -/
def State.detects (s : State) (a : Fin 16) : Bool :=
  let x := s.ax a
  let sg := s.sigma a
  s.estimated a && x.planned.isSome &&
  (decide (sg = s.closeSign a) || (decide (sg = s.openSign a) && decide (s.par 0x0B01 a.val = 1))) &&
  decide (s.par 0x0B00 a.val = 1) && x.homing.isNone && !s.inMask a

/-- An obstruction (R288). -/
def State.obstruct (s : State) (a : Fin 16) (bin : Option (Nat × Bool)) (x th : Int) : State :=
  let t := s.raiseWith 0x0B01 a.val (leBytes 2 (binWord bin (s.sigma a = s.closeSign a)) ++ leBytesI 2 x ++ leBytesI 2 th)
  let t := (t.stick 0x0B20 a.val 5).count 0x0B24 a.val
  t.onAx a (fun y => { y with reversing := y.reversing || !y.obstruction, obstruction := true })

/-- One frame of detection; answers the counter before an obstruction returns it to 0. -/
def State.detectFrame (s : State) (a : Fin 16) : State × Nat :=
  let bin := s.binInUse a
  let ex := s.sigma a * (s.ax a).template.force - (s.baseline a bin).1
  let th := s.threshold a bin
  let runs := s.detects a
  let n := if runs ∧ th < ex then (s.ax a).template.count + 1 else 0
  let found := 0 < n ∧ s.parN 0x0B05 a.val ≤ n
  let t := s.onAx a (fun y => { y with template := { y.template with
    bin := bin, closing := decide (s.sigma a = s.closeSign a), baseline := (s.baseline a bin).1, fromTable := (s.baseline a bin).2, excess := ex, detecting := runs, masked := s.inMask a,
    count := if found then 0 else n } })
  (if found then t.obstruct a bin ex th else t, n)

/-! ### Learning (R283, R284) -/

/-- The frame is summed into its pass (R283), but for the detection counter. -/
def State.learns (s : State) (a : Fin 16) : Bool :=
  let x := s.ax a
  x.homed && x.homing.isNone && !x.template.frozen && decide (s.power.mode ≠ .limp) &&
  (match x.planned with | some m => m.kind = .abs || m.kind = .rel || m.kind = .group | none => false) &&
  (if s.stepperAt a then x.stepper.valid else x.loops.running && decide (x.loops.reported = 1)) &&
  decide (s.parN 0x0B0B a.val ≤ x.speed.natAbs) && !s.stopFault a

/-- A bin after an update by a pass of mean `x` with weight 1/`w` (R284). -/
def Bin.learn (e : Bin) (x : Int) (w : Nat) : Bin :=
  let d := x - e.mean
  { mean := sat16 (e.mean + rdiv d w)
    spread := min 65535 ((e.spread : Int) + rdiv ((d.natAbs : Int) - e.spread) w).toNat
    count := min (e.count + 1) 65535
    age := 0
    updated := true
    updates := e.updates + 1 }

/-- End the pass in progress (R284); nothing is learned while the axis is frozen or not homed, or the
device in Limp (R280, R292, R344). -/
def State.endPass (s : State) (a : Fin 16) : State :=
  let t := (s.ax a).template
  let s := s.onAx a (fun y => { y with template := { y.template with passBin := none, passSum := 0, passN := 0, passSpoiled := false } })
  match t.passBin with
  | none => s
  | some (b, closing) =>
    let key := binKey a closing b
    let e := s.binAt key
    let x := rdiv t.passSum t.passN
    if t.passSpoiled ∨ t.frozen ∨ !(s.ax a).homed ∨ s.power.mode = .limp ∨ t.passN = 0 ∨ t.passN < s.parN 0x0B0C a.val ∨ (s.binValid a e ∧ s.par 0x0B0D a.val < x - e.mean) then s
    else
      let shift := s.parN 0x0B0A a.val
      let w := if e.count < 2 ^ shift ∨ t.teach.isSome then e.count + 1 else 2 ^ shift
      let e' := e.learn x w
      let s := (s.setBin key e').onAx a (fun y => { y with
        queue := y.queue.map (fun m => if m.id = t.passMove then { m with learned := true } else m) })
      let s := if e.mean < s.par 0x0B0F a.val ∧ s.par 0x0B0F a.val ≤ e'.mean then
          (s.stick 0x0B20 a.val 6).raise 0x0B02 a.val else s
      if e.count < 65535 ∧ e'.count = 65535 then s.firstSaturation (2 ^ 24 + key) 0x0B20 a.val 7 0x0B05 a.val else s

/-- One frame of learning: end a pass whose bin, direction or move has changed, and sum the frame (R283). `n` is the
detection counter of the frame. -/
def State.learnFrame (s : State) (a : Fin 16) (n : Nat) : State :=
  let x := s.ax a
  let id := match x.planned with | some m => m.id | none => 0
  let key := if x.planned.isSome then s.binInUse a else none
  let changed : Bool := key ≠ x.template.passBin || id ≠ x.template.passMove
  let s := if changed then s.endPass a else s
  let s := if id ≠ 0 ∧ id ≠ x.template.passMove then
      s.onAx a (fun y => { y with template := { y.template with passMove := id } }) else s
  match key with
  | none => s
  | some k =>
    let adds := s.learns a && decide (n = 0)
    let f := s.sigma a * (s.ax a).template.force
    s.onAx a (fun y => { y with template := { y.template with
      passBin := some k
      passSum := if adds then y.template.passSum + f else y.template.passSum
      passN := if adds then y.template.passN + 1 else y.template.passN
      passSpoiled := y.template.passSpoiled || decide (n ≠ 0) } })

/-- The Template unit at the end of an axis's compute slot. -/
def State.templateFrame (s : State) (a : Fin 16) : State :=
  let (t, n) := (s.forceFrame a).detectFrame a
  t.learnFrame a n

/-! ### Strokes and teaching (R285, R291) -/

/-- Age the bins of a direction that the stroke did not update, and clear their flags (R285). -/
def State.ageStroke (s : State) (a : Fin 16) (closing : Bool) : State :=
  s.each (List.range 512) (fun b t =>
    let key := binKey a closing b
    let e := t.binAt key
    t.setBin key { e with age := if e.updated then e.age else min (e.age + 1) 255, updated := false })

/-- The pass of an entry that completes ends with it (R284). -/
def State.endPassOf (s : State) (a : Fin 16) (m : Move) : State :=
  if (s.ax a).template.passMove = m.id then s.endPass a else s

/-- A completed entry as a stroke (R285, R291). -/
def State.strokeCompleted (s : State) (a : Fin 16) (m : Move) : State :=
  let t := (s.ax a).template
  if (m.kind = .abs ∨ m.kind = .rel ∨ m.kind = .group) ∧ m.learned then
    let closing : Bool := m.dir = s.closeSign a
    let s := s.ageStroke a closing
    match t.teach with
    | some (o, c) =>
      let left := if closing then (o, c - 1) else (o - 1, c)
      if left = (0, 0) then s.endTeach a Status.ok
      else s.onAx a (fun y => { y with template := { y.template with teach := some left } })
    | none => s
  else s

/-- The cleared state of an axis's entries in one direction (R286). -/
def State.clearBins (s : State) (a : Fin 16) (closing : Bool) : State :=
  let lo := binKey a closing 0
  { s with motion := { s.motion with bins := s.motion.bins.filter (fun (k, _) => !(lo ≤ k && k < lo + 512)) } }

/-- Invalidate an axis's table (R286). -/
def State.invalidateTable (s : State) (a : Fin 16) : State :=
  ((s.clearBins a false).clearBins a true).raise 0x0B03 a.val

/-! ### Commands -/

/-- TEMPLATE_LEARN (R291). -/
def execTemplateLearn (r : Req) (axis mode : Byte) (cycles : Half) (s : State) : Host.Outcome State Fault Refusal :=
  .next (s.request 0xC2 r (fun k s => s.onAxis r 0xC2 axis (fun a s =>
    let x := s.ax a
    s.checked r 0xC2
      [(decide (1 < mode.toNat) || (decide (mode = 0) && decide (cycles ≠ 0)), Status.badParameter),
       (decide (mode = 1) && decide (cycles.toNat < 1 ∨ 1000 < cycles.toNat), Status.outOfRange),
       (decide (s.power.mode = .limp) || !x.homed || x.template.frozen, Status.learnGated),
       (decide (mode = 1) && x.template.teach.isSome, Status.busy)]
      (fun s =>
        if mode = 0 then (s.endTeach a Status.txnAborted).answer r 0xC2 Status.ok .bare
        else
          (s.onAx a (fun y => { y with template := { y.template with
            teach := some (cycles.toNat, cycles.toNat), teachSlot := some k, teachSeq := r.seq } })).answer r 0xC2 Status.pending .bare))))

/-- Freeze or release an axis's learning (R292). -/
def State.freezeAxis (s : State) (a : Fin 16) (freeze : Bool) : State :=
  let t := if freeze then s.endTeach a Status.learnGated else s
  t.onAx a (fun y => { y with template := { y.template with frozen := freeze } })

/-- TEMPLATE_FREEZE (R292). -/
def execTemplateFreeze (r : Req) (axis freeze : Byte) (s : State) : Host.Outcome State Fault Refusal :=
  .next (s.request 0xC3 r (fun k s => s.onAxis r 0xC3 axis (fun a s =>
    s.checked r 0xC3 [(decide (1 < freeze.toNat), Status.badParameter)] (fun s =>
      s.stageOr k r 0xC3 (.templateFreeze r axis freeze) [] id Status.ok (fun _ => .bare) (fun s =>
        (s.freezeAxis a (freeze = 1)).answer r 0xC3 Status.ok .bare)))))

/-- TEMPLATE_RESET (R293). -/
def execTemplateReset (r : Req) (axis directions : Byte) (s : State) : Host.Outcome State Fault Refusal :=
  .next (s.request 0xC4 r (fun _ s => s.onAxis r 0xC4 axis (fun a s =>
    s.checked r 0xC4 [(decide (directions.toNat < 1 ∨ 3 < directions.toNat), Status.badParameter)] (fun s =>
      let s := if directions.toNat.testBit 0 then s.clearBins a false else s
      let s := if directions.toNat.testBit 1 then s.clearBins a true else s
      s.answer r 0xC4 Status.ok .bare))))

/-- REVERSAL_REQUEST on one axis (R241): a geared slave follows its master. -/
def State.reverseAxis (s : State) (a : Fin 16) : State :=
  let dir := match (s.ax a).planned with | some _ => s.sigma a | none => 0
  let t := (s.clearQueue a 5).onAx a (fun x => { x with obstruction := true, reversing := false })
  if (s.ax a).gear.isSome then t
  else
    let t := t.onAx a (fun x => { x with stop := some .hard, follow := none })
    if dir = s.closeSign a ∧ dir ≠ 0 then
      let open_ := s.openSign a
      let dist := s.par 0x091A a.val
      let m : Move := { kind := .reversal, id := (t.ax a).nextId, v := (s.par 0x091B a.val).toNat,
                        target := if dist = 0 then some (s.bound a open_) else none, relative := open_ * dist }
      t.onAx a (fun x => { x with queue := x.queue ++ [m], nextId := nextMoveId x.nextId })
    else t

/-- REVERSAL_REQUEST (R241, R253). -/
def execReversalRequest (axis : Fin 16) (s : State) : Host.Outcome State Fault Refusal :=
  .next (if (s.ax axis).reversing then
    let t := s.each (axis :: s.partners axis) (fun a t => t.reverseAxis a)
    t.raise 0x0908 axis.val
  else s)

end Sys2Proof.Machine
end

