-- ==== Sys2Proof/Machine/AxisCompute.lean ====
section
/-! DEFINITION. The compute slot of one axis (R167, Table 2.2 step 3): feedback, profile, loops, modulation and the
Template check of one frame. -/

namespace Sys2Proof.Machine

/-- A slave's demand toward a wanted state, within its hard speed, its hard deceleration and its end-of-travel (R251), to which it
returns at no more than the hard speed. A wanted reversal first takes the present speed off at the hard deceleration. -/
def State.limitSlave (s : State) (a : Fin 16) (old want : Demand) : Demand :=
  let vmax := (if s.stepperAt a then min stepperSpeed (s.par 0x0906 a.val) else s.par 0x0906 a.val) * Q
  let dv := rdiv (s.par 0x0907 a.val * Q) frameRate
  let v := (want.p - old.p) * frameRate
  let slowing := decide (0 < (old.v.natAbs : Int) - dv) && decide (signI old.v * v < (old.v.natAbs : Int) - dv)
  let free : Demand :=
    if slowing then
      let w := signI old.v * ((old.v.natAbs : Int) - dv)
      { p := old.p + rdiv w frameRate, v := w, a := -(signI old.v) * s.par 0x0907 a.val * Q }
    else if vmax < v.natAbs then { p := old.p + signI v * rdiv vmax frameRate, v := signI v * vmax, a := 0 }
    else want
  if s.eot a then
    let lo := s.par 0x0909 a.val * Q
    let hi := s.par 0x090A a.val * Q
    let reach := rdiv vmax frameRate
    if free.p < lo then
      if old.p + reach < lo then { p := old.p + reach, v := vmax, a := 0 } else { p := lo, v := 0, a := 0 }
    else if hi < free.p then
      if hi < old.p - reach then { p := old.p - reach, v := -vmax, a := 0 } else { p := hi, v := 0, a := 0 }
    else free
  else free

/-- One frame of a geared slave (R249 to R251). A reaction or the reversal of its own that decelerates at the hard limits
takes the slave from its geared demand (R239); a STOP stops its master too, and the slave follows that (R252). -/
def State.gearFrame (s : State) (a : Fin 16) (g : Gear) : State :=
  let x := s.ax a
  if x.stop = some .hard then s.stopDemand a true
  else
  let base := g.demand (s.ax g.master).demandLast
  let lim := s.moveLimits a { kind := .abs }
  let (term, _) := planMove g.term 0 (s.par 0x091C a.val * Q) (lim.a * Q) (lim.d * Q) (lim.j * Q) 0
  let want : Demand := { p := base.p + term.p, v := base.v + term.v, a := base.a + term.a }
  let d := s.limitSlave a x.demand want
  let lag := want.p - d.p
  let t := s.onAx a (fun x => { x with demand := d, gear := some { g with term := term } })
  let t := if s.par 0x091D a.val * Q < lag.natAbs then t.raise 0x0904 a.val else t
  if s.eot a ∧ (base.counts < s.par 0x0909 a.val ∨ s.par 0x090A a.val < base.counts) then t.raise 0x0905 a.val else t

/-- Whether the profile engine plans the axis in the frame: its loops run, or its coils are energised. -/
def State.plans (s : State) (a : Fin 16) : Bool :=
  if s.stepperAt a then (s.ax a).stepper.energised else (s.ax a).loops.running

/-- The profile of one frame (R221 to R251). -/
def State.profileFrame (s : State) (a : Fin 16) : State :=
  let x := s.ax a
  let t :=
    if x.held then s.onAx a (fun x => { x with demand := { x.demand with v := 0, a := 0 } })
    else if !s.plans a then
      if s.stepperAt a then s.onAx a (fun x => { x with demand := { x.demand with v := 0, a := 0 } })
      else s.onAx a Axis.toMeasured
    else
      match x.gear, x.follow with
      | some g, _ => s.gearFrame a g
      | none, some f => s.followFrame a f
      | none, none => s.planQueue a
  (t.onAx a (fun x => { x with demand := x.demand.fit })).settle a |>.watchPosition a

/-- AXIS_COMPUTE_SLOT (R167): `fb` are the axis's feedback inputs, `edges` the net encoder edges of the frame. -/
def execAxisComputeSlot (axis : Fin 16) (fb : BitVec 3) (edges : Word) (s : State) : Host.Outcome State Fault Refusal :=
  .next (
    if !s.axisExists axis then s
    else if s.stepperAt axis then (((s.profileFrame axis).stepperFrame axis).templateFrame axis)
    else
      let t := (s.measure axis fb edges.toInt).profileFrame axis
      (((t.runLoops axis).modulate axis).templateFrame axis).homingFrame axis)

end Sys2Proof.Machine
end

