-- ==== Sys2Proof/Machine/CanConfig.lean ====
section
/-! DEFINITION. The configuration of a CAN controller (R410 to R413): its parameters, bit rates, filters and response
identifiers, and the check that it meets on leaving Service. -/

namespace Sys2Proof.Machine

/-- A parameter of controller c (Table 17.10), by offset; own parameters use sub-index 0xFF. -/
def canIndex (c : Fin 2) (off : Nat) : Nat := 0x1100 + 0x40 * c.val + off
def State.canPar (s : State) (c : Fin 2) (off : Nat) : Nat := s.devN (canIndex c off)
def State.canSub (s : State) (c : Fin 2) (off k : Nat) : Nat := s.parN (canIndex c off) k

/-- An identifier of CANc.STATUS_ID's coding: bit 31 selects 29 bits, 0xFFFFFFFF is none. -/
def noIdent : Nat := 0xFFFFFFFF
def identExtended (w : Nat) : Bool := w.testBit 31
def identBits (w : Nat) : Nat := if identExtended w then w % 2 ^ 29 else w % 2 ^ 11

/-- One filter (Table 17.5, R412). -/
structure Filter where
  action : Nat
  extended : Bool
  host : Fin 8
  ident : Nat
  mask : Nat
  deriving DecidableEq, Repr

def State.filter (s : State) (c : Fin 2) (k : Nat) : Filter :=
  let cfg := s.canSub c 0x16 k
  { action := cfg % 4, extended := cfg.testBit 2, host := Fin.ofNat 8 (cfg / 8), ident := s.canSub c 0x14 k, mask := s.canSub c 0x15 k }

def State.filters (s : State) (c : Fin 2) : List Filter := (List.range 32).map (s.filter c)

/-- A filter matches an identifier (R412); a disabled one matches none. -/
def Filter.matches_ (f : Filter) (extended : Bool) (ident : Nat) : Bool :=
  f.action ≠ 0 && decide (f.extended = extended) && decide (((ident ^^^ f.ident) &&& f.mask) % (if extended then 2 ^ 29 else 2 ^ 11) = 0)

def Filter.stores (f : Filter) : Bool := f.action = 1 || f.action = 2

/-- The divisors of the 40 MHz clock that give the bit rates (R410). -/
def State.nominalClock (s : State) (c : Fin 2) : Nat := s.canPar c 0x03 * (1 + s.canPar c 0x04 + s.canPar c 0x05)
def State.dataClock (s : State) (c : Fin 2) : Nat := s.canPar c 0x07 * (1 + s.canPar c 0x08 + s.canPar c 0x09)

/-- R413: a storing filter's host has a response identifier, which no storing filter of either controller accepts. -/
def State.hostsConsistent (s : State) (c : Fin 2) : Bool :=
  let storing := ((allFin 2).flatMap s.filters).filter Filter.stores
  ((s.filters c).filter Filter.stores).all (fun f => decide (s.canSub c 0x13 f.host.val ≠ noIdent)) &&
  (List.range 8).all (fun h =>
    let w := s.canSub c 0x13 h
    w = noIdent || storing.all (fun f => !f.matches_ (identExtended w) (identBits w)))

/-- The conditions of R410; a rate r = 40 MHz / n is at most m exactly when 40 MHz ≤ m n. -/
def State.canOk (s : State) (c : Fin 2) : Bool :=
  let n := s.nominalClock c
  let d := s.dataClock c
  decide (40000000 ≤ 1000000 * n) && decide (40000000 ≤ 5000000 * d) &&
  decide (s.canPar c 0x06 ≤ s.canPar c 0x05) && decide (s.canPar c 0x0A ≤ s.canPar c 0x09) &&
  (decide (s.canPar c 0x0B = 1) || decide (40000000 ≤ 1000000 * d)) &&
  (decide (s.canPar c 0x0D = 0) || (decide (40000000 ≤ 250000 * n) && decide (3 ≤ s.canPar c 0x04))) &&
  s.hostsConsistent c

/-- The error counters as CANc.ERR_COUNTERS shows them (R421). -/
def State.errorCounters (s : State) (c : Fin 2) (transmit receive : Nat) : State :=
  s.setPar (canIndex c 0x21) 255 (min transmit 65535 + 65536 * min receive 65535)

/-- A controller that joins the bus anew is error-active, with its counters at 0 (R421). -/
def State.joinBus (s : State) (c : Fin 2) : State :=
  let t := { s with can := upd s.can c (fun x => { x with state := .active }) }
  ((t.errorCounters c 0 0).clearFault 0x1102 c.val).clearFault 0x1103 c.val

/-- The check on leaving Service and at boot: a controller that fails stays disabled, with CAN_CONFIG raised. -/
def State.configureCan (s : State) (c : Fin 2) : State :=
  let t := if s.canOk c then s.clearFault 0x1101 c.val else s.raise 0x1101 c.val
  if !(s.canOk c && decide (s.canPar c 0x00 = 1)) then { t with can := upd t.can c (fun _ => {}) }
  else if (s.can[c]).state = .disabled then t.joinBus c
  else t

end Sys2Proof.Machine
end

