-- ==== Sys2Proof/Machine/FieldIo.lean ====
section
/-! DEFINITION. The field inputs, counters and outputs (R392 to R407). -/

namespace Sys2Proof.Machine

def State.onFio (s : State) (f : FieldIo → FieldIo) : State := { s with fio := f s.fio }

/-- A mask of one bit. -/
def bitMask (n k : Nat) : BitVec n := BitVec.ofNat n (2 ^ k)

/-! ### Inputs (R394, R395) -/

/-- The level of every input after inversion (R394). -/
def State.inputs (s : State) : Word := s.fio.levels ^^^ BitVec.ofNat 32 (s.devN 0x1001)

/-- DI_EDGE: an accepted change of level with its timestamp. Timestamps stop with the timebase (R400). -/
def execDiEdge (input : Fin 32) (level : Bool) (count : Nat) (s : State) : Host.Outcome State Fault Refusal :=
  .next (
    let m := bitMask 32 input.val
    if s.fio.levels.getLsb input = level then s
    else
    let t := s.onFio (fun x => { x with levels := if level then x.levels ||| m else x.levels &&& ~~~m })
    if !s.tb.running then t
    else
      let stamp := (s.frame32, BitVec.ofNat 16 count)
      t.onFio (fun x =>
        if t.inputs.getLsb input then
          { x with rising := x.rising.set input (some stamp), freshRising := x.freshRising ++ [(input.val, count)] }
        else { x with falling := x.falling.set input (some stamp), freshFalling := x.freshFalling ++ [(input.val, count)] }))

/-- An input has been active for a number of frames, by its latest rising timestamp (R316, R338). -/
def State.inputHeld (s : State) (di frames : Nat) : Bool :=
  s.inputs.getLsbD di && (match s.fio.rising.toList.getD di none with
    | some (f, _) => frames ≤ (s.frame32 - f).toNat
    | none => frames ≤ s.frame64.toNat)

/-! ### Counters (R396 to R398) -/

/-- A permitted mode of Table 17.2, from the modes of every counter. -/
def State.counterModeOk (s : State) (k : Nat) : Bool :=
  s.parN 0x1002 k ≠ 3 || (k % 2 = 0 && s.parN 0x1002 (k + 1) = 0)

/-- The modes take effect on leaving Service; one that Table 17.2 does not permit leaves its counter OFF (R396). -/
def State.configureCounters (s : State) : State :=
  let ok := (allFin 8).all (fun k => s.counterModeOk k.val)
  let t := s.onFio (fun x => { x with counters := Vector.ofFn (fun k : Fin 8 =>
    let c := x.counters[k]
    let m := if s.counterModeOk k.val then s.parN 0x1002 k.val else 0
    if m = c.mode then c else { c with mode := m, last := none, gate := 0 }) })
  if ok then t.clearFault 0x1008 255 else t.raise 0x1008 255

/-- COUNTER_EDGE: one edge on the fast path. STEP_DIR takes its direction from the filtered level of DI(k + 8); a first
wrap is logged (R7, R396, R397). -/
def execCounterEdge (counter : Fin 8) (up : Bool) (s : State) : Host.Outcome State Fault Refusal :=
  .next (
    let c := s.fio.counters[counter]
    if c.mode = 0 ∨ !s.tb.running then s
    else
      let up : Bool := match c.mode with | 1 => true | 2 => !s.inputs.getLsbD (counter.val + 8) | _ => up
      let n := if up then c.count + 1 else c.count - 1
      let wraps : Bool := if up then decide (n = 0) else decide (c.count = 0)
      let t := s.onFio (fun x => { x with counters := upd x.counters counter (fun c =>
        { c with count := n, wrapped := c.wrapped || wraps, idle := 0 }) })
      if wraps then
        let t := t.stick 0x1034 255 16
        if c.wrapped then t else t.raiseAgain 0x1009 255
      else t)

/-- FREQ_GATE_END at the end of a gate of FIO.FREQ_GATE frames: `edges` rising edges and `span` counts since the last edge used; the first edge after 0 or after a
change of mode only starts the interval (R398). -/
def execFreqGateEnd (counter : Fin 8) (edges span : Nat) (s : State) : Host.Outcome State Fault Refusal :=
  .next (
    let c := s.fio.counters[counter]
    if c.mode = 0 ∨ c.gate < s.parN 0x1005 counter.val then s
    else if edges = 0 then s.onFio (fun x => { x with counters := upd x.counters counter (fun c => { c with gate := 0 }) })
    else
      let n := if c.last.isSome then edges else edges - 1
      let t := s.onFio (fun x => { x with counters := upd x.counters counter (fun c => { c with last := some s.tb.tickAt, idle := 0, gate := 0 }) })
      if n = 0 ∨ span = 0 then t
      else t.setPar 0x1032 counter.val (min (rdiv ((n : Int) * 200000000000) span) 200000000))

/-- One frame of a gate, and without an edge: the frequency becomes 0 after 20,000 of them (R398). -/
def State.idleCounters (s : State) : State :=
  s.each (allFin 8) (fun k t =>
    let c := t.fio.counters[k]
    if c.mode = 0 then t
    else
      let n := c.idle + 1
      let u := t.onFio (fun x => { x with counters := upd x.counters k (fun c =>
        { c with gate := c.gate + 1, idle := n, last := if 20000 ≤ n then none else c.last }) })
      if n = 20000 then u.setPar 0x1032 k.val 0 else u)

/-- A preset committed at the tick replaces the count, and C(n) with it (R397). -/
def State.presetCounter (s : State) (k : Fin 8) (v : Word) : State :=
  s.onFio (fun x => { x with counters := upd x.counters k (fun c => { c with count := v }), counts := x.counts.set k v })

/-- The field inputs and counters are latched for the frame (R37, R397). -/
def State.latchInputs (s : State) : State :=
  s.onFio (fun x => { x with latched := s.inputs, counts := x.counters.map Counter.count, countsBefore := x.counts,
                             freshRising := [], freshFalling := [] })

/-! ### Supplies and outputs (R393, R399 to R407) -/

/-- The four outputs of a group. -/
def groupMask (g : Nat) : Half := BitVec.ofNat 16 (15 * 2 ^ (4 * g))

/-- The outputs of the groups whose bits are set. -/
def groupsMask (v : BitVec 4) : Half :=
  (allFin 4).foldl (fun m g => if v.getLsb g then m ||| groupMask g.val else m) 0

/-- The outputs that a latch or a monitor holds OFF (R393, R403 to R407). -/
def State.outputsHeld (s : State) : Half :=
  let x := s.fio
  groupsMask (x.underVoltage ||| x.overVoltage ||| x.groupLatch ||| x.thermalLatch) |||
    BitVec.ofNat 16 (x.channelLatch.toNat * 4096) ||| x.returning

/-- The enable and level of every output as its pin shows them (R399, R401): what a latch or a monitor holds OFF is off in the
failstate too (DEDUCED, notes/assumptions/156). -/
def State.outputEnable (s : State) : Half :=
  (if s.fio.failed then s.fio.failEnable else s.fio.driveEnable) &&& ~~~s.outputsHeld
def State.outputLevel (s : State) : Half := s.outputEnable &&& (if s.fio.failed then s.fio.failSet else s.fio.driveSet)

/-- DO_FAILSTATE (R401): every output takes its failstate and holds it until reset. -/
def State.doFailstate (s : State) : State :=
  if s.fio.failed then s
  else
    let st (k : Fin 16) : Bool × Bool := match s.parN 0x1013 k.val with
      | 0 => (false, false)
      | 1 => (true, false)
      | 2 => (true, true)
      | _ => (s.outputEnable.getLsb k, s.outputLevel.getLsb k)
    let en := (allFin 16).foldl (fun m k => if (st k).1 then m ||| bitMask 16 k.val else m) (0 : Half)
    let se := (allFin 16).foldl (fun m k => if (st k).2 then m ||| bitMask 16 k.val else m) (0 : Half)
    s.onFio (fun x => { x with failed := true, failEnable := en, failSet := se })

/-- OUTPUT_UPDATE (R399): the word computed in the last frame is driven, and what had been held returns. -/
def State.outputUpdate (s : State) : State :=
  s.onFio (fun x => { x with driveSet := x.nextSet, driveEnable := x.nextEnable, returning := 0 })

/-- The output word the lanes compute in this frame. -/
def State.outputWord (s : State) : State :=
  s.onFio (fun x => { x with nextSet := BitVec.ofNat 16 (s.devN 0x1010), nextEnable := BitVec.ofNat 16 (s.devN 0x1011) })

/-- VFIELD_UV (R393). FIO.VFIELD shows what the last event carried (DESIGN CHOICE, notes/assumptions/159). -/
def execVfieldUv (group : Fin 4) (mv : Nat) (s : State) : Host.Outcome State Fault Refusal :=
  .next (
    let t := s.setPar 0x1033 group.val (min mv 40000)
    if mv < s.devN 0x1015 then
      (t.onFio (fun x => { x with underVoltage := x.underVoltage ||| bitMask 4 group.val })).raise 0x1001 group.val
    else t)

/-- VFIELD_OV (R393). -/
def execVfieldOv (group : Fin 4) (mv : Nat) (s : State) : Host.Outcome State Fault Refusal :=
  .next (
    let t := s.setPar 0x1033 group.val (min mv 40000)
    if 35000 < mv then
      (t.onFio (fun x => { x with overVoltage := x.overVoltage ||| bitMask 4 group.val })).raise 0x1002 group.val
    else t)

/-- VFIELD_RECOVER (R393): the outputs return at the next tick. -/
def execVfieldRecover (group : Fin 4) (mv : Nat) (s : State) : Host.Outcome State Fault Refusal :=
  .next (
    let t := s.setPar 0x1033 group.val (min mv 40000)
    let m := bitMask 4 group.val
    let uv : Bool := s.fio.underVoltage.getLsb group && decide (s.devN 0x1015 + 1000 < mv)
    let ov : Bool := s.fio.overVoltage.getLsb group && decide (mv < 34000)
    let t := if uv then (t.onFio (fun x => { x with underVoltage := x.underVoltage &&& ~~~m, returning := x.returning ||| groupMask group.val })).clearFault 0x1001 group.val else t
    if ov then (t.onFio (fun x => { x with overVoltage := x.overVoltage &&& ~~~m, returning := x.returning ||| groupMask group.val })).clearFault 0x1002 group.val else t)

/-- FIO_DO_GROUP_OVERLOAD (R403), on DO0 to DO11. -/
def execFioDoGroupOverload (group : Fin 4) (s : State) : Host.Outcome State Fault Refusal :=
  .next (
    if group = 3 ∨ s.fio.groupLatch.getLsb group then s
    else
      let t := s.onFio (fun x => { x with groupLatch := x.groupLatch ||| bitMask 4 group.val })
      (t.count 0x1035 (4 * group.val)).raise 0x1003 (4 * group.val))

/-- FIO_DO_OVERLOAD (R404), on DO12 to DO15; the event carries the cause. -/
def execFioDoOverload (channel : Fin 16) (toVfield : Bool) (s : State) : Host.Outcome State Fault Refusal :=
  .next (
    let k := channel.val - 12
    if channel.val < 12 ∨ s.fio.channelLatch.getLsbD k then s
    else
      let m := bitMask 4 k
      let t := s.onFio (fun x => { x with
        channelLatch := x.channelLatch ||| m,
        channelCause := if toVfield then x.channelCause ||| m else x.channelCause &&& ~~~m })
      (t.count 0x1035 channel.val).raiseWith 0x1004 channel.val [if toVfield then 1 else 0])

/-- FIO_DO_MISMATCH (R405). -/
def execFioDoMismatch (channel : Fin 16) (s : State) : Host.Outcome State Fault Refusal :=
  .next (
    if channel.val < 12 then s
    else ((s.onFio (fun x => { x with mismatch := x.mismatch ||| bitMask 4 (channel.val - 12) })).stick 0x1034 255 18).raise
      0x1007 channel.val)

/-- FIO_DO_OPEN (R405): a HIGH output that FIO.DO_OPEN_DETECT selects. -/
def execFioDoOpen (channel : Fin 16) (s : State) : Host.Outcome State Fault Refusal :=
  .next (
    let k := channel.val - 12
    if channel.val < 12 ∨ !(s.devN 0x1014).testBit k ∨ !s.outputLevel.getLsb channel then s
    else ((s.onFio (fun x => { x with openLoad := x.openLoad ||| bitMask 4 k })).stick 0x1034 255 17).raise 0x1006 channel.val)

/-- FIO_DO_THERMAL (R406). -/
def execFioDoThermal (group : Fin 4) (s : State) : Host.Outcome State Fault Refusal :=
  .next (
    if s.fio.thermalLatch.getLsb group then s
    else
      let t := s.onFio (fun x => { x with thermalLatch := x.thermalLatch ||| bitMask 4 group.val })
      (t.count 0x1035 (4 * group.val)).raise 0x1005 (4 * group.val))

/-- A condition that only the wiring shows (levels agree, the load draws current): a fresh value says at each tick whether
it holds; when it does the diagnostic clears itself (R405, R503). -/
def State.diagnosticsClear (s : State) : State :=
  s.each (allFin 4) (fun k t =>
    let one (code : Nat) (on : Bool) (off : FieldIo → FieldIo) (t : State) : State :=
      if !on then t
      else
        let ok := Config.freeBool t.free
        let t := { t with free := t.free + 1 }
        if ok then (t.onFio off).clearFault code (12 + k.val) else t
    let m := bitMask 4 k.val
    one 0x1006 (t.fio.openLoad.getLsb k) (fun x => { x with openLoad := x.openLoad &&& ~~~m })
      (one 0x1007 (t.fio.mismatch.getLsb k) (fun x => { x with mismatch := x.mismatch &&& ~~~m }) t))

end Sys2Proof.Machine
end

