-- ==== Sys2Proof/Machine/Lanes.lean ====
section
/-! DEFINITION. The twin lanes (R323 to R346): the arbiter's decision, divergence and state copy, switch-over and the
proof swap. Lanes in comparison compute the same results (R323), so `State.motion` is the engines of both; the engines of a
lane that is out of comparison stand apart in `Lanes.apart` (R21). -/

namespace Sys2Proof.Machine

def State.onLanes (s : State) (f : Lanes → Lanes) : State := { s with lanes := f s.lanes }

/-- The numbers of the active and the standby lane, 0 = A and 1 = B. -/
def State.activeLane (s : State) : Nat := if s.lanes.activeB then 1 else 0
def State.standbyLane (s : State) : Nat := 1 - s.activeLane

/-! ### Divergence (R333, R335, R340) -/

/-- The divergences of a lane in the last 12,000,000 frames (R340). -/
def State.divergences (s : State) (lane : Nat) : List Long :=
  (if lane = 0 then s.lanes.historyA else s.lanes.historyB).filter (fun f => (s.frame64 - f).toNat < 12000000)

/-- Attribute a divergence with a cause of Table 14.6 to a lane; the third within ten minutes makes the lane faulty. -/
def State.diverges (s : State) (lane cause : Nat) (bays : Half) : State :=
  let h := (s.frame64 :: s.divergences lane).take 3
  let t := (s.stick 0x0D10 255 7).count 0x0D12 255
  let t := t.onLanes (fun x => { x with
    historyA := if lane = 0 then h else x.historyA, historyB := if lane = 0 then x.historyB else h,
    lastFrame := some s.frame32, lastBays := bays, lastCause := cause, lastLane := lane, copyAtTick := true })
  if h.length = 3 then (t.raise 0x0D04 lane).onLanes (fun x => { x with redundancyLost := true, byImage := false }) else t

/-- Restart the copy of the standby at step 1 of Table 14.3. -/
def State.startCopy (s : State) : State :=
  s.onLanes (fun x => { x with
    standby := if x.redundancyLost then .faulty else .copying,
    copySince := s.frame64, finalPhase := false, dirty := 0, copyAtTick := false
    apart := match x.apart with | some m => some m | none => some s.motion })

/-! ### The proof swap (R338, R339) -/

/-- The conditions of a proof swap (R338), by the decision of the last frame. -/
def State.swapConditions (s : State) : Bool :=
  s.lanes.row = 1 && s.lanes.standby = .comparing &&
  s.presentAxes.all (fun a => (s.ax a).state = .disabled || (s.ax a).state = .standstill) && s.ringTxns = 0

/-- The conditions of an automatic swap (R338); none runs in Limp (R344). -/
def State.swapAutomatic (s : State) : Bool :=
  let frames := 20 * s.devN 0x0D02
  let di := s.devN 0x0D03
  s.swapConditions && !(s.power.mode = .limp) && s.devN 0x0D01 ≤ s.devN 0x0D11 && frames ≤ s.lanes.dwellRun &&
    (32 ≤ di || s.inputHeld di frames)

def State.completeSwap (s : State) (req : Option (Option (Fin 8) × Half)) (status : Nat) : State :=
  match req with
  | some (slot, seq) => s.complete slot seq 0xC1 status
  | none => s

/-- A swap fails (R338): a divergence of the promoted lane is counted, with the bays that differed, and the roles return at the
next tick when the other lane still takes part in comparison. -/
def State.swapFails (s : State) (promoted : Nat) (back counted : Bool) (bays : Half := 0) : State :=
  match s.lanes.swapping with
  | none => s
  | some (_, req) =>
    let t := s.raise 0x0D07 promoted
    let t := if counted then t.diverges promoted 6 bays else t
    let t := t.onLanes (fun x => { x with swapping := none, swapAtTick := x.swapAtTick || back })
    t.completeSwap req 0x31

/-- LANE_SWAP (0xC1; R339). -/
def execLaneSwap (r : Req) (flags : Byte) (s : State) : Host.Outcome State Fault Refusal :=
  .next (s.request 0xC1 r (fun k s =>
    let atDwell := flags &&& 1 = 1
    s.checked r 0xC1
      [(2 ≤ flags.toNat, Status.badParameter),
       (s.power.mode = .limp, Status.wrongMode),
       (!(s.lanes.standby = .comparing) || s.lanes.redundancyLost, Status.faultLatched),
       (!atDwell && !s.swapConditions, Status.busy)]
      (fun s =>
        let t := (s.completeSwap s.lanes.swapWaiting 0x16).completeSwap s.lanes.swapNow 0x16
        let req := some (some k, r.seq)
        let t := t.onLanes (fun x =>
          if atDwell then { x with swapWaiting := req, swapNow := none } else { x with swapWaiting := none, swapNow := req })
        t.answer r 0xC1 Status.pending .bare)))

/-- PROOF_SWAP (R338): at the tick, the standby becomes active and the shadow registers are read back. -/
def execProofSwap (readbackOk : Bool) (s : State) : Host.Outcome State Fault Refusal :=
  .next (
    if s.lanes.swapping.isSome then s
    else if (s.lanes.swapNow.isSome && s.swapConditions && !(s.power.mode = .limp)) || s.swapAutomatic then
      let req := if s.lanes.swapNow.isSome then s.lanes.swapNow else s.lanes.swapWaiting
      let t := s.onLanes (fun x => { x with
        activeB := !x.activeB, swapping := some (s.frame64, req), dwellRun := 0, swapNow := none,
        swapWaiting := if x.swapNow.isSome then x.swapWaiting else none })
      if readbackOk then t else t.swapFails t.activeLane true true
    else s)

/-- A swap asked for at the tick of its execution that was not made there completes with BUSY, the refusal of the conditions it
needed: the manual gives such a request no outcome (DESIGN CHOICE, notes/assumptions/128). -/
def State.lapseSwap (s : State) : State :=
  if s.lanes.swapNow = none then s
  else (s.completeSwap s.lanes.swapNow 0x16).onLanes (fun x => { x with swapNow := none })

/-- PROOF_SWAP_RESULT (R338): a pass needs 16 frames without divergence. -/
def execProofSwapResult (clean : Bool) (s : State) : Host.Outcome State Fault Refusal :=
  .next (match s.lanes.swapping with
    | none => s
    | some (f, req) =>
      if !clean then s.swapFails s.activeLane true true
      else if 16 ≤ (s.frame64 - f).toNat then
        let t := ((s.setDev 0x0D11 0).clearFault 0x0D08 255).onLanes (fun x => { x with swapping := none })
        t.completeSwap req 0x00
      else s)

/-- LANE_SWAP_OVERDUE (R338). -/
def execLaneSwapOverdue (s : State) : Host.Outcome State Fault Refusal :=
  .next (if 2 * s.devN 0x0D01 < s.devN 0x0D11 then s.raise 0x0D08 255 else s)

/-! ### The decision (R327 to R332, R43) -/

/-- A health fault of a lane (R327). -/
def laneUnhealthy (l : LaneReport) : Bool :=
  !l.complete || l.sramFault || l.coreFault || !l.inputCrcOk || l.halted || !l.imageOk

/-- A lane's report with the debug port's halt and the errors found in its SRAM (R121, R327, Table 1.6). -/
def State.laneReport (s : State) (lane : Fin 2) (l : LaneReport) : LaneReport :=
  { l with halted := l.halted || s.dbg.laneHalted lane, sramFault := l.sramFault || s.lanes.sramBad[lane] }

/-- The arbiter writes the set that it accepted for a bay into the shadow registers (R23, R112). -/
def State.acceptBay (s : State) (b : Fin 16) : State :=
  let t := s.each (allFin 3) (fun x t => t.onHb (hbOf b x) (fun h => { h with shadow := h.offered }))
  t.onBay b (fun y => { y with trigShadow := y.trigOffered, chopShadow := y.chopOffered })

/-- The accepted set is in the shadow registers: `LOAD_ALL` is set (Table 2.2, step 7). The bays of `held` take no new set: the
transfer gives them the entries and the trigger word in force at it (row 2). -/
def State.loadSet (s : State) (held : Half := 0) : State :=
  let t := s.each (allFin 16) (fun b t => if held.getLsb b then t else t.acceptBay b)
  { t with pwm := { t.pwm with loadAll := true, loadHold := held } }

/-- No lane delivered a complete set: TB_OVERRUN, and TB_OVERRUN_REPEAT in a second consecutive frame (R43). -/
def State.overrun (s : State) (none_ : Bool) : State :=
  let again := s.tb.overran
  let t := { s with tb := { s.tb with overran := none_ } }
  if !none_ then t
  else
    let t := ((t.stick 0x0110 255 4).count 0x0114 255).raise 0x0102 255
    if again then t.raise 0x0103 255 else t

/-- LANE_ACTIVE_LOST (R332, R401). -/
def State.activeLost (s : State) : State :=
  if s.lanes.lost then s
  else ((s.raise 0x0D06 255).onLanes (fun x => { x with lost := true })).doFailstate

/-- The decision of Table 14.2 on the reports of the active and the standby lane. -/
def State.arbitrate (s : State) (act stb : LaneReport) (cmp : Comparison) : State :=
  let comparing : Bool := s.lanes.standby = .comparing
  let okS : Bool := comparing && !laneUnhealthy stb
  let differ : Bool := !(cmp.bays = 0)
  let other : Bool := !cmp.signatureEqual || !cmp.scanEqual
  let cause := if differ then 1 else if !cmp.signatureEqual then 2 else 3
  let a := s.activeLane
  let swapping := s.lanes.swapping.isSome
  let row (n : Nat) : State := s.onLanes (fun x => { x with row := n })
  if !laneUnhealthy act then
    if !okS then
      let t := (row 3).loadSet
      let t := if comparing then (t.raise 0x0D01 (1 - a)).diverges (1 - a) 4 cmp.bays else t
      t.swapFails a false true cmp.bays
    else if differ || other then
      let t := (row 2).loadSet cmp.bays
      if swapping then (t.raise 0x0D01 a).swapFails a true true cmp.bays
      else (t.raise 0x0D01 (1 - a)).diverges (1 - a) cause cmp.bays
    else (row 1).loadSet
  else if okS then
    let equal : Bool := !differ && act.complete
    let t := row (if equal && !other then 4 else 5)
    let t := if equal then t.loadSet else t
    let t := (t.stick 0x0D10 255 8).raise 0x0D02 a
    let t := t.onLanes (fun x => { x with swapAtTick := true, copyAtTick := true })
    let t := if equal && !other then t else t.diverges a (if differ || other then cause else 4) cmp.bays
    t.swapFails a false (equal && !other) cmp.bays
  else (row 6).activeLost

/-- LANE_DEADLINE (R43, R325 to R332): `slack` is the smaller reserve left, in ns. -/
def execLaneDeadline (a b : LaneReport) (cmp : Comparison) (slack : Nat) (s : State) : Host.Outcome State Fault Refusal :=
  .next (
    let a := s.laneReport 0 a
    let b := s.laneReport 1 b
    let act := if s.lanes.activeB then b else a
    let stb := if s.lanes.activeB then a else b
    let complete := act.complete || (s.lanes.standby = .comparing && stb.complete)
    let t := (s.setDev 0x0113 (min (s.dev 0x0113) slack)).onLanes (fun x => { x with sramBad := Vector.replicate 2 false })
    (t.overrun (!complete)).arbitrate act stb cmp)

/-- The role changes and departures from comparison decided in the last frame, after step 6 of Table 4.1 (R337). -/
def State.laneTick (s : State) : State :=
  let t := s.onLanes (fun x => { x with activeB := if x.swapAtTick then !x.activeB else x.activeB, swapAtTick := false })
  let t := if s.lanes.copyAtTick then t.startCopy else t
  t.onLanes (fun x => { x with dwellRun := if t.swapConditions then x.dwellRun + 1 else 0 })

/-! ### State copy (R333 to R335) -/

/-- COPY_FINAL_PHASE (R333): a frame of the copy began with `dirty` pages left; 16 or fewer are copied in its reserve. -/
def execCopyFinalPhase (dirty : Nat) (s : State) : Host.Outcome State Fault Refusal :=
  .next (
    if s.lanes.standby = .copying ∧ ¬s.lanes.finalPhase then
      s.onLanes (fun x => { x with finalPhase := dirty ≤ 16, dirty := dirty })
    else s)

/-- COPY_RELEASE (R334): the copied lane is compared again from this tick. -/
def execCopyRelease (s : State) : Host.Outcome State Fault Refusal :=
  .next (
    if s.lanes.standby = .copying ∧ s.lanes.finalPhase then
      let t := s.onLanes (fun x => { x with standby := .comparing, finalPhase := false, dirty := 0, apart := none })
      ({ t with dbg := { t.dbg with sram := t.dbg.sram.set (Fin.ofNat 2 s.standbyLane) [] } } : State).count 0x0D13 255
    else s)

/-- LANE_COPY_FAIL (R335): the copy starts again, unless this was the lane's third divergence. -/
def execLaneCopyFail (s : State) : Host.Outcome State Fault Refusal :=
  .next (
    if s.lanes.standby = .copying ∧ ¬s.lanes.finalPhase ∧ s.devN 0x0D04 ≤ (s.frame64 - s.lanes.copySince).toNat then
      ((s.raise 0x0D03 s.standbyLane).diverges s.standbyLane 5 0).startCopy
    else s)

end Sys2Proof.Machine
end

