-- ==== Sys2Proof/Machine/Pwm.lean ====
section
/-! DEFINITION. The PWM generator (R107 to R124, R209 to R212): the transfer of a set, period starts, bootstrap refresh,
the chopper, the driver die's interlock and the debug halt. -/

namespace Sys2Proof.Machine

/-! ### Entries (Tables 5.1, 5.3, 9.2) -/

def entryDuty (w : Word) : Int := bitsOf 0 14 w.toNat
def entryMode (w : Word) : Nat := bitsOf 14 2 w.toNat
def entryShift (w : Word) : Int := wrapSigned 14 (bitsOf 16 14 w.toNat)

/-- L of Table 5.3, and U for a period. -/
def State.lowerD (s : State) (b : Fin 16) : Int := s.dead b + s.minPulse b
def State.upperD (s : State) (b : Fin 16) (period : Int) : Int := period - s.dead b - s.minPulse b

/-- The applied interval of a commanded one (Table 5.3). -/
def State.applied (s : State) (b : Fin 16) (period d : Int) : Int :=
  if d < s.lowerD b then 0 else if s.upperD b period < d then period else d

/-- An ordinary entry against a period (R113): refused, or the entry that loads and whether it was clamped. -/
def State.checkEntry (s : State) (b : Fin 16) (period : Int) (w : Word) : Option (Word × Bool) :=
  if bitsOf 30 2 w.toNat ≠ 0 then none
  else
    let d0 := entryDuty w
    let d := if period < d0 then s.upperD b period else d0
    let s0 := entryShift w
    let lim := s.shiftLimit b period d
    let sh := if entryMode w = 0 then clampI (-lim) lim s0 else s0
    some (entryWord (entryMode w) d sh, decide (d ≠ d0 ∨ sh ≠ s0))

/-- The entry at a place of a bay, checked (R113, R207). -/
def State.checkPlace (s : State) (b : Fin 16) (x : Fin 3) (period : Int) (w : Word) : Option (Word × Bool) :=
  if s.stepperAt b ∧ x = 0 then
    if bitsOf 3 5 w.toNat ≠ 0 ∨ bitsOf 20 12 w.toNat ≠ 0 ∨ bitsOf 0 2 w.toNat = 3 then none else some (w, false)
  else if s.stepperAt b ∧ x = 1 then (if w = offEntry then some (w, false) else none)
  else s.checkEntry b period w

/-- Set a sticky bit of PWM.BAY_STATUS; its fault logs on the first occurrence since the bit was cleared (R124). -/
def State.pwmSeen (s : State) (b : Fin 16) (bit code : Nat) : State :=
  if s.stuck 0x0310 b.val bit then s else (s.stick 0x0310 b.val bit).raise code b.val

/-- Transfer one half-bridge's shadow entry to the pending registers. -/
def State.transferHb (s : State) (b : Fin 16) (period : Int) (x : Fin 3) : State :=
  match s.checkPlace b x period (s.hb (hbOf b x)).shadow with
  | none => (s.onHb (hbOf b x) (fun h => { h with pending := h.active })).pwmSeen b 8 0x0301
  | some (w, clamped) =>
    let t := s.onHb (hbOf b x) (fun h => { h with pending := w })
    if clamped then t.pwmSeen b 6 0x0302 else t

/-- A bay that repeats the entries and the trigger word in force (row 2 of Table 14.2). -/
def State.holdBay (s : State) (b : Fin 16) : State :=
  let t := s.each (allFin 3) (fun x t => t.onHb (hbOf b x) (fun h => { h with shadow := h.active }))
  t.onBay b (fun y => { y with trigShadow := y.trigActive, chopShadow := y.chopActive })

def State.transferBay (s : State) (b : Fin 16) : State :=
  let s := if s.pwm.loadHold.getLsb b then s.holdBay b else s
  let p := s.nextPeriod b
  let t := s.onBay b (fun y => { y with periodPending := p, carrierHeld := none, trigPending := y.trigShadow, chopPending := y.chopShadow })
  t.each (allFin 3) (fun x t => t.transferHb b p x)

/-- SHADOW_TRANSFER (R112): with LOAD_ALL set, the whole set passes to the pending registers. It comes after the commits of the
tick, so that a carrier committed at a tick goes live with the set loaded at it, and after the snapshot, so that what it clamps
shows in the next one (R114). -/
def State.shadowTransfer (s : State) : State :=
  if s.pwm.loadAll then
    let t := s.each (allFin 16) (fun b t => t.transferBay b)
    { t with pwm := { t.pwm with loadAll := false, loadHold := 0 } }
  else s

/-! ### Gate pulses (R108, R109, R111) -/

/-- Whether a gate whose pulses are `l` is on, or about to turn on after the dead time, at the end of a period. -/
def onAtEnd (period : Int) (l : List (Int × Int)) : Bool := l.any (fun i => decide (period ≤ i.2))

/-- The count of the next period at which the pulse that reaches over the end of a period begins: 0 when it has begun (R111). -/
def carryOver (period : Int) (l : List (Int × Int)) : Int :=
  match l.find? (fun i => decide (period ≤ i.2)) with
  | some i => max 0 (i.1 - period)
  | none => 0

/-- The edges and gate pulses of one period of a COMPLEMENTARY entry (R108, Table 5.3). `dt` and `mp` are the dead time and the
minimum pulse; `wasHigh` and `wasLow` say which gate was on as the last period ended, whose low-side pulse begins at `carry` and
runs to the edge a of this one, and after a refresh to `hold` at least, so that it lasts TR (R117; DEDUCED,
notes/assumptions/132); `withheld` keeps the high-side gate off (R131). -/
def pulses (period d s dt mp : Int) (wasHigh wasLow withheld : Bool) (carry hold : Int := 0) : Gates :=
  let a := (period - d) / 2 + s
  let b := a + d
  let high (l : List (Int × Int)) : List (Int × Int) := if withheld then [] else l
  let from_ := if wasHigh then dt else if wasLow then carry else 0
  if d < dt + mp then { a := a, b := b, low := [(from_, period)] }
  else if period - dt - mp < d then
    if wasLow && decide (carry < hold) then { a := a, b := b, high := high [(hold + dt, period)], low := [(carry, hold)] }
    else { a := a, b := b, high := high [(if wasLow && decide (carry = 0) then dt else 0, period)] }
  else
    let off := if wasLow then max a hold else a
    let lost := wasHigh && decide (a < dt + mp)
    let first := if wasLow then [(carry, off)] else if wasHigh && !lost then [(dt, a)] else []
    { a := a, b := b, high := high [(if lost then 0 else off + dt, b)], low := first ++ [(b + dt, period)] }

/-- The edges and gate pulses of one period of an entry by its mode (Table 5.1). Where in the period the pulse of LOW_PWM stands
is left open, but for the dead time behind a high-side pulse. -/
def entryGates (mode : Nat) (period d s dt mp : Int) (wasHigh wasLow withheld : Bool) (carry hold : Int := 0) : Gates :=
  let least := if wasHigh then dt else if wasLow then carry else 0
  match mode with
  | 0 => pulses period d s dt mp wasHigh wasLow withheld carry hold
  | 1 => {}
  | 2 => { low := [(least, period)] }
  | _ =>
    let from_ := max least (Config.lowPwmStart period d)
    if d < mp then {} else { low := [(from_, from_ + d)] }

/-- The gate that is on at the end of the period keeps what R109 adds to it or takes from it. -/
def Gates.stretch (g : Gates) (period c : Int) : Gates :=
  let longer (l : List (Int × Int)) : List (Int × Int) := l.map (fun i => if period ≤ i.2 then (i.1, period + c) else i)
  { g with high := longer g.high, low := longer g.low }

/-- The correction `c` of the frame that ended is added to the end of every bay's period in progress (R44, R109). -/
def State.stretchPeriods (s : State) (c : Int) : State :=
  if c = 0 then s
  else
    let t := s.each (allFin 16) (fun b t => t.onBay b (fun y => { y with stretch := c }))
    t.each (allFin 48) (fun h t => t.onHb h (fun x => { x with gates := x.gates.stretch (s.bay (bayOfHb h)).period c }))

/-! ### The chopper (R162, R209 to R211) -/

/-- The fast and the slow phase of a bay's off-time, in counts (R209): a phase too short is not issued, and the other takes its
time. -/
def State.decay (s : State) (b : Fin 16) : Int × Int :=
  let toff := s.par 0x0805 (b.val / 2) * 20
  let f := (bitsOf 16 4 (s.hb (hbOf b 0)).active.toNat : Int) * toff / 16
  let least := s.dead b + s.minPulse b
  if f < least then (0, toff) else if toff - f < least then (toff, 0) else (f, toff - f)

/-- STP.BLANK of a bay in counts. -/
def State.blank (s : State) (b : Fin 16) : Int := s.par 0x0806 (b.val / 2) * 20

/-- Whether the V leg drives (POL of Table 9.2). -/
def State.drivesV (s : State) (b : Fin 16) : Bool := (s.hb (hbOf b 0)).active.toNat.testBit 2

/-- Add high-side time to the leg V or the leg U. -/
def Chopper.addHigh (c : Chopper) (v : Bool) (n : Int) : Chopper :=
  if v then { c with highV := c.highV + max 0 n } else { c with highU := c.highU + max 0 n }

/-- The chopper up to a count of the period in progress: in the on-time the driving leg's high side has been on since the phase
began, or since a refresh ended; in the off-time the other leg's, for the fast phase. -/
def State.chopUpTo (s : State) (b : Fin 16) (count : Int) : Chopper :=
  let c := (s.bay b).chopper
  let v := s.drivesV b
  match c.phase with
  | .off => c
  | .onTime => c.addHigh v (count - max c.resume (max 0 c.since))
  | .offTime =>
    let on := c.since + s.dead b
    c.addHigh (!v) (min count (on + (s.decay b).1) - max 0 on)

/-- The high-side time of a leg in the period that ends (R211): in a refresh period the driving leg's high side turns off TR
before the end. -/
def State.legTime (s : State) (b : Fin 16) (x : Fin 3) : Int :=
  let y := s.bay b
  let cut := if (s.hb (hbOf b x)).refreshing ∧ y.chopper.phase = .onTime ∧ (x = 1 ↔ s.drivesV b) then s.par 0x0304 b.val / 5 else 0
  let c := s.chopUpTo b (y.period + y.stretch)
  (if x = 0 then c.highU else c.highV) - cut

/-- The gates of a coil leg at a count of the period in progress, high then low (Table 9.3, R111, R211). As a cycle begins the
other leg's low side stays on where it was on; in the off-time it leaves the on-state with the trip when the fast phase needs the
leg's high side. A refresh ends the driving leg's high side TR before the end of the period, and its low side is on for TR from a
dead time later, into the next period. -/
def State.coilGates (s : State) (b : Fin 16) (x : Fin 3) (count : Int) : Bool × Bool :=
  let c := (s.bay b).chopper
  let dt := s.dead b
  let tr := s.par 0x0304 b.val / 5
  let drives : Bool := decide (x = 1 ↔ s.drivesV b)
  let mode := bitsOf 0 2 (s.hb (hbOf b 0)).active.toNat
  let last := (s.bay b).period + (s.bay b).stretch - tr
  let high : Bool := !(s.hb (hbOf b x)).bootUv
  match c.phase with
  | .off => (false, decide (mode = 2))
  | .onTime =>
    if count < c.since then (false, !drives && c.lowKept)
    else if !drives then (false, true)
    else if count < c.resume then (false, decide (c.resume - dt - tr ≤ count) && decide (count < c.resume - dt))
    else if (s.hb (hbOf b x)).refreshing ∧ last ≤ count then (false, decide (last + dt ≤ count))
    else (high, false)
  | .offTime =>
    let on := c.since + dt
    let f := (s.decay b).1
    if count < on then (false, !drives && decide (f = 0))
    else if count < on + f then (if drives then (false, true) else (high, false))
    else (false, drives || decide (f = 0) || decide (on + f + dt ≤ count))

/-- Whether the gates of a half-bridge are on at a count of the period in progress, high then low: its level (R119, R123), the
pulses of its entry, or its coil's chopper. A winding short waits for the dead time (R111), and the die withholds every high-side
turn-on while the bootstrap monitor shows under-voltage (R131). With its rail removed (R301) and in a switch test (R314) every gate
is off. -/
def State.gatesAt (s : State) (h : Fin 48) (count : Int) : Bool × Bool :=
  let b := bayOfHb h
  let x : Fin 3 := Fin.ofNat 3 (h.val % 3)
  let inside (l : List (Int × Int)) : Bool := l.any (fun i => decide (i.1 ≤ count) && decide (count < i.2))
  if s.inTest || s.railOff (dieOf b) then (false, false)
  else match s.level h with
  | .windingShort | .short => (false, decide (((s.hb h).lowFrom : Int) ≤ (s.bay b).startedAt + count))
  | .coast | .off | .released => (false, false)
  | .override => ((s.parN 0x0307 h.val).testBit 0 && !(s.hb h).bootUv, (s.parN 0x0307 h.val).testBit 1)
  | .entry => if s.stepperAt b ∧ x.val < 2 then s.coilGates b x count else (inside (s.hb h).gates.high, inside (s.hb h).gates.low)

/-- Whether a half-bridge is off: nothing turns a gate of it on in the period in progress. -/
def State.hbOff (s : State) (h : Fin 48) : Bool :=
  let b := bayOfHb h
  match s.level h with
  | .windingShort | .short => false
  | .coast | .off | .released => true
  | .override => s.parN 0x0307 h.val % 4 = 0
  | .entry =>
    if s.stepperAt b ∧ h.val % 3 < 2 then bitsOf 0 2 (s.hb (hbOf b 0)).active.toNat = 0 else entryMode (s.hb h).active = 1

/-- Every bay of the device is off (R48). -/
def State.everyBayOff (s : State) : Bool := (allFin 48).all s.hbOff

/-! ### Period starts (R40, R41, R115, R117, R131, R210 to R212) -/

/-- Whether a place of a bay holds a coil leg (R19). -/
def State.coilLeg (s : State) (b : Fin 16) (x : Fin 3) : Bool := s.stepperAt b && decide (x.val < 2)

/-- The bootstrap monitor of a half-bridge releases at 8.0 V (R130): whether it has is a free value at each period start. The
latch of GD_BOOT_UV, if it is set, stays until its try or FAULT_CLEAR. -/
def State.monitor (s : State) (h : Fin 48) : State :=
  if (s.hb h).bootUv then
    { s.onHb h (fun x => { x with bootUv := !Config.freeBool s.free }) with free := s.free + 1 }
  else s

/-- R117 at a period start: the count for an applied interval `d` of a half-bridge that drives its high side, and whether this is
its refresh period. -/
def State.refreshRule (s : State) (b : Fin 16) (h : HalfBridge) (drives : Bool) (period d : Int) : Nat × Bool :=
  let n := if drives && decide (s.par 0x0303 b.val * period < d * 10000) then h.refresh + 1 else 0
  if 0 < n ∧ s.parN 0x0305 b.val ≤ n then (0, true) else (n, false)

/-- One half-bridge at a period start: it takes its pending entry in the first period, the refresh rule counts, and its gates get
their pulses. A coil leg counts its high-side time `leg` of the period that has ended, which was `ended` counts long. -/
def State.startHb (s : State) (b : Fin 16) (second : Bool) (ended leg : Int) (x : Fin 3) : State :=
  let i := hbOf b x
  let s := s.monitor i
  let h := s.hb i
  let period : Int := (s.bay b).period
  let w := if second then h.active else h.pending
  let release : Release := match h.release with
    | .untilStart => .no
    | .untilFrame f => if !second && decide (f.toNat ≤ s.frame64.toNat) then .no else h.release
    | r => r
  let before : Bool := s.level i = .entry
  let entry : Bool := before || (s.level i = .released && decide (release = .no))
  if s.coilLeg b x then
    let coil := (if second then (s.hb (hbOf b 0)).active else (s.hb (hbOf b 0)).pending).toNat
    let drives := decide (bitsOf 0 2 coil = 1)
    let pulsed := entry && !h.bootUv && decide (x = 1 ↔ coil.testBit 2 = true)
    let (n, now) := s.refreshRule b h drives ended leg
    s.onHb i (fun h => { h with
      active := w, refresh := n, refreshing := now, release := release, gates := {}
      highPulsed := drives && !decide (s.level i = .coast) && (h.highPulsed || pulsed) })
  else
    let drives := decide (entryMode w = 0)
    let dt := s.dead b
    let mp := s.minPulse b
    let d0 := entryDuty w
    let (n, now) := s.refreshRule b h drives period (s.applied b period d0)
    let d := if now then min d0 (period - dt - s.par 0x0304 b.val / 5) else d0
    let sh := if second then 0 else entryShift w
    let wasLow := before && onAtEnd ended h.gates.low
    let carry := carryOver ended h.gates.low
    let hold := if h.refreshing && wasLow then carry + s.par 0x0304 b.val / 5 else 0
    let g := entryGates (entryMode w) period d sh dt mp (before && onAtEnd ended h.gates.high) wasLow h.bootUv carry hold
    s.onHb i (fun h => { h with
      active := w, refresh := n, refreshing := now, release := release, gates := g
      highPulsed := drives && !decide (s.level i = .coast) && (h.highPulsed || (entry && !decide (g.high = []))) })

/-- The chopper at a period start, after the new entry is active (R210): an off-time ends and a new cycle begins; an on-time
continues, without new blanking and with the polarity in force, and behind a refresh its high side is on again after two dead times.
`before` is the device as the period of `ended` counts ended. -/
def State.startChopper (s before : State) (b : Fin 16) (ended : Int) : State :=
  let chop : Bool := s.stepperAt b && decide (bitsOf 0 2 (s.hb (hbOf b 0)).active.toNat = 1)
  let dt := s.dead b
  let same := decide (before.drivesV b = s.drivesV b)
  let driving : Fin 48 := hbOf b (if s.drivesV b then 1 else 0)
  let kept := (before.gatesAt (hbOf b (if s.drivesV b then 0 else 1)) (ended - 1)).2
  s.onBay b (fun y =>
    let c := y.chopper
    let next : Chopper :=
      if !chop then {}
      else if c.phase = .onTime then
        if same then { phase := .onTime, since := c.since - ended, blankTo := c.blankTo - ended, lowKept := c.lowKept
                       resume := if (before.hb driving).refreshing then 2 * dt else 0 }
        else { phase := .onTime, since := dt, blankTo := c.blankTo - ended, lowKept := kept }
      else { phase := .onTime, since := dt, blankTo := s.blank b, lowKept := kept }
    { y with chopper := next })

/-- The record of a stepper bay's window begins in the first period of the frame (R212). -/
def State.startRecord (s : State) (b : Fin 16) : State :=
  let chop : Bool := s.stepperAt b && decide (bitsOf 0 2 (s.hb (hbOf b 0)).pending.toNat = 1)
  s.onBay b (fun y => { y with firstTrip := none, trips := 0, spanned := decide (y.chopper.phase = .onTime) && chop })

/-- The first period of a bay's frame takes the pending set (R41), and shows whether a shift is applied (Table 5.8). -/
def State.takePending (s : State) (b : Fin 16) : State :=
  let shifts := (allFin 3).any (fun x => let w := (s.hb (hbOf b x)).pending
    decide (entryMode w = 0) && !s.stepperAt b && decide (entryShift w ≠ 0))
  s.onBay b (fun y => { y with
    period := y.periodPending, trigActive := y.trigPending, chopActive := y.chopPending
    raw0 := none, raw1 := none, forcedInAperture := false, shifted := shifts })

/-- CARRIER_PERIOD_START (R40, R41): bay b starts b × 625 counts after the tick. The second period of a 40 kHz bay begins as the
first ends, 5,000 counts later, and runs the active set without shifts (R115); a 20 kHz bay has one period per frame. -/
def execCarrierPeriodStart (bay : Fin 16) (second : Bool) (s : State) : Host.Outcome State Fault Refusal :=
  .next (
    if s.tb.clockLost ∨ (second ∧ (s.bay bay).period ≠ 5000) then s
    else
      let y := s.bay bay
      let ended : Int := y.period + y.stretch
      let t := if second then s else (s.startRecord bay).takePending bay
      let t := (t.each (allFin 3) (fun x t => t.startHb bay second ended (s.legTime bay x) x)).startChopper s bay ended
      let last : Bool := decide (bay.val = 0) && (second || decide ((t.bay bay).period = 10000))
      let c : Int := if last then (s.tb.frameLen : Int) - 10000 else 0
      let t := t.onBay bay (fun y => { y with
        startedAt := if second then ((y.startedAt : Int) + ended).toNat else s.tb.tickAt + 625 * bay.val, stretch := c
        refreshed := if second then y.refreshed else (allFin 3).any (fun x => s.coilLeg bay x && (t.hb (hbOf bay x)).refreshing) })
      t.each (allFin 3) (fun x t => t.onHb (hbOf bay x) (fun h => { h with gates := h.gates.stretch (t.bay bay).period c })))

/-! ### Chopper events -/

/-- CHOP_TRIP: the comparator passed its filter `count` counts after the period start. In a servo bay it only counts (R162); in a
stepper bay it ends the on-time once the blanking is over (R209), and the record shows it when it falls into the window (R212). -/
def execChopTrip (bay : Fin 16) (count : Nat) (s : State) : Host.Outcome State Fault Refusal :=
  .next (
    let heard (t : State) : State := t.onBay bay (fun y => { y with chops := min 255 (y.chops + 1), chopped := true })
    let y := s.bay bay
    if !s.stepperAt bay then (heard s).stick 0x0511 bay.val 5
    else if y.chopper.phase ≠ .onTime ∨ (count : Int) < y.chopper.blankTo then s
    else
      let seen := decide (2 * count < y.period)
      let c := s.chopUpTo bay count
      let other := hbOf bay (if s.drivesV bay then 0 else 1)
      let fast : Bool := decide (0 < (s.decay bay).1) && decide (s.level other = .entry) && !(s.hb other).bootUv
      ((heard s).onHb other (fun h => { h with highPulsed := h.highPulsed || fast })).onBay bay (fun y => { y with
        chopper := { c with phase := .offTime, since := count, lowKept := false, resume := 0 }
        trips := if seen then min 255 (y.trips + 1) else y.trips
        firstTrip := match y.firstTrip with | some k => some k | none => if seen then some count else none }))

/-- CHOP_OFF_TIME_END (Table 9.3 step 8): TOFF has passed since the fast phase could begin, and the next cycle starts. -/
def execChopOffTimeEnd (bay : Fin 16) (s : State) : Host.Outcome State Fault Refusal :=
  .next (
    let y := s.bay bay
    if y.chopper.phase ≠ .offTime then s
    else
      let dt := s.dead bay
      let (f, sl) := s.decay bay
      let start := y.chopper.since + dt + f + sl
      let c := s.chopUpTo bay start
      s.onBay bay (fun y => { y with chopper := { c with
        phase := .onTime, since := start + dt, blankTo := start + s.blank bay, lowKept := decide (0 < sl), resume := 0 } }))

/-! ### Interlock and debug halt -/

/-- SHOOT_THROUGH_INTERLOCK (R15, R30, R126). -/
def execShootThroughInterlock (hb : Fin 48) (s : State) : Host.Outcome State Fault Refusal :=
  .next (
    let b := bayOfHb hb
    ((s.stick 0x0310 b.val 7).each (s.baysWith b) (fun c t => t.latchBay true 9 c)).raise 0x0404 b.val)

/-- PWM_DEBUG_HALT (R121): a core of the active lane is halted while an axis is enabled. -/
def execPwmDebugHalt (s : State) : Host.Outcome State Fault Refusal :=
  .next (
    if s.dbg.laneHalted (if s.lanes.activeB then 1 else 0) ∧ s.anyEnabled then s.raise 0x0304 255 else s)

end Sys2Proof.Machine
end

