-- ==== Sys2Proof/Machine/Sense.lean ====
section
/-! DEFINITION. The sense array (R154 to R165) and the die links (R16): conversions, offset calibration, sample records
and their faults. -/

namespace Sys2Proof.Machine

/-! ### Calibration (R160) -/

/-- Step 3 and 4 of R160 for a bay whose 32 conversions are done; the enable sequence goes on once every bay of the axis
has its offset. -/
def State.finishCalibration (s : State) (b : Fin 16) : State :=
  let y := s.bay b
  let a := s.axisOfBay b
  let oi := rdiv y.internalSum 16 - 2048
  let os := rdiv y.shuntSum 16 - 2048
  let internal : Bool := decide (4 < (os - oi).natAbs)
  let off := if internal then oi else os
  if s.parN 0x0505 b.val < off.natAbs then
    (s.abandonEnable a).raise 0x0501 b.val
  else
    let t := (s.setPar 0x0510 b.val off).onBay b (fun y => { y with calibrating := false, calibrated := true, offsetInternal := internal })
    let waits := (t.baysOfAxis a).any (fun c => (t.bay c).calibrating)
    match (t.ax a).enabling with
    | some e => if e.step = .calibrate ∧ !waits then t.enableStep a .diode else t
    | none => t

/-- One conversion of a calibration. -/
def State.calibrateWith (s : State) (b : Fin 16) (raw : Nat) : State :=
  let y := s.bay b
  if s.bayForced b then s.abandonEnable (s.axisOfBay b)
  else
    let t := s.onBay b (fun y =>
      if y.conversions < 16 then { y with internalSum := y.internalSum + raw, conversions := y.conversions + 1 }
      else { y with shuntSum := y.shuntSum + raw, conversions := y.conversions + 1 })
    if 32 ≤ y.conversions + 1 then t.finishCalibration b else t

/-! ### Triggers (R116, R156, R212) -/

/-- The count of a trigger in a bay, none when it is not issued. -/
def State.triggerAt (s : State) (b : Fin 16) (which : Fin 2) : Option Int :=
  let y := s.bay b
  let w := y.trigActive.toNat
  let win : Int := y.period / 2
  let t0 : Option Int :=
    if s.stepperAt b then some (s.coilHold b - 40)
    else if w.testBit 14 then some (bitsOf 0 14 w) else none
  let t1 : Option Int :=
    if s.stepperAt b then none
    else if w.testBit 30 then some (bitsOf 16 14 w) else none
  let ok := fun (t : Option Int) => match t with | some c => if c < win then some c else none | none => none
  if which = 0 then ok t0
  else
    match ok t1, ok t0 with
    | some c, some d => if c < d + 40 then none else some c
    | some c, none => some c
    | none, _ => none

/-- ADC_TRIGGER (R156): one conversion. During a calibration the conversions are those of R160; after clock loss no
trigger is issued (R122). -/
def execAdcTrigger (bay : Fin 16) (which : Fin 2) (raw : BitVec 12) (s : State) : Host.Outcome State Fault Refusal :=
  .next (
    if s.tb.clockLost then s
    else if (s.bay bay).calibrating then s.calibrateWith bay raw.toNat
    else
      match s.triggerAt bay which with
      | none => s
      | some _ =>
        let forced := s.bayForced bay
        s.onBay bay (fun y =>
          let y := { y with forcedInAperture := y.forcedInAperture || forced }
          if which = 0 then { y with raw0 := some raw.toNat } else { y with raw1 := some raw.toNat }))

/-! ### Sample records (R158, R159, R165) -/

/-- trim_f of a bay at its gain (R161). -/
def State.factoryTrim (s : State) (b : Fin 16) : Int :=
  if (s.bay b).trimDefault then 65536 else Config.factoryTrim b (s.parN 0x0500 b.val)

/-- The corrected sample of a raw code (R158). -/
def State.correct (s : State) (b : Fin 16) (raw : Nat) : Int :=
  sat16 (rdiv (((raw : Int) - 2048 - s.par 0x0510 b.val) * s.factoryTrim b * s.par 0x0502 b.val) 4294967296)

def saturatedCode (raw : Nat) : Bool := decide (raw < 82) || decide (4014 < raw)

/-- The chopper record of Table 9.4. -/
def State.chopperRecord (s : State) (b : Fin 16) : Nat × Nat × Nat :=
  let y := s.bay b
  let first := match y.firstTrip with | some c => c | none => 65535
  let chop : Bool := decide (bitsOf 0 2 (s.hb (hbOf b 0)).active.toNat = 1)
  (first, y.trips, boolBit y.firstTrip.isNone 0 + boolBit (match y.firstTrip with | some c => decide ((c : Int) < s.coilHold b) | none => false) 1 +
    boolBit y.spanned 2 + boolBit y.refreshed 3 + boolBit (!chop) 4)

/-- Count saturated samples (R165). -/
def State.countSaturated (s : State) (b : Fin 16) (n : Nat) : State :=
  if n = 0 then s else (s.stick 0x0511 b.val 3).countN 0x0512 b.val n

/-- What the report of a die changes (R135, R138, R152). -/
def Die.report (d : Die) (r : DieReport) : Die :=
  { d with vbus := r.vbus, temp := r.temp, brakeSense := max d.brakeSense r.brakeSense }

/-- SAMPLE_RECORD (R159): the record of a bay's window, with the die's frame status (R135, R138, R152). Its chop events and its
short trip are those since the record before, so that none goes unreported (DEDUCED, notes/assumptions/95). An axis under
identification is measured though it is not enabled (R196; DEDUCED, notes/assumptions/133). In a stepper pair SNS_MISSING, whose
scope is the axis, clears with a sample of either bay (DESIGN CHOICE, notes/assumptions/134). -/
def execSampleRecord (bay : Fin 16) (report : DieReport) (s : State) : Host.Outcome State Fault Refusal :=
  .next (
    let y := s.bay bay
    let a := s.axisOfBay bay
    let live : Bool := ((s.ax a).state.enabled || (s.ax a).identify.isSome) && !y.calibrating
    let r0 := if live then y.raw0 else none
    let r1 := if live then y.raw1 else none
    let sat0 := match r0 with | some r => saturatedCode r | none => false
    let sat1 := match r1 with | some r => saturatedCode r | none => false
    let flags := boolBit r0.isNone 0 + boolBit r1.isNone 1 + boolBit sat0 2 + boolBit sat1 3 + boolBit y.tripped 4 +
      boolBit y.forcedInAperture 5 + boolBit y.calibrating 6
    let counts : Bool := (s.ax a).state.enabled && !s.bayForced bay
    let missing := r0.isNone && r1.isNone
    let value := fun (r : Option Nat) => match r with | some c => s.correct bay c | none => 0
    let t := s.onBay bay (fun y => { y with
      sample0 := value r0, sample1 := value r1, recordFlags := flags, recordChops := y.chops, chopRecord := s.chopperRecord bay
      chops := 0, tripped := false, raw0 := none, raw1 := none, forcedInAperture := false
      missRun := if counts && missing then y.missRun + 1 else 0
      satRun := if counts && (sat0 || sat1) then y.satRun + 1 else 0 })
    let t := t.countSaturated bay (boolNat sat0 + boolNat sat1)
    let t := if (s.ax a).state.enabled ∧ (r0.isNone ∨ r1.isNone) then t.stick 0x0511 bay.val 4 else t
    let t := if missing then t else t.clearFault 0x0503 a.val
    t.onDie (dieOf bay) (fun d => d.report report))

/-- SNS_MISSING (R165). -/
def execSnsMissing (bay : Fin 16) (s : State) : Host.Outcome State Fault Refusal :=
  .next (if s.parN 0x0507 bay.val ≤ (s.bay bay).missRun then s.raise 0x0503 (s.axisOfBay bay).val else s)

/-- SNS_RANGE (R165). -/
def execSnsRange (bay : Fin 16) (s : State) : Host.Outcome State Fault Refusal :=
  .next (if s.parN 0x0506 bay.val ≤ (s.bay bay).satRun then s.raise 0x0502 bay.val else s)

/-- SNS_PEAK (R162, R165); 0 frames disables it. -/
def execSnsPeak (bay : Fin 16) (s : State) : Host.Outcome State Fault Refusal :=
  .next (if s.parN 0x0509 bay.val ≠ 0 ∧ s.parN 0x0509 bay.val ≤ (s.bay bay).peakRun ∧ !s.stepperAt bay then
    s.raise 0x0504 (s.axisOfBay bay).val else s)

/-- DIE_LINK_CRC_FAIL (R16, R159): the transfer with a bay's record failed, so both lanes treat its samples as missing and the
die's last status stands; the chopper record, which the control die forms itself, still reaches the lanes (DESIGN CHOICE,
notes/assumptions/135); a second consecutive frame with a failed transfer of the die raises GD_DIE_LINK. -/
def execDieLinkCrcFail (bay : Fin 16) (s : State) : Host.Outcome State Fault Refusal :=
  .next (
    let die := dieOf bay
    let enabled : Bool := (s.ax (s.axisOfBay bay)).state.enabled
    let t := s.onBay bay (fun y => { y with
      sample0 := 0, sample1 := 0, recordFlags := 3, chops := 0, tripped := false, raw0 := none, raw1 := none, forcedInAperture := false, satRun := 0, chopRecord := s.chopperRecord bay
      missRun := if enabled && !s.bayForced bay then y.missRun + 1 else 0 })
    let t := if enabled then t.stick 0x0511 bay.val 4 else t
    let t := t.onDie die (fun d => { d with linkFailed := true })
    if (s.die die).linkFailedBefore then t.raise 0x040E (dieInst die) else t)

/-- The VBUS means, the die status and the forcing of every half-bridge that the lanes use in the frame that begins (R167, Table
14.1). -/
def State.latchStatus (s : State) : State :=
  let t := s.each (allFin 48) (fun h t => t.onHb h (fun x => { x with coastAt := x.coast }))
  t.each (allFin 2) (fun d t => t.onDie d (fun x => { x with vbusAt := x.vbus, tempAt := x.temp, brakeFailedAt := x.brakeFailed }))

/-- What the frame that ends showed of a servo bay's chop comparator (R162). -/
def State.peakFrame (s : State) (b : Fin 16) : State :=
  s.onBay b (fun y => { y with peakRun := if y.chopped && !s.stepperAt b then y.peakRun + 1 else 0, chopped := false })

end Sys2Proof.Machine
end

