-- ==== Sys2Proof/Machine/GateDrive.lean ====
section
/-! DEFINITION. Gate drive and power-stage protection (R126 to R153): trips, bootstrap and VGD supervision, retries,
over-voltage, the brake chopper, and the dies' temperatures. -/

namespace Sys2Proof.Machine

/-! ### Trips and retries (R144, R147 to R149) -/

/-- The frame at which a wait of `tens` of 10 ms ends that begins at the tick after the present frame (R147). -/
def State.waitEnd (s : State) (tens : Nat) : Long := s.frame64 + 1 + BitVec.ofNat 64 (200 * tens)

/-- SHORT_COMPARATOR_TRIP (R30, R128, R144, R147); `lowOn` marks the half-bridges whose low-side gate counted as on. -/
def execShortComparatorTrip (bay : Fin 16) (lowOn : BitVec 3) (s : State) : Host.Outcome State Fault Refusal :=
  .next (
    let t := (s.each (s.baysWith bay) (fun b t => t.latchBay true 1 b)).count 0x0411 bay.val
    let t := t.each (allFin 3) (fun x t => if lowOn.getLsb x then t.onHb (hbOf bay x) (fun h => { h with lowClean := false }) else t)
    let wait (r : Retry) : Option Long := if r.exhausted then none else some (s.waitEnd (s.parN 0x0408 bay.val))
    let t := t.onBay bay (fun y => { y with tripped := true, retry := { y.retry with waitEnd := wait y.retry } })
    let t := t.raise 0x0401 bay.val
    if (s.bay bay).calibrating then t.abandonEnable (s.axisOfBay bay) else t)

def State.onBoot (s : State) (h : Fin 48) (f : Retry → Retry) : State :=
  { s with pwm := { s.pwm with boot := upd s.pwm.boot h f } }

/-- BOOT_UV (R130, R131): it counts as a fault only after a high-side pulse since the half-bridge left the other modes. -/
def execBootUv (hb : Fin 48) (s : State) : Host.Outcome State Fault Refusal :=
  .next (
    let b := bayOfHb hb
    let t := s.onHb hb (fun h => { h with bootUv := true })
    if !(s.hb hb).highPulsed then t
    else
      let t := (t.latchHb true 2 hb).raiseForced 0x0402 hb.val
      let t := t.onBoot hb (fun r => { r with waitEnd := if r.exhausted then none else some (s.waitEnd (s.parN 0x040A b.val)) })
      if (s.bay b).calibrating then t.abandonEnable (s.axisOfBay b) else t)

/-- The tries of a retry that began in the last 200,000 frames. -/
def State.recentTries (s : State) (r : Retry) : List Long := r.tries.filter (fun f => (s.frame64 - f).toNat < 200000)

/-- A released bay restarts its axis through the enable sequence, from the tick at hand; the axis stays enabled (R148). While another
latch still forces a bay of the axis the restart waits for the try that releases it. -/
def State.restartAxis (s : State) (a : Fin 16) : State :=
  if (s.ax a).state = .coasting ∧ ¬(s.baysOfAxis a).any s.bayForced then
    (s.beginEnable a).onAx a (fun x => { x with enabling := x.enabling.map (fun e => { e with since := s.frame64 + 1 }) })
  else s

/-- A source's latch of a bay clears, and with it that of the other bay of a stepper pair, unless a fault of the same code
still holds that bay (R30, R120). -/
def State.releaseWith (s : State) (code src : Nat) (b : Fin 16) : State :=
  let t := s.clearFault code b.val
  let l := t.baysWith b
  if l.any (fun c => t.isActive code c.val) then t else t.each l (fun c t => t.releaseBay src c)

/-- The short latch of a bay clears (R120, R128). -/
def State.clearShort (s : State) (b : Fin 16) : State :=
  (s.releaseWith 0x0401 1 b).each (allFin 3) (fun x t => t.onHb (hbOf b x) (fun h => { h with lowClean := true }))

/-- The bootstrap latch of a half-bridge clears and its monitor shows released; it runs OFF until `wait` has come. -/
def State.clearBoot (s : State) (wait : Release) (h : Fin 48) : State :=
  ((s.releaseHbTo wait 2 h).onHb h (fun x => { x with bootUv := false })).clearFault 0x0402 h.val

/-- One try of a retry (R147, R149): what a try, a further wait and exhaustion do. The try at T(w) comes before step 6 of that
tick, so its command stands before that TICK (DEDUCED, notes/assumptions/93). -/
def State.retryOnce (s : State) (r : Retry) (most wait : Nat) (active : Bool) (bay : Fin 16)
    (put : Retry → State → State) (clear exhaust : State → State) : State :=
  match r.waitEnd with
  | none => s
  | some w =>
    if s.frame64 + 1 < w ∨ ¬(s.power.mode = .run ∨ s.power.mode = .limp) ∨ r.exhausted then s
    else
      let recent := s.recentTries r
      if recent.length < most then
        let r := { r with tries := (s.frame64 + 1) :: recent }
        if active then put { r with waitEnd := some (s.frame64 + 1 + BitVec.ofNat 64 (200 * wait)) } s
        else clear (put { r with waitEnd := none } s)
      else exhaust ((put { r with waitEnd := none, exhausted := true } s).raise 0x0403 bay.val)

/-- AUTO_RETRY_TRY (R147 to R149); `sourceActive` is what the live source shows. -/
def execAutoRetryTry (which : RetryRef) (sourceActive : Bool) (s : State) : Host.Outcome State Fault Refusal :=
  .next (match which with
    | .short b =>
      s.retryOnce (s.bay b).retry (s.parN 0x0409 b.val) (s.parN 0x0408 b.val) sourceActive b
        (fun r t => t.onBay b (fun y => { y with retry := r }))
        (fun t => (t.clearShort b).restartAxis (s.axisOfBay b)) id
    | .boot h =>
      let b := bayOfHb h
      s.retryOnce s.pwm.boot[h] (s.parN 0x040B b.val) (s.parN 0x040A b.val) sourceActive b
        (fun r t => t.onBoot h (fun _ => r))
        (fun t => (t.clearBoot .untilStart h).restartAxis (t.axisOfBay b))
        (fun t => (t.each (t.baysWith b) (fun c t => t.latchBay false 8 c)).reactAxis 5 (s.axisOfBay b)))

/-! ### VGD (R133) -/

/-- VGD_LOCKOUT: the class is LOG when the channel commands STO or runs a switch test. -/
def execVgdLockout (die : Fin 2) (s : State) : Host.Outcome State Fault Refusal :=
  .next (
    let t := s.onDie die (fun d => { d with vgdLocked := true })
    let t := t.each (baysOfDie die) (fun b t => t.latchBay true 3 b)
    t.raise 0x0405 (dieInst die))

/-- GD_VGD_HIGH (R133). -/
def execGdVgdHigh (die : Fin 2) (s : State) : Host.Outcome State Fault Refusal := .next (s.raise 0x0406 (dieInst die))

/-- A declared failure of a brake chopper (R134, R138). -/
def State.brakeFault (s : State) (die : Fin 2) (code : Nat) : State :=
  (s.raise code (dieInst die)).onDie die (fun d => { d with brakeFailed := true })

/-- VGD_BRK_LOW (R134). -/
def execVgdBrkLow (die : Fin 2) (s : State) : Host.Outcome State Fault Refusal := .next (s.brakeFault die 0x0409)

/-! ### Over-voltage and the brake chopper (R135 to R143) -/

/-- OV1_ASSERT (R137). -/
def execOv1Assert (die : Fin 2) (s : State) : Host.Outcome State Fault Refusal :=
  .next ((s.onDie die (fun d => { d with ov1 := true, brakeOn := true, brakeSeen := true })).raise 0x0407 (dieInst die))

/-- BRAKE_OFF (R137): VBUS has fallen below GD.OV1 − GD.BRK_HYST. The frame is none that BRK_d stayed on through (R138). The
comparator of OV1 shows released here and not before: its own release level is not given (DESIGN CHOICE, notes/assumptions/145). -/
def execBrakeOff (die : Fin 2) (s : State) : Host.Outcome State Fault Refusal :=
  .next (s.onDie die (fun d => { d with ov1 := false, brakeOn := false, brakeBroken := true, brakeRun := 0, idleRun := 0 }))

/-- A half-bridge that an asynchronous source shorts: its low-side gate is on a dead time after the instant of the source, which is a
free count of the period in progress (R111, R118). -/
def State.shortsNow (s : State) (h : Fin 48) : State :=
  if !((s.hb h).short = []) then s
  else
    let y := s.bay (bayOfHb h)
    let (v, t) := s.draw
    t.onHb h (fun x => { x with lowFrom := y.startedAt + v.toNat % (y.period + 1) + (s.dead (bayOfHb h)).toNat })

/-- OV2_ASSERT (R140): winding short at once on every bay, and the reaction of GD_VBUS_OV2 with it (R12): its SHORT latch is
that of source 0x04 (Table 5.6). -/
def execOv2Assert (die : Fin 2) (s : State) : Host.Outcome State Fault Refusal :=
  .next (
    let t := (s.onDie die (fun d => { d with ov2 := true })).stick 0x0413 255 5
    let t := if s.pwm.overVoltage then t else t.each (allFin 48) (fun h t => t.shortsNow h)
    let t := { t with pwm := { t.pwm with overVoltage := true } }
    let t := t.raise 0x0408 255
    match t.faults.find? (fun f => f.code = 0x0408) with
    | some f => t.beginReaction f
    | none => t)

/-- OV2_RELEASE (R140): VBUS is below GD.OV1 − GD.BRK_HYST on both dies. -/
def execOv2Release (s : State) : Host.Outcome State Fault Refusal :=
  .next (
    let t := s.each (allFin 2) (fun d t => t.onDie d (fun x => { x with ov2 := false }))
    { t with pwm := { t.pwm with overVoltage := false } })

/-- Whether an enabled axis uses a bay of the die. -/
def State.dieUsed (s : State) (die : Fin 2) : Bool :=
  s.presentAxes.any (fun a => (s.ax a).state.enabled && decide (dieOf a = die))

/-- What the frame that ends showed of a die: the runs of R138, R142 and R143. -/
def State.dieFrame (s : State) (die : Fin 2) : State :=
  let used := s.dieUsed die
  let low := s.dev 0x0405
  let least := s.devN 0x0403
  let run (b : Bool) (n : Nat) : Nat := if b then n + 1 else 0
  s.onDie die (fun d =>
    let current := decide (least < d.brakeSense)
    { d with
      brakeRun := run (d.brakeOn && !d.brakeBroken) d.brakeRun
      idleRun := run (d.ov1 && d.brakeOn && !d.brakeBroken && !current) d.idleRun
      shortRun := run (current && !d.brakeSeen) d.shortRun
      uvRun := run (used && decide ((d.vbus : Int) < low)) d.uvRun
      brakeSense := 0, brakeSeen := d.brakeOn, brakeBroken := false })

/-- What the frame that ends showed of both dies; the two means of VBUS are compared on a shared bus alone (R135). -/
def State.diesFrame (s : State) : State :=
  let t := s.each (allFin 2) (fun d t => t.dieFrame d)
  let v0 := (s.die 0).vbus
  let v1 := (s.die 1).vbus
  let apart := decide (s.dev 0x0406 = 1) && decide (5 * max v0 v1 < 100 * (max v0 v1 - min v0 v1))
  { t with pwm := { t.pwm with mismatchRun := if apart then t.pwm.mismatchRun + 1 else 0 } }

/-- GD_BRAKE_FAIL (R138): five frames with OV1 asserted and `BRK_d` on showed no current. -/
def execGdBrakeFail (die : Fin 2) (s : State) : Host.Outcome State Fault Refusal :=
  .next (if 5 ≤ (s.die die).idleRun then s.brakeFault die 0x0409 else s)

/-- GD_BRAKE_OVERLOAD (R138): `BRK_d` has been on for GD.BRK_ONMAX frames. -/
def execGdBrakeOverload (die : Fin 2) (s : State) : Host.Outcome State Fault Refusal :=
  .next (if s.devN 0x0404 ≤ (s.die die).brakeRun then s.brakeFault die 0x040A else s)

/-- GD_BRAKE_SHORTED (R142), a fault of the device: five frames showed current with `BRK_d` off. -/
def execGdBrakeShorted (die : Fin 2) (s : State) : Host.Outcome State Fault Refusal :=
  .next (if 5 ≤ (s.die die).shortRun then s.raise 0x040B 255 else s)

/-- REGEN_SHORT (R138, R139): at the tick, an axis that regenerated changes to winding short with its demand held; the
firmware source latches SHORT on its bay. -/
def State.regenShort (s : State) (a : Fin 16) : State :=
  if (s.ax a).com.regenerates ∧ (s.die (dieOf a)).brakeFailed then
    (s.each (s.baysOfAxis a) (fun b t => t.latchBay false 8 b)).onAx a (fun x => { x.loopsOff with
      state := .shorted, since := s.frame64, held := true, stop := none, enabling := none, regenShort := true
      com := { x.com with regenerates := false } })
  else s

/-- GD_VBUS_UV (R143): the die's mean was low in four frames with an axis enabled. -/
def execGdVbusUv (die : Fin 2) (s : State) : Host.Outcome State Fault Refusal :=
  .next (if 4 ≤ (s.die die).uvRun then s.raise 0x040C (dieInst die) else s)

/-- GD_VBUS_MISMATCH (R135): the means of a shared bus were apart in four frames. -/
def execGdVbusMismatch (s : State) : Host.Outcome State Fault Refusal :=
  .next (if 4 ≤ s.pwm.mismatchRun then (s.raise 0x040D 255).stick 0x0413 255 6 else s)

/-- GD_DIE_HOT (R152): 130 °C reached. -/
def execGdDieHot (die : Fin 2) (temp : Int) (s : State) : Host.Outcome State Fault Refusal :=
  .next (
    let t := s.onDie die (fun d => { d with temp := temp })
    if 1300 ≤ temp then t.raise 0x040F (dieInst die) else t)

/-- GD_DIE_OVERTEMP (R152): 150 °C reached. -/
def execGdDieOvertemp (die : Fin 2) (temp : Int) (s : State) : Host.Outcome State Fault Refusal :=
  .next (
    let t := s.onDie die (fun d => { d with temp := temp })
    if 1500 ≤ temp then t.raise 0x0410 (dieInst die) else t)

end Sys2Proof.Machine
end

