-- ==== Sys2Proof/Machine/SafetyChannel.lean ====
section
/-! DEFINITION. The safety channel (R298 to R322): its states, the two halves and their switches, the independent speed
estimate, SS1, the switch test and the diagnostics. -/

namespace Sys2Proof.Machine

/-! ### States and switches (Tables 13.2 and 13.3) -/

/-- The code of Table 13.2. -/
def SafetyState.code : SafetyState → Nat
  | .boot => 0 | .runPermitted => 1 | .ss1 => 2 | .sto => 3 | .testing => 4 | .locked => 5

def State.onSaf (s : State) (f : Safety → Safety) : State := { s with saf := f s.saf }

/-- Plumb may close `STO_HS`: no demand on `STO_REQ` holds it open until a heartbeat (R302), and no expiry of its SS1 timer until a
release (R298). -/
def Safety.plumbCloses (x : Safety) : Bool := x.stoReqAt.isNone && !x.plumbOpen

/-- Enter a safety state with a cause of Table 13.9; a change of state is logged (Table 20.6). The switches stand as
Table 13.2 says, but in TESTING, which opens one at a time, and where Plumb holds its own open. -/
def State.safetyMove (s : State) (st : SafetyState) (cause : Nat) : State :=
  let closed := st = .runPermitted || st = .ss1 || (st = .testing)
  let t := s.onSaf (fun x =>
    { x with state := st, cause := cause, hs := closed && (x.hs || (st ≠ .ss1 && x.plumbCloses)),
             ls := closed, plumbTimer := x.plumbTimer && st = .ss1, releasing := false, acknowledged := false,
             testStep := if st = .testing then x.testStep else 0, bootTest := x.bootTest && st = .boot })
  if s.saf.state = st then t
  else t.event { code := 0x0C80, inst := 255, kind := 2, cls := 4, detail := st.code, extra := cause, frame := s.frame64 }

/-- The outputs `SAFE_OK_A` and `SAFE_OK_B` (R303): high while the half deliberately holds its switch closed, in RUN_PERMITTED and
SS1; in TESTING, which opens one switch at a time, both stay high (DEDUCED, notes/assumptions/112). -/
def State.safeOk (s : State) : PairAB :=
  let held := fun (on : Bool) => match s.saf.state with
    | .runPermitted | .ss1 => on
    | .testing => true
    | .boot | .sto | .locked => false
  { a := held s.saf.hs, b := held s.saf.ls }

/-- The host's switch test ends (R316): a pass goes on to the tests of DIAG_SELFTEST that remain (R454), anything else
completes the request. -/
def State.endHostTest (s : State) (status : Nat) : State :=
  match s.saf.testByHost with
  | none => s
  | some (slot, seq) =>
    let t := s.onSaf (fun x => { x with testByHost := none })
    if status = 0 ∧ t.power.selftests.isSome then t
    else State.complete { t with power := { t.power with selftests := none } } slot seq 0xC0 status

/-- A safety fault with reaction STO: the channel enters LOCKED with both switches open (R322, Table 13.3). -/
def State.safetyFault (s : State) (code cause : Nat) : State :=
  let t := s.raise code 255
  let t := if s.saf.state = .locked then t else t.safetyMove .locked cause
  t.endHostTest 0x31

/-- SS1 or STO on demand is reported as SAFE_STO_ACTIVE (Table 13.12). -/
def State.stoActive (s : State) : State := s.raise 0x0C01 255

/-- Enter STO. -/
def State.enterSto (s : State) (cause : Nat) : State := (s.stoActive.safetyMove .sto cause).endHostTest 0x30

/-- SS1 ends in STO (R311): the demand has been reported at its start. -/
def State.endSs1 (s : State) : State := (s.safetyMove .sto s.saf.cause).endHostTest 0x30

/-- Start SS1 (R310, R311): both timers start, and the speed of every monitored axis is recorded. -/
def State.startSs1 (s : State) (cause : Nat) : State :=
  let t := ((s.stoActive.safetyMove .ss1 cause).stick 0x0C30 255 14).count 0x0C35 255
  t.onSaf (fun x => { x with ss1At := x.now, plumbTimer := true, violating := 0,
                             est := x.est.map (fun e => { e with start := e.speed }) })

/-- A latched safety fault: an active one of rank 7 in the block of the channel (R308, Table 13.12). -/
def State.safetyLatched (s : State) : Bool := s.faults.any (fun f => f.code / 256 = 0x0C && f.rank = 7)

/-- A safety latch has cleared: from LOCKED the channel returns to STO once none is left (Table 13.3). -/
def State.leaveLocked (s : State) : State :=
  if s.saf.state = .locked ∧ ¬s.safetyLatched then s.safetyMove .sto s.saf.cause else s

/-! ### Inputs (R304, R305, R312) -/

/-- SI_CHANGE: the filtered levels have changed; a de-energised input is the demand. -/
def execSiChange (levels : PairAB) (s : State) : Host.Outcome State Fault Refusal :=
  .next (
    let t := s.onSaf (fun x => { x with a := levels.a, b := levels.b, bothLow := x.bothLow || (!levels.a && !levels.b) })
    if levels.a && levels.b then t
    else match s.saf.state with
      | .runPermitted => if s.dev 0x0C00 = 1 then t.startSs1 1 else t.enterSto 1
      | .ss1 => if s.dev 0x0C00 = 1 then t else t.enterSto 1
      | .testing => t.enterSto 1
      | .sto => t.onSaf (fun x => { x with acknowledged := false, releasing := false, hs := false, ls := false })
      | .boot | .locked => t)

/-- SAFE_SI_DISCREPANCY (R305, Table 13.12). -/
def execSafeSiDiscrepancy (s : State) : Host.Outcome State Fault Refusal :=
  .next (if s.saf.a = s.saf.b then s
    else (s.safetyFault 0x0C02 4).onSaf (fun x => { x with bothLow := false }))

/-! ### Plumb and the heartbeat (R302) -/

/-- STO_REQ_PULSE: Plumb classifies a low interval, in 0.1 µs. -/
def execStoReqPulse (tenths : Nat) (s : State) : Host.Outcome State Fault Refusal :=
  .next (s.onSaf (fun x =>
    if 150 < tenths then { x with hs := false, stoReqAt := some s.frame64 }
    else if 50 ≤ tenths then { x with plumbTimer := true }
    else { x with reportedShort := true }))

/-- HEARTBEAT: Plumb holds what a valid one carries, and its answer carries its report of a short pulse. `STO_HS` returns after a
demand on `STO_REQ` once the line has been high for 1 ms and the heartbeat permits torque. -/
def execHeartbeat (beat : Heartbeat) (s : State) : Host.Outcome State Fault Refusal :=
  .next (
    if !beat.valid then s
    else s.onSaf (fun x =>
      let y := { x with reportedShort := false, beat := some beat }
      match x.stoReqAt with
      | none => y
      | some f =>
        if beat.permits ∧ 20 ≤ (s.frame64 - f).toNat then
          { y with stoReqAt := none,
                   hs := !x.plumbOpen && (x.state = .runPermitted || x.state = .ss1 || x.state = .testing || (x.state = .sto && x.releasing)) }
        else y))

/-- SAFE_WATCHDOG: no valid heartbeat for 2.0 ms. -/
def execSafeWatchdog (s : State) : Host.Outcome State Fault Refusal :=
  .next ((s.safetyFault 0x0C09 4).onSaf (fun x => { x with hs := false }))

/-- SAFETY_STATE_WORD (R303): Mortar holds the last word for the next tick. -/
def execSafetyStateWord (s : State) : Host.Outcome State Fault Refusal :=
  .next (s.onSaf (fun x => { x with word := x.state, wordCause := x.cause }))

/-! ### The speed estimate and the deceleration limit (R309, R310) -/

def State.monitored (s : State) : List (Fin 16) := s.presentAxes.filter (fun a => s.par 0x0C10 a.val = 1)

/-- The estimate of one axis after a scan at `now` µs with line voltage `u` mV; `free` stands for the estimate while only
one crossing has been counted, when no interval between two exists: the time since it bounds the estimate even then. -/
def Estimate.scan (e : Estimate) (now : Nat) (u : Int) (hyst cph free : Nat) : Estimate :=
  let w := (e.window ++ [(now, u)]).filter (fun x => now < x.1 + 1000)
  let total := sumI (w.map (fun x => x.2))
  let level : Int := hyst * w.length
  let side : Option Bool := if level ≤ total then some true else if total ≤ -level then some false else none
  let crossed : Bool := match side with | some x => e.seen && !(x = e.last) | none => false
  let interval := if crossed ∧ e.crossings ≠ 0 then now - e.crossing else e.interval
  let crossing := if crossed then now else e.crossing
  let n := if crossed then e.crossings + 1 else e.crossings
  let most := 400 * cph
  let rate (dt : Nat) : Nat := if dt = 0 then most else cph * 1000000 / (2 * dt)
  let v := if n = 0 then 0 else if n = 1 then min free (rate (now - crossing)) else min (rate interval) (rate (now - crossing))
  { e with window := w, seen := e.seen || side.isSome, last := match side with | some x => x | none => e.last,
           crossings := n, crossing := crossing, interval := interval, speed := min v most, overLimit := most ≤ v }

/-- Whether an axis breaks the limit of R310 at `now`, in µs. -/
def State.overLimit (s : State) (a : Fin 16) (now : Nat) : Bool :=
  let e := s.saf.est[a]
  let delay := 1000 * s.devN 0x0C04
  let x : Int := (now : Int) - s.saf.ss1At - delay
  let tol : Int := s.par 0x0C13 a.val
  let fall : Int := if x < 0 then e.start * 1000000 else max (e.start * 1000000 - s.par 0x0C12 a.val * x) 0
  e.overLimit || fall + tol * 1000000 < e.speed * 1000000

def State.standstill (s : State) (a : Fin 16) : Bool := s.saf.est[a].speed ≤ s.parN 0x0C14 a.val

/-- The latest phase voltages of a die, as SNS.PHASE_V shows them (R164). -/
def State.phaseCopy (s : State) (scan : ScanReport) : State :=
  s.each (List.range (min 24 scan.phases.length)) (fun i t => t.setPar 0x0513 (24 * scan.die.val + i) (min (scan.phases.getD i 0) 220000))

/-- SAFETY_SCAN (R309 to R311): a corrupted scan raises SAFE_SADC. -/
def execSafetyScan (scan : ScanReport) (s : State) : Host.Outcome State Fault Refusal :=
  .next (
    if !scan.crcOk then (s.onSaf (fun x => { x with scanOk := x.scanOk.set scan.die false })).safetyFault 0x0C0C 4
    else
      let now := scan.time
      let t := (s.phaseCopy scan).onSaf (fun x => { x with
        now := now, scanOk := x.scanOk.set scan.die true, scanVbus := x.scanVbus.set scan.die scan.vbus })
      let t := t.each (s.monitored.filter (fun a => dieOf a = scan.die)) (fun a t =>
        let u : Int := (scan.phases.getD (3 * (a.val % 8)) 0 : Int) - scan.phases.getD (3 * (a.val % 8) + 1) 0
        let (free, t) := t.draw
        t.onSaf (fun x => { x with est := upd x.est a (fun e =>
          e.scan now u (s.devN 0x0C05) (s.parN 0x0C11 a.val) free.toNat) }))
      if t.saf.state = .ss1 then
        let bad := s.monitored.filter (fun a => t.overLimit a now)
        if !(bad = []) then
          (t.safetyFault 0x0C03 3).onSaf (fun x =>
            { x with violating := BitVec.ofNat 16 (bad.foldl (fun m a => m ||| 2 ^ a.val) 0) })
        else if s.monitored.all t.standstill then t.endSs1
        else t
      else t)

/-- SS1_TIMER_EXPIRY (R311). -/
def execSs1TimerExpiry (s : State) : Host.Outcome State Fault Refusal :=
  .next (if s.saf.state = .ss1 then s.endSs1 else s)

/-- PLUMB_SS1_EXPIRY (R311): Plumb opens its own switch, and SS1 ends in STO. -/
def execPlumbSs1Expiry (s : State) : Host.Outcome State Fault Refusal :=
  .next (
    if !s.saf.plumbTimer then s
    else
      let t := s.onSaf (fun x => { x with hs := false, plumbTimer := false, plumbOpen := true })
      if s.saf.state = .ss1 then t.endSs1 else t)

/-! ### The rail and the release (R306, R308) -/

/-- The comparators read the rail at two voltages in mV (R301). -/
def State.readRails (s : State) (a b : Nat) : State := s.onSaf (fun x => { x with railA := railOf a, railB := railOf b })

/-- Both comparators read PRESENT, and both REMOVED. -/
def railsPresent (a b : Nat) : Bool := railOf a = .present && railOf b = .present
def railsRemoved (a b : Nat) : Bool := railOf a = .removed && railOf b = .removed

/-- SAFE_STO_FB (R306). -/
def execSafeStoFb (a b : Nat) (s : State) : Host.Outcome State Fault Refusal :=
  .next (
    let t := s.readRails a b
    if (s.saf.hs && s.saf.ls) || railsRemoved a b then t else t.safetyFault 0x0C04 4)

/-- STO_RELEASE (R308): both halves close their switches, Plumb once no demand on `STO_REQ` holds its own open (R302); the state
changes once the rail reads PRESENT. -/
def execStoRelease (s : State) : Host.Outcome State Fault Refusal :=
  .next (
    let x := s.saf
    if x.state = .sto ∧ x.a ∧ x.b ∧ ¬s.safetyLatched ∧ ((x.cause = 1 ∧ s.dev 0x0C02 = 0) ∨ x.acknowledged) then
      s.onSaf (fun x => { x with hs := x.stoReqAt.isNone, ls := true, releasing := true, plumbOpen := false })
    else s)

/-- RAIL_PRESENT (R308): both comparators read PRESENT. -/
def execRailPresent (a b : Nat) (s : State) : Host.Outcome State Fault Refusal :=
  .next (
    let t := s.readRails a b
    if railsPresent a b then
      let t := t.clearFault 0x0C05 255
      if s.saf.releasing then t.safetyMove .runPermitted 0 else t
    else t)

/-- SAFE_RAIL_ABSENT (R308, Table 13.12). -/
def execSafeRailAbsent (a b : Nat) (s : State) : Host.Outcome State Fault Refusal :=
  .next (
    let t := s.readRails a b
    if railsPresent a b then t
    else if s.saf.releasing then
      (t.onSaf (fun x => { x with hs := false, ls := false, releasing := false, acknowledged := false })).raise 0x0C05 255
    else if s.saf.hs && s.saf.ls then t.raise 0x0C05 255
    else t)

/-! ### The switch test (R313 to R317) -/

/-- The dwell conditions of R316 hold: every axis, and the dwell input where one is named. -/
def State.dwell (s : State) : Bool :=
  let frames := 20 * s.devN 0x0C22
  let di := s.devN 0x0C21
  s.presentAxes.all (fun a => (s.ax a).state = .disabled && frames ≤ (s.frame64 - (s.ax a).since).toNat) &&
  (32 ≤ di || s.inputHeld di frames)

def State.testDue (s : State) : Bool := s.devN 0x0C20 ≤ s.devN 0x0C33

/-- Begin the switch test (Table 13.6): `STO_LS` opens once both comparators read PRESENT; from LOCKED the switches
close first. -/
def State.beginSwitchTest (s : State) : State :=
  let t := s.safetyMove .testing s.saf.cause
  if s.saf.railA = .present ∧ s.saf.railB = .present then t.onSaf (fun x => { x with ls := false, testStep := 1 })
  else t.onSaf (fun x => { x with testStep := 0 })

/-- SWITCH_TEST_START (R316). -/
def execSwitchTestStart (s : State) : Host.Outcome State Fault Refusal :=
  .next (if s.saf.state = .runPermitted ∧ s.testDue ∧ s.dwell then s.beginSwitchTest else s)

/-- The test passed (R313, R316, R317). -/
def State.testPassed (s : State) : State :=
  let wasLocked := s.isActive 0x0C06 255
  let t := ((s.clearFault 0x0C06 255).clearFault 0x0C07 255).clearFault 0x0C08 255
  let t := if s.saf.state = .boot then t.clearFault 0x0C0F 255 else t
  let t := (t.setDev 0x0C33 0).count 0x0C34 255
  let t := t.onSaf (fun x => { x with overdue := false, graceExpired := false })
  let t := if t.safetyLatched then t.safetyMove .locked s.saf.cause
    else if wasLocked then t.safetyMove .sto 5
    else if s.saf.state = .boot ∧ s.saf.cause = 7 then t.stoActive.safetyMove .sto 7
    else if s.saf.a && s.saf.b then t.safetyMove .runPermitted 0 else t.stoActive.safetyMove .sto 1
  t.endHostTest 0x00

/-- The test failed: SAFE_TEST_FAIL, LOCKED (R313). -/
def State.testFailed (s : State) : State := s.safetyFault 0x0C06 5

/-- SWITCH_TEST_STEP (Table 13.6): readings that arrive in time and have held for the step's time advance the test. At step 5 Plumb
checks that its own inputs are energised: in TESTING a de-energised one abandons the test (Table 13.3); in BOOT the test goes on,
which Table 13.3 lets pass with an input de-energised (DEDUCED, notes/assumptions/149). -/
def execSwitchTestStep (a b : Nat) (inTime : Bool) (s : State) : Host.Outcome State Fault Refusal :=
  .next (
    let t := s.readRails a b
    let present := railsPresent a b
    let removed := railsRemoved a b
    if !s.inTest then t
    else if !inTime then t.testFailed
    else match s.saf.testStep with
      | 0 => if present then t.onSaf (fun x => { x with ls := false, testStep := 1 }) else t
      | 1 => if removed then t.onSaf (fun x => { x with ls := true, testStep := 3 }) else t
      | 3 =>
        if !present then t
        else if s.saf.state = .testing ∧ ¬(s.saf.a ∧ s.saf.b) then t.enterSto 1
        else t.onSaf (fun x => { x with hs := false, testStep := 5 })
      | 5 => if removed then t.onSaf (fun x => { x with hs := x.plumbCloses, testStep := 7 }) else t
      | _ => if present then t.testPassed else t)

/-- SAFE_TEST_FAIL (R313): a step of the test has missed its time. -/
def execSafeTestFail (s : State) : Host.Outcome State Fault Refusal :=
  .next (if s.inTest then s.testFailed else s)

/-- SAFE_TEST_OVERDUE (R317). -/
def execSafeTestOverdue (s : State) : Host.Outcome State Fault Refusal :=
  .next (if s.devN 0x0C08 < s.devN 0x0C33 then
      (s.raise 0x0C07 255).onSaf (fun x => { x with overdue := true })
    else s)

/-- SAFE_TEST_GRACE (R317). -/
def execSafeTestGrace (s : State) : Host.Outcome State Fault Refusal :=
  .next (if s.devN 0x0C08 + s.devN 0x0C09 < s.devN 0x0C33 then
      (s.raise 0x0C08 255).onSaf (fun x => { x with graceExpired := true })
    else s)

/-- One second of test age (R317), saturating; it counts while the island is powered. -/
def State.ageTest (s : State) : State := s.count 0x0C33 255

/-! ### Diagnostics (Tables 13.8 and 13.12) -/

def diagnosticCode : SafetyDiagnostic → Nat
  | .crosscheck => 0x0C0A | .clock => 0x0C0B | .sadc => 0x0C0C | .sadcPlaus => 0x0C0D | .memory => 0x0C0E
  | .supply => 0x0C0F | .plumbCfg => 0x0C10 | .setInvalid => 0x0C11

/-- The island is in reset: BOOT, both switches open, every estimate lost (R299, Table 13.8). A switch test of BOOT that has not
passed is due again. -/
def State.islandReset (s : State) : State :=
  let t := (s.safetyMove .boot (if s.saf.state = .boot then s.saf.cause else 6)).endHostTest 0x31
  t.onSaf (fun x => { x with hs := false, ls := false, est := Vector.replicate 16 {}, stoReqAt := none, plumbOpen := false, beat := none, violating := 0 })

/-- SAFETY_DIAGNOSTIC_FAIL: the supply monitor holds the island in reset, and its fault is logged after the restart. -/
def execSafetyDiagnosticFail (d : SafetyDiagnostic) (s : State) : Host.Outcome State Fault Refusal :=
  .next (match d with
    | .supply => s.islandReset.onSaf (fun x => { x with supplyLost := true })
    | .setInvalid => (s.safetyFault 0x0C11 4).onSaf (fun x => { x with setValid := false })
    | .sadc => (s.safetyFault 0x0C0C 4).onSaf (fun x => { x with scanOk := Vector.replicate 2 false })
    | d => s.safetyFault (diagnosticCode d) 4)

/-- The end of BOOT (Table 13.3): the self-tests, the set check and the switch test passed, or one failed. A safety fault that is
still latched keeps the channel LOCKED (R308, R320). -/
def State.safetyBoot (s : State) (passed : Bool) (code : Nat) : State :=
  if !passed then s.safetyFault code (if code = 0x0C06 then 5 else 4)
  else if s.safetyLatched then s.safetyMove .locked 4
  else if s.saf.a && s.saf.b then s.safetyMove .runPermitted 0
  else s.stoActive.safetyMove .sto 1

/-- The switches close for the switch test of BOOT, unless the island is in reset or the device in Dormant or Keep (R299, R315). -/
def State.startBootTest (s : State) : State :=
  if s.saf.state = .boot ∧ s.saf.bootTest ∧ ¬s.saf.supplyLost ∧ s.power.mode ≠ .dormant ∧ s.power.mode ≠ .keep then
    s.onSaf (fun x => { x with hs := x.plumbCloses, ls := true, testStep := 0 })
  else s

/-- VGD is present at both dies (R133). -/
def State.vgdPresent (s : State) : Bool := (allFin 2).all (fun d => !(s.die d).vgdLocked)

/-- VGD_LOCKOUT_RELEASE: VGD has stayed above 8.5 V for 1 ms. A boot test that waited for VGD begins (R315). -/
def execVgdLockoutRelease (die : Fin 2) (s : State) : Host.Outcome State Fault Refusal :=
  .next (
    let t := s.onDie die (fun d => { d with vgdLocked := false })
    let t := t.each (baysOfDie die) (fun b t => t.releaseBay 3 b)
    let t := t.clearFault 0x0405 (dieInst die)
    if t.vgdPresent then t.startBootTest else t)

/-! ### Requests -/

/-- SAFETY_STATUS (0x90). -/
def execSafetyStatus (r : Req) (s : State) : Host.Outcome State Fault Refusal :=
  .next (s.request 0x90 r (fun _ s => s.answer r 0x90 Status.ok .safety))

/-- SAFETY_STOP_REQUEST (0x91; Table 13.3). -/
def execSafetyStopRequest (r : Req) (scope : Byte) (s : State) : Host.Outcome State Fault Refusal :=
  .next (s.request 0x91 r (fun _ s =>
    s.checked r 0x91 [(scope ≠ 0, Status.badParameter)] (fun s =>
      match s.saf.state with
      | .runPermitted => (s.startSs1 2).answer r 0x91 Status.ok .bare
      | .testing => (s.enterSto 2).answer r 0x91 Status.ok .bare
      | .boot | .ss1 | .sto | .locked => s.answer r 0x91 Status.alreadyDone .bare)))

end Sys2Proof.Machine
end

