-- ==== Sys2Proof/Machine/Flags.lean ====
section
/-! DEFINITION. What a read reports (R69): the status words of every chapter from their sticky and their read-only bits,
the read-only parameters that are computed from the state, and the record codes of modes and slots. -/

namespace Sys2Proof.Machine

/-! ### Codes -/

/-- The coding of MODE_SET (Table 19.1). -/
def Mode.code : Mode → Nat
  | .keep => 0 | .dormant => 1 | .ready => 2 | .run => 3 | .limp => 4 | .service => 5

/-- The codes of Table 3.7. -/
def AxisState.code : AxisState → Nat
  | .disabled => 0 | .enabling => 1 | .standstill => 2 | .moving => 3 | .stopping => 4 | .fault => 5 | .shorted => 6
  | .coasting => 7 | .sto => 8

def Standby.code : Standby → Nat
  | .comparing => 0 | .copying => 1 | .faulty => 2 | .imageMismatch => 3 | .booting => 4

def PortState.code : PortState → Nat
  | .down => 0 | .listen => 1 | .training => 2 | .standby => 3 | .inService => 4

def CanState.code : CanState → Nat
  | .active => 0 | .passive => 1 | .busOff => 2 | .disabled => 3

def QuarryState.code : QuarryState → Nat
  | .idle => 0 | .armed => 1 | .post => 2 | .stopped => 3 | .full => 4

/-! ### The node on its ring -/

/-- The own node number (R481), and the one replies carry: 0 off a ring. -/
def State.ownNode (s : State) : Nat := s.ring.addr.val + 1
def State.nodeNumber (s : State) : Nat := if s.ring.joined && !s.ring.detached then s.ownNode else 0

/-- Whether this device generates the tick (R47, R380). -/
def State.isMaster (s : State) : Bool := !s.ring.joined || (!s.ring.detached && s.ring.master.toNat = s.ownNode)

/-- The nodes known to be joined, with the own one (notes/assumptions/60). -/
def State.joinedMask (s : State) : Nat :=
  ((allFin 8).map (fun k =>
    let on : Bool := if k = s.ring.addr then s.ring.joined && !s.ring.detached
      else s.ring.joined && (field 1 1 s.ring.last[k]).testBit 0 && decide (s.ring.missing[k] < 8)
    boolBit on k.val)).foldl (· + ·) 0

/-- Nodes with an end port. -/
def State.endMask (s : State) : Nat :=
  ((allFin 8).map (fun k =>
    let on : Bool := if k = s.ring.addr then s.ring.joined && (s.ring.ports[(0 : Fin 2)].endPort || s.ring.ports[(1 : Fin 2)].endPort)
      else s.joinedMask.testBit k.val && (field 1 1 s.ring.last[k]).testBit 7
    boolBit on k.val)).foldl (· + ·) 0

/-- The rank of the node (R380); 255 for none. -/
def State.rank (s : State) : Nat :=
  if s.ring.masterSel then 0
  else match (List.range 7).find? (fun i => s.devN 0x0F01 / 16 ^ i % 16 = s.ownNode) with
    | some i => i + 1
    | none => 255

/-- The configuration check code (R387). -/
def State.checkCode (s : State) : Word :=
  crc32c ([0x0F01, 0x0F02, 0x0F03, 0x0F04, 0x0F05, 0x0F06, 0x0F08, 0x0220].flatMap (fun i => leBytesI 8 (s.dev i)))

/-! ### Modes and power -/

/-- The target mode of R445. -/
def State.targetMode (s : State) : Mode :=
  let l := s.devN 0x1300
  if 60000 ≤ l then .keep else if 400 ≤ l then .dormant else .ready

/-- A request that replied ACCEPTED_PENDING awaits its completion (R68). -/
def State.awaitsCompletion (s : State) : Bool :=
  s.power.requester.isSome || !(s.svcWaiting = []) || s.power.selftests.isSome || s.cfg.requester.isSome ||
  s.ring.retraining.isSome || s.saf.testByHost.isSome || s.saf.setChecking.isSome || s.lanes.swapNow.isSome ||
  s.lanes.swapWaiting.isSome || (match s.lanes.swapping with | some (_, some _) => true | _ => false) ||
  s.presentAxes.any (fun a => (s.ax a).homing.isSome || (s.ax a).identify.isSome || (s.ax a).template.teach.isSome)

/-- The conditions of R448. -/
def State.idle (s : State) : Bool :=
  s.power.mode = .ready && s.allDisabled &&
  !(s.qry.state = .armed || s.qry.state = .post) && s.hp.handles.toList.all Option.isNone &&
  s.liveTxns = 0 && !s.awaitsCompletion && s.cfg.flash.isNone && !(s.saf.state = .testing) &&
  (!s.ring.joined || s.dev 0x1306 = 1)

/-! ### Configuration slots (R456, R464) -/

/-- The previous slot (R464). -/
def State.previousSlot (s : State) : Option (Fin 8) :=
  let gen := fun (k : Fin 8) => match s.cfg.slots[k].record with
    | some (.confirmed, g) => some g
    | some (.activated, g) => some g
    | _ => none
  (allFin 8).foldl (fun best k =>
    if s.cfg.activeSlot = some k ∨ !s.cfg.slots[k].valid then best
    else match gen k, best with
      | some g, some b => (match gen b with | some h => if h < g then some k else best | none => some k)
      | some _, none => some k
      | none, _ => best) none

/-- The state field of CFG.SLOT_STATE. -/
def State.slotState (s : State) (k : Fin 8) : Nat :=
  let x := s.cfg.slots[k]
  match x.record with
  | none => 0
  | some (kind, _) =>
    if !x.valid then 5
    else if s.cfg.trial = some k then 3
    else if s.cfg.activeSlot = some k then 2
    else if s.previousSlot = some k then 4
    else match kind with
      | .staged => 1
      | .rolledBack => 6
      | .trial => 3
      | .activated | .confirmed | .booted => Config.olderSlotState % 8

/-- The state field of FW.SLOT_STATE. -/
def imageState (x : Slot) : Nat :=
  match x.record with
  | none => 0
  | some (kind, _) =>
    if !x.valid then 5
    else match kind with
      | .confirmed => 2
      | .booted => 3
      | .staged | .activated | .trial | .rolledBack => 1

/-- The boot slot of an image kind, 0 lane and 1 safety; its version, and whether it runs unconfirmed (R468). -/
def State.imageSlot (s : State) (kind : Fin 2) : Slot :=
  if kind = 0 then s.cfg.lane[s.cfg.laneBoot] else s.cfg.safety[s.cfg.safetyBoot]

/-- Where an image slot begins (Table 1.5), and a field of its header (Table 20.4): in flash once an image was staged
there, else of the image the device ships with. -/
def imageBase (kind slot : Fin 2) : Nat := if kind = 0 then slot.val * 0x200000 else 0x400000 + slot.val * 0x80000
def State.imageAt (s : State) (kind slot : Fin 2) : Slot := if kind = 0 then s.cfg.lane[slot] else s.cfg.safety[slot]
def State.imageField (s : State) (kind slot : Fin 2) (off n : Nat) : Nat :=
  if ofLe (Memory.readBytes flashDefault s.flash (imageBase kind slot) 4) = 1 then
    ofLe (Memory.readBytes flashDefault s.flash (imageBase kind slot + off) n)
  else field off n (Config.factoryHeader kind.val slot.val)
def State.bootSlot (s : State) (kind : Fin 2) : Fin 2 := if kind = 0 then s.cfg.laneBoot else s.cfg.safetyBoot
def State.imageVersion (s : State) (kind : Fin 2) : Word := BitVec.ofNat 32 (s.imageField kind (s.bootSlot kind) 8 4)

def State.unconfirmed (s : State) (kind : Fin 2) : Bool :=
  match (s.imageSlot kind).record with
  | some (.booted, _) => true
  | some (.activated, _) => true
  | _ => false

/-- The time left of a trial in s. -/
def State.trialLeft (s : State) : Nat :=
  if s.cfg.trial.isSome then
    let left := s.cfg.trialEnd - s.tb.tickAt
    left / 200000000 + boolNat (Config.trialRoundsUp && decide (left % 200000000 ≠ 0))
  else 0

/-! ### The event log -/

def State.newestEvent (s : State) : Word := match s.log.entries.getLast? with | some e => e.seq | none => 0
def State.oldestEvent (s : State) : Word := match s.log.entries.head? with | some e => e.seq | none => 0

/-! ### The read-only bits of the status words -/

def bit (b : Bool) (k : Nat) : Nat := boolBit b k

def sumN (l : List Nat) : Nat := l.foldl (· + ·) 0

/-- TB.STATUS (Table 2.4). -/
def State.tbBits (s : State) : Nat :=
  bit (!s.power.booting && (s.isMaster || s.tb.locked)) 0 + bit s.tb.holdover 1 + bit (!s.power.booting && s.isMaster) 2 +
    bit (s.isActive 0x0105 255) 6

/-- CMD.STATUS (Table 3.9). -/
def State.cmdBits (s : State) : Nat :=
  sumN ((allFin 8).map (fun k => bit (s.session k).isSome (8 + k.val))) +
    (match s.controlSlot with | some k => k.val * 2 ^ 16 + 2 ^ 19 | none => 0)

/-- MTR.STATUS (Table 4.11). -/
def State.mtrBits (s : State) : Nat :=
  bit s.mtr.hold 0 + (s.mtr.txns.filter (fun t => t.state = .open_)).length * 2 ^ 8 + s.ringTxns * 2 ^ 12 +
    bit (s.mtr.txns.any (fun t => t.ring && t.coordinator && !t.state.final && !(t.state = .open_))) 14

def State.overridden (s : State) (b : Fin 16) : Bool := (allFin 3).any (fun x => 4 ≤ s.parN 0x0307 (hbOf b x).val)

/-- PWM.BAY_STATUS (Table 5.8). -/
def State.bayBits (s : State) (b : Fin 16) : Nat :=
  let y := s.bay b
  let level := fun (x : Fin 3) => s.level (hbOf b x)
  bit ((allFin 3).any (fun x => level x = .short || level x = .windingShort || level x = .off)) 0 +
    bit ((allFin 3).any (fun x => level x = .coast)) 1 + bit ((allFin 3).any (fun x => (s.hb (hbOf b x)).refresh ≠ 0)) 2 + bit y.shifted 3 +
    bit (y.period = 5000) 4 + bit y.halted 5 + bit (s.overridden b) 10 + y.lastSource * 2 ^ 16

/-- GD.STATUS (Table 6.7). -/
def State.gdBits (s : State) : Nat :=
  sumN ((allFin 2).map (fun d => bit (s.die d).brakeFailed d.val + bit (s.die d).vgdLocked (2 + d.val))) +
    bit ((allFin 2).any (fun d => (s.die d).ov1)) 4

/-- SNS.STATUS (Table 7.6). -/
def State.snsBits (s : State) (b : Fin 16) : Nat :=
  let y := s.bay b
  bit y.calibrated 0 + bit y.offsetInternal 1 + bit y.trimDefault 2 + min y.recordChops 255 * 2 ^ 8

/-- COM.STATUS (Table 8.9). -/
def State.comBits (s : State) (a : Fin 16) : Nat :=
  let x := s.ax a
  let c := x.com
  c.source + bit c.converged 2 + bit c.polarity 3 + bit c.aligned 4 +
    bit (match x.enabling with | some e => e.step = .brake | none => false) 5 + bit c.twoPhase 6 + bit c.predicted 7 +
    c.idDone * 2 ^ 16 + c.idFail * 2 ^ 24

/-- STP.STATUS (Table 9.7). -/
def State.stpBits (s : State) (k : Nat) : Nat :=
  let x := s.ax (Fin.ofNat 16 (2 * k))
  let p := x.stepper
  bit (p.planNow.chopA || p.planNow.chopB) 0 + bit (p.energised && p.holding) 1 + bit x.follow.isSome 2 + bit p.valid 3 +
    bit p.braked 4 + p.index % 1024 * 2 ^ 16

def State.isGearMaster (s : State) (a : Fin 16) : Bool :=
  (allFin 16).any (fun b => match (s.ax b).gear with | some g => g.master = a | none => false)

/-- AX.STATUS (Table 10.7). -/
def State.axBits (s : State) (a : Fin 16) : Nat :=
  let x := s.ax a
  let group := x.queue.findSome? Move.group
  bit x.homed 0 + bit (match x.gear with | some g => g.synced | none => false) 1 + bit x.gear.isSome 2 +
    bit (s.isGearMaster a) 3 + bit x.latch.isSome 4 + bit x.latchValid 5 + bit x.homing.isSome 6 + bit x.held 7 +
    bit x.deferred 8 + bit x.obstruction 12 +
    (match group with | some g => g.val * 2 ^ 16 + 2 ^ 19 | none => 0)

/-- LP.STATUS (Table 11.5). -/
def State.lpBits (s : State) (a : Fin 16) : Nat :=
  let l := (s.ax a).loops
  l.reported + (if l.running then l.selected else 0) * 2 ^ 3 + l.zone.val * 2 ^ 6 + bit (s.par 0x0A0D a.val = 1) 9 +
    bit (0 < l.rampLeft) 10 + bit l.limited 11 + bit l.baselineUsed 12

def State.staleBins (s : State) (a : Fin 16) : Nat :=
  min ((s.motion.bins.filter (fun (k, e) => k / 1024 = a.val && e.age = 255)).length) 1023

/-- TPL.STATUS (Table 12.4). -/
def State.tplBits (s : State) (a : Fin 16) : Nat :=
  let t := (s.ax a).template
  bit t.frozen 0 + bit t.teach.isSome 1 + bit t.detecting 2 + bit t.masked 3 + bit s.motion.saving 4 +
    min t.count 15 * 2 ^ 8 + s.staleBins a * 2 ^ 16

/-- SAF.STATUS (Table 13.11). -/
def State.safBits (s : State) : Nat :=
  let x := s.saf
  x.state.code + bit x.a 3 + bit x.b 4 + bit x.hs 5 + bit x.ls 6 + bit (x.railA = .present) 7 + bit (x.railB = .present) 8 +
    bit s.testDue 9 + bit x.overdue 10 + bit x.graceExpired 11 + bit s.dwell 12 + bit x.setValid 13

/-- LANE.STATUS (Table 14.5). -/
def State.laneBits (s : State) : Nat :=
  let l := s.lanes
  bit l.activeB 0 + l.standby.code * 2 + bit l.redundancyLost 4 + bit l.swapWaiting.isSome 5 +
    bit (s.devN 0x0D01 ≤ s.devN 0x0D11) 6

/-- Packets that wait in the SPI output queue: 32 at most; later replies stay in their session's cache (R350). -/
def State.spiQueue (s : State) : List OutPacket := (s.cmd.out[(0 : Fin 5)]).filter (fun p => !p.push)

/-- HP.STATUS (Table 15.6). -/
def State.hpBits (s : State) : Nat :=
  bit (32 ≤ s.spiQueue.length) 3 + sumN ((allFin 8).map (fun h => bit (s.hp.handles[h]).isSome (4 + h.val)))

/-- RING.STATUS (Table 16.9). -/
def State.ringBits (s : State) : Nat :=
  let r := s.ring
  bit (r.joined && !r.detached) 0 + bit (!r.joined) 1 + bit r.wrapped 2 + bit r.detached 3 + bit r.quiet 4 +
    r.ports[(0 : Fin 2)].state.code * 2 ^ 12 + r.ports[(1 : Fin 2)].state.code * 2 ^ 15

/-- FIO.STATUS (Table 17.9). -/
def State.fioBits (s : State) : Nat :=
  let f := s.fio
  f.underVoltage.toNat + f.overVoltage.toNat * 2 ^ 4 + (f.groupLatch ||| f.thermalLatch).toNat * 2 ^ 8 + f.channelLatch.toNat * 2 ^ 12

/-- CANc.STATUS (Table 17.11). -/
def State.canBits (s : State) (c : Fin 2) : Nat :=
  let x := s.can[c]
  x.state.code + bit x.recovering 2 + x.queue0.length * 2 ^ 3 + x.queue1.length * 2 ^ 8 +
    bit (x.tx[(0 : Fin 2)]).isSome 13 + bit (x.tx[(1 : Fin 2)]).isSome 14 + bit x.status.isSome 15

/-- QRY.STATUS (Table 18.8). -/
def State.qryBits (s : State) : Nat := s.qry.state.code + bit s.qry.setup.isSome 3

/-- PWR.STATUS (Table 19.7). -/
def State.pwrBits (s : State) : Nat :=
  s.targetMode.code + s.power.wakeCause * 2 ^ 3 + bit s.idle 7 + bit s.power.vbatLow 8 + bit s.power.quarryInit 9

/-- CFG.STATUS (Table 20.8). -/
def State.cfgBits (s : State) : Nat :=
  bit s.cfg.trial.isSome 0 + bit s.cfg.rollbackPending 1 + bit (s.unconfirmed 0) 2 + bit (s.unconfirmed 1) 3 +
    bit s.cfg.flash.isSome 4

/-- The read-only bits of a status word. -/
def State.statusBits (s : State) (index sub : Nat) : Nat :=
  let a : Fin 16 := Fin.ofNat 16 sub
  if index = 0x0110 then s.tbBits
  else if index = 0x0210 then s.cmdBits
  else if index = 0x0230 then s.mtrBits
  else if index = 0x0310 then s.bayBits a
  else if index = 0x0413 then s.gdBits
  else if index = 0x0511 then s.snsBits a
  else if index = 0x0700 then s.comBits a
  else if index = 0x0820 then s.stpBits sub
  else if index = 0x0930 then s.axBits a
  else if index = 0x0A40 then s.lpBits a
  else if index = 0x0B20 then s.tplBits a
  else if index = 0x0C30 then s.safBits
  else if index = 0x0D10 then s.laneBits
  else if index = 0x0E10 then s.hpBits
  else if index = 0x0F10 then s.ringBits
  else if index = 0x1034 then s.fioBits
  else if index = 0x1120 then s.canBits 0
  else if index = 0x1160 then s.canBits 1
  else if index = 0x1210 then s.qryBits
  else if index = 0x1310 then s.pwrBits
  else if index = 0x1410 then s.cfgBits
  else 0

/-- A status word: its sticky bits and its read-only bits. -/
def State.statusWord (s : State) (index sub : Nat) : Nat := s.parN index sub ||| s.statusBits index sub

/-! ### Computed read-only parameters -/

/-- The state of the debug port (Table 21.18). -/
def State.debugState (s : State) : Nat :=
  if s.dbg.token.isSome then 3 else if 3 ≤ s.dbg.failures then 2 else if s.isActive 0x0002 255 then 1 else 0

/-- The value of a parameter that the tables compute; none when it is stored. -/
def State.computed (s : State) (index sub : Nat) : Option Int :=
  let a : Fin 16 := Fin.ofNat 16 sub
  let x := s.ax a
  if index = 0x0020 then some s.debugState
  else if index = 0x0111 then some s.frame64.toNat
  else if index = 0x0112 then some s.tb.phaseErr
  else if index = 0x0410 then some (s.die (dieOf a)).vbus
  else if index = 0x0412 then some (s.die (dieOf a)).temp
  else if index = 0x0701 then some (sat32 (rdiv (x.com.omega * 2000000) 4294967296))
  else if index = 0x0702 then some x.com.power
  else if index = 0x0703 then some (rdiv x.com.flux 1000)
  else if index = 0x0821 then some (s.ax (Fin.ofNat 16 (2 * sub))).stepper.bemf
  else if index = 0x0822 then some (s.ax (Fin.ofNat 16 (2 * sub))).stepper.load
  else if index = 0x0931 then some x.demand.counts
  else if index = 0x0A44 then some (sat32 (x.demand.counts - x.measured))
  else if index = 0x0B21 then some x.template.force
  else if index = 0x0B22 then some x.template.excess
  else if index = 0x0B23 then some (binWord x.template.bin x.template.closing)
  else if index = 0x0B25 then some s.motion.saveGeneration
  else if index = 0x0B26 then some (match x.template.teach with | some (o, c) => min o c | none => 0)
  else if index = 0x0C31 then some s.saf.est[a].speed
  else if index = 0x1030 then some s.fio.latched.toNat
  else if index = 0x1031 then some s.fio.counts[Fin.ofNat 8 sub].toNat
  else if index = 0x1211 then some s.qry.held.length
  else if index = 0x1411 then some (match s.cfg.activeSlot with | some k => k.val | none => 0)
  else if index = 0x1412 then some (match s.cfg.activeSlot with | some k => s.cfg.slots[k].version.toNat | none => 0)
  else if index = 0x1413 then some (s.slotState (Fin.ofNat 8 sub) + bit s.cfg.slots[Fin.ofNat 8 sub].corrected 3)
  else if index = 0x1414 then some s.cfg.slots[Fin.ofNat 8 sub].version.toNat
  else if index = 0x1415 then some s.trialLeft
  else if index = 0x1420 then
    let y := if sub < 2 then s.cfg.lane[Fin.ofNat 2 sub] else s.cfg.safety[Fin.ofNat 2 sub]
    some (imageState y + bit y.corrected 3)
  else if index = 0x1430 then some s.newestEvent.toNat
  else if index = 0x1431 then some s.oldestEvent.toNat
  else none

/-- What a read of a parameter reports (R69). -/
def State.read (s : State) (index sub : Nat) : Int :=
  match ParamTable.find index with
  | none => 0
  | some row =>
    match row.access with
    | .status _ => s.statusWord index sub
    | _ => match s.computed index sub with
      | some v => v
      | none => s.par index sub

end Sys2Proof.Machine
end

