-- ==== Sys2Proof/Machine/Snapshot.lean ====
section
/-! DEFINITION. Snapshots and packets out of the device (R54 to R56, R66, R85 to R88): axis and bay records, the sections
of Table 4.2, the state slot of Table 16.7a, event entries, and the fields of every reply. -/

namespace Sys2Proof.Machine

/-- Reserved bytes. -/
def pad (n : Nat) : List Byte := List.replicate n 0

/-! ### Records -/

/-- Whether the safety channel forbids torque as the lanes know it (DEDUCED, notes/assumptions/61). -/
def State.inhibited (s : State) : Bool := !(s.saf.word = .runPermitted) || s.saf.graceExpired

/-- The flags of the axis record. -/
def State.axisFlags (s : State) (a : Fin 16) : Nat :=
  let x := s.ax a
  let bays := s.baysOfAxis a
  bit x.inPosition 0 + bit (decide (x.demand.v ≠ 0 ∨ x.demand.a ≠ 0) || x.planned.isSome) 1 + bit x.deferred 2 +
    bit x.caught 3 + bit (x.caught && x.caughtNegative) 4 + bit x.obstruction 5 +
    bit (match x.gear with | some g => g.synced | none => false) 6 + bit x.homed 7 + bit x.latchValid 8 +
    bit (bays.any (fun b => s.stuck 0x0310 b.val 6)) 9 + bit (bays.any (fun b => s.stuck 0x0310 b.val 7)) 10 +
    bit s.inhibited 11

/-- The axis record (Table 3.7): the reported position and the wrap count are bits 31:0 and 47:32 of the integer part of the
demand position (R222). The manual does not say whether the velocity is the demand's or the measured one; it is the measured
one (DESIGN CHOICE, notes/assumptions/109). -/
def State.axisRecord (s : State) (a : Fin 16) : List Byte :=
  let x := s.ax a
  leBytes 1 x.state.code ++ leBytes 1 x.loops.reported ++ leBytes 2 (s.axisFlags a) ++
    leBytesI 4 x.demand.counts ++ leBytesI 2 (x.demand.counts / 4294967296) ++ leBytes 1 (x.queue.length + x.reserved) ++ pad 1 ++
    leBytesI 4 x.speed ++ leBytesI 4 (if s.stepperAt a then x.stepper.planNow.amps else rdiv x.com.iq 1000) ++
    leBytesI 2 x.template.force ++ leBytes 2 (s.axisFault a) ++
    leBytes 4 (match x.inProgress with | some m => m.id | none => 0) ++ leBytes 4 x.lastDone

/-- The records of a mask that names present axes, in bit order. -/
def State.axisRecords (s : State) (mask : Word) : List Byte :=
  match s.maskArg mask with
  | some l => l.flatMap s.axisRecord
  | none => []

/-- The Axes section: pair by pair. -/
def State.axesSection (s : State) : List Byte := s.presentAxes.flatMap s.axisRecord

/-- A fault has device scope (R11). -/
def deviceScope (f : Active) : Bool :=
  match FaultTable.find f.code with
  | some row => row.scope = .device || f.inst = 255 && row.inst = .axisOrDevice
  | none => false

def State.deviceFault (s : State) : Nat := match worstOf (s.faults.filter deviceScope) with | some f => f.code | none => 0

/-- A WARN event is unread (R76). -/
def State.warnUnread (s : State) : Bool := !(s.cmd.unread = [])

/-- The Device section (Table 4.3). -/
def State.deviceSection (s : State) : List Byte :=
  leBytes 8 s.frame64.toNat ++ leBytes 1 s.power.mode.code ++ leBytes 1 s.activeLane ++ leBytes 1 s.nodeNumber ++
    leBytes 1 (bit s.mtr.hold 0 + bit s.lanes.redundancyLost 1 + bit s.inhibited 2 + bit s.warnUnread 3) ++
    leBytes 2 s.deviceFault ++ leBytes 2 (min s.faults.length 65535) ++ leBytes 4 (s.statusWord 0x0110 255) ++
    leBytes 4 (s.statusWord 0x0210 255) ++ leBytes 4 s.newestEvent.toNat ++ leBytes 4 0

/-- The bay record (Table 6.5). -/
def State.bayRecord (s : State) (b : Fin 16) : List Byte :=
  let y := s.bay b
  let d := s.die (dieOf b)
  let word := s.bayBits b
  let retries := y.retry :: (allFin 3).map (fun x => s.pwm.boot[hbOf b x])
  let here := fun (f : Active) => f.code / 256 = 4 &&
    (match FaultTable.find f.code with | some row => (s.baysInScope row f.inst).contains b | none => false)
  leBytes 1 (bit (word.testBit 0) 0 + bit (word.testBit 1) 1 +
      bit ((allFin 3).any (fun x => s.level (hbOf b x) = .windingShort)) 2 +
      bit (retries.any (fun r => match r.waitEnd with | some w => decide (s.frame64 < w) | none => false)) 3 + bit (retries.any Retry.exhausted) 4 + bit d.vgdLocked 5 +
      bit d.brakeOn 6 + bit d.brakeFailed 7) ++
    leBytes 1 (sumN ((allFin 3).map (fun x => bit (s.hb (hbOf b x)).bootUv x.val + bit (!s.lowUsable (hbOf b x)) (3 + x.val)))) ++
    leBytes 2 (match worstOf (s.faults.filter here) with | some f => f.code | none => 0) ++
    leBytes 1 ((retries.map (fun r => (s.recentTries r).length)).foldl max 0) ++ pad 1 ++ leBytes 2 (s.parN 0x0411 b.val)

def State.baysSection (s : State) : List Byte := (allFin 16).flatMap s.bayRecord

/-- The Field I/O section (Table 17.8a). -/
def State.fioSection (s : State) : List Byte :=
  let f := s.fio
  leBytes 4 f.latched.toNat ++ leBytes 2 f.nextSet.toNat ++ leBytes 2 (~~~s.outputEnable).toNat ++
    leBytes 1 ((~~~f.underVoltage).toNat + f.overVoltage.toNat * 16) ++
    leBytes 1 (f.groupLatch.toNat % 8 + f.thermalLatch.toNat * 16) ++
    leBytes 1 (f.channelLatch.toNat + f.channelCause.toNat * 16) ++
    leBytes 1 (f.mismatch.toNat + f.openLoad.toNat * 16) ++
    leBytes 1 s.can[(0 : Fin 2)].state.code ++ leBytes 1 s.can[(1 : Fin 2)].state.code ++
    leBytes 1 s.can[(0 : Fin 2)].queue0.length ++ leBytes 1 s.can[(0 : Fin 2)].queue1.length ++
    leBytes 1 s.can[(1 : Fin 2)].queue0.length ++ leBytes 1 s.can[(1 : Fin 2)].queue1.length ++ pad 2 ++
    (allFin 4).flatMap (fun g => leBytes 2 (s.parN 0x1033 g.val)) ++ leBytes 4 0

def axisBits (l : List (Fin 16)) : Nat := sumN (l.map (fun a => 2 ^ a.val))

/-- The Safety section (Table 13.9). -/
def State.safetySection (s : State) : List Byte :=
  let x := s.saf
  leBytes 1 x.word.code ++ leBytes 1 x.wordCause ++ pad 2 ++ leBytes 4 (s.statusWord 0x0C30 255) ++
    leBytes 2 (match worstOf (s.faults.filter (fun f => f.code / 256 = 0x0C)) with | some f => f.code | none => 0) ++
    leBytes 2 (if x.state = .ss1 then min ((x.now - x.ss1At) / 1000) 65535 else 0) ++
    leBytes 4 (s.devN 0x0C32) ++ leBytes 4 (s.devN 0x0C33) ++ leBytes 2 (axisBits s.monitored) ++
    leBytes 2 (axisBits ((allFin 16).filter s.standstill)) ++ leBytes 2 x.violating.toNat ++ leBytes 2 (s.devN 0x0C34) ++
    leBytes 4 (s.imageVersion 1).toNat

/-- The Lanes section (Table 14.6). -/
def State.lanesSection (s : State) : List Byte :=
  let l := s.lanes
  leBytes 1 s.activeLane ++ leBytes 1 l.row ++ pad 2 ++ leBytes 4 (s.statusWord 0x0D10 255) ++
    leBytes 4 (match l.lastFrame with | some f => f.toNat | none => 0xFFFFFFFF) ++ leBytes 2 l.lastBays.toNat ++
    leBytes 1 l.lastCause ++ leBytes 1 l.lastLane ++ leBytes 1 (s.divergences 0).length ++ leBytes 1 (s.divergences 1).length ++
    leBytes 2 (if l.standby = .copying then l.dirty else 0) ++ leBytes 4 (s.devN 0x0D11) ++ leBytes 4 (s.devN 0x0D12) ++
    leBytes 4 (s.devN 0x0D13)

/-- The announcement in the last slot of a node (Table 16.7a). -/
def State.announcedBy (s : State) (node : Nat) : Option Announcement :=
  match (allFin 8).find? (fun k => k.val + 1 = node) with
  | none => none
  | some k =>
    let b := s.ring.last[k]
    if field 32 1 b = 0 then none
    else some { event := field 32 1 b, frame := (s.frame64 + BitVec.ofInt 64 (wrapSigned 32 ((field 28 4 b : Int) - s.frame32.toNat))),
                node := BitVec.ofNat 8 (field 33 1 b), ports := BitVec.ofNat 8 (field 34 1 b) }

/-- The announcement in force: the master's own, or the one its last slot carries. -/
def State.announcement (s : State) : Option Announcement :=
  if s.isMaster then s.ring.announced else s.announcedBy s.ring.master.toNat

/-- The path delay of the followed tick in 0.1 ns (R375): the smaller one known; 0 at the master. -/
def State.tickPath (s : State) : Nat :=
  if s.isMaster then 0
  else
    let e := s.ring.ports[(0 : Fin 2)].pathDelay
    let w := s.ring.ports[(1 : Fin 2)].pathDelay
    if e = 0 then w else if w = 0 then e else min e w

def State.segmentDelay (s : State) (p : Fin 2) : Nat := match s.ring.ports[p].delay with | some d => d | none => 0xFFFF

/-- The Ring section (Table 16.10). -/
def State.ringSection (s : State) : List Byte :=
  let r := s.ring
  leBytes 1 s.nodeNumber ++ leBytes 1 r.master.toNat ++ leBytes 1 r.epoch.toNat ++ leBytes 1 s.joinedMask ++ leBytes 1 s.endMask ++
    leBytes 1 (match s.announcement with | some x => x.event | none => 0) ++ pad 2 ++ leBytes 4 (s.statusWord 0x0F10 255) ++
    leBytes 4 (s.devN 0x0F16) ++ leBytes 4 s.tickPath ++ leBytes 2 (s.segmentDelay 0) ++ leBytes 2 (s.segmentDelay 1) ++
    leBytes 4 (match s.announcement with | some x => (x.frame.setWidth 32 : Word).toNat | none => 0xFFFFFFFF) ++
    leBytes 4 s.checkCode.toNat ++ leBytes 4 (sumN ((allFin 8).map (fun j => r.credits[j] * 16 ^ j.val))) ++
    leBytes 4 (s.devN 0x0F11) ++ leBytes 4 (s.devN 0x0F12) ++ leBytes 4 (s.devN 0x0F13) ++ leBytes 2 (s.devN 0x0F14) ++
    leBytes 2 (s.devN 0x0F15) ++ pad 12

/-- The Mortar section (Table 4.4). -/
def State.mortarSection (s : State) : List Byte :=
  let live := s.mtr.txns.filter (fun t => !t.state.final)
  let next := (live.filterMap Txn.commit).foldl (fun best c =>
    match best with | some b => if c.toNat < b.toNat then some c else some b | none => some c) (none : Option Long)
  leBytes 1 (live.filter (fun t => t.state = .open_)).length ++ leBytes 1 s.ringTxns ++ pad 2 ++
    leBytes 4 (sumN (live.map Txn.bytes)) ++ leBytes 4 (s.statusWord 0x0230 255) ++
    leBytes 4 (match next with | some c => (c.setWidth 32 : Word).toNat | none => 0xFFFFFFFF) ++
    (allFin 16).flatMap (fun a => leBytes 1 (s.ax a).reserved) ++ leBytes 4 s.mtr.books.toNat ++
    leBytes 4 (s.devN 0x0231) ++ leBytes 4 (s.devN 0x0232) ++ leBytes 2 (s.devN 0x0233) ++ pad 2 ++
    (match s.mtr.lastRing with
      | some (client, tag, st, c) => leBytes 4 client.toNat ++ leBytes 2 tag.toNat ++ leBytes 1 st.code ++ pad 1 ++ leBytes 4 c.toNat
      | none => pad 12) ++ leBytes 4 0

/-- The Quarry section (Table 18.6). -/
def State.quarrySection (s : State) : List Byte :=
  let q := s.qry
  leBytes 1 q.state.code ++ leBytes 1 (bit q.setup.isSome 0 + bit q.autoRearm 1 + bit q.fillPre 2) ++
    leBytes 2 (match q.setup with | some x => x.block.segments | none => 0) ++
    leBytes 4 (match q.setup with | some x => x.segmentSize | none => 0) ++
    leBytes 2 (match q.setup with | some x => x.rowSize | none => 0) ++ leBytes 2 q.held.length ++
    leBytes 4 (match q.current with | some r => r.sequence.toNat | none => 0) ++
    leBytes 4 (match q.current.bind Record.trigger with | some t => (t.frame.setWidth 32 : Word).toNat | none => 0xFFFFFFFF) ++
    leBytes 4 (if q.current.isSome then q.rowsWritten else 0) ++ leBytes 4 (s.statusWord 0x1210 255) ++ leBytes 4 (s.devN 0x1212)

/-- The QUARRY_STATUS entries of the oldest HELD records. -/
def State.quarryEntries (s : State) : List Byte :=
  let l := s.qry.held.take 32
  leBytes 1 l.length ++ pad 3 ++ l.flatMap (fun r =>
    leBytes 4 r.sequence.toNat ++ leBytes 4 (r.segment * r.segmentSize) ++ leBytes 4 r.segmentSize ++
      leBytes 4 (match r.trigger with | some t => (t.frame.setWidth 32 : Word).toNat | none => 0xFFFFFFFF))

/-- The sections of Table 4.2 by their bit. -/
def State.section (s : State) : Nat → List Byte
  | 0 => s.deviceSection
  | 1 => s.axesSection
  | 2 => s.baysSection
  | 3 => s.fioSection
  | 4 => s.safetySection
  | 5 => s.lanesSection
  | 6 => s.ringSection
  | 7 => s.mortarSection
  | 8 => s.quarrySection
  | _ => []

/-- The sections that a mask selects (R86). -/
def State.sections (s : State) (mask : Word) : List Byte :=
  (List.range 9).flatMap (fun k => if mask.toNat.testBit k then s.section k else [])

/-! ### The own state slot (R385) -/

/-- The Mortar fields of the slot of a frame, at most two (R100). -/
def State.fieldsAt (s : State) (n : Long) : List MortarField :=
  (s.ring.fields.filter (fun f => decide (f.first ≤ n) && decide (n ≤ f.last))).take 2

/-- The state slot (Table 16.7a); the lanes' fields come from the snapshot latched at the tick (R385). -/
def State.slotBytes (s : State) : List Byte :=
  let r := s.ring
  let joined := r.joined && !r.detached
  let coupled := (allFin 8).any (fun g => match s.motion.groups[g] with | some x => x.ringCoupled | none => false)
  let (lines, offset) := match s.qry.published with | some (l, o) => (l, o) | none => (0, 0xFFFF)
  let ann := if joined && s.isMaster then r.announced.filter (fun x => decide (s.frame64 < x.frame)) else none
  let mortar := fun (k : Nat) => match (s.fieldsAt s.frame64)[k]? with | some f => slice 0 32 f.bytes | none => pad 32
  leBytes 1 s.ownNode ++
    leBytes 1 (bit joined 0 + bit (joined && s.isMaster) 1 + bit (s.isMaster || s.tb.locked) 2 + bit s.tb.holdover 3 + bit s.mtr.hold 4 +
      bit s.lanes.redundancyLost 5 + bit coupled 6 + bit (r.ports[(0 : Fin 2)].endPort || r.ports[(1 : Fin 2)].endPort) 7) ++
    [s.mtr.now.slotStops] ++ leBytes 1 lines ++ leBytes 2 offset ++ leBytes 1 s.power.mode.code ++ leBytes 1 s.activeLane ++
    leBytes 8 s.frame64.toNat ++ leBytes 2 s.mtr.now.slotFault ++ [r.ports[(0 : Fin 2)].partner, r.ports[(1 : Fin 2)].partner] ++
    leBytes 2 (s.segmentDelay 0) ++ leBytes 2 (s.segmentDelay 1) ++
    leBytes 2 r.residence ++ [r.epoch, r.retrainRequest] ++
    leBytes 4 (match ann with | some x => (x.frame.setWidth 32 : Word).toNat | none => 0xFFFFFFFF) ++
    (match ann with | some x => [BitVec.ofNat 8 x.event, x.node, x.ports, 0] | none => pad 4) ++
    leBytes 4 s.checkCode.toNat ++ leBytes 4 (sumN ((allFin 8).map (fun j => r.returns[j] * 16 ^ j.val))) ++
    leBytes 1 s.rank ++ pad 3 ++ mortar 0 ++ mortar 1 ++
    slice 0 16 s.mtr.now.slotAxes ++
    leBytes 4 s.fio.latched.toNat ++ leBytes 2 s.outputLevel.toNat ++ pad 2 ++
    (List.range 7).flatMap (fun k => leBytesI 8 (s.dev (0x0F20 + k)))

/-- A change of the own slot of the present frame, whose CRC-16 follows (R368); there is none before the first tick of a joined
node. -/
def State.patchSlot (s : State) (f : List Byte → List Byte) : State :=
  let b := f (s.ring.own.take 192)
  { s with ring := { s.ring with own := if s.ring.own = [] then [] else b ++ crc16Bytes b } }

/-- The topology block (R390); before its first slot the own record shows the node as it stands. -/
def State.topologyBytes (s : State) : List Byte :=
  let mask := s.joinedMask
  leBytes 4 (s.devN 0x0F16) ++ [s.ring.epoch, s.ring.master] ++ leBytes 1 mask ++ leBytes 1 s.endMask ++
    (allFin 8).flatMap (fun k =>
      let b := if k = s.ring.addr then (if s.ring.own = [] then s.slotBytes else s.ring.own) else s.ring.last[k]
      if mask.testBit k.val then
        leBytes 1 (k.val + 1) ++ slice 1 1 b ++ slice 18 2 b ++ slice 20 4 b ++ slice 24 2 b ++ slice 44 1 b ++ slice 36 4 b ++ pad 1
      else pad 16)

/-! ### Event entries (Table 20.5) -/

/-- An event entry. -/
def Entry.bytes (e : Entry) : List Byte :=
  let v := e.ev
  let body := leBytes 4 e.seq.toNat ++ leBytes 8 v.frame.toNat ++ leBytes 2 v.code ++ leBytes 1 v.inst ++
    leBytes 1 (v.kind % 4 + v.cls * 4) ++ leBytes 1 v.detail ++ leBytes 1 v.session ++ leBytes 2 v.extra ++ slice 0 8 v.data
  body ++ leBytes 4 (crc32c body).toNat

/-- The entries that EVENT_READ returns (R471): from the later of the requested sequence and the oldest held. -/
def State.eventsFrom (s : State) (from_ : Word) (most : Nat) : List Entry :=
  (s.log.entries.filter (fun e => (from_ = 0 || !later from_ e.seq) && (e.flashed || !e.invalid))).take most

/-- The reply fields of EVENT_READ. -/
def State.eventFields (s : State) (l : List Entry) : List Byte :=
  leBytes 4 s.oldestEvent.toNat ++ leBytes 1 l.length ++ pad 3 ++ l.flatMap Entry.bytes

/-! ### Reply fields -/

/-- Whether a parameter may be accessed at a sub-index (R4, R20, R408). -/
def State.accessible (s : State) (index sub : Nat) : Option ParamRow :=
  match ParamTable.find index with
  | none => none
  | some row =>
    let absent : Bool := row.cls = .axis && s.isStepper (sub / 2) &&
      (sub % 2 = 1 || index / 256 = 6 || index / 256 = 7)
    let notFree : Bool := 0x1020 ≤ index && index ≤ 0x1023 && !(sub % 3 = 2 && s.isStepper (sub / 6))
    if row.cls.has sub && !absent && !notFree then some row else none

def typeCode (index : Nat) : Nat := match ParamTable.find index with | some row => row.type.code | none => 0

/-- The MODE_STATUS fields (Table 19.8). -/
def State.modeFields (s : State) : List Byte :=
  leBytes 1 s.power.mode.code ++ leBytes 1 (match s.power.pending with | some m => m.code | none => 255) ++
    leBytes 1 (s.devN 0x0010) ++ pad 1 ++ leBytes 4 (s.statusWord 0x1310 255) ++ leBytes 4 (s.devN 0x1300) ++
    leBytes 4 (min s.power.idleFrames 4294967295) ++ leBytes 4 (s.devN 0x0011) ++ leBytes 2 (s.devN 0x1311) ++ pad 2

/-- The SAFETY_STATUS fields. -/
def State.safetyFields (s : State) : List Byte :=
  s.safetySection ++ (allFin 16).flatMap (fun a => leBytes 4 s.saf.est[a].speed)

/-- The reply fields of TXN_STATUS (Table 3.6, R98). -/
def txnStatusFields : Option Txn → List Byte
  | none => leBytes 8 0 ++ leBytes 4 Config.noCommitFrame.toNat
  | some t =>
    let entries := if t.state = .committed ∨ t.state = .partial_ then t.applied else t.entries
    [BitVec.ofNat 8 t.state.code, 0] ++ leBytes 2 entries ++ leBytes 4 t.bytes ++
      leBytes 4 (match t.commit with | some c => (c.setWidth 32 : Word).toNat | none => Config.noCommitFrame.toNat)

/-- The fields of a reply after FRAME32, and the event numbers they carry. -/
def State.fields (s : State) : Body → List Byte × List Word
  | .txn k tag => (txnStatusFields (s.findTxn k tag), [])
  | .bare => ([], [])
  | .bytes b => (b, [])
  | .param i k => (leBytes 2 i ++ leBytes 1 k ++ leBytes 1 (typeCode i) ++ leBytesI 8 (s.read i k), [])
  | .params keys =>
    (leBytes 1 keys.length ++ pad 3 ++ keys.flatMap (fun (i, k) =>
      let ok := (s.accessible i.toNat k.toNat).isSome
      leBytes 2 i.toNat ++ [k] ++ leBytes 1 (if ok then Status.ok else Status.badParameter) ++
        leBytesI 8 (if ok then s.read i.toNat k.toNat else 0)), [])
  | .sections mask => (leBytes 4 mask.toNat ++ s.sections mask, [])
  | .axes mask => (leBytes 4 mask.toNat ++ s.axisRecords mask, [])
  | .events from_ most => let l := s.eventsFrom from_ most; (s.eventFields l, l.map Entry.seq)
  | .safety => (s.safetyFields, [])
  | .quarry => (s.quarrySection ++ s.quarryEntries, [])
  | .ring => (s.ringSection, [])
  | .topology => (s.topologyBytes, [])
  | .modes => (s.modeFields, [])

/-- The statuses whose replies carry no payload (R58), and those that carry the opcode's fields. -/
def emptyStatus (status : Nat) : Bool := status = Status.badCrc || status = Status.badLength

/-- A packet out of the device (R54): header, payload and CRC. `push` sets PUSH. -/
def packetBytes (push : Bool) (opcode : Byte) (seq tag : Half) (target status : Nat) (payload : List Byte) : List Byte :=
  let body := [(if push then 0x13 else 0x11), opcode] ++ leBytes 2 seq.toNat ++ leBytes 2 tag.toNat ++
    leBytes 2 payload.length ++ leBytes 1 target ++ leBytes 1 status ++ pad 2 ++ payload
  body ++ leBytes 4 (crc32c body).toNat

/-- A reply of this node with FRAME32 and the fields given (R56). -/
def State.replyBytes (s : State) (opcode : Byte) (seq tag : Half) (status : Nat) (frame : Word) (fields : List Byte) : List Byte :=
  packetBytes false opcode seq tag s.nodeNumber status (if emptyStatus status then [] else leBytes 4 frame.toNat ++ fields)

/-! ### Latching (R85) -/

/-- The records of a mask from the snapshot latched last. -/
def State.latchedAxes (s : State) (mask : Word) : List Byte :=
  match s.maskArg mask with
  | some l => l.flatMap (fun a => match s.mtr.now.axes.find? (fun e => e.1 = a.val) with | some (_, b) => b | none => pad 32)
  | none => []

/-- Latch the snapshot of the frame that ends: `s` still carries that frame's number. -/
def State.latchSnapshot (s : State) : State :=
  { s with mtr := { s.mtr with before := s.mtr.now
                               now := { frame := s.frame64
                                        sections := (List.range 9).map s.section
                                        slotAxes := (allFin 16).flatMap (fun a => leBytes 1 (if s.stepperAt a then 255 else (s.ax a).state.code))
                                        slotFault := s.deviceFault, slotStops := s.motion.groupStops
                                        axes := s.presentAxes.map (fun a => (a.val, s.axisRecord a)) } } }

end Sys2Proof.Machine
end

