-- ==== Sys2Proof/Machine/Quarry.lean ====
section
/-! DEFINITION. Quarry (Quarry: Acquisition and Triggering, R424 to R442): the setup and its sizes, the signals and rows,
triggers, arming and release, and the meanings of its requests and events. -/

namespace Sys2Proof.Machine

/-! ### DRAM -/

/-- The words that a range covers whole, which a write leaves good again, and those it touches (R25). -/
def wholeWord (a n w : Nat) : Bool := decide (a ≤ 8 * w) && decide (8 * w + 8 ≤ a + n)
def touchedWord (a n w : Nat) : Bool := decide (a < 8 * w + 8) && decide (8 * w < a + n)

def State.dramWrite (s : State) (a : Nat) (bs : List Byte) : State :=
  { s with dram := Memory.writeBytes dramDefault s.dram a bs
           badDram := s.badDram.filter (fun w => !wholeWord a bs.length w) }
def State.dramRead (s : State) (a n : Nat) : List Byte := Memory.readBytes dramDefault s.dram a n

/-- The place of a memory in the error counters, which saturate (R25; their width is the model's). -/
def memoryIndex : MemoryKind → Fin 4
  | .laneA => 0 | .laneB => 1 | .dram => 2 | .flash => 3
def saturating (n : Nat) (x : Nat) : Nat := min (x + n) 4294967295
/-- The first saturation of an error counter shows in the status word of the block that owns the memory system, 0x12 (R7, Table
1.2); the counters' keys lie above those of the parameters and of the Template entries (DEDUCED, notes/assumptions/96). -/
def State.errorSaturation (s : State) (k old new : Nat) : State :=
  if old < 4294967295 ∧ new = 4294967295 then s.firstSaturation (33554432 + k) 0x1210 255 7 0x1203 255 else s
def State.countCorrected (s : State) (m : MemoryKind) : State :=
  let i := memoryIndex m
  let new := saturating 1 s.corrected[i]
  { s with corrected := s.corrected.set i new }.errorSaturation i.val s.corrected[i] new
def State.countUncorrectable (s : State) (m : MemoryKind) (n : Nat) : State :=
  let i := memoryIndex m
  let new := saturating n s.uncorrectable[i]
  { s with uncorrectable := s.uncorrectable.set i new }.errorSaturation (4 + i.val) s.uncorrectable[i] new

/-! ### Signals (Table 18.4) -/

/-- What the INSTANCE of a signal names. -/
inductive SignalClass where
  | axis | servo | stepper | bay | die | group | counter | device
  deriving DecidableEq, Repr

def signalClass (code : Nat) : Option SignalClass :=
  if 1 ≤ code ∧ code ≤ 5 then some .axis
  else if 6 ≤ code ∧ code ≤ 9 then some .servo
  else if 10 ≤ code ∧ code ≤ 12 then some .axis
  else if code = 13 ∨ code = 14 then some .servo
  else if code = 15 then some .axis
  else if code = 16 then some .stepper
  else if 0x20 ≤ code ∧ code ≤ 0x22 then some .bay
  else if code = 0x30 ∨ code = 0x31 then some .die
  else if code = 0x40 ∨ code = 0x41 ∨ code = 0x44 then some .device
  else if code = 0x42 then some .counter
  else if code = 0x43 then some .group
  else none

/-- The signals that are bit fields, and those that are always sampled. -/
def bitField (code : Nat) : Bool := code = 0x0F || code = 0x40 || code = 0x41 || code = 0x44
def sampledOnly (code : Nat) : Bool := code = 0x0D || code = 0x42 || bitField code

/-- Table 18.2. -/
def chSignal (d : Nat) : Nat := bitsOf 0 8 d
def chInst (d : Nat) : Nat := bitsOf 8 8 d
def chWide (d : Nat) : Bool := bitsOf 16 1 d = 1
def chShift (d : Nat) : Nat := bitsOf 17 4 d

def State.signalOk (s : State) (d : Nat) : Bool :=
  let i := chInst d
  let axis := s.axisArg (BitVec.ofNat 8 i)
  d < 2 ^ 21 &&
  match signalClass (chSignal d) with
  | none => false
  | some .axis => axis.isSome
  | some .servo => match axis with | some a => !s.stepperAt a | none => false
  | some .stepper => match axis with | some a => s.stepperAt a | none => false
  | some .bay => i < 16
  | some .die => i < 2
  | some .group => i < 4
  | some .counter => i < 8
  | some .device => i = 255

/-- A signal's value in the present frame; none when it has none (R427). -/
def State.signal (s : State) (d : Nat) : Option Int :=
  let i := chInst d
  let a : Fin 16 := match s.axisArg (BitVec.ofNat 8 i) with | some a => a | none => 0
  let x := s.ax a
  let b := s.bay (Fin.ofNat 16 i)
  let live : Bool := if s.stepperAt a then x.stepper.energised else x.loops.running
  let looped := fun (v : Int) => if live then some v else none
  let pattern := fun (n : Nat) => some (wrapSigned 32 n)
  match chSignal d with
  | 0x01 => some (wrapSigned 32 x.measured)
  | 0x02 => some (wrapSigned 32 x.demand.counts)
  | 0x03 => some x.speed
  | 0x04 => some (rdiv x.demand.v 65536)
  | 0x05 => looped (if s.stepperAt a then x.stepper.planNow.amps else rdiv x.com.iq 1000)
  | 0x06 => looped (rdiv x.com.id 1000)
  | 0x07 => looped (s.par 0x0A41 a.val)
  | 0x08 => looped x.com.planNow.vq
  | 0x09 => looped x.com.planNow.vd
  | 0x0A => looped x.template.force
  | 0x0B => looped x.template.excess
  | 0x0C => looped x.template.baseline
  | 0x0D => looped x.com.theta
  | 0x0E => looped x.com.power
  | 0x0F => pattern (x.state.code + x.loops.reported * 2 ^ 8 + s.axisFlags a * 2 ^ 16)
  | 0x10 => if x.stepper.energised then some x.stepper.load else none
  | 0x20 => if b.recordFlags.testBit 0 then none else some b.sample0
  | 0x21 => if b.recordFlags.testBit 1 then none else some b.sample1
  | 0x22 => some b.recordChops
  | 0x30 => some (s.die (Fin.ofNat 2 i)).vbusAt
  | 0x31 => some (s.die (Fin.ofNat 2 i)).tempAt
  | 0x40 => pattern s.fio.latched.toNat
  | 0x41 => pattern s.fio.nextSet.toNat
  | 0x42 => some s.fio.counts[Fin.ofNat 8 i].toNat
  | 0x43 => some (s.parN 0x1033 (i % 4))
  | 0x44 => pattern (s.saf.word.code + s.saf.wordCause * 2 ^ 8)
  | _ => none

/-! ### Rows (R427, R428, Table 18.5) -/

/-- Gather one frame's value of a channel (R428). -/
def Gather.add (g : Gather) : Option Int → Gather
  | none => { g with lastValid := false }
  | some v => { last := v, sum := g.sum + v, n := g.n + 1, lastValid := true
                peak := if g.n = 0 ∨ g.peak.natAbs < v.natAbs then v else g.peak }

/-- A channel's value over the row, before it is formed; none sets its invalid bit. -/
def Gather.value (g : Gather) (decimation : Nat) : Option Int :=
  if decimation = 0 then if g.lastValid then some g.last else none
  else if g.n = 0 then none
  else if decimation = 1 then some (rdiv g.sum g.n) else some g.peak

/-- The recorded value of R427. -/
def recorded (d : Nat) (v : Int) : Int :=
  if bitField (chSignal d) then v
  else if chWide d then clampI (-2147483647) 2147483647 v
  else clampI (-32767) 32767 (rdiv v (2 ^ chShift d))

/-- Append a channel's value, an i32 on a 4-byte boundary. -/
def addValue (bs : List Byte) (d : Nat) (v : Int) : List Byte :=
  if chWide d then bs ++ pad ((4 - bs.length % 4) % 4) ++ leBytesI 4 (recorded d v)
  else bs ++ leBytesI 2 (recorded d v)

def padTo8 (n : Nat) : Nat := (n + 7) / 8 * 8

/-- The bytes of the values of a row for a list of descriptors. -/
def valueBytes (l : List (Nat × Int)) : List Byte := l.foldl (fun bs (d, v) => addValue bs d v) []

/-- Row size (Table 18.5). -/
def rowSizeOf (channels : List Nat) : Nat := padTo8 (8 + (valueBytes (channels.map (fun d => (d, 0)))).length + 4)

/-- The row that the gathered values form (Table 18.5). -/
def rowBytes (frame : Word) (decimation : Nat) (channels : List Nat) (gs : List Gather) : List Byte :=
  let vs := (channels.zip gs).map (fun (d, g) => (d, g.value (if sampledOnly (chSignal d) then 0 else decimation)))
  let mask := sumN ((vs.zip (List.range 32)).map (fun ((_, v), k) => bit v.isNone k))
  let body := leBytes 4 frame.toNat ++ leBytes 4 mask ++ valueBytes (vs.map (fun (d, v) => (d, v.getD 0)))
  let row := body ++ leBytes 4 (crc32c body).toNat
  row ++ pad (padTo8 row.length - row.length)

/-! ### Records -/

/-- The rows before the trigger row that the record holds (R434). -/
def Quarry.preRows (q : Quarry) (c : QuarrySetup) : Nat := min c.block.pre q.triggerRow

/-- The 192-byte header (Table 18.3). `done` is whether the record has ended, `truncated` whether it ended early. -/
def State.recordHeader (s : State) (c : QuarrySetup) (r : Record) (done truncated : Bool) : List Byte :=
  let b := c.block
  let q := s.qry
  let pre := if r.trigger.isSome then q.preRows c else 0
  let rows := if !done then 0
    else if r.trigger.isSome then min (pre + (q.rowsWritten - q.triggerRow)) c.rows
    else min q.rowsWritten c.rows
  let first := if !done then 0 else (q.rowsWritten - rows) % c.rows
  let flags := bit (done && !truncated) 0 + bit truncated 1 + bit (done && r.trigger.isSome && decide (pre < b.pre)) 2
  leBytes 4 1 ++ leBytes 4 r.sequence.toNat ++ leBytes 8 r.armed.toNat ++
    (match r.trigger with
      | some t => leBytes 4 t.frame.toNat ++ leBytes 2 t.offset ++ leBytes 1 t.source ++ leBytes 1 t.item
      | none => leBytes 4 0xFFFFFFFF ++ leBytes 2 0xFFFF ++ pad 2) ++
    leBytes 2 b.d ++ leBytes 1 b.decimation ++ leBytes 1 b.count ++ leBytes 2 c.rowSize ++ leBytes 2 flags ++
    leBytes 4 (if done then pre else 0) ++ leBytes 4 rows ++ leBytes 4 first ++ leBytes 1 s.nodeNumber ++ pad 19 ++
    slice 0 128 (b.channels.flatMap (leBytes 4))

/-- Write the header of a record. -/
def State.putHeader (s : State) (c : QuarrySetup) (r : Record) (done truncated : Bool) : State :=
  s.dramWrite (r.segment * c.segmentSize) (s.recordHeader c r done truncated)

def State.onQry (s : State) (f : Quarry → Quarry) : State := { s with qry := f s.qry }

/-- The class-10 event of a record (Table 20.6). -/
def State.quarryEvent (s : State) (r : Record) (held : Bool) : State :=
  let (f, o, src) := match r.trigger with
    | some t => ((t.frame.setWidth 32 : Word).toNat, t.offset, t.source)
    | none => (0xFFFFFFFF, 0xFFFF, 0)
  s.event { code := 0x1280, inst := 255, kind := 2, cls := 10, detail := src + (if held then 128 else 0), extra := o,
            data := leBytes 4 r.sequence.toNat ++ leBytes 4 f, frame := s.frame64 }

/-- The segments in use. -/
def Quarry.used (q : Quarry) : List Nat := q.held.map Record.segment ++ q.current.toList.map Record.segment

/-- The free segment that follows the last one used, ascending with wrap (R436). -/
def Quarry.freeSegment (q : Quarry) (c : QuarrySetup) : Option Nat :=
  let n := c.block.segments
  let start := match q.lastSegment with | some k => k + 1 | none => 0
  ((List.range n).map (fun i => (start + i) % n)).find? (fun k => !(q.used.contains k))

def nextSequence (w : Word) : Word := if w + 1 = 0 then 1 else w + 1

/-- Arm on a free segment at the present tick (R428, R436, R439). -/
def State.quarryArmOn (s : State) (c : QuarrySetup) (seg : Nat) : State :=
  let r : Record := { sequence := s.qry.sequence, segment := seg, segmentSize := c.segmentSize, armed := s.frame64 }
  let t := s.onQry (fun q => { q with
    state := .armed, current := some r, lastSegment := some seg, sequence := nextSequence q.sequence, rowsWritten := 0,
    triggerRow := 0, gathers := List.replicate c.block.count {}, crossed := false, candidates := [], forced := none })
  (t.putHeader c r false false).setDev 0x1214 (s.dev 0x1214 + c.segmentSize)

/-- R437: arm again, or wait in FULL. -/
def State.quarryRearm (s : State) (c : QuarrySetup) : State :=
  match s.qry.freeSegment c with
  | some seg => s.quarryArmOn c seg
  | none =>
    if s.qry.state = .full then s
    else
      let t := s.onQry (fun q => { q with state := .full })
      ((t.count 0x1213 255).stick 0x1210 255 4).raise 0x1201 255

/-- Close the record in progress as HELD (R434, R436, R440). -/
def State.closeRecord (s : State) (c : QuarrySetup) (r : Record) (truncated : Bool) : State :=
  let t := (s.putHeader c r true truncated).onQry (fun q =>
    { q with state := .stopped, held := q.held ++ [r], current := none, gathers := [], candidates := [], forced := none })
  t.quarryEvent r true

/-- Free the segment of the record in progress (R436, R439). -/
def State.freeCurrent (s : State) (r : Record) : State :=
  (s.onQry (fun q => { q with current := none, gathers := [], candidates := [], forced := none })).setDev 0x1215
    (s.dev 0x1215 + r.segmentSize)

/-- Entering Dormant, Keep or reset ends recording (R440): the record in progress is closed as truncated. -/
def State.quarryDormant (s : State) : State :=
  match s.qry.setup, s.qry.current with
  | some c, some r => s.closeRecord c r true
  | _, _ => s

/-! ### Triggers (R430 to R435) -/

/-- Whether the configured channel source fires on a value, and its new `crossed`. -/
def channelFires (b : QuarryBlock) (crossed : Bool) (v : Int) : Bool × Bool :=
  match b.kind with
  | 0 =>
    if b.level ≤ v then (if crossed then (true, false) else (false, decide (v ≤ b.level - b.hysteresis)))
    else (false, crossed || decide (v ≤ b.level - b.hysteresis))
  | 1 =>
    if v ≤ b.level then (if crossed then (true, false) else (false, decide (b.level + b.hysteresis ≤ v)))
    else (false, crossed || decide (b.level + b.hysteresis ≤ v))
  | 2 => if b.level ≤ v ∧ !crossed then (true, true) else (false, crossed)
  | _ => if v ≤ b.level ∧ !crossed then (true, true) else (false, crossed)

/-- The earliest accepted edge of the frame that the input source names, as its count. -/
def State.edgeOf (s : State) (b : QuarryBlock) : Option Nat :=
  let pick := fun (l : List (Nat × Nat)) => (l.filter (fun (i, _) => i = b.item)).map Prod.snd
  let l := (if b.kind = 1 then [] else pick s.fio.freshRising) ++ (if b.kind = 0 then [] else pick s.fio.freshFalling)
  l.foldl (fun best c => match best with | some m => some (min m c) | none => some c) none

/-- A fault detected in the present frame that the fault source names. -/
def State.faultFires (s : State) (b : QuarryBlock) : Bool :=
  let code := (b.level % 65536).toNat
  s.log.fresh.any (fun e => e.kind = 0 && e.frame = s.frame64 &&
    (if code = 0 then decide (2 ≤ e.detail) else decide (e.code = code)))

/-- Evaluate a channel or input source on the frame that ends (R430). -/
def State.quarryEvaluate (s : State) (b : QuarryBlock) : State :=
  let fire := fun (offset item : Nat) (s : State) =>
    s.onQry (fun q => { q with candidates := q.candidates ++ [{ frame := s.frame64, offset := offset, source := b.source, item := item }] })
  match b.source with
  | 1 =>
    match s.signal ((b.channels[b.item]?).getD 0) with
    | none => s
    | some v =>
      let (f, c) := channelFires b s.qry.crossed v
      let t := s.onQry (fun q => { q with crossed := c })
      if f then fire 0 b.item t else t
  | 2 => match s.edgeOf b with | some c => fire c b.item s | none => s
  | _ => s

/-- QUARRY_ROW_WRITE (R428, R429): gather the frame that ends and write the row it completes. -/
def State.quarryGather (s : State) (c : QuarrySetup) (r : Record) : State :=
  let b := c.block
  let gs := (b.channels.zip s.qry.gathers).map (fun (d, g) => g.add (s.signal d))
  if ((s.frame64 - r.armed).toNat + 1) % b.d = 0 then
    let a := r.segment * c.segmentSize + 192 + s.qry.rowsWritten % c.rows * c.rowSize
    (s.dramWrite a (rowBytes s.frame32 b.decimation b.channels gs)).onQry (fun q =>
      { q with gathers := List.replicate b.count {}, rowsWritten := q.rowsWritten + 1 })
  else s.onQry (fun q => { q with gathers := gs })

/-- What the engine does at the end of a frame: `s` still carries the frame's number. A forced trigger joins the frame's
candidates (R431). -/
def State.quarryFrame (s : State) : State :=
  match s.qry.setup, s.qry.current with
  | some c, some r =>
    if s.qry.state = .armed ∨ s.qry.state = .post then
      let ends : Bool := decide (s.qry.state = .post ∧ s.qry.triggerRow + (c.rows - c.block.pre) ≤ s.qry.rowsWritten)
      if ends then s
      else
        let t := (s.quarryGather c r).quarryEvaluate c.block
        t.onQry (fun q => { q with candidates := q.forced.toList ++ q.candidates, forced := none })
    else s
  | _, _ => s

/-- Evaluate a fault source once every fault of the frame has been detected (R430). -/
def State.quarryFault (s : State) : State :=
  match s.qry.setup with
  | some c =>
    if (s.qry.state = .armed ∨ s.qry.state = .post) ∧ c.block.source = 3 ∧ s.faultFires c.block then
      s.onQry (fun q => { q with candidates := q.candidates ++ [{ frame := s.frame64, offset := 0, source := 3, item := 0 }] })
    else s
  | none => s

/-- A trigger is ignored: counted, with the sticky bit (R432, R433). -/
def State.ignoreTrigger (s : State) : State := (s.count 0x1212 255).stick 0x1210 255 5

/-- Anchor the record on a trigger (R432, R433, R435); one published joins the own slot of the frame that begins. -/
def State.anchor (s : State) (c : QuarrySetup) (r : Record) (t : Trigger) : State :=
  let r' := { r with trigger := some t }
  let line := c.block.ringOut
  let u := s.onQry (fun q => { q with
    state := .post, current := some r', triggerRow := (t.frame - r.armed).toNat / c.block.d, acceptedAt := s.frame64,
    published := if t.source = 4 ∨ line = 255 then q.published else some (2 ^ line, t.offset) })
  let u := match u.qry.published with
    | some (l, o) => u.patchSlot (fun b => b.take 3 ++ leBytes 1 l ++ leBytes 2 o ++ b.drop 6)
    | none => u
  (u.putHeader c r' false false).quarryEvent r' false

/-- Accept a trigger or ignore it (R432, R433). -/
def State.acceptTrigger (s : State) (t : Trigger) : State :=
  match s.qry.setup, s.qry.current with
  | some c, some r =>
    if t.frame.toNat < r.armed.toNat then s
    else if s.qry.state = .armed then
      if s.qry.fillPre ∧ s.qry.rowsWritten < c.block.pre ∧ t.source ≠ 5 then s.ignoreTrigger else s.anchor c r t
    else if s.qry.state = .post then
      let earlier : Bool := match r.trigger with
        | some u => decide (t.frame.toNat < u.frame.toNat ∨ (t.frame = u.frame ∧ t.offset < u.offset))
        | none => false
      if t.source = 4 ∧ (s.frame64 - s.qry.acceptedAt).toNat ≤ 1 ∧ earlier then
        let at_ := s.qry.acceptedAt
        (s.anchor c r t).onQry (fun q => { q with acceptedAt := at_ })
      else s.ignoreTrigger
    else s
  | _, _ => s

/-- QUARRY_TRIGGER (R432): the triggers of the last frame are accepted at this tick. -/
def execQuarryTrigger (s : State) : Host.Outcome State Fault Refusal :=
  .next (
    let t := s.onQry (fun q => { q with candidates := [] })
    t.each s.qry.candidates (fun c u => u.acceptTrigger c))

/-- RING_TRIGGER (R435): the slot of a node delivered at this tick asserts a line of the ring-in mask. -/
def execRingTrigger (node : Fin 8) (s : State) : Host.Outcome State Fault Refusal :=
  .next (
    match s.qry.setup, s.ring.slots[node] with
    | some c, some slot =>
      let lines := field 3 1 slot &&& c.block.ringIn
      match (List.range 8).find? (fun t => lines.testBit t) with
      | none => s
      | some line =>
        if node = s.ring.addr then s
        else s.acceptTrigger { frame := BitVec.ofNat 64 (field 8 8 slot) - 1, offset := field 4 2 slot, source := 4, item := line }
    | _, _ => s)

/-- QUARRY_RECORD_END (R434, R437): the record has its post-trigger rows. -/
def execQuarryRecordEnd (s : State) : Host.Outcome State Fault Refusal :=
  .next (
    match s.qry.setup, s.qry.current with
    | some c, some r =>
      if s.qry.state = .post ∧ s.qry.triggerRow + (c.rows - c.block.pre) ≤ s.qry.rowsWritten then
        let t := s.closeRecord c r false
        if t.qry.autoRearm then t.quarryRearm c else t
      else s
    | _, _ => s)

/-- QUARRY_REARM (R437): the engine in FULL arms at the first tick at which a segment is free. -/
def execQuarryRearm (s : State) : Host.Outcome State Fault Refusal :=
  .next (
    match s.qry.setup with
    | some c => if s.qry.state = .full then s.quarryRearm c else s
    | none => s)

/-! ### Setup (R424 to R426) -/

/-- The sizes that a block gives with QRY.REGION. -/
def State.quarrySizes (s : State) (b : QuarryBlock) : QuarrySetup :=
  let seg := s.devN 0x1200 * 1048576 / b.segments / 64 * 64
  let row := rowSizeOf b.channels
  { block := b, segmentSize := seg, rowSize := row, rows := (seg - 192) / row }

/-- The refusals of R426 but for its length. -/
def State.setupChecks (s : State) (b : QuarryBlock) : List (Bool × Nat) :=
  let c := s.quarrySizes b
  let kinds := match b.source with | 1 => 4 | 2 => 3 | _ => 1
  [(!b.channels.all s.signalOk, Status.badParameter),
   (decide (3 < b.source ∨ kinds ≤ b.kind), Status.badParameter),
   (decide (2 < b.decimation ∨ b.count < 1 ∨ 32 < b.count ∨ b.d < 1 ∨ 65535 < b.d ∨ b.segments < 1 ∨ 4096 < b.segments), Status.outOfRange),
   (decide (8 ≤ b.ringOut ∧ b.ringOut ≠ 255), Status.outOfRange),
   (decide (b.source = 1 ∧ b.count ≤ b.item ∨ b.source = 2 ∧ 32 ≤ b.item), Status.outOfRange),
   (b.channels.any (fun d => bitField (chSignal d) && !chWide d && decide (chShift d ≠ 0)), Status.outOfRange),
   (decide (c.rows < 16 ∨ c.rows - 4 < b.pre), Status.outOfRange),
   (decide (s.qry.state = .armed ∨ s.qry.state = .post), Status.busy),
   (!(s.qry.held = []) && (match s.qry.setup with | some o => decide (o.block.segments ≠ b.segments) | none => false), Status.busy)]

/-- QUARRY_SETUP (R426). -/
def execQuarrySetup (r : Req) (block : QuarryBlock) (s : State) : Host.Outcome State Fault Refusal :=
  .next (s.request 0x70 r (fun _ s =>
    s.checked r 0x70 (s.setupChecks block) (fun s =>
      let same : Bool := match s.qry.setup with | some o => decide (o.block.segments = block.segments) | none => false
      let t := s.onQry (fun q => { q with
        state := .idle, setup := some (s.quarrySizes block), autoRearm := false, fillPre := false,
        lastSegment := if same then q.lastSegment else none })
      (t.clearFault 0x1201 255).answer r 0x70 Status.ok .bare)))

/-! ### Arming and release (R436 to R439) -/

/-- What prevents arming (R436). -/
def State.armBlocked (s : State) : Bool :=
  s.qry.state = .armed || s.qry.state = .post || s.power.quarryInit ||
    (match s.qry.setup with | some c => (s.qry.freeSegment c).isNone | none => true)

/-- The effect of QUARRY_ARM at its tick, and its status. -/
def State.quarryArm (s : State) (flags : Byte) : State × Nat :=
  if flags.getLsbD 2 then
    match s.qry.setup, s.qry.current with
    | some c, some r =>
      if s.qry.state = .post then ((s.closeRecord c r true).onQry (fun q => { q with autoRearm := false }), Status.ok)
      else ((s.freeCurrent r).onQry (fun q => { q with state := .idle, autoRearm := false }), Status.ok)
    | _, _ =>
      if s.qry.state = .idle then (s, Status.alreadyDone)
      else ((s.onQry (fun q => { q with state := .idle, autoRearm := false })).clearFault 0x1201 255, Status.ok)
  else if s.armBlocked then (s, Status.busy)
  else
    match s.qry.setup with
    | some c =>
      match s.qry.freeSegment c with
      | some seg =>
        let t := s.onQry (fun q => { q with autoRearm := flags.getLsbD 0, fillPre := flags.getLsbD 1 })
        ((t.quarryArmOn c seg).clearFault 0x1201 255, Status.ok)
      | none => (s, Status.busy)
    | none => (s, Status.busy)

/-- QUARRY_ARM (R436). -/
def execQuarryArm (r : Req) (flags : Byte) (s : State) : Host.Outcome State Fault Refusal :=
  .next (s.request 0x71 r (fun k s =>
    s.checked r 0x71 [(decide (8 ≤ flags.toNat), Status.badParameter)] (fun s =>
      s.stageOr k r 0x71 (.quarryArm r flags) [] id Status.ok (fun _ => .bare) (fun s =>
        let (t, st) := s.quarryArm flags
        t.answer r 0x71 st .bare))))

/-- QUARRY_FORCE (R431): the reply carries the trigger frame. -/
def execQuarryForce (r : Req) (s : State) : Host.Outcome State Fault Refusal :=
  .next (s.request 0x72 r (fun _ s =>
    if s.qry.state = .post then
      let f := match s.qry.current.bind Record.trigger with | some t => t.frame | none => 0
      s.answer r 0x72 Status.alreadyDone (.bytes (leBytes 4 (f.setWidth 32 : Word).toNat))
    else if s.qry.state = .armed then
      let t := s.onQry (fun q => { q with forced := some { frame := s.frame64, offset := 0, source := 5, item := 0 } })
      t.answer r 0x72 Status.ok (.bytes (leBytes 4 s.frame32.toNat))
    else s.refuse r 0x72 Status.busy))

/-- QUARRY_STATUS (R79). -/
def execQuarryStatus (r : Req) (s : State) : Host.Outcome State Fault Refusal :=
  .next (s.request 0x73 r (fun _ s => s.answer r 0x73 Status.ok .quarry))

/-- A write to QRY.RELEASE at its commit tick (R438, R439): every HELD record not later than `w` is freed. -/
def State.quarryRelease (s : State) (w : Word) : State :=
  let free := s.qry.held.filter (fun r => !later r.sequence w)
  let size := sumN (free.map Record.segmentSize)
  let t := s.onQry (fun q => { q with held := q.held.filter (fun r => later r.sequence w) })
  let t := t.setDev 0x1215 (s.dev 0x1215 + size)
  if free = [] then t else t.clearFault 0x1201 255

end Sys2Proof.Machine
end

