-- ==== Sys2Proof/Machine/TemplateStore.lean ====
section
/-! DEFINITION. The Template image of DRAM and flash (R294, R295): its layout, the validity of a slot, a save and its
completion, and the load at boot. -/

namespace Sys2Proof.Machine

/-! ### Flash -/

def State.flashRead (s : State) (a n : Nat) : List Byte := Memory.readBytes flashDefault s.flash a n
def State.flashField (s : State) (a n : Nat) : Nat := ofLe (s.flashRead a n)
def State.flashErase (s : State) (a n : Nat) : State :=
  { s with flash := s.flash.filter (fun c => !(decide (a ≤ c.1) && decide (c.1 < a + n)))
           badFlash := s.badFlash.filter (fun w => !wholeWord a n w) }
def State.flashProgram (s : State) (a : Nat) (bs : List Byte) : State :=
  { s with flash := Memory.writeBytes flashDefault s.flash a bs }

/-- The base of configuration slot k (Table 1.5). -/
def cfgBase (k : Nat) : Nat := 0x500000 + k * 0x40000

/-- The configuration schema in force: the active set's, else the first the running lane image lists (PRESUMED,
notes/assumptions/70). -/
def State.schema (s : State) : Nat :=
  match s.cfg.activeSlot with
  | some k => s.flashField (cfgBase k.val + 4) 2
  | none => s.imageField 0 s.cfg.laneBoot 92 2

/-! ### The image (Table 12.2) -/

/-- The signature of an axis. -/
def State.axisSignature (s : State) (a : Fin 16) : Word :=
  crc32c ([0x0900, 0x0909, 0x090A, 0x0901, 0x0A00, 0x0A01].flatMap (fun i => leBytesI 8 (s.par i a.val)))

/-- An entry of the table as it stood after the last frame. -/
def State.binLast (s : State) (k : Nat) : Bin := Sparse.read (fun _ => {}) s.motion.binsLast k

def binBytes (b : Bin) : List Byte := leBytesI 2 b.mean ++ leBytes 2 b.spread ++ leBytes 2 b.count
/-- The eight bytes of a Template entry (Table 12.1). -/
def binRow (b : Bin) : List Byte := binBytes b ++ leBytes 1 b.age ++ leBytes 1 (boolNat b.updated)

def State.templateImage (s : State) (generation : Nat) (frame : Long) : List Byte :=
  let entries := (List.range 16384).flatMap (fun k => binBytes (s.binLast k))
  let head := leBytes 4 1 ++ leBytes 4 generation ++ leBytes 8 frame.toNat ++ leBytes 2 s.schema ++ pad 2 ++
    (allFin 16).flatMap (fun a => leBytes 4 (s.axisSignature a).toNat) ++ pad 4008
  head ++ leBytes 4 (crc32c (head ++ entries)).toNat ++ entries

def templateBase (k : Fin 2) : Nat := 0x700000 + k.val * 0x20000

/-- The generation of a valid Template slot (R295). -/
def State.templateSlot (s : State) (k : Fin 2) : Option Nat :=
  let a := templateBase k
  let head := s.flashRead a 4092
  let ok : Bool := !s.motion.badSlot[k] && decide (field 0 4 head = 1) && decide (field 16 2 head = s.schema) &&
    decide (s.flashField (a + 4092) 4 = (crc32c (head ++ s.flashRead (a + 4096) 98304)).toNat)
  if ok then some (field 4 4 head) else none

/-- The slot of the newest valid image, with its generation. -/
def State.newestTemplate (s : State) : Option (Fin 2 × Nat) :=
  match s.templateSlot 0, s.templateSlot 1 with
  | some g, some h => if g < h then some (1, h) else some (0, g)
  | some g, none => some (0, g)
  | none, some h => some (1, h)
  | none, none => none

/-- The slot of a save: the one that does not hold the newest valid image. -/
def State.templateTarget (s : State) : Fin 2 := match s.newestTemplate with | some (0, _) => 1 | _ => 0

/-- The copy in the DRAM reserve, of which the manual gives the region and no place: it stands at the region's start (DESIGN CHOICE,
notes/assumptions/108). -/
def templateCopy : Nat := 0x6B20000
/-- The copy of the table that serves a TEMPLATE handle (R355), in the same reserve. -/
def templateSpace : Nat := 0x6B40000

/-- A write of 1 to TPL.SAVE at T(n) (R294): the tables are captured as they stood after frame n − 1. -/
def State.startSave (s : State) : State :=
  let generation := match s.newestTemplate with | some (_, g) => g + 1 | none => 1
  let t := s.dramWrite templateCopy (s.templateImage generation (s.frame64 - 1))
  { t with motion := { t.motion with saving := true }, cfg := { t.cfg with flash := some .templateSave } }

/-- TEMPLATE_SAVE_COMPLETE (R294). -/
def execTemplateSaveComplete (report : FlashReport) (s : State) : Host.Outcome State Fault Refusal :=
  .next (
    if s.cfg.flash = some .templateSave then
      let k := s.templateTarget
      let image := s.dramRead templateCopy 102400
      let t := s.flashErase (templateBase k) 0x20000
      let t := { t with motion := { t.motion with saving := false, badSlot := t.motion.badSlot.set k false }
                        cfg := { t.cfg with flash := none } }
      if report.verified then
        let g := field 4 4 image
        let u := (t.flashProgram (templateBase k) image).clearFault 0x0B04 255
        let u := { u with motion := { u.motion with saveGeneration := g } }
        u.event { code := 0x0B80, inst := 255, kind := 2, cls := 3, data := leBytes 4 g, frame := s.frame64 }
      else t.raise 0x0B04 255
    else s)

/-- The entries of one axis of an image, as they load: age and flags 0. -/
def State.loadAxis (s : State) (base : Nat) (a : Nat) : List (Nat × Bin) :=
  (List.range 1024).filterMap (fun e =>
    let k := 1024 * a + e
    let bs := s.flashRead (base + 4096 + 6 * k) 6
    let b : Bin := { mean := wrapSigned 16 (field 0 2 bs), spread := field 2 2 bs, count := field 4 2 bs, updates := field 4 2 bs }
    if b = {} then none else some (k, b))

/-- The load at boot (R295). -/
def State.loadTemplate (s : State) : State :=
  match s.newestTemplate with
  | some (k, g) =>
    let base := templateBase k
    let bins := (allFin 16).flatMap (fun a =>
      if s.flashField (base + 20 + 4 * a.val) 4 = (s.axisSignature a).toNat then s.loadAxis base a.val else [])
    { s with motion := { s.motion with bins := bins, saveGeneration := g } }
  | none => State.raise { s with motion := { s.motion with bins := [], saveGeneration := 0 } } 0x0B03 255

end Sys2Proof.Machine
end

