-- ==== Sys2Proof/Machine/Memory.lean ====
section
/-! DEFINITION. Errors in DRAM and flash (R25, R28, R98, Tables 1.4 to 1.6): what a read that corrects an error and what a read
that meets an uncorrectable word do. -/

namespace Sys2Proof.Machine

def State.onSlot (s : State) (k : Fin 8) (f : Slot → Slot) : State := { s with cfg := { s.cfg with slots := upd s.cfg.slots k f } }
def State.onImage (s : State) (kind slot : Fin 2) (f : Slot → Slot) : State :=
  if kind = 0 then { s with cfg := { s.cfg with lane := upd s.cfg.lane slot f } }
  else { s with cfg := { s.cfg with safety := upd s.cfg.safety slot f } }

/-- The slot of Table 1.5 in which a flash address lies: an image slot, a configuration slot or a Template slot. -/
inductive FlashPlace where
  | image (kind slot : Fin 2) | config (slot : Fin 8) | template (slot : Fin 2) | other
  deriving DecidableEq, Repr

def flashPlace (a : Nat) : FlashPlace :=
  if a < 0x400000 then .image 0 (Fin.ofNat 2 (a / 0x200000))
  else if a < 0x500000 then .image 1 (Fin.ofNat 2 ((a - 0x400000) / 0x80000))
  else if a < 0x700000 then .config (Fin.ofNat 8 ((a - 0x500000) / 0x40000))
  else if a < 0x740000 then .template (Fin.ofNat 2 ((a - 0x700000) / 0x20000))
  else .other

/-- A read corrected an error in flash: the slot reports it (R28, R457). -/
def State.flashCorrected (s : State) (a : Nat) : State :=
  let logs (t : State) (inst : Nat) : State := (t.stick 0x1410 255 6).raise 0x1407 inst
  match flashPlace a with
  | .image kind slot => logs (s.onImage kind slot (fun x => { x with corrected := true })) 255
  | .config k => logs (s.onSlot k (fun x => { x with corrected := true })) k.val
  | .template _ | .other => s

/-- A code of R33: any block, and a low byte of 0x01 to 0xEF. -/
def assignedCode (n : Nat) : Nat := n / 239 % 256 * 256 + n % 239 + 1

/-- The event of a reaction of Table 1.6 that no fault table names: its rank is given, its code is a free value within R33. -/
def State.memoryEvent (s : State) (place rank : Nat) : State :=
  s.event { code := assignedCode (Config.memoryCode place), inst := 255, kind := 0, cls := 0, detail := rank, frame := s.frame64 }

/-- An uncorrectable word of flash (Table 1.6). -/
def State.flashUncorrectable (s : State) (a : Nat) : State :=
  let t := { s with badFlash := if s.badFlash.contains (a / 8) then s.badFlash else s.badFlash ++ [a / 8] }
  match flashPlace a with
  | .image kind slot => t.onImage kind slot (fun x => { x with valid := false })
  | .config k =>
    let u := t.onSlot k (fun x => { x with valid := false })
    if s.cfg.slots[k].record.isSome then u.raise 0x1402 k.val else u
  | .template k =>
    let u := { t with motion := { t.motion with badSlot := t.motion.badSlot.set k true } }
    let g := match u.newestTemplate with | some (_, g) => g | none => 0
    State.memoryEvent { u with motion := { u.motion with saveGeneration := g } } 2 2
  | .other => t

/-- An uncorrectable word of Mortar's region: the snapshot, or the transaction that owns it (R98, Table 1.6). -/
def State.mortarUncorrectable (s : State) (a : Nat) : State :=
  let owner := Config.mortarOwner a
  if owner = 0 then State.raise { s with mtr := { s.mtr with now := { s.mtr.now with corrupt := true } } } 0x0212 255
  else
    let t := s.raise 0x0211 255
    match (s.mtr.txns.filter (fun x => !x.state.final))[owner - 1]? with
    | some x =>
      if x.state = .open_ ∨ (x.state = .committing ∧ !x.ring) then t.abortTxn x else t.putTxn { x with spoiled := true }
    | none => t

/-- An uncorrectable word of DRAM, by region (Tables 1.4 and 1.6). -/
def State.dramUncorrectable (s : State) (a : Nat) : State :=
  let t := { s with badDram := if s.badDram.contains (a / 8) then s.badDram else s.badDram ++ [a / 8] }
  if a < 0x6000000 then (t.stick 0x1210 255 6).raise 0x1202 255
  else if a < 0x6800000 then t.memoryEvent 0 2
  else if a < 0x6A00000 then t.mortarUncorrectable a
  else if a < 0x6B00000 then (if t.lanes.standby = .copying then t.startCopy else t)
  else if a < 0x6B20000 then
    let k := (a - 0x6B00000) / 32
    ({ t with log := { t.log with entries := t.log.entries.map (fun (e : Entry) =>
        if (e.seq.toNat - 1) % 4096 = k then { e with invalid := true } else e) } } : State).memoryEvent 1 1
  else t

/-- The uncorrectable words that a range of DRAM or flash meets, by address / 8. -/
def State.badWords (s : State) (flash : Bool) (a n : Nat) : List Nat :=
  (if flash then s.badFlash else s.badDram).filter (touchedWord a n)

/-- A read of `n` bytes of DRAM or flash meets these words: each is counted and acts as Table 1.6 says (R25). -/
def State.meetBad (s : State) (flash : Bool) (a n : Nat) : State :=
  s.each (s.badWords flash a n) (fun w t => if flash then (t.countUncorrectable .flash 1).flashUncorrectable (8 * w)
    else (t.countUncorrectable .dram 1).dramUncorrectable (8 * w))

end Sys2Proof.Machine
end

