-- ==== Sys2Proof/Machine/DataPort.lean ====
section
/-! DEFINITION. The data port (Host Port and Data Port, R354 to R362): spaces, handles, the DATA opcodes and raw bursts. -/

namespace Sys2Proof.Machine

/-! ### Spaces (Table 15.3) -/

/-- The size of a space in bytes. -/
def State.spaceSize (s : State) (space : Nat) : Option Nat :=
  match space with
  | 0 => some (s.devN 0x1200 * 0x100000)
  | 1 => some 0x800000
  | 2 => some 0x20000
  | 3 => some 0x20000
  | 4 => some 0x1000000
  | _ => none

/-- Where a space begins in DRAM. -/
def spaceBase (space : Nat) : Nat := match space with | 1 => 0x6000000 | 2 => 0x6B00000 | 3 => templateSpace | _ => 0

/-- The bytes of a handle's space from an address of the space. -/
def State.spaceRead (s : State) (h : Handle) (a n : Nat) : List Byte :=
  if h.space = 4 then s.flashRead a n else s.dramRead (spaceBase h.space + a) n

/-- The uncorrectable words that a range of a space meets, by address / 8 in its memory. -/
def State.spaceBad (s : State) (h : Handle) (a n : Nat) : List Nat :=
  if h.space = 4 then s.badWords true a n else s.badWords false (spaceBase h.space + a) n

/-- The copy of the table that a TEMPLATE handle serves (R355), as it stood after the last frame; a cleared entry is eight bytes
of zero, as unlisted DRAM is. -/
def State.copyTable (s : State) : State :=
  let t := { s with dram := s.dram.filter (fun c => !(decide (templateSpace ≤ c.1) && decide (c.1 < templateSpace + 0x20000)))
                    badDram := s.badDram.filter (fun w => !wholeWord templateSpace 0x20000 w) }
  t.each s.motion.binsLast (fun (k, b) t => t.dramWrite (templateSpace + 8 * k) (binRow b))

/-- Replace the bytes of bad words by 0xFF (R429). -/
def maskBad (a : Nat) (bad : List Nat) (bs : List Byte) : List Byte :=
  (bs.zip (List.range bs.length)).map (fun (b, i) => if bad.contains ((a + i) / 8) then 0xFF else b)

/-- A read of a handle's range (R355): the bytes, or none where an uncorrectable word fails it; each such word acts as Table 1.6
says. In the QUARRY space the affected words read 0xFF. -/
def State.portRead (s : State) (h : Handle) (a n : Nat) : State × Option (List Byte) :=
  let bad := s.spaceBad h a n
  let bs := s.spaceRead h a n
  let t := s.meetBad (h.space = 4) (if h.space = 4 then a else spaceBase h.space + a) n
  if bad = [] then (s, some bs)
  else if h.space = 0 then (t, some (maskBad a bad bs))
  else (t, none)

/-! ### Handles -/

def State.handle (s : State) (k : Fin 8) (b : Byte) : Option (Fin 8 × Handle) :=
  if h : 1 ≤ b.toNat ∧ b.toNat ≤ 8 then
    let i : Fin 8 := ⟨b.toNat - 1, by omega⟩
    match s.hp.handles[i] with
    | some x => if x.owner = k ∧ ¬x.ended then some (i, x) else none
    | none => none
  else none

/-- A raw burst of a handle is in progress at the tick (R357). -/
def State.bursting (s : State) (i : Fin 8) : Bool :=
  let p := s.hp.pins
  decide (p.burst = some i) && decide (p.fell ≤ s.tb.tickAt) && decide (s.tb.tickAt < p.rose)

def State.setHandle (s : State) (i : Fin 8) (o : Option Handle) : State :=
  { s with hp := { s.hp with handles := s.hp.handles.set i o } }

/-- The address of a handle in its space (R356). -/
def Handle.at_ (h : Handle) : Nat := h.base + h.moved
def Handle.left (h : Handle) : Nat := h.length - h.moved

/-- Release the handles of a session, one in a raw burst at its end (R357, R64). -/
def State.releaseHandles (s : State) (k : Fin 8) : State :=
  { s with hp := { s.hp with handles := Vector.ofFn (fun i : Fin 8 =>
      (s.hp.handles[i]).bind (fun h =>
        if h.owner = k then (if s.bursting i then some { h with ended := true } else none) else some h)) } }

/-- Release the handles of ended sessions whose bursts are over (R357). -/
def State.endBursts (s : State) : State :=
  { s with hp := { s.hp with handles := Vector.ofFn (fun i : Fin 8 =>
      (s.hp.handles[i]).bind (fun h => if h.ended ∧ ¬s.bursting i then none else some h)) } }

/-- Whether two ranges of the staging region overlap. -/
def overlaps (a n b m : Nat) : Bool := decide (a < b + m) && decide (b < a + n)

/-- DATA_OPEN (R354, R355, R358). Opening for writing is a request of role C (Table 3.6), which isolated hold refuses (R103). -/
def execDataOpen (r : Req) (space flags : Byte) (address length : Word) (s : State) : Host.Outcome State Fault Refusal :=
  let write := flags.getLsbD 0
  .next (s.requestRow ⟨0x60, if write then .control else .observer, .rs, false, .refused, write⟩ r (fun k s =>
    let size := (s.spaceSize space.toNat).getD 0
    let mine := (allFin 8).filter (fun i => match s.hp.handles[i] with | some h => h.owner = k && !h.ended | none => false)
    let have_ := fun (p : Handle → Bool) => s.hp.handles.toList.any (fun o => match o with | some h => p h | none => false)
    let free := (allFin 8).find? (fun i => (s.hp.handles[i]).isNone)
    s.checked r 0x60 [
      (decide (4 < space.toNat ∨ 2 ≤ flags.toNat) || (write && space != 1), Status.badParameter),
      (decide (length.toNat = 0 ∨ size < address.toNat + length.toNat), Status.outOfRange),
      (free.isNone || decide (4 ≤ mine.length), Status.busy),
      (write && have_ (fun h => h.space = 1 && h.write), Status.busy),
      (space = 3 && have_ (fun h => h.space = 3), Status.busy),
      (write && (match s.cfg.flashRange with | some (o, n) => overlaps o n address.toNat length.toNat | none => false), Status.busy),
      (space = 4 && !decide (s.power.mode = .service), Status.wrongMode)]
      (fun s =>
        match free with
        | some i =>
          let h : Handle := { owner := k, space := space.toNat, write := write, base := address.toNat, length := length.toNat }
          ((if space = 3 then s.copyTable else s).setHandle i (some h)).answer r 0x60 Status.ok (.bytes (leBytes 1 (i.val + 1) ++ pad 3))
        | none => s.refuse r 0x60 Status.busy)))

/-- DATA_READ (R356). -/
def execDataRead (r : Req) (handle : Byte) (length : Half) (s : State) : Host.Outcome State Fault Refusal :=
  .next (s.request 0x61 r (fun k s =>
    match s.handle k handle with
    | none => s.refuse r 0x61 Status.badParameter
    | some (i, h) =>
      let n := min length.toNat h.left
      s.checked r 0x61 [(decide (length.toNat < 1 ∨ 1016 < length.toNat), Status.outOfRange), (s.bursting i, Status.busy), (decide (n = 0), Status.outOfRange)] (fun s =>
        match s.portRead h h.at_ n with
        | (t, some bs) =>
          (t.setHandle i (some { h with moved := h.moved + n })).answer r 0x61 Status.ok (.bytes (leBytes 4 h.at_ ++ bs))
        | (t, none) => t.refuse r 0x61 Status.internal)))

/-- DATA_WRITE (R356). -/
def execDataWrite (r : Req) (handle : Byte) (bytes : List Byte) (s : State) : Host.Outcome State Fault Refusal :=
  .next (s.request 0x62 r (fun k s =>
    match s.handle k handle with
    | none => s.refuse r 0x62 Status.badParameter
    | some (i, h) =>
      s.checked r 0x62 [(!h.write, Status.badParameter), (s.bursting i, Status.busy), (decide (h.left < bytes.length), Status.outOfRange)] (fun s =>
        let t := (s.dramWrite (spaceBase 1 + h.at_) bytes).setHandle i (some { h with moved := h.moved + bytes.length })
        t.answer r 0x62 Status.ok (.bytes (leBytes 4 (h.at_ + bytes.length))))))

/-- DATA_CLOSE (R356). -/
def execDataClose (r : Req) (handle : Byte) (s : State) : Host.Outcome State Fault Refusal :=
  .next (s.request 0x63 r (fun k s =>
    match s.handle k handle with
    | none => s.refuse r 0x63 Status.badParameter
    | some (i, h) =>
      if s.bursting i then s.refuse r 0x63 Status.busy
      else match s.portRead h h.base h.moved with
      | (t, some bs) =>
        (t.setHandle i none).answer r 0x63 Status.ok (.bytes (leBytes 4 h.moved ++ leBytes 4 (crc32c bs).toNat))
      | (t, none) => t.refuse r 0x63 Status.internal))

/-! ### SPI frames (R347 to R350) -/

/-- A frame is ignored and counted; the first since the sticky bit was cleared logs its event (R348, R350, R363). -/
def State.frameError (s : State) : State :=
  let t := s.count 0x0E11 255
  if t.stuck 0x0E10 255 0 then t else (t.stick 0x0E10 255 0).raiseAgain 0x0E01 255

/-- Whether the port takes a frame at all: the device is powered and past boot (DEDUCED, notes/assumptions/71). -/
def State.portUp (s : State) : Bool := !s.power.booting && !decide (s.power.mode = .keep)

/-- Both receive buffers are occupied at a count (R351). -/
def State.rxFull (s : State) (count : Nat) : Bool := decide (2 ≤ (s.hp.pins.buffers.filter (fun c => decide (count < c))).length)

/-- The level on RDY at a count (R349). While CS_N is high it is 1 when the port can take a new frame; from the fall of CS_N it is
0, until a read frame has its first data byte ready. -/
def State.rdy (s : State) (count : Nat) : Bool :=
  let p := s.hp.pins
  if p.fell ≤ count ∧ count < p.rose then (match p.readyAt with | some c => decide (c ≤ count) | none => false)
  else s.portUp && decide (p.busyTo ≤ count) && !s.rxFull count

def State.onPins (s : State) (f : SpiPins → SpiPins) : State := { s with hp := { s.hp with pins := f s.hp.pins } }

/-- A free count, at most `most` (a time of which the manual gives the upper bound). -/
def State.within (s : State) (most : Nat) : Nat × State :=
  let (v, t) := s.draw
  (v.toNat % (most + 1), t)

/-- A frame that R348 and R350 admit. A read frame has its data ready at most `delay` counts after the last bit of its command or
header; a write frame, without delay, never raises RDY. -/
def State.spiFrame (s : State) (f : SpiFrame) (delay : Option Nat) (act : State → State) : State :=
  if s.power.mode = .keep then s
  else
    let seen (c : Option Nat) (t : State) : State := t.onPins (fun p => { p with fell := f.fell, rose := f.rose, readyAt := c, burst := none })
    if !s.rdy f.fell || f.otherType || f.cut || !f.timingOk || (f.quad && decide (s.dev 0x0E00 = 0)) then (seen none s).frameError
    else
      match delay with
      | none => act (seen none s)
      | some most =>
        let (n, t) := s.within most
        act (seen (some (f.headed + n)) t)

/-- The slot of the SPI session. -/
def State.spiSlot (s : State) : Option (Fin 8) := s.slotOf { port := .spi }

/-- The check of a raw burst's handle (R359 to R361): its handle, or the status that refuses it with the address of a known handle,
0 for an unknown one (DESIGN CHOICE, notes/assumptions/129). -/
def State.burstCheck (s : State) (handle : Byte) (length : Nat) (write : Bool) : (Nat × Nat) ⊕ (Fin 8 × Handle) :=
  match s.spiSlot.bind (fun k => s.handle k handle) with
  | none => .inl (if s.power.mode = .dormant then Status.wrongMode else Status.badParameter, 0)
  | some (i, h) =>
    if s.power.mode = .dormant then .inl (Status.wrongMode, h.at_)
    else if write && !h.write then .inl (Status.badParameter, h.at_)
    else if length < 1 ∨ 65536 < length ∨ h.left < length then .inl (Status.outOfRange, h.at_)
    else .inr (i, h)

def State.setBurst (s : State) (status : Nat) : State := { s with hp := { s.hp with burstStatus := BitVec.ofNat 8 status } }
def State.driveOut (s : State) (bs : List Byte) : State := { s with hp := { s.hp with driven := bs } }

/-- What the host clocked out of a frame. -/
def clocked (f : SpiFrame) (bs : List Byte) : List Byte := if f.complete then bs else bs.take f.count

/-- RAW_READ (R359, R360): the header is followed by the data and its CRC only when the status is OK. The handle advances by
the bytes of the data that were clocked out (R356). -/
def execRawRead (f : SpiFrame) (handle : Byte) (length : Word) (s : State) : Host.Outcome State Fault Refusal :=
  .next (s.spiFrame f (some 1000) (fun s =>
    let refuse := fun (status start : Nat) (s : State) => (s.setBurst status).driveOut (clocked f (leBytes 4 status ++ leBytes 4 start))
    match s.burstCheck handle length.toNat false with
    | .inl (status, start) => refuse status start s
    | .inr (i, h) =>
      match (s.onPins (fun p => { p with burst := some i })).portRead h h.at_ length.toNat with
      | (t, none) => refuse Status.internal h.at_ t
      | (t, some bs) =>
        let body := leBytes 4 Status.ok ++ leBytes 4 h.at_ ++ bs
        let n := if f.complete then length.toNat else min (f.count - 8) length.toNat
        let t := t.setHandle i (some { h with moved := h.moved + n })
        (if f.complete then t.setBurst Status.ok else t).driveOut (clocked f (body ++ leBytes 4 (crc32c body).toNat))))

/-- `n` bytes the manual leaves undefined. -/
def freeBytes (k n : Nat) : List Byte := (List.range n).map (fun i => BitVec.ofInt 8 (Config.freeInt (k + i)))

/-- RAW_WRITE (R361): RDY rises at most 2 µs after CS_N. The data is written as it arrives and checked when CS_N rises; on a
mismatch the content of the burst's range is undefined until rewritten, and the handle does not advance. -/
def execRawWrite (f : SpiFrame) (handle : Byte) (length : Word) (bytes : List Byte) (crc : Word) (s : State) :
    Host.Outcome State Fault Refusal :=
  .next (s.spiFrame f none (fun s =>
    let (n, s) := s.within 400
    let s := s.onPins (fun p => { p with busyTo := f.rose + n })
    match s.burstCheck handle length.toNat true with
    | .inl (status, _) => s.setBurst status
    | .inr (i, h) =>
      let s := s.onPins (fun p => { p with burst := some i })
      let header := [handle, 0, 0, 0] ++ leBytes 4 length.toNat
      if f.complete && decide (bytes.length = length.toNat) && decide (crc32c (header ++ bytes) = crc) then
        ((s.dramWrite (spaceBase 1 + h.at_) bytes).setHandle i (some { h with moved := h.moved + length.toNat })).setBurst Status.ok
      else
        let t := s.dramWrite (spaceBase 1 + h.at_) (freeBytes s.free length.toNat)
        let t := { t with free := t.free + length.toNat }
        ((t.count 0x0E12 255).stick 0x0E10 255 1).setBurst Status.badCrc))

end Sys2Proof.Machine
end

