-- ==== Sys2Proof/Machine/Params.lean ====
section
/-! DEFINITION. Parameter access (R4, R8, R9, R69 to R73, R504): the checks of a write in the order of R71, its effect,
and the meanings of the reads, the writes and the parameter writes with a row of their own. -/

namespace Sys2Proof.Machine

/-! ### Checks of a write (R71) -/

/-- A value inside the row's range, or its extra value, and a multiple of its step. -/
def ParamRow.accepts (row : ParamRow) (x : Int) : Bool :=
  (decide (row.lo ≤ x) && decide (x ≤ row.hi) || row.extra = some x) && x % row.step = 0

/-- RING.SUCCESSION names no node twice, has no entry after a 0 nibble, and names nodes 1 to 8. -/
def successionOk (x : Nat) : Bool :=
  let l := (List.range 7).map (fun i => x / 16 ^ i % 16)
  let used := l.takeWhile (fun n => decide (n ≠ 0))
  (l.drop used.length).all (fun n => n = 0) && used.all (fun n => n ≤ 8) && decide used.Nodup

/-- The first term of R205 at full amplitude, on both bays of a pair. -/
def State.runCurrentOk (s : State) (k : Nat) (amps : Int) : Bool :=
  [2 * k, 2 * k + 1].all (fun n =>
    let b : Fin 16 := Fin.ofNat 16 n
    decide (rdiv (s.gainOf b * amps * s.par 0x0501 b.val * 255) 1200000000 ≤ 255))

/-- A rule of the owning chapter that relates a value to another parameter is broken (R71 step 4). -/
def State.relationBroken (v : State) (i k : Nat) (x : Int) : Bool :=
  let other := fun (j : Nat) => v.par j k
  if i = 0x0304 then x < other 0x0302
  else if i = 0x0302 then other 0x0304 < x
  else if i = 0x0400 then other 0x0401 < x + 5000
  else if i = 0x0401 then x < other 0x0400 + 5000
  else if i = 0x0622 then x ≤ other 0x0623
  else if i = 0x0623 then other 0x0622 ≤ x
  else if i = 0x0802 then x < other 0x0803 || !v.runCurrentOk k x
  else if i = 0x0803 then other 0x0802 < x
  else if i = 0x0902 ∨ i = 0x090E ∨ i = 0x091B ∨ i = 0x091C ∨ i = 0x0A05 then other 0x0906 < x
  else if i = 0x0906 then [0x0902, 0x090E, 0x091B, 0x091C, 0x0A05].any (fun j => x < other j)
  else if i = 0x0903 ∨ i = 0x0904 then other 0x0907 < x
  else if i = 0x0907 then x < other 0x0903 || x < other 0x0904
  else if i = 0x0905 then other 0x0908 < x
  else if i = 0x0908 then x < other 0x0905
  else if i = 0x0909 then other 0x090A ≤ x
  else if i = 0x090A then x ≤ other 0x0909
  else if 0x0A11 ≤ i ∧ i ≤ 0x0A17 then
    (decide (0x0A11 < i) && decide (x < other (i - 1))) || (decide (i < 0x0A17) && decide (other (i + 1) < x))
  else if i = 0x0C20 then other 0x0C08 ≤ x
  else if i = 0x0F01 then !successionOk x.toNat
  else false

/-- A field of a value that must be 0 or a combination that the chapter forbids (R3, R123 step 3). -/
def badCombination (i : Nat) (x : Int) : Bool :=
  (0x1100 ≤ i && i < 0x1180 && decide (i % 64 = 0x16) && decide (64 ≤ x)) || (i = 0x0307 && decide (x = 7))

/-- The state checks of R71 step 5 (R114, R123, R272, R294, R344, R397, R457), which see the parameters in force. -/
def State.writeBusy (v : State) (i k : Nat) : Bool :=
  let axisOn := fun (b : Nat) => (v.ax (v.axisOfBay (Fin.ofNat 16 b))).state.enabled
  if i = 0x0300 then axisOn k
  else if i = 0x0307 then !decide ((v.ax (v.axisOfBay (Fin.ofNat 16 (k / 3)))).state = .disabled)
  else if 0x0A80 ≤ i ∧ i < 0x0B00 then decide ((v.ax (Fin.ofNat 16 k)).bank = (i - 0x0A80) / 0x40) && (v.ax (Fin.ofNat 16 k)).state.enabled
  else if i = 0x0B18 then v.motion.saving || v.cfg.flash.isSome || decide (v.power.mode = .limp)
  else if i = 0x1004 then (allFin 16).any (fun a => match (v.ax a).follow with | some f => f.counter.val = k | none => false)
  else false

/-- The status with which a write is refused, none when it passes (R71). Sub-indices are those of the pair types in force; `v` is
the state whose values the entry is related to; `staged` is whether TAG ≠ 0. R90 refuses a staged SVC or SAF entry, after the
class check of step 2. A staged write meets the state checks at staging and none at its commit tick (DEDUCED,
notes/assumptions/104). -/
def State.writeRefusal (s v : State) (staged : Bool) (e : WriteEntry) : Option Nat :=
  let i := e.index.toNat
  let k := e.sub.toNat
  match s.accessible i k with
  | none => some Status.badParameter
  | some row =>
    let service : Bool := s.power.mode = .service
    let x := (row.type.decode e.value).getD 0
    let word : Bool := match row.access with | .status _ => true | _ => false
    firstFail [
      (decide (e.type.toNat ≠ row.type.code ∨ row.access = .ro), Status.badParameter),
      (staged && decide (row.commit = .imm), Status.badParameter),
      ((decide (row.commit = .svc ∨ row.commit = .saf) || decide (i = 0x0307)) && !service, Status.wrongMode),
      (decide (row.commit = .saf), Status.authFail),
      (staged && decide (row.commit = .svc), Status.badParameter),
      ((row.type.decode e.value).isNone, Status.badParameter),
      (!word && (!row.accepts x || v.relationBroken i k x), Status.outOfRange),
      (badCombination i x, Status.badParameter),
      (s.writeBusy i k, Status.busy)]

def writeRow (e : WriteEntry) : Option ParamRow := ParamTable.find e.index.toNat
def writeValue (e : WriteEntry) : Int :=
  match writeRow e with
  | some row => (row.type.decode e.value).getD 0
  | none => 0
def writeCommit (e : WriteEntry) : Commit := match writeRow e with | some row => row.commit | none => .imm

/-- The values a write is checked against: those in force with the pending SVC values (R136). -/
def State.pendingView (s : State) : State := s.each s.svcPending (fun (k, x) t => t.setPar (k / 256) (k % 256) x)

/-- The value that a list of entries gives the carrier of a bay: that of the last one that names it (R73). -/
def carrierIn (b : Nat) (es : List WriteEntry) : Option Long :=
  (es.reverse.find? (fun f => f.index = 0x0300 && decide (f.sub.toNat = b))).map (fun f => f.value)

/-- The bay that shares a stepper pair with a bay. -/
def pairBay (b : Nat) : Nat := if b % 2 = 0 then b + 1 else b - 1

/-- The refusal of a list of entries with the position of the failing one (R73). The list may not give the bays of a stepper pair
different carriers (R107); a bay named twice has its later value, and the second bay's first entry fails (DEDUCED,
notes/assumptions/147). -/
def State.entriesRefusal (s v : State) (staged : Bool) (n : Nat) (seen : List WriteEntry) : List WriteEntry → Option (Nat × Nat)
  | [] => none
  | e :: rest =>
    let clash : Bool := e.index = 0x0300 && s.isStepper (e.sub.toNat / 2) &&
      (carrierIn (pairBay e.sub.toNat) seen).isSome &&
      decide (carrierIn (pairBay e.sub.toNat) (seen ++ e :: rest) ≠ carrierIn e.sub.toNat (seen ++ e :: rest))
    match s.writeRefusal v staged e with
    | some status => some (status, n)
    | none =>
      if clash then some (Status.badParameter, n)
      else s.entriesRefusal (v.setPar e.index.toNat e.sub.toNat (writeValue e)) staged (n + 1) (seen ++ [e]) rest

/-- What a refused PWM.GATE_OVERRIDE that would turn on both gates raises (R123 step 3). -/
def State.overrideBlocked (s : State) (es : List WriteEntry) (n : Nat) : State :=
  match es[n]? with
  | some e =>
    if e.index = 0x0307 ∧ e.value = 7 ∧ s.power.mode = .service ∧ e.type = 1 ∧ e.sub.toNat < 48 then
      (s.stick 0x0310 (e.sub.toNat / 3) 7).raise 0x0303 (e.sub.toNat / 3)
    else s
  | none => s

/-! ### Effects of a write -/

/-- A committed carrier period is held until LOAD_ALL (R107, R114). -/
def State.writeCarrier (s : State) (b : Nat) (x : Int) : State :=
  let bays := s.baysOfAxis (s.axisOfBay (Fin.ofNat 16 b))
  s.each bays (fun y t => (t.setPar 0x0300 y.val x).onBay y (fun z => { z with carrierHeld := some (if x = 0 then 10000 else 5000) }))

/-- FIO.LOCK_ON becomes 1: the frame is remembered (R408). -/
def State.writeLock (s : State) (h : Nat) (x : Int) : State :=
  let rest := s.fio.lockSince.filter (fun p => decide (p.1 ≠ h))
  let t := if x = 1 then (if s.par 0x1021 h = 1 then s else s.onFio (fun f => { f with lockSince := rest ++ [(h, s.frame64)] }))
    else s.onFio (fun f => { f with lockSince := rest })
  t.setPar 0x1021 h x

/-- A parameter takes a value, with what its chapter makes of it at that tick. -/
def State.takeValue (s : State) (i k : Nat) (x : Int) : State :=
  if i = 0x0300 then s.writeCarrier k x
  else if i = 0x0B18 then s.startSave
  else if i = 0x1004 then (s.setPar i k x).presetCounter (Fin.ofNat 8 k) (BitVec.ofInt 32 x)
  else if i = 0x1021 then s.writeLock k x
  else if i = 0x1201 then (s.setPar i k x).quarryRelease (BitVec.ofInt 32 x)
  else s.setPar i k x

/-- Clear the W1C bits that a write to a status word names (R504). -/
def State.clearBits (s : State) (i k : Nat) (w1c : Nat) (x : Int) : State :=
  s.setPar i k (s.parN i k &&& (0xFFFFFFFF - (x.toNat &&& w1c) % 4294967296) : Nat)

/-- The effect of one accepted entry at its tick: an SVC value waits for the end of Service (R72). -/
def State.applyEntry (s : State) (e : WriteEntry) : State :=
  let i := e.index.toNat
  let k := e.sub.toNat
  let x := writeValue e
  match writeRow e with
  | none => s
  | some row =>
    match row.access, row.commit with
    | .status m, _ => s.clearBits i k m x
    | _, .svc => { s with svcPending := s.svcPending ++ [(regKey i k, x)] }
    | _, _ => s.takeValue i k x

/-- The effect of a list of entries (R73). -/
def State.applyEntries (s : State) (es : List WriteEntry) : State := s.each es (fun e t => t.applyEntry e)

/-! ### The requests -/

/-- The reply fields of a write: the apply frame, and for PARAM_WRITE_MULTI the failing entry. -/
def writeFields (multi : Bool) (frame : Word) (failing : Nat) : List Byte :=
  leBytes 4 frame.toNat ++ (if multi then leBytes 1 failing ++ pad 3 else [])

/-- A write of one or more entries at its tick (R71 to R73), staged when TAG ≠ 0 (R91). -/
def State.writeRequest (s : State) (multi : Bool) (r : Req) (cmd : Instr) (es : List WriteEntry) : State :=
  let code := if multi then 0x13 else 0x11
  s.request code r (fun slot s =>
    if multi ∧ (es.length < 1 ∨ 64 < es.length) then s.refuse r code Status.outOfRange
    else
      match s.entriesRefusal s.pendingView (decide (r.tag ≠ 0)) 0 [] es with
      | some (status, n) =>
        (s.overrideBlocked es (if status = Status.badParameter ∧ r.tag = 0 then n else es.length)).answer r code status
          (if multi then .bytes (writeFields true 0xFFFFFFFF n) else .bare)
      | none =>
        s.stageOr slot r code cmd [] id Status.pending (fun _ => .bytes (writeFields multi 0xFFFFFFFF 255)) (fun s =>
          let waits := (some slot, r.seq, BitVec.ofNat 8 code)
          if es.any (fun e => writeCommit e = .svc) then
            let t := s.applyEntries es
            State.answer { t with svcWaiting := t.svcWaiting ++ [waits] } r code Status.pending (.bytes (writeFields multi 0xFFFFFFFF 255))
          else if s.power.mode = .dormant ∧ es.any (fun e => writeCommit e = .frm) then
            let late := es.filter (fun e => writeCommit e = .frm)
            let t := s.applyEntries (es.filter (fun e => writeCommit e ≠ .frm))
            let t := { t with frmPending := t.frmPending ++ late.map (fun (e : WriteEntry) => (regKey e.index.toNat e.sub.toNat, writeValue e))
                              frmWaiting := t.frmWaiting ++ [waits] }
            t.answer r code Status.pending (.bytes (writeFields multi 0xFFFFFFFF 255))
          else (s.applyEntries es).answer r code Status.ok (.bytes (writeFields multi s.frame32 255))))

/-- PARAM_READ (R69). -/
def execParamRead (r : Req) (index : Half) (sub : Byte) (s : State) : Host.Outcome State Fault Refusal :=
  .next (s.request 0x10 r (fun _ s =>
    if (s.accessible index.toNat sub.toNat).isNone then s.refuse r 0x10 Status.badParameter
    else s.answer r 0x10 Status.ok (.param index.toNat sub.toNat)))

/-- PARAM_READ_MULTI (R69): each entry carries a status of its own. With an entry that cannot be read the reply is OK still, and
that entry carries BAD_PARAMETER and the value 0 (DESIGN CHOICE, notes/assumptions/105). -/
def execParamReadMulti (r : Req) (entries : List (Half × Byte)) (s : State) : Host.Outcome State Fault Refusal :=
  .next (s.request 0x12 r (fun _ s =>
    if entries.length < 1 ∨ 64 < entries.length then s.refuse r 0x12 Status.outOfRange
    else s.answer r 0x12 Status.ok (.params entries)))

/-- PARAM_WRITE (R71, R72). -/
def execParamWrite (r : Req) (e : WriteEntry) (s : State) : Host.Outcome State Fault Refusal :=
  .next (s.writeRequest false r (.paramWrite r e) [e])

/-- PARAM_WRITE_MULTI (R73). -/
def execParamWriteMulti (r : Req) (entries : List WriteEntry) (s : State) : Host.Outcome State Fault Refusal :=
  .next (s.writeRequest true r (.paramWriteMulti r entries) entries)

/-- STATUS_WORD_WRITE (R504). -/
def execStatusWordWrite (r : Req) (e : WriteEntry) (s : State) : Host.Outcome State Fault Refusal :=
  .next (s.writeRequest false r (.statusWordWrite r e) [e])

/-- TPL_SAVE (R294). -/
def execTplSave (r : Req) (value : Long) (s : State) : Host.Outcome State Fault Refusal :=
  .next (s.writeRequest false r (.tplSave r value) [⟨0x0B18, 0xFF, 1, value⟩])

/-- QRY_RELEASE (R438). -/
def execQryRelease (r : Req) (value : Long) (s : State) : Host.Outcome State Fault Refusal :=
  .next (s.writeRequest false r (.qryRelease r value) [⟨0x1201, 0xFF, 3, value⟩])

/-- CNT_PRESET (R397). -/
def execCntPreset (r : Req) (counter : Byte) (value : Long) (s : State) : Host.Outcome State Fault Refusal :=
  .next (s.writeRequest false r (.cntPreset r counter value) [⟨0x1004, counter, 3, value⟩])

/-- GATE_OVERRIDE (R123). -/
def execGateOverride (r : Req) (hb : Byte) (value : Long) (s : State) : Host.Outcome State Fault Refusal :=
  .next (s.writeRequest false r (.gateOverride r hb value) [⟨0x0307, hb, 1, value⟩])

/-- CARRIER_WRITE (R107, R114). -/
def execCarrierWrite (r : Req) (bay : Byte) (value : Long) (s : State) : Host.Outcome State Fault Refusal :=
  .next (s.writeRequest false r (.carrierWrite r bay value) [⟨0x0300, bay, 10, value⟩])

/-- BANK_SWAP (R272, R275): the gains of the other bank become the goal, ramped by the loop engine. -/
def execBankSwap (r : Req) (axis : Byte) (value : Long) (s : State) : Host.Outcome State Fault Refusal :=
  .next (s.writeRequest false r (.bankSwap r axis value) [⟨0x0A0D, axis, 10, value⟩])

end Sys2Proof.Machine
end

