-- ==== Sys2Proof/Machine/ConfigSets.lean ====
section
/-! DEFINITION. Configuration sets (R456 to R466): their layout and checks, state records, staging, activation, trials
and rollback. -/

namespace Sys2Proof.Machine

/-! ### State records (R456, Table 20.1) -/

def RecordKind.code : RecordKind → Nat
  | .staged => 1 | .activated => 2 | .trial => 3 | .confirmed => 4 | .booted => 5 | .rolledBack => 6

def recordBytes (kind : RecordKind) (generation : Nat) (version : Word) : List Byte :=
  let b := leBytes 1 kind.code ++ pad 3 ++ leBytes 4 generation ++ leBytes 4 version.toNat
  b ++ leBytes 4 (crc32c b).toNat

/-- Append a record at the first erased place of the state area at `area`; a full area takes no more. -/
def State.appendRecord (s : State) (area : Nat) (bs : List Byte) : State :=
  match (List.range 256).find? (fun i => (s.flashRead (area + 16 * i) 16).all (fun b => b = 0xFF)) with
  | some i => s.flashProgram (area + 16 * i) bs
  | none => s

/-- The state area of a configuration slot and of an image slot: its last 4 KiB. -/
def cfgArea (k : Fin 8) : Nat := cfgBase k.val + 0x3F000
def imageArea (kind slot : Fin 2) : Nat := imageBase kind slot + (if kind = 0 then 0x1FF000 else 0x7F000)

/-- Write a record to a configuration slot. -/
def State.recordSlot (s : State) (k : Fin 8) (kind : RecordKind) (generation : Nat) : State :=
  (s.appendRecord (cfgArea k) (recordBytes kind generation s.cfg.slots[k].version)).onSlot k (fun x =>
    { x with record := some (kind, generation), wasConfirmed := x.wasConfirmed || kind = .confirmed })

/-- Write a record to an image slot. -/
def State.recordImage (s : State) (kind slot : Fin 2) (rk : RecordKind) (generation : Nat) : State :=
  let version := BitVec.ofNat 32 (s.imageField kind slot 8 4)
  (s.appendRecord (imageArea kind slot) (recordBytes rk generation version)).onImage kind slot (fun x =>
    { x with record := some (rk, generation), wasConfirmed := x.wasConfirmed || rk = .confirmed, version := version })

def Slot.generation (x : Slot) : Nat := match x.record with | some (_, g) => g | none => 0

/-- The next activation generation. -/
def State.nextGeneration (s : State) : Nat :=
  1 + (s.cfg.slots.toList ++ s.cfg.lane.toList ++ s.cfg.safety.toList).foldl (fun m x => max m x.generation) 0

/-- The event of Table 20.6 for a configuration slot. -/
def State.configEvent (s : State) (k : Fin 8) (detail : Nat) : State :=
  s.event { code := 0x1480, inst := 255, kind := 2, cls := 7, detail := detail, frame := s.frame64,
            data := leBytes 1 k.val ++ pad 3 ++ leBytes 4 s.cfg.slots[k].version.toNat }

/-! ### Keys (R459, Table 20.3) -/

def keyId (k : List Byte) : Nat := field 0 4 k
def keyUse (k : List Byte) : Nat := field 4 1 k
def keyPublic (k : List Byte) : List Byte := slice 8 64 k
/-- The root signature of a key record. -/
def keyOk (k : List Byte) : Bool := Config.verifies Config.rootKey (slice 0 72 k) (slice 72 64 k)

/-- The keys in the store. -/
def State.keyStore (s : State) : List (List Byte) :=
  (Config.shippedKeys.filter (fun k => !s.cfg.revoked.contains (keyId k))) ++ s.cfg.keys

/-- Whether a signature verifies under a key of the list with an ID and a use bit. -/
def signedBy (keys : List (List Byte)) (id use : Nat) (message signature : List Byte) : Bool :=
  keys.any (fun k => keyId k = id && (keyUse k).testBit use && Config.verifies (keyPublic k) message signature)

/-- One key record enters the store, or removes its ID with use 0. -/
def State.storeKey (s : State) (k : List Byte) : State :=
  let rest := s.cfg.keys.filter (fun x => !(keyId x = keyId k))
  if keyUse k = 0 then { s with cfg := { s.cfg with keys := rest, revoked := s.cfg.revoked ++ [keyId k] } }
  else { s with cfg := { s.cfg with keys := rest ++ [k], revoked := s.cfg.revoked ++ [keyId k] } }

/-- The verified records of a list enter the store, and its flash area (16 places of 136 bytes) is written again. -/
def State.storeKeys (s : State) (l : List (List Byte)) : State :=
  if l.filter keyOk = [] then s
  else
    let t := s.each (l.filter keyOk) (fun k t => t.storeKey k)
    (t.flashErase 0xFFE000 0x1000).flashProgram 0xFFE000 (t.keyStore.flatMap (fun k => slice 0 136 k))

/-! ### The set (Table 20.2) -/

/-- The entries of a set, from their bytes. -/
def setEntries : Nat → List Byte → List WriteEntry
  | n + 1, i0 :: i1 :: k :: t :: rest =>
    { index := i1 ++ i0, sub := k, type := t, value := BitVec.ofNat 64 (field 0 8 rest) } :: setEntries n (rest.drop 8)
  | _, _ => []

def setVersion (bs : List Byte) : Word := BitVec.ofNat 32 (field 8 4 bs)
def setSchema (bs : List Byte) : Nat := field 4 2 bs
def setCount (bs : List Byte) : Nat := field 6 2 bs
def entriesOf (bs : List Byte) : List WriteEntry := setEntries (setCount bs) (bs.drop 64)
def carriedSafety (bs : List Byte) : Option (List Byte) := if field 20 4 bs = 0 then none else some (slice (field 20 4 bs) 1184 bs)
def carriedKeys (bs : List Byte) : List (List Byte) :=
  (List.range (field 24 1 bs)).map (fun i => slice (field 28 4 bs + 136 * i) 136 bs)

/-- A part of a set lies between its entries and its signature, aligned to 8 bytes. -/
def partOk (bs : List Byte) (at_ n : Nat) : Bool :=
  at_ % 8 = 0 && decide (64 + 12 * setCount bs ≤ at_) && decide (at_ + n + 64 ≤ bs.length)

/-- Format and length. -/
def setFormatOk (bs : List Byte) : Bool :=
  field 0 4 bs = 1 && field 16 4 bs = bs.length && decide (bs.length ≤ 258048) && decide (setCount bs ≤ 16384) &&
  decide (64 + 12 * setCount bs + 64 ≤ bs.length) && decide (1 ≤ field 8 4 bs) && decide (field 24 1 bs ≤ 4) &&
  (field 20 4 bs = 0 || partOk bs (field 20 4 bs) 1184) && (field 24 1 bs = 0 || partOk bs (field 28 4 bs) (136 * field 24 1 bs))

/-- The signature, under a stored key or one that the set carries. -/
def State.setSigned (s : State) (bs : List Byte) : Bool :=
  let n := bs.length - 64
  signedBy (s.keyStore ++ (carriedKeys bs).filter keyOk) (field 32 4 bs) 3 (slice 0 n bs) (slice n 64 bs)

/-- Schema and compatibility ID against the running lane image's header (Table 20.4). -/
def State.setCompatible (s : State) (bs : List Byte) : Bool :=
  let slot := s.bootSlot 0
  (List.range (min 8 (s.imageField 0 slot 25 1))).any (fun i => s.imageField 0 slot (92 + 2 * i) 2 = setSchema bs) &&
  field 12 4 bs = s.imageField 0 slot 12 4

/-! ### The values of a set (R458) -/

def entryKey (e : WriteEntry) : Nat := regKey e.index.toNat e.sub.toNat

/-- A key names an SVC or FRM parameter. -/
def setKey (k : Nat) : Bool :=
  match ParamTable.find (k / 256) with
  | some row => (row.commit = .svc || row.commit = .frm) && row.access = .rw
  | none => false

/-- The values the device would have under a set: a parameter that the set does not name has its default. -/
def State.underSet (s : State) (es : List WriteEntry) : State :=
  let base := { s with regs := s.regs.filter (fun c => !setKey c.1) }
  base.each es (fun e t => t.setPar e.index.toNat e.sub.toNat (writeValue e))

def repeats : List Nat → Bool
  | [] => false
  | k :: rest => rest.contains k || repeats rest

/-- A well-formed entry: an existing SVC or FRM parameter with its type and a value of that type. -/
def State.entryOk (v : State) (e : WriteEntry) : Bool :=
  match v.accessible e.index.toNat e.sub.toNat with
  | none => false
  | some row => setKey (entryKey e) && decide (e.type.toNat = row.type.code) && (row.type.decode e.value).isSome

/-- An entry inside its range and its relations to the other values of the set. -/
def State.entryInRange (v : State) (e : WriteEntry) : Bool :=
  let i := e.index.toNat
  let x := writeValue e
  match writeRow e with
  | none => false
  | some row => row.accepts x && !v.relationBroken i e.sub.toNat x && !badCombination i x

/-- The relations of the whole set that no single entry shows. -/
def State.setRelations (v : State) (es : List WriteEntry) : Bool :=
  es.all (fun e => e.index ≠ 0x0300 || !v.isStepper (e.sub.toNat / 2) || es.all (fun f =>
    f.index ≠ 0x0300 || decide (f.sub.toNat / 2 ≠ e.sub.toNat / 2) || f.value = e.value)) &&
  (allFin 2).all v.canOk && (allFin 8).all (fun k => v.counterModeOk k.val) &&
  (allFin 8).all (fun k => !v.isStepper k.val || v.runCurrentOk k.val (v.par 0x0802 k.val))

/-- R458. -/
def State.setValuesStatus (s : State) (bs : List Byte) : Option Nat :=
  let es := entriesOf bs
  let v := s.underSet es
  if repeats (es.map entryKey) || !es.all v.entryOk then some Status.imageInvalid
  else if !es.all v.entryInRange || !v.setRelations es then some Status.outOfRange
  else none

/-- The first failing check of R461. -/
def State.setStatus (s : State) (bs : List Byte) : Option Nat :=
  if !setFormatOk bs then some Status.imageInvalid
  else if !s.setSigned bs then some Status.authFail
  else if !s.setCompatible bs then some Status.versionMismatch
  else s.setValuesStatus bs

/-- The set in a slot. -/
def State.slotSet (s : State) (k : Fin 8) : List Byte := s.flashRead (cfgBase k.val) (min 258048 (s.flashField (cfgBase k.val + 16) 4))

/-- The entries of a slot's set; a rollback to no slot has none. -/
def State.entriesIn (s : State) (o : Option (Fin 8)) : List WriteEntry := match o with | some k => entriesOf (s.slotSet k) | none => []

/-- A set would change an SVC value. -/
def State.changesSvc (s : State) (o : Option (Fin 8)) : Bool :=
  let es := s.entriesIn o
  let v := s.underSet es
  (s.regs.map Prod.fst ++ es.map entryKey).any (fun k =>
    (match ParamTable.find (k / 256) with | some row => row.commit = .svc && row.access = .rw | none => false) &&
    decide (v.par (k / 256) (k % 256) ≠ s.par (k / 256) (k % 256)))

/-- The values of a set take effect together, under the pair types that it gives (R107); a write that acts by being written acts
here too. -/
def State.applySet (s : State) (o : Option (Fin 8)) : State :=
  let es := s.entriesIn o
  let v := s.underSet es
  let named := es.map entryKey
  let dropped := (s.regs.map Prod.fst).filter (fun k => setKey k && !named.contains k)
  let t := s.each dropped (fun k t =>
    if k / 256 = 0x0300 ∨ k / 256 = 0x1021 then t.takeValue (k / 256) (k % 256) 0
    else t.setPar (k / 256) (k % 256) (v.par (k / 256) (k % 256)))
  t.each (es.filter (fun e => e.index = 0x0800) ++ es.filter (fun e => e.index ≠ 0x0800)) (fun e t =>
    let i := e.index.toNat
    let k := e.sub.toNat
    if i = 0x1004 ∨ i = 0x1201 ∨ t.par i k ≠ writeValue e then t.takeValue i k (writeValue e) else t)

/-! ### The safety set of a configuration set (R320, R460) -/

/-- The set check code (R319). -/
def safetyCode (bs : List Byte) : Nat := (crc32c (slice 0 1112 bs)).toNat

/-- The active safety-set record: the valid one of higher generation, by place. -/
def State.activeSafety (s : State) : Option (Fin 2 × Nat × List Byte) :=
  match s.cfg.safetySets[(0 : Fin 2)], s.cfg.safetySets[(1 : Fin 2)] with
  | some (g, a), some (h, b) => if g < h then some (1, h, b) else some (0, g, a)
  | some (g, a), none => some (0, g, a)
  | none, some (h, b) => some (1, h, b)
  | none, none => none

/-- The record that is not active: the one the previous configuration ran with. -/
def State.olderSafety (s : State) : Option (List Byte) :=
  match s.activeSafety with
  | some (0, _, _) => (s.cfg.safetySets[(1 : Fin 2)]).map Prod.snd
  | some (_, _, _) => (s.cfg.safetySets[(0 : Fin 2)]).map Prod.snd
  | none => none

def State.safetyCodeNow (s : State) : Nat := match s.activeSafety with | some (_, _, b) => safetyCode b | none => 0

/-- An activation would change the set check code. -/
def State.changesSafety (s : State) (k : Fin 8) : Bool :=
  match carriedSafety (s.slotSet k) with
  | some b => decide (safetyCode b ≠ s.safetyCodeNow)
  | none => false

/-- A rollback would change it: the set in force came with the slot that is left, and the older record differs. -/
def State.rollsSafetyBack (s : State) : Bool :=
  match s.cfg.activeSlot, s.olderSafety with
  | some k, some old =>
    (match carriedSafety (s.slotSet k) with | some b => decide (safetyCode b = s.safetyCodeNow) | none => false) &&
    decide (safetyCode old ≠ s.safetyCodeNow)
  | _, _ => false

/-- The values of a safety set take effect (R319); the channel leaves LOCKED where only the invalid set held it (R320). -/
def State.loadSafetyValues (s : State) (bs : List Byte) : State :=
  let t := s.each (setEntries 90 (bs.drop 32)) (fun e t => t.setPar e.index.toNat e.sub.toNat (writeValue e))
  (((t.setDev 0x0C32 (safetyCode bs)).clearFault 0x0C11 255).onSaf (fun x => { x with setValid := true })).leaveLocked

/-- A safety set takes effect: it is written to the other record under a new generation, and its values are loaded
(R319, R460). The layout of a record in its 4 KiB is the model's (notes/assumptions/77). -/
def State.loadSafetySet (s : State) (bs : List Byte) : State :=
  let (place, generation) : Fin 2 × Nat := match s.activeSafety with
    | some (0, g, _) => (1, g + 1)
    | some (_, g, _) => (0, g + 1)
    | none => (0, 1)
  let base := 0xFFC000 + 0x1000 * place.val
  let body := leBytes 4 generation ++ bs
  let t := (s.flashErase base 0x1000).flashProgram base (body ++ leBytes 4 (crc32c body).toNat)
  State.loadSafetyValues { t with cfg := { t.cfg with safetySets := t.cfg.safetySets.set place (some (generation, bs)) } } bs

/-! ### CFG_STAGE (R457, R461) -/

/-- A request that reads the staging region: its range, then conflicts with a write handle and the flash operation (R357, R358,
R457). -/
def stagingRange (offset length : Nat) : Bool × Nat := (decide (length = 0 ∨ 0x800000 < offset + length), Status.outOfRange)
def State.stagingBusy (s : State) (offset length : Nat) : List (Bool × Nat) := [
  (s.cfg.flash.isSome || s.saf.setChecking.isSome, Status.busy),
  (s.hp.handles.toList.any (fun o => match o with
    | some h => h.space = 1 && h.write && overlaps h.base h.length offset length
    | none => false), Status.busy)]

def State.stagingChecks (s : State) (offset length : Nat) : List (Bool × Nat) :=
  stagingRange offset length :: s.stagingBusy offset length

/-- A read of the staging region: its bytes, none when it meets an uncorrectable word, which acts as Table 1.6 says. -/
def State.stagedBytes (s : State) (offset length : Nat) : Option (List Byte) × State :=
  let a := 0x6000000 + offset
  (if s.badWords false a length = [] then some (s.dramRead a length) else none, s.meetBad false a length)

/-- Start a flash operation of a request, which replies ACCEPTED_PENDING (R68). -/
def State.startFlash (s : State) (r : Req) (slot : Fin 8) (code : Nat) (op : FlashOp) (offset length : Nat) : State :=
  State.answer { s with cfg := { s.cfg with flash := some op, flashRange := some (offset, length)
                                            requester := some (BitVec.ofNat 8 code, some slot, r.seq) } }
    r code Status.pending .bare

def execCfgStage (r : Req) (slot : Byte) (offset length : Word) (s : State) : Host.Outcome State Fault Refusal :=
  .next (s.request 0x80 r (fun k s =>
    let n : Fin 8 := Fin.ofNat 8 slot.toNat
    let busy := s.cfg.activeSlot = some n || s.cfg.trial = some n || (s.cfg.trial.isSome && s.previousSlot = some n)
    s.checked r 0x80 ([(decide (8 ≤ slot.toNat), Status.badParameter), stagingRange offset.toNat length.toNat, (busy, Status.busy)] ++
        s.stagingBusy offset.toNat length.toNat) (fun s =>
      match s.stagedBytes offset.toNat length.toNat with
      | (none, s) => s.refuse r 0x80 Status.imageInvalid
      | (some bs, s) =>
        match s.setStatus bs with
        | some status => s.refuse r 0x80 status
        | none => s.startFlash r k 0x80 (.configStage n bs) offset.toNat length.toNat)))

/-! ### CFG_ACTIVATE (R462) -/

/-- A set becomes the active one: its record, its event, and its trial (R462, R463). -/
def State.becomeActive (s : State) (k : Fin 8) (trial : Option Nat) : State :=
  let t := (s.recordSlot k (if trial.isSome then .trial else .activated) s.nextGeneration).configEvent k
    (if trial.isSome then 2 else 1)
  { t with cfg := { t.cfg with
      activeSlot := some k
      trial := if trial.isSome then some k else none
      trialEnd := s.tb.tickAt + 200000000 * trial.getD 0 } }

/-- A slot that CFG_ACTIVATE may make active. -/
def Slot.activatable (x : Slot) : Bool :=
  match x.record with
  | some (.staged, _) => true
  | some (.confirmed, _) => true
  | some (.rolledBack, _) => true
  | _ => false

/-- A new key would overfill the store. -/
def State.storeFull (s : State) (l : List (List Byte)) : Bool := decide (16 < (s.storeKeys l).keyStore.length)

def execCfgActivate (r : Req) (slot flags : Byte) (trial : Half) (s : State) : Host.Outcome State Fault Refusal :=
  .next (s.request 0x81 r (fun k s =>
    let n : Fin 8 := Fin.ofNat 8 slot.toNat
    let x := s.cfg.slots[n]
    let service : Bool := s.power.mode = .service
    let seconds : Option Nat :=
      if flags.getLsbD 0 then some (if trial = 0 then s.devN 0x1400 else trial.toNat) else none
    s.checked r 0x81 [
      (decide (8 ≤ slot.toNat ∨ 2 ≤ flags.toNat), Status.badParameter),
      (s.cfg.trial.isSome, Status.busy),
      (x.record.isNone || !x.valid, Status.imageInvalid),
      (!x.activatable, Status.wrongMode),
      (service && s.storeFull (carriedKeys (s.slotSet n)), Status.authFail),
      (!service && (s.changesSvc (some n) || s.changesSafety n), Status.wrongMode)]
      (fun s =>
        if service then
          let t := { s with svcPending := [], cfg := { s.cfg with
            activating := some (n, seconds), activateWaiting := s.cfg.activateWaiting ++ [(some k, r.seq)] } }
          t.answer r 0x81 Status.pending .bare
        else ((s.applySet (some n)).becomeActive n seconds).answer r 0x81 Status.ok .bare)))

/-! ### CFG_CONFIRM (R463, R468) -/

def State.imageEvent (s : State) (kind slot : Fin 2) (detail : Nat) : State :=
  s.event { code := 0x1481, inst := 255, kind := 2, cls := 7, detail := detail, frame := s.frame64,
            data := leBytes 1 kind.val ++ leBytes 1 slot.val ++ pad 2 ++ leBytes 4 (s.imageField kind slot 8 4) }

def Slot.confirmed (x : Slot) : Bool := match x.record with | some (.confirmed, _) => true | _ => false

/-- Confirm the running image of a kind. -/
def State.confirmImage (s : State) (kind : Fin 2) : State × Nat :=
  let slot := s.bootSlot kind
  let x := s.imageAt kind slot
  if x.confirmed then (s, Status.alreadyDone)
  else ((s.recordImage kind slot .confirmed x.generation).imageEvent kind slot 2, Status.ok)

/-- Confirm a configuration slot. -/
def State.confirmSlot (s : State) (n : Fin 8) : State × Nat :=
  let x := s.cfg.slots[n]
  if s.cfg.trial = some n then
    let t := (s.recordSlot n .confirmed x.generation).configEvent n 3
    ({ t with cfg := { t.cfg with trial := none } }, Status.ok)
  else if x.confirmed then (s, Status.alreadyDone)
  else (s, Status.badParameter)

def execCfgConfirm (r : Req) (slot : Byte) (s : State) : Host.Outcome State Fault Refusal :=
  .next (s.request 0x82 r (fun _ s =>
    let (t, status) : State × Nat :=
      if slot = 0x10 then s.confirmImage 0
      else if slot = 0x11 then s.confirmImage 1
      else if slot.toNat < 8 then s.confirmSlot (Fin.ofNat 8 slot.toNat)
      else (s, Status.badParameter)
    t.answer r 0x82 status .bare))

/-! ### Rollback (R464) -/

/-- The values of the slot to which a rollback goes take effect; that slot is the active one. -/
def State.landRollback (s : State) : State :=
  let p := s.previousSlot
  let t := s.applySet p
  { t with cfg := { t.cfg with activeSlot := p, rollbackPending := false } }

/-- Begin a rollback: the records and the event; a change of FRM values alone applies at once (R464). -/
def State.rollBack (s : State) (commanded : Bool) : State :=
  let p := s.previousSlot
  let late := s.changesSvc p || s.rollsSafetyBack
  let t := match s.cfg.activeSlot with
    | some k => (s.recordSlot k .rolledBack s.cfg.slots[k].generation).configEvent k (if commanded then 5 else 4)
    | none => s
  let t := match p with | some n => t.recordSlot n .activated t.nextGeneration | none => t
  let t := { t with cfg := { t.cfg with trial := none } }
  if late then { t with cfg := { t.cfg with rollbackPending := true } } else t.landRollback

def execCfgRollback (r : Req) (s : State) : Host.Outcome State Fault Refusal :=
  .next (s.request 0x83 r (fun k s =>
    let target := match s.previousSlot with | some n => n.val | none => 0
    let fields := Body.bytes (leBytes 1 target ++ pad 3)
    if s.cfg.rollbackPending then s.answer r 0x83 Status.alreadyDone .bare
    else s.checked r 0x83 [
      (s.previousSlot.isNone, Status.imageInvalid),
      (!decide (s.power.mode = .service) && s.rollsSafetyBack, Status.wrongMode)]
      (fun s =>
        let t := s.rollBack true
        if t.cfg.rollbackPending then
          State.answer { t with cfg := { t.cfg with rollbackBy := some (some k, r.seq) } } r 0x83 Status.pending fields
        else t.answer r 0x83 Status.ok fields)))

/-- TRIAL_EXPIRY (R463): at the first tick at or after the end of the trial. -/
def execTrialExpiry (s : State) : Host.Outcome State Fault Refusal :=
  .next (
    if s.cfg.trial.isSome ∧ s.cfg.trialEnd ≤ s.tb.tickAt then
      (((s.rollBack false).raise 0x1401 255).stick 0x1410 255 5)
    else s)

end Sys2Proof.Machine
end

