-- ==== Sys2Proof/Machine/Firmware.lean ====
section
/-! DEFINITION. Firmware images (R466, R467), the safety set (R318, R319), and the completion of a flash operation
(R457). -/

namespace Sys2Proof.Machine

/-! ### Image headers (Table 20.4) -/

/-- The header of an image slot lists a version or a schema among its first entries. -/
def State.imagePairs (s : State) (kind slot : Fin 2) (v : Nat) : Bool :=
  (List.range (min 16 (s.imageField kind slot 24 1))).any (fun i => s.imageField kind slot (28 + 4 * i) 4 = v)
def State.imageSchema (s : State) (kind slot : Fin 2) (v : Nat) : Bool :=
  (List.range (min 8 (s.imageField kind slot 25 1))).any (fun i => s.imageField kind slot (92 + 2 * i) 2 = v)

/-- An image supports the die revisions present. -/
def State.imageFits (s : State) (kind slot : Fin 2) : Bool :=
  (s.imageField kind slot 20 2).testBit Config.ctlRevision.toNat &&
  (allFin 2).all (fun d => (s.imageField kind slot 22 2).testBit (Config.drvRevision d).toNat)

/-- A pairing is listed (R466). -/
def State.pairingListed (s : State) (lane safety : Fin 2) : Bool :=
  s.imagePairs 0 lane (s.imageField 1 safety 8 4) && s.imagePairs 1 safety (s.imageField 0 lane 12 4) &&
  s.imageFits 0 lane && s.imageFits 1 safety &&
  (match s.cfg.activeSlot with | some k => s.imageSchema 0 lane (setSchema (s.slotSet k)) | none => true) &&
  (match s.activeSafety with | some (_, _, b) => s.imageSchema 1 safety (field 4 2 b) | none => true)

/-! ### FW_STAGE and FW_ACTIVATE (R467) -/

/-- The header check: format, kind, length and counts. -/
def headerOk (kind : Nat) (bs : List Byte) : Bool :=
  let code := field 16 4 bs
  let pairs := field 24 1 bs
  let schemas := field 25 1 bs
  decide (4096 ≤ bs.length) && field 0 4 bs = 1 && field 4 1 bs = kind && decide (code ≤ (if kind = 0 then 2088960 else 516096)) &&
  bs.length = 4096 + code && decide (1 ≤ pairs ∧ pairs ≤ 16) && decide (1 ≤ schemas ∧ schemas ≤ 8)

/-- The key's use and the signature over the header and the code. -/
def State.imageSigned (s : State) (kind : Nat) (bs : List Byte) : Bool :=
  signedBy s.keyStore (field 108 4 bs) kind (slice 0 4032 bs ++ bs.drop 4096) (slice 4032 64 bs)

def execFwStage (r : Req) (image : Byte) (offset length : Word) (s : State) : Host.Outcome State Fault Refusal :=
  .next (s.request 0x84 r (fun k s =>
    let kind : Fin 2 := Fin.ofNat 2 image.toNat
    s.checked r 0x84 ((decide (2 ≤ image.toNat), Status.badParameter) :: s.stagingChecks offset.toNat length.toNat) (fun s =>
      match s.stagedBytes offset.toNat length.toNat with
      | (none, s) => s.refuse r 0x84 Status.imageInvalid
      | (some bs, s) =>
        if !headerOk kind.val bs then s.refuse r 0x84 Status.imageInvalid
        else if !s.imageSigned kind.val bs then s.refuse r 0x84 Status.authFail
        else s.startFlash r k 0x84 (.imageStage kind (s.bootSlot kind + 1) bs) offset.toNat length.toNat)))

/-- The slot of a kind that holds a staged image. -/
def State.stagedSlot (s : State) (kind : Fin 2) : Option (Fin 2) :=
  let x := s.imageAt kind (s.bootSlot kind + 1)
  match x.record with
  | some (.staged, _) => if x.valid then some (s.bootSlot kind + 1) else none
  | _ => none

/-- FW_ACTIVATE: the reset that follows within 10 ms is the command RESET. -/
def execFwActivate (r : Req) (image : Byte) (s : State) : Host.Outcome State Fault Refusal :=
  .next (s.request 0x85 r (fun _ s =>
    let kinds : List (Fin 2) := if image = 0 then [0] else if image = 1 then [1] else [0, 1]
    let slotAfter := fun (kind : Fin 2) => if kinds.contains kind then (s.stagedSlot kind).getD 0 else s.bootSlot kind
    s.checked r 0x85 [
      (decide (3 ≤ image.toNat), Status.badParameter),
      (kinds.any (fun k => (s.stagedSlot k).isNone), Status.imageInvalid),
      (!s.pairingListed (slotAfter 0) (slotAfter 1), Status.versionMismatch)]
      (fun s =>
        let g := s.nextGeneration
        let t := s.each kinds (fun k t => (t.recordImage k (slotAfter k) .activated g).imageEvent k (slotAfter k) 1)
        t.answer r 0x85 Status.ok .bare)))

/-! ### The safety set (R318, R319) -/

/-- The keys of Table 13.10 that a safety set names, each exactly once. -/
def safetyKeys : List Nat :=
  (ParamTable.block 0x0C).flatMap (fun row =>
    if row.commit = .saf then
      (if row.cls = .axis then (List.range 16).map (fun k => regKey row.index k) else [regKey row.index 255])
    else [])

/-- The first failing check of R319. -/
def State.safetySetStatus (s : State) (bs : List Byte) : Option Nat :=
  let es := setEntries 90 (bs.drop 32)
  let keys := es.map entryKey
  let v := s.each es (fun e t => t.setPar e.index.toNat e.sub.toNat (writeValue e))
  let formed := field 0 4 bs = 1 && bs.length = 1184 && field 6 2 bs = 90 && safetyKeys.all (fun k => keys.contains k) &&
    !repeats keys && es.all (fun e => match writeRow e with
      | some row => decide (e.type.toNat = row.type.code) && (row.type.decode e.value).isSome
      | none => false)
  if !formed then some Status.imageInvalid
  else if !signedBy s.keyStore (field 1112 4 bs) 2 (slice 0 1112 bs) (slice 1120 64 bs) then some Status.authFail
  else if decide ((s.imageVersion 1).toNat < field 8 4 bs) then some Status.versionMismatch
  else if !es.all v.entryInRange then some Status.outOfRange
  else none

/-- SAFETY_SET_LOAD: the check follows as SAFETY_SET_CHECK_DONE. -/
def execSafetySetLoad (r : Req) (offset length : Word) (s : State) : Host.Outcome State Fault Refusal :=
  .next (s.request 0x92 r (fun k s =>
    s.checked r 0x92 (s.stagingChecks offset.toNat length.toNat) (fun s =>
      let t := s.onSaf (fun x => { x with setChecking := some (offset.toNat, some k, r.seq) })
      let t := { t with cfg := { t.cfg with flashRange := some (offset.toNat, length.toNat) } }
      t.answer r 0x92 Status.pending .bare)))

/-- SAFETY_SET_CHECK_DONE: an accepted set takes effect on leaving Service. -/
def execSafetySetCheckDone (s : State) : Host.Outcome State Fault Refusal :=
  .next (
    match s.saf.setChecking, s.cfg.flashRange with
    | some (offset, slot, seq), some (_, length) =>
      let t := s.onSaf (fun x => { x with setChecking := none })
      let t := { t with cfg := { t.cfg with flashRange := none } }
      match t.stagedBytes offset length with
      | (none, t) => t.complete slot seq 0x92 Status.imageInvalid
      | (some bs, t) =>
        match s.safetySetStatus bs with
        | some status => t.complete slot seq 0x92 status
        | none => (t.onSaf (fun x => { x with setAccepted := some bs })).complete slot seq 0x92 Status.ok
    | _, _ => s)

/-! ### FLASH_OP_COMPLETE (R457, R461, R467, R472) -/

/-- The request of the operation completes (R68). -/
def State.endFlash (s : State) (status : Nat) : State :=
  let t := { s with cfg := { s.cfg with flash := none, flashRange := none, requester := none } }
  match s.cfg.requester with
  | some (opcode, slot, seq) => t.complete slot seq opcode.toNat status
  | none => t

/-- A configuration set has been programmed; content that does not verify makes the slot INVALID. -/
def State.setStaged (s : State) (k : Fin 8) (bs : List Byte) (ok : Bool) : State :=
  let base := cfgBase k.val
  let t := ((s.flashErase base 0x40000).flashProgram base bs).onSlot k (fun _ => { version := setVersion bs, valid := ok })
  let t := t.recordSlot k .staged 0
  let t := (t.clearFault 0x1407 k.val).clearFault 0x1402 k.val
  if ok then t.configEvent k 0 else t.raise 0x1402 k.val

/-- An image has been programmed. -/
def State.imageStaged (s : State) (kind slot : Fin 2) (bs : List Byte) (ok : Bool) : State :=
  let t := ((s.flashErase (imageBase kind slot) (if kind = 0 then 0x200000 else 0x80000)).flashProgram (imageBase kind slot) bs).onImage
    kind slot (fun _ => { valid := ok })
  let t := t.recordImage kind slot .staged 0
  let t := if (t.cfg.lane.toList ++ t.cfg.safety.toList).any Slot.corrected then t else t.clearFault 0x1407 255
  if ok then t.imageEvent kind slot 0 else t

/-- FLASH_OP_COMPLETE: the content and STAGED are written, and the request completes. -/
def execFlashOpComplete (report : FlashReport) (s : State) : Host.Outcome State Fault Refusal :=
  .next (
    let status := if report.verified then Status.ok else Status.imageInvalid
    match s.cfg.flash with
    | some (.configStage k bs) => (s.setStaged k bs report.verified).endFlash status
    | some (.imageStage kind slot bs) => (s.imageStaged kind slot bs report.verified).endFlash status
    | some .templateSave => s
    | none => s)

end Sys2Proof.Machine
end

