-- ==== Sys2Proof/Machine/Sessions.lean ====
section
/-! DEFINITION. Sessions, pushes and the requests that read (R56, R60 to R68, R74 to R76, R80): the queues toward the
hosts, opening and ending a session, subscriptions, and PING, IDENTIFY, SNAPSHOT, STATUS_AXES and EVENT_READ. -/

namespace Sys2Proof.Machine

/-! ### Routes on the ring (R388) -/

/-- The partner of a node on a port, as its last slot or this node's own ports show it. -/
def State.partnerOf (s : State) (node : Nat) (p : Fin 2) : Nat :=
  if node = s.ownNode then (s.ring.ports[p]).partner.toNat
  else field (18 + p.val) 1 s.ring.last[Fin.ofNat 8 (node - 1)]

/-- A node at an end of a chain, as its last slot shows it; the master of a closed ring ends both streams. -/
def State.endsStream (s : State) (node : Nat) : Bool :=
  (field 1 1 s.ring.last[Fin.ofNat 8 (node - 1)]).testBit 7 || (!s.ring.wrapped && decide (node = s.ring.master.toNat))

/-- The steps from this node to another on the stream that leaves by a port; none when it does not lie downstream. -/
def State.stepsTo (s : State) (target : Nat) (p : Fin 2) : Nat → Nat → Nat → Option Nat
  | 0, _, _ => none
  | fuel + 1, here, n =>
    let next := s.partnerOf here p
    if next = 0 ∨ next = s.ownNode then none
    else if next = target then some (n + 1)
    else if s.endsStream next then none
    else s.stepsTo target p fuel next (n + 1)

def State.stepsFrom (s : State) (target : Nat) (p : Fin 2) : Option Nat :=
  if (s.ring.ports[p]).endPort then none else s.stepsTo target p 8 s.ownNode 0

/-- The port by which packets to a node leave: the shorter of the streams that reach it (R388). -/
def State.routeTo (s : State) (target : Nat) : Fin 2 :=
  match s.stepsFrom target 0, s.stepsFrom target 1 with
  | some e, some w => if w < e then 1 else 0
  | some _, none => 0
  | none, some _ => 1
  | none, none => 0

/-! ### Queues toward the hosts -/

/-- The place of a port's queue in `Commands.out`; a ring host's packets leave by the port of its node's route. -/
def State.outPort (s : State) (host : Source) : Fin 5 :=
  match host.port with
  | .spi => 0
  | .east | .west => if s.routeTo host.node.toNat = 0 then 1 else 2
  | .can0 => 3
  | .can1 => 4

def State.onOut (s : State) (q : Fin 5) (f : List OutPacket → List OutPacket) : State :=
  { s with cmd := { s.cmd with out := upd s.cmd.out q f } }

/-- The replies in the SPI session's output queue, and whether it is full (R352). -/
def State.spiReplies (s : State) : List OutPacket := (s.cmd.out[(0 : Fin 5)]).filter (fun p => !p.push)
def State.outqFull (s : State) : Bool := decide (32 ≤ s.spiReplies.length)

/-- A packet goes toward its host. A reply that becomes ready while the SPI output queue is full waits (R352). -/
def State.send (s : State) (p : OutPacket) : State :=
  let q := s.outPort p.host
  let x := { p with left := p.bytes.length }
  if q = 0 ∧ !p.push ∧ s.outqFull then { s with cmd := { s.cmd with late := s.cmd.late ++ [x] } }
  else s.onOut q (fun l => l ++ [x])

/-- The oldest reply that waits enters the SPI output queue when a place is free (R352). -/
def State.admitLate (s : State) : State :=
  match s.cmd.late with
  | [] => s
  | x :: rest => if s.outqFull then s else State.onOut { s with cmd := { s.cmd with late := rest } } 0 (fun l => l ++ [x])

/-- Requests with role N and refusals on arrival are answered from the snapshot latched most recently (R66); a corrupt one
gives INTERNAL (Table 1.6). -/
def State.replyNow (s : State) (r : Req) (opcode status : Nat) (fields : List Byte) : List Byte :=
  let bad := s.mtr.now.corrupt
  s.replyBytes (BitVec.ofNat 8 opcode) r.seq r.tag (if bad then Status.internal else status) (s.mtr.now.frame.setWidth 32)
    (if bad then [] else fields)

def State.sendNow (s : State) (r : Req) (opcode status : Nat) (fields : List Byte) : State :=
  s.send { bytes := s.replyNow r opcode status fields, host := r.src, slot := s.slotOf r.src }

/-! ### Pushes (R74, R75) -/

def State.pushesOf (s : State) (k : Fin 8) : Nat :=
  (s.cmd.out.toList.flatten.filter (fun p => p.push && p.slot = some k)).length

/-- Queue a push for a session, or drop it and count it; either takes one push sequence number. -/
def State.push (s : State) (k : Fin 8) (opcode : Nat) (fields : List Byte) (events : List Word) : State :=
  match s.session k with
  | none => s
  | some x =>
    let t := s.onSession k (fun x => { x with pushSeq := x.pushSeq + 1 })
    if 16 ≤ s.pushesOf k then t.count 0x0214 255
    else t.send {
      bytes := packetBytes true (BitVec.ofNat 8 opcode) x.pushSeq 0 s.nodeNumber Status.ok
        (leBytes 4 (s.mtr.now.frame.setWidth 32 : Word).toNat ++ fields)
      host := x.src, slot := some k, push := true, events := events }

/-- Push a new log entry to the sessions that subscribe its class. -/
def State.pushEntry (s : State) (e : Entry) : State :=
  s.each (allFin 8) (fun k t =>
    match t.session k with
    | some x => if x.classes.toNat.testBit e.ev.cls then t.push k 0x52 (t.eventFields [e]) [e.seq] else t
    | none => t)

/-- STATUS_PUSH: the status period of a subscription has elapsed. -/
def execStatusPush (slot : Fin 8) (s : State) : Host.Outcome State Fault Refusal :=
  .next (match s.session slot with
    | some x =>
      if 0 < x.period ∧ x.period ≤ x.sinceStatus then
        (s.onSession slot (fun x => { x with sinceStatus := 0 })).push slot 0x51 (leBytes 4 x.axes.toNat ++ s.latchedAxes x.axes) []
      else s
    | none => s)

/-! ### Opening and ending a session -/

/-- The session event of Table 20.6. -/
def State.sessionEvent (s : State) (k : Fin 8) (detail : Nat) (client : Word) (role : Role) : State :=
  s.event { code := 0x0281, inst := 255, kind := 2, cls := 8, detail := detail, session := k.val, frame := s.frame64,
            data := leBytes 4 client.toNat ++ leBytes 1 (if role = .control then 1 else 0) }

/-- A session ends (R64): its transactions, handles, queue, cache and subscription go. -/
def State.endSession (s : State) (k : Fin 8) (detail : Nat) : State :=
  match s.session k with
  | none => s
  | some x =>
    let t := ((s.abortOpen k).releaseRecords k).releaseHandles k
    let t := { t with cmd := { t.cmd with
      sessions := t.cmd.sessions.set k none
      late := t.cmd.late.filter (fun p => !decide (p.slot = some k))
      out := t.cmd.out.map (fun (l : List OutPacket) => l.filter (fun p => !(p.push && p.slot = some k))) } }
    t.sessionEvent k detail x.client x.role

/-- When a session expires (R64). -/
def Session.deadline (x : Session) : Nat := x.refreshed + 10000 * x.keepalive

/-- A packet that arrives before the deadline refreshes the session (R64). -/
def Session.refresh (x : Session) (arrived : Nat) : Session :=
  if arrived < x.deadline then { x with refreshed := arrived } else x

/-- SESSION_EXPIRY (R64): the deadline has passed at this tick. -/
def execSessionExpiry (slot : Fin 8) (s : State) : Host.Outcome State Fault Refusal :=
  .next (match s.session slot with
    | some x =>
      if x.deadline ≤ s.tb.tickAt then
        let t := s.endSession slot 2
        if x.role = .control ∧ s.anyEnabled then (t.stick 0x0210 255 4).raiseWith 0x0201 255 [] slot.val else t
      else s
    | none => s)

/-- Whether CMD.TAKEOVER permits a takeover now (R61). -/
def State.takeoverAllowed (s : State) : Bool :=
  match s.devN 0x0201 with
  | 0 => false
  | 1 => s.presentAxes.all (fun a => !(s.ax a).state.enabled || (s.ax a).state = .standstill)
  | _ => true

/-- The holder of CONTROL becomes OBSERVER, and its open transactions are aborted: the next request that names one is answered
TXN_ABORTED, whatever its role. -/
def State.takeOver (s : State) (k : Fin 8) : State :=
  let open_ (t : Txn) : Bool := decide (t.slot = k) && !t.orphan && decide (t.state = .open_)
  let s := { s with mtr := { s.mtr with txns := s.mtr.txns.map (fun (t : Txn) => if open_ t then { t with notice := true } else t) } }
  let t := (s.abortOpen k).onSession k (fun x => { x with role := .observer })
  match s.session k with
  | some x => t.sessionEvent k 3 x.client .observer
  | none => t

/-- The bytes of a SESSION_OPEN, header and payload, as its fields give them. -/
def openerBytes (r : Req) (role flags : Byte) (keepalive : Half) (client : Word) : List Byte :=
  [0x10, 0x03] ++ leBytes 2 r.seq.toNat ++ leBytes 2 r.tag.toNat ++ leBytes 2 8 ++ pad 4 ++
    [role, flags] ++ leBytes 2 keepalive.toNat ++ leBytes 4 client.toNat

/-- SESSION_OPEN on arrival, `opener` its header and payload (R60, R61, R80). The manual does not say which free slot a new session
takes: the lowest (DESIGN CHOICE, notes/assumptions/103). -/
def State.openSession (s : State) (opener : List Byte) (r : Req) (role flags : Byte) (keepalive : Half) (client : Word) : State :=
  let own := s.slotOf r.src
  let again : Option Session := match own with
    | some k => (s.session k).filter (fun x => x.untouched && x.opener = opener)
    | none => none
  match own, again with
  | some k, some x =>
    (s.onSession k (fun y => y.refresh r.arrived)).send { bytes := x.openReply, host := r.src, slot := some k }
  | _, _ =>
    let holder := (s.controlSlot).filter (fun k => !(own = some k))
    let take := flags.getLsbD 0
    let taken := (allFin 8).filter (fun k => (s.session k).isSome && !(own = some k))
    match firstFail [
      (decide (2 ≤ role.toNat ∨ 2 ≤ flags.toNat) || decide (r.tag ≠ 0), Status.badParameter),
      (decide (0 < keepalive.toNat ∧ keepalive.toNat < 200), Status.outOfRange),
      (decide (taken.length = 8), Status.sessionLimit),
      (role = 1 && holder.isSome && !(take && s.takeoverAllowed), Status.busy)] with
    | some status => s.sendNow r 0x03 status []
    | none =>
      let t := match own with | some k => s.endSession k 1 | none => s
      let t := match holder with | some k => if role = 1 then t.takeOver k else t | none => t
      match (allFin 8).find? (fun k => (t.session k).isNone) with
      | none => s.sendNow r 0x03 Status.sessionLimit []
      | some k =>
        let frames := if keepalive = 0 then 20000 else keepalive.toNat
        let granted : Role := if role = 1 then .control else .observer
        let reply := s.replyNow r 0x03 Status.ok ([role] ++ leBytes 1 k.val ++ leBytes 2 frames ++ pad 4)
        let x : Session := { src := r.src, role := granted, client := client, keepalive := frames, lastSeq := r.seq,
                             opener := opener, openReply := reply, refreshed := r.arrived }
        let t := { t with cmd := { t.cmd with
          sessions := t.cmd.sessions.set k (some x), lastRead := if r.src.port = Port.spi then [] else t.cmd.lastRead } }
        (t.sessionEvent k 0 client granted).send { bytes := reply, host := r.src, slot := some k }

def execSessionOpen (r : Req) (role flags : Byte) (keepalive : Half) (client : Word) (s : State) : Host.Outcome State Fault Refusal :=
  .next (s.openSession (openerBytes r role flags keepalive client) r role flags keepalive client)

/-- SESSION_CLOSE (R64). -/
def execSessionClose (r : Req) (s : State) : Host.Outcome State Fault Refusal :=
  .next (s.request 0x04 r (fun k s => (s.answer r 0x04 Status.ok .bare).endSession k 1))

/-! ### Requests without a session -/

def execPing (r : Req) (bytes : List Byte) (s : State) : Host.Outcome State Fault Refusal :=
  .next (s.sendNow r 0x01 Status.ok bytes)

/-- The fields of IDENTIFY (Table 3.6). -/
def State.identity (s : State) : List Byte :=
  leBytes 4 0x4816 ++ [1, Config.ctlRevision, Config.drvRevision 0, Config.drvRevision 1] ++
  leBytes 4 (s.imageVersion 0).toNat ++ leBytes 4 (s.imageVersion 1).toNat ++
  leBytes 4 (s.imageField 0 (s.bootSlot 0) 12 4) ++ leBytes 1 s.nodeNumber ++ pad 3 ++ (allFin 16).map Config.serialByte

def execIdentify (r : Req) (s : State) : Host.Outcome State Fault Refusal :=
  .next (s.sendNow r 0x02 Status.ok s.identity)

/-! ### Requests that read -/

/-- SNAPSHOT (R86). -/
def execSnapshot (r : Req) (sections : Word) (s : State) : Host.Outcome State Fault Refusal :=
  .next (s.request 0x50 r (fun _ s =>
    s.checked r 0x50 [(decide (512 ≤ sections.toNat), Status.badParameter)] (fun s => s.answer r 0x50 Status.ok (.sections sections))))

/-- STATUS_AXES (Table 3.6, R78). -/
def execStatusAxes (r : Req) (axes : Word) (s : State) : Host.Outcome State Fault Refusal :=
  .next (s.request 0x51 r (fun _ s =>
    s.checked r 0x51 [((s.maskArg axes).isNone, Status.badParameter)] (fun s => s.answer r 0x51 Status.ok (.axes axes))))

/-- EVENT_READ (R471). -/
def execEventRead (r : Req) (from_ : Word) (max : Byte) (s : State) : Host.Outcome State Fault Refusal :=
  .next (s.request 0x52 r (fun _ s =>
    s.checked r 0x52 [(decide (max.toNat < 1 ∨ 31 < max.toNat), Status.outOfRange)] (fun s =>
      s.answer r 0x52 Status.ok (.events from_ max.toNat))))

/-- SUBSCRIBE (R74). -/
def execSubscribe (r : Req) (classes : Word) (period : Half) (axes : Word) (s : State) : Host.Outcome State Fault Refusal :=
  .next (s.request 0x53 r (fun k s =>
    s.checked r 0x53 [(decide (2048 ≤ classes.toNat) || (s.maskArg axes).isNone, Status.badParameter)] (fun s =>
      (s.onSession k (fun x => { x with classes := classes, period := period.toNat, axes := axes, sinceStatus := 0 })).answer
        r 0x53 Status.ok .bare)))

end Sys2Proof.Machine
end

