-- ==== Sys2Proof/Machine/RingTxn.lean ====
section
/-! DEFINITION. Committing a transaction (R95, R99 to R103): TXN_BEGIN on this device, the commit frame, and the messages
of a distributed commit. -/

namespace Sys2Proof.Machine

/-! ### Mortar fields (Table 4.8) -/

/-- A field: type, coordinator, transaction, commit frame, value, mask and entries. -/
def fieldBytes (kind : Nat) (coord : Byte) (t : Txn) (value : Nat) (mask : Byte) (entries : Nat) : List Byte :=
  leBytes 1 kind ++ [coord] ++ leBytes 2 t.tag.toNat ++ leBytes 4 t.client.toNat ++
    leBytes 4 ((t.commit.getD 0).setWidth 32 : Word).toNat ++ leBytes 1 value ++ [mask] ++ leBytes 2 entries ++ pad 16

/-- Publish a field in the slots of a range of frames; fields whose frames have passed go. -/
def State.publish (s : State) (a b : Long) (bytes : List Byte) : State :=
  let kept := s.ring.fields.filter (fun f => decide (s.frame64 ≤ f.last))
  { s with ring := { s.ring with fields := kept ++ [MortarField.mk a b bytes] } }

/-- The slot of the present frame is rebuilt: Mortar fields are latched from step 6 of the tick (R385). -/
def State.relatchFields (s : State) : State :=
  s.patchSlot (fun b => b.take 48 ++ slice 48 64 s.slotBytes ++ b.drop 112)

/-- A 32-bit frame as a 64-bit one near the present frame (R6). -/
def State.frameNear (s : State) (f : Nat) : Long := s.frame64 + BitVec.ofInt 64 (wrapSigned 32 ((f : Int) - s.frame32.toNat))

/-- The Mortar field `index` of the slot that a node sent in the present frame, when it was received valid (R386). -/
def State.fieldFrom (s : State) (node : Fin 8) (index : Fin 2) : Option (List Byte) :=
  (s.ring.received[node]).map (fun b => slice (48 + 32 * index.val) 32 b)

/-- The record of a ring transaction by client ID and TAG (R99). -/
def State.ringTxn (s : State) (client : Word) (tag : Half) : Option Txn :=
  s.mtr.txns.find? (fun t => t.ring && t.client = client && t.tag = tag)

/-! ### Requests -/

/-- TXN_BEGIN (R89, R99). -/
def execTxnBegin (r : Req) (flags : Byte) (timeout : Half) (s : State) : Host.Outcome State Fault Refusal :=
  .next (s.request 0x20 r (fun k s => s.beginTxn r k flags timeout (s.ring.joined && !s.ring.detached)))

/-- A local commit (R95). -/
def State.commitLocal (s : State) (r : Req) (t : Txn) (c : Long) : State :=
  let u := s.putTxn { t with state := .committing, commit := some c, commitSeq := r.seq, commitArrived := r.arrived, commitOrder := s.mtr.commits }
  State.answer { u with mtr := { u.mtr with commits := u.mtr.commits + 1 } }
    r 0x21 Status.pending (.bytes (leBytes 4 (c.setWidth 32 : Word).toNat))

/-- The coordinator issues PREPARE in frame N, and votes itself in frame N + 1 (Table 4.9). -/
def State.prepare (s : State) (r : Req) (t : Txn) (c : Long) : State :=
  let own := BitVec.ofNat 8 s.ownNode
  let v := { t with state := .voting, commit := some c, commitSeq := r.seq, commitArrived := r.arrived, coordinator := true,
                    coordNode := own, begunAt := s.frame64, participants := BitVec.ofNat 8 s.joinedMask ||| BitVec.ofNat 8 (2 ^ s.ring.addr.val) }
  let u := ((s.putTxn v).publish s.frame64 s.frame64 (fieldBytes 1 own v 0 0 0)).publish (s.frame64 + 1) (s.frame64 + 1)
    (fieldBytes 2 own v 1 0 v.entries)
  u.relatchFields.answer r 0x21 Status.pending (.bytes (leBytes 4 (c.setWidth 32 : Word).toNat))

/-- TXN_COMMIT_AT (R95, R99, R378). -/
def execTxnCommitAt (r : Req) (flags : Byte) (frame : Word) (s : State) : Host.Outcome State Fault Refusal :=
  .next (s.request 0x21 r (fun k s =>
    match s.findTxn k r.tag with
    | none => s.refuse r 0x21 Status.badParameter
    | some t =>
      match t.refusal s.frame64 with
      | some st => s.refuse r 0x21 st
      | none =>
        let earliest := flags.getLsbD 0
        let least := if t.ring then s.devN 0x0220 else 1
        let ahead := if earliest then least else (frame - s.frame32).toNat
        let coordinates := s.mtr.txns.any (fun u => u.coordinator && (u.state = .voting || u.state = .committing))
        s.checked r 0x21 [
          (decide (2 ≤ flags.toNat), Status.badParameter),
          (!earliest && decide (ahead < least ∨ s.devN 0x0222 < ahead), Status.outOfRange),
          (t.ring && (s.announcement.isSome || coordinates || decide (2 ≤ s.ringTxns)), Status.busy)]
          (fun s =>
            let c := s.frame64 + BitVec.ofNat 64 ahead
            if t.ring then s.prepare r t c else s.commitLocal r t c)))

/-! ### The messages -/

/-- A record of this device, not of a ring transaction, with the ID of one (R101). -/
def State.localTxn (s : State) (client : Word) (tag : Half) : Bool :=
  s.mtr.txns.any (fun t => !t.ring && t.client = client && t.tag = tag)

/-- PREPARE_RECEIVED (R101): the vote for frame N + 1. A record still OPEN that votes NO ends ABORTED (Table 4.7). -/
def execPrepareReceived (node : Fin 8) (index : Fin 2) (s : State) : Host.Outcome State Fault Refusal :=
  .next (match s.fieldFrom node index with
    | none => s
    | some f =>
      if field 0 1 f ≠ 1 ∨ ¬s.ring.joined then s
      else
        let client : Word := BitVec.ofNat 32 (field 4 4 f)
        let tag : Half := BitVec.ofNat 16 (field 2 2 f)
        let coord : Byte := BitVec.ofNat 8 (field 1 1 f)
        let c := s.frameNear (field 8 4 f)
        let blank : Txn := { slot := 0, tag := tag, client := client, ring := true, state := .open_, deadline := 0, commit := some c }
        let vote (t : Txn) (v : State) (value : Nat) : State :=
          v.publish (s.frame64 + 1) (s.frame64 + 1) (fieldBytes 2 coord { t with commit := some c } value 0 t.entries)
        let barred : Bool := s.mtr.hold || s.ring.detached
        match s.ringTxn client tag with
        | none => vote blank s (if barred || s.localTxn client tag then 0 else 2)
        | some t =>
          let yes : Bool := t.state = .open_ && !barred && decide (s.frame64 + 2 < c) && decide (s.ringTxns < 2)
          if yes then
            vote t (s.putTxn { t with state := .voting, commit := some c, coordNode := coord, begunAt := s.frame64 }) 1
          else vote t (if t.state = .open_ then s.endTxn { t with commit := some c, coordNode := coord } .aborted Status.txnAborted else s) 0)

/-- The vote a node sent in its slot, none where the slot holds none. -/
def voteIn (slot : Option (List Byte)) (t : Txn) : Option Nat :=
  match slot with
  | none => none
  | some b =>
    (([0, 1] : List Nat).map (fun i => slice (48 + 32 * i) 32 b)).findSome? (fun f =>
      if field 0 1 f = 2 ∧ field 1 1 f = t.coordNode.toNat ∧ field 2 2 f = t.tag.toNat ∧ field 4 4 f = t.client.toNat then
        some (field 12 1 f) else none)

/-- COMMIT_DECISION (R101): at the end of frame N + 1. The completion of an aborted transaction is logged at T(c)
(Table 4.9, step 9). -/
def execCommitDecision (slot : Fin 8) (tag : Half) (s : State) : Host.Outcome State Fault Refusal :=
  .next (match s.mtr.txns.find? (fun t => t.slot = slot && t.tag = tag && t.coordinator && t.state = .voting) with
    | none => s
    | some t =>
      if ¬(t.coordinator ∧ t.state = .voting ∧ t.begunAt + 1 ≤ s.frame64) then s
      else
        let slots := if s.frame64 = t.begunAt + 1 then s.ring.received else s.ring.slots
        let ballot (k : Fin 8) : Option Nat := if k = s.ring.addr then some 1 else voteIn slots[k] t
        let joined := (allFin 8).filter (fun k => t.participants.getLsbD k.val)
        let commit : Bool := t.decided ≠ some false && joined.all (fun k => (ballot k).isSome && !(ballot k = some 0)) &&
          joined.any (fun k => ballot k = some 1)
        let mask : Byte := BitVec.ofNat 8 (sumN ((joined.filter (fun k => ballot k = some 1)).map (fun k => 2 ^ k.val)))
        let v := { t with decided := some commit, participants := mask }
        let ended : Txn := { v with state := .aborted, staged := [], bytes := 0, finalAt := s.frame64 }
        let last (w : State) : State := { w with mtr := { w.mtr with
          lastRing := some (t.client, t.tag, .aborted, (t.commit.getD 0).setWidth 32) } }
        let aborted := last (s.endTxn { v with commit := none } .aborted Status.txnAborted)
        let kept := if v.orphan then aborted else aborted.putTxn ended
        let u := if commit then s.putTxn { v with state := .committing }
          else { kept with mtr := { kept.mtr with owed := kept.mtr.owed ++ [ended] } }
        u.publish (s.frame64 + 1) ((t.commit.getD 0) - 2) (fieldBytes 3 t.coordNode v (boolNat commit) mask 0))

/-- DECISION_RECEIVED (R102): a participant takes the decision, up to T(c − 1), and acknowledges. -/
def execDecisionReceived (node : Fin 8) (index : Fin 2) (s : State) : Host.Outcome State Fault Refusal :=
  .next (match s.fieldFrom node index with
    | none => s
    | some f =>
      match s.ringTxn (BitVec.ofNat 32 (field 4 4 f)) (BitVec.ofNat 16 (field 2 2 f)) with
      | none => s
      | some t =>
        let c := t.commit.getD 0
        if field 0 1 f ≠ 3 ∨ t.coordinator ∨ ¬(t.state = .voting) ∨ field 1 1 f ≠ t.coordNode.toNat ∨ c ≤ s.frame64 + 1 then s
        else
          let u := if field 12 1 f = 1 then s.putTxn { t with state := .committing, decided := some true }
            else s.endTxn { t with decided := some false } .aborted Status.txnAborted
          u.publish (s.frame64 + 1) (c - 1) (fieldBytes 4 t.coordNode t 0 0 0))

/-- A participant still VOTING at T(c) discards the transaction and enters isolated hold (R103). -/
def State.isolate (s : State) (t : Txn) : State :=
  let u := s.endTxn t .inconsistent Status.inconsistent
  let u := { u with mtr := { u.mtr with hold := true } }
  ((u.count 0x0233 255).stick 0x0230 255 1).raise 0x0210 255

/-- The acknowledgements that a coordinator finds in the slots of a frame. -/
def State.gatherAcks (s : State) : State :=
  { s with mtr := { s.mtr with txns := s.mtr.txns.map (fun t =>
      if t.coordinator ∧ t.state = .committing then
        { t with acks := (allFin 8).foldl (fun m k =>
            match s.ring.received[k] with
            | none => m
            | some b =>
              if ([0, 1] : List Nat).any (fun i =>
                let f := slice (48 + 32 * i) 32 b
                field 0 1 f = 4 && field 2 2 f = t.tag.toNat && field 4 4 f = t.client.toNat) then m ||| BitVec.ofNat 8 (2 ^ k.val)
              else m) t.acks }
      else t) } }

end Sys2Proof.Machine
end

