-- ==== Sys2Proof/Machine/Ring.lean ====
section
/-! DEFINITION. The Bolhus link (R365 to R391) and following its tick (R47 to R51): tick blocks, state slots, training,
joining, announcements and succession. Delays are in 0.1 ns, so a count is 50 and a bit time 16. -/

namespace Sys2Proof.Machine

def State.onRing (s : State) (f : Ring → Ring) : State := { s with ring := f s.ring }
def State.onPort (s : State) (p : Fin 2) (f : RingPort → RingPort) : State :=
  s.onRing (fun r => { r with ports := upd r.ports p f })
def State.onTb (s : State) (f : Timebase → Timebase) : State := { s with tb := f s.tb }

/-! ### Faults of the ring (R391) -/

/-- A fault of the ring that names a port in its event. -/
def State.portFault (s : State) (code : Nat) (p : Fin 2) : State := s.raiseWith code 255 (leBytes 1 p.val)

def State.raiseIf (s : State) (bad : Bool) (code : Nat) : State := if bad then s.raise code 255 else s.clearFault code 255
def State.portFaultIf (s : State) (bad : Bool) (code : Nat) (p : Fin 2) : State :=
  if bad then s.portFault code p else s.clearFault code 255

/-! ### Segment delays and the loop (R371, R376) -/

/-- A delay as a slot publishes it; 0xFFFF is unknown (Table 16.7a). -/
def known (d : Nat) : Option Nat := if d = 0xFFFF then none else some d

/-- The delay that a node's last slot publishes for a port, or the own one measured. -/
def State.publishedDelay (s : State) (k : Fin 8) (p : Fin 2) : Option Nat :=
  if k = s.ring.addr then (s.ring.ports[p]).delay
  else if s.ring.last[k] = [] then none
  else known (field (20 + 2 * p.val) 2 s.ring.last[k])

/-- The delay of a port's segment: measured here, else as the partner publishes it for its facing port (R376; DESIGN CHOICE,
notes/assumptions/153). -/
def State.delayOn (s : State) (p : Fin 2) : Option Nat :=
  match (s.ring.ports[p]).delay with
  | some d => some d
  | none => if (s.ring.ports[p]).partner = 0 then none
    else s.publishedDelay (Fin.ofNat 8 ((s.ring.ports[p]).partner.toNat + 7)) (1 - p)

/-- The delay of the segment on a node's EAST port, which its EAST neighbour publishes too. -/
def State.eastDelay (s : State) (k : Fin 8) : Option Nat :=
  match s.publishedDelay k 0 with
  | some d => some d
  | none => ((allFin 8).find? (fun j => decide (s.partnerOf (j.val + 1) 1 = k.val + 1))).bind (fun j => s.publishedDelay j 1)

/-- The residence that a node publishes. -/
def State.residenceOf (s : State) (k : Fin 8) : Nat :=
  if k = s.ring.addr then s.ring.residence else field 24 2 s.ring.last[k]

/-- The loop delay: the EAST segments and the residences of the nodes of a mask, as far as they are known (R371). -/
def State.loopDelay (s : State) (mask : Nat) : Nat :=
  sumN ((allFin 8).map (fun k => if mask.testBit k.val then (s.eastDelay k).getD 0 + s.residenceOf k else 0))

def State.loopKnown (s : State) (mask : Nat) : Bool := (allFin 8).all (fun k => !mask.testBit k.val || (s.eastDelay k).isSome)

/-- The loop delay must not exceed 25 µs (R371). -/
def loopBudget : Nat := 250000

/-- Record the loop delay; above the budget RING_DELAY_BUDGET is raised. -/
def State.checkLoop (s : State) (loop : Nat) : State :=
  let t := s.setPar 0x0F16 255 (min loop 250000)
  if loopBudget < loop then (t.stick 0x0F10 255 6).raise 0x0F05 255 else t.clearFault 0x0F05 255

/-! ### A RING_RETRAIN in progress (R384) -/

/-- It completes when its segment is in service, or the node has joined again. -/
def State.retrained (s : State) (ports : Byte) : State :=
  match s.ring.retraining with
  | some (m, _, slot, seq) =>
    if m = ports then
      (s.onRing (fun r => { r with retraining := none, retrainRequest := 0 })).complete slot seq 0xA2 Status.ok
    else s
  | none => s

/-- A port enters service (Table 16.5, step 5); its segment's faults clear. RING_LINK_DOWN stays for the other port while that
one's segment is down (R391). -/
def State.portInService (s : State) (p : Fin 2) : State :=
  let t := s.onPort p (fun x => { x with
    state := .inService, since := s.frame64, endPort := false, badRun := 0, silent := 0, lost := false, declared := false })
  let t := if (t.ring.ports[1 - p]).declared then t else t.clearFault 0x0F01 255
  (t.clearFault 0x0F06 255).retrained (BitVec.ofNat 8 (2 ^ p.val))

/-- A segment of the ring is down, the own one or another: the ring is a chain, and the credit book is not checked until the JOIN
or UNWRAP that follows (R104, R370). -/
def State.learnWrap (s : State) : State :=
  let t := s.onRing (fun r => { r with segmentDown := true })
  if s.ring.wrapped then t else (t.onRing (fun r => { r with wrapped := true })).count 0x0F14 255

/-- A port becomes an end port and trains (R370, R372); the ring is a chain from then on. -/
def State.endPortAt (s : State) (p : Fin 2) : State :=
  (s.onPort p (fun x => { x with
    state := .training, since := s.frame64, endPort := true, partner := 0, delay := none, echoes := [], pathDelay := 0
    badRun := 0, frameBad := false, ticked := false, silent := 0, lost := false, assembling := [], sent := [], blocks := [] })).learnWrap

/-- RING_LINK_DOWN: a port in use is an end port from now on, and the fault names it (R372). -/
def State.linkDown (s : State) (p : Fin 2) : State :=
  match (s.ring.ports[p]).state with
  | .inService | .standby => ((s.endPortAt p).onPort p (fun x => { x with declared := true })).portFault 0x0F01 p
  | _ => s

/-! ### Requests -/

def execRingStatus (r : Req) (s : State) : Host.Outcome State Fault Refusal :=
  .next (s.request 0xA0 r (fun _ s => s.answer r 0xA0 Status.ok .ring))

def execRingTopology (r : Req) (s : State) : Host.Outcome State Fault Refusal :=
  .next (s.request 0xA1 r (fun _ s => s.answer r 0xA1 Status.ok .topology))

/-- RING_RETRAIN (R384). A node that leaves does so at the next tick. -/
def execRingRetrain (r : Req) (ports : Byte) (s : State) : Host.Outcome State Fault Refusal :=
  .next (s.request 0xA2 r (fun k s =>
    s.checked r 0xA2 [
      (decide (ports = 0 ∨ 4 ≤ ports.toNat), Status.badParameter),
      ((decide (ports = 3) && !s.allDisabled) || s.ring.retraining.isSome, Status.busy)]
      (fun s =>
        (s.onRing (fun x => { x with
          retraining := some (ports, s.frame64, some k, r.seq), retrainRequest := if ports = 3 then 0 else ports })).answer
          r 0xA2 Status.pending .bare)))

/-- RETRAIN_TIMEOUT (R384). -/
def execRetrainTimeout (s : State) : Host.Outcome State Fault Refusal :=
  .next (match s.ring.retraining with
    | some (_, since, slot, seq) =>
      if s.devN 0x0F07 ≤ (s.frame64 - since).toNat then
        (s.onRing (fun r => { r with retraining := none, retrainRequest := 0 })).complete slot seq 0xA2 Status.nodeUnreachable
      else s
    | none => s)

/-! ### The tick (R47 to R51, R374, R375) -/

/-- The frames of a window are quiet (R378). -/
def State.isQuiet (s : State) : Bool := s.ring.quiet

/-- A damaged item of a stream counts toward the port's run of bad frames, quiet frames apart (R372, R378). -/
def State.damaged (s : State) (p : Fin 2) : State := s.onPort p (fun x => { x with frameBad := x.frameBad || !s.ring.quiet })

/-- The code errors of an item (R367). -/
def State.codeErrors (s : State) (n : Nat) : State := s.countN 0x0F13 255 n

/-- The master lies upstream in the stream that a port receives (R375): the master is its origin, its partner on that port,
or a node that the stream has passed. -/
def State.masterUpstream (s : State) (p : Fin 2) (fromMaster : Bool) : Bool :=
  fromMaster || decide ((s.ring.ports[p]).partner = s.ring.master) || (s.stepsFrom s.ring.master.toNat p).isSome

/-- A follower detaches from a master whose FRAME64 differs from its own, and enters holdover (R51, R383). -/
def State.detach (s : State) : State :=
  let t := (s.onRing (fun r => { r with detached := true })).onTb (fun t => { t with holdover := true, phase := none, succeeds := false })
  (if s.tb.holdover then t else t.raise 0x0104 255).raise 0x0F07 255

/-- A tick block names the master and its epoch; a new master is adopted when its frame agrees (R51). -/
def State.followMaster (s : State) (master epoch frame : Byte) : State :=
  if s.ring.detached ∨ (master = s.ring.master ∧ epoch = s.ring.epoch) then s
  else
    let t := (s.onRing (fun r => { r with master := master, epoch := epoch, announced := none })).clearFault 0x0106 255
    let t := if master = s.ring.master then t else t.count 0x0F15 255
    if frame = s.frame64.setWidth 8 then t else t.detach

/-- e in counts: the own tick less the master's, within half a frame (R47). -/
def phaseOf (count path : Nat) : Int :=
  let e := rdiv ((path : Int) - 50 * count) 50
  if e < -5000 then e + 10000 else if 5000 < e then e - 10000 else e

/-- The e that the last frame and its correction lead to expect (R50). -/
def State.expectedPhase (s : State) : Int :=
  let e := s.tb.phaseErr / 5
  e - clampI (-(s.dev 0x0100)) (s.dev 0x0100) e

/-! ### Tick blocks that leave the node (R369, R370, R374) -/

/-- A tick block (Table 16.4) of the frame that begins, with its ring state and correction. -/
def State.tickBlock (s : State) (state correction : Nat) : List Byte :=
  let body := [s.ring.epoch, s.frame64.setWidth 8] ++ leBytes 1 state ++ leBytes 2 correction
  0x3C :: (body ++ crc16Bytes body)

/-- A port transmits streams: it is no end port, or its trained segment waits in STANDBY for a copy (R370). -/
def State.transmits (s : State) (p : Fin 2) : Bool :=
  s.ring.joined && (!(s.ring.ports[p]).endPort || decide ((s.ring.ports[p]).state = .standby))

/-- A stream received on a port goes on by the other one. It ends at the master of a closed ring and at the end of a chain, and
the copy that reaches a STANDBY end port is read only (R369, R370). -/
def State.passesOn (s : State) (p : Fin 2) : Bool :=
  !(s.isMaster && !s.ring.wrapped) && s.transmits (1 - p) && !(s.ring.ports[p]).endPort

/-- The TRAIN set of a port in training (Table 16.2). -/
def State.trainSet (s : State) (p : Fin 2) : List Byte :=
  [0xBC, 0xB5, BitVec.ofNat 8 s.ownNode, s.ring.epoch, s.ring.master, BitVec.ofNat 8 (s.ring.ports[p]).state.code] ++ leBytes 4 s.checkCode.toNat

/-- The ordered set of a port's guard: TRAIN while its segment trains, else IDLE (Table 16.2). The guard belongs to one segment
and is made anew at every node (R369). -/
def State.guardSet (s : State) (p : Fin 2) : List Byte :=
  match (s.ring.ports[p]).state with
  | .training => s.trainSet p
  | .standby | .inService => [0xBC, 0x50]
  | .down | .listen => []

/-- JOIN leaves by both ports, four times (Table 16.2, R377). -/
def State.sendJoin (s : State) : State :=
  let own := BitVec.ofNat 8 s.ownNode
  let set : List Byte := [0xF7, own, s.ring.epoch, own]
  s.each (allFin 2) (fun p t => t.onPort p (fun x => { x with guard := set ++ set ++ set ++ set }))

/-- The stream that leaves by a port originates here: at the master of a closed ring, and at the end of a chain (R369, R370). -/
def State.originates (s : State) (p : Fin 2) : Bool :=
  (s.isMaster && !s.ring.wrapped) || (s.ring.ports[1 - p]).endPort

/-- The tick blocks that the node originates at its tick, with 0 as the correction at a stream's origin (R374). -/
def State.originate (s : State) : State :=
  let state := s.ring.master.toNat % 16 + bit s.ring.wrapped 4 + bit s.ring.quiet 5 + bit s.isMaster 6
  s.each (allFin 2) (fun p t => t.onPort p (fun x => { x with
    sent := if s.transmits p && s.originates p then s.tickBlock state 0 else [] }))

/-- What happens at T(n) just after the tick shows in the slot and the tick blocks of frame n: the flags, the segments and the
announcements (R373, R384, R385). -/
def State.relink (s : State) : State :=
  let new := s.slotBytes
  (s.patchSlot (fun b => b.take 1 ++ slice 1 1 new ++ slice 2 16 b ++ slice 18 22 new ++ b.drop 40)).originate

/-- A tick block received on a port leaves the other one, `residence` later, with the correction brought up to date: the master
writes the time since its own tick, every other node adds its segment delay and its residence (R374). A delay not known adds 0
(DESIGN CHOICE, notes/assumptions/153). -/
def State.forwardTick (s : State) (port : Fin 2) (block : List Byte) (count residence : Nat) : State :=
  if s.passesOn port then
    let lag : Int := if s.isMaster then 50 * count + residence else (s.delayOn port).getD 0 + residence
    let c := (if s.isMaster then 0 else field 4 2 block) + (rdiv lag 16).toNat
    let body := slice 1 3 block ++ leBytes 2 c
    (s.onPort (1 - port) (fun x => { x with sent := 0x3C :: (body ++ crc16Bytes body) })).onRing (fun r => { r with residence := residence })
  else s

/-- A listening node's phase error from a tick block: the path is that of the port, of its shorter known side, or 0 (R378,
Table 16.6, step 4). -/
def State.hearTick (s : State) (port : Fin 2) (block : List Byte) (count : Nat) : State :=
  let side := match (s.ring.ports[port]).delay with | some d => d | none => ((s.ring.ports[1 - port]).delay).getD 0
  s.onRing (fun r => { r with heardTick := true, heardPhase := some (phaseOf count (side + 16 * field 4 2 block)) })

/-- TICK_SYMBOL_RECEIVED: a tick block arrives whole, `count` counts after the own tick, and leaves the far port
`residence` later (R367, R368, R374, R375). A master that has no end port of its own learns from it that the ring is wrapped (R370). -/
def execTickSymbolReceived (port : Fin 2) (block : List Byte) (count residence codeErrors : Nat) (s : State) :
    Host.Outcome State Fault Refusal :=
  .next (
    let t := s.codeErrors codeErrors
    if block.length ≠ 8 ∨ field 0 1 block ≠ 0x3C ∨ crc16Bytes (slice 1 5 block) ≠ slice 6 2 block then t.damaged port
    else if ¬s.ring.joined then t.hearTick port block count
    else
      let state := field 3 1 block
      let master : Byte := BitVec.ofNat 8 (state % 16)
      let t := t.onPort port (fun x => { x with ticked := true })
      let t := (if state.testBit 4 then t.learnWrap else t).forwardTick port block count residence
      if s.isMaster then t
      else
        let t := t.followMaster master (BitVec.ofNat 8 (field 1 1 block)) (BitVec.ofNat 8 (field 2 1 block))
        let t := t.onRing (fun r => { r with quiet := r.quiet || state.testBit 5 })
        let path := (s.delayOn port).getD 0 + 16 * field 4 2 block
        let up := t.masterUpstream port (state.testBit 6) && (s.delayOn port).isSome
        let t := t.onPort port (fun x => { x with pathDelay := if up then path else 0 })
        let other := (t.ring.ports[1 - port]).pathDelay
        let e := phaseOf count path
        let inTime : Bool := s.tb.holdover || decide ((e - s.expectedPhase).natAbs ≤ 2)
        if up && !t.ring.detached && inTime && decide (other = 0 ∨ path ≤ other) then t.onTb (fun x => { x with phase := some e })
        else t)

/-- A follower of a master's tick. -/
def State.follows (s : State) : Bool := s.ring.joined && !s.isMaster

/-- HOLDOVER: the frame brought no valid tick symbol in time (R50); a quiet frame's lost ticks do not count (R378). -/
def execHoldover (s : State) : Host.Outcome State Fault Refusal :=
  .next (
    if s.follows ∧ s.tb.phase = none ∧ !s.tb.holdover ∧ !s.ring.quiet then
      (s.onTb (fun t => { t with holdover := true })).raise 0x0104 255
    else s)

/-- TB_PHASE_ALARM: four consecutive frames above the threshold (Table 2.5). -/
def execTbPhaseAlarm (s : State) : Host.Outcome State Fault Refusal :=
  .next (if s.ring.joined ∧ 4 ≤ s.tb.alarmRun then s.raise 0x0105 255 else s)

/-- The node generates the tick from now on. -/
def State.becomeMaster (s : State) (epoch : Byte) : State :=
  let t := s.onRing (fun r => { r with
    joined := true, master := BitVec.ofNat 8 s.ownNode, epoch := epoch, hadEpoch := true, announced := none, lockedOnce := true })
  let t := t.onTb (fun x => { x with holdover := false, missed := 0, phase := none, phaseErr := 0, frameLen := 10000 })
  (t.clearFault 0x0104 255).clearFault 0x0106 255

/-- MASTER_LOST: after 8 missing ticks the master is lost; a node of rank r takes over after 8 r, at its own next tick (R51,
R381). A detached node follows no tick and misses none (R383). -/
def execMasterLost (s : State) : Host.Outcome State Fault Refusal :=
  .next (
    if !s.follows ∨ s.ring.detached ∨ s.tb.missed < 8 then s
    else
      let t := s.raise 0x0106 255
      if s.rank = 0 ∨ s.rank = 255 ∨ s.tb.missed < 8 * s.rank then t
      else t.onTb (fun x => { x with succeeds := true }))

/-- The successor becomes master at its tick, unless it has received a valid tick in the meantime (R51, R381). It comes after
the snapshot, which shows the master as lost. -/
def State.succeed (s : State) : State :=
  if s.tb.succeeds then
    let t := s.onTb (fun x => { x with succeeds := false })
    if t.follows ∧ !t.ring.detached then ((t.becomeMaster (t.ring.epoch + 1)).count 0x0F15 255).raise 0x0F09 255 else t
  else s

/-! ### Segments (R372, R373, R376, R382) -/

/-- RING_LINK_DOWN: the port has lost signal or lock for 2 µs; it is down from the next tick (R372). -/
def execRingLinkDown (port : Fin 2) (s : State) : Host.Outcome State Fault Refusal :=
  .next (match (s.ring.ports[port]).state with
    | .inService | .standby => s.onPort port (fun x => { x with lost := true })
    | _ => s)

/-- One exchange on a port: the delay is the mean of the last sixteen (R376). -/
def State.echoed (s : State) (p : Fin 2) (interval : Nat) : State :=
  s.onPort p (fun x =>
    let l := (interval :: x.echoes).take 16
    { x with echoes := l, delay := if l.length = 16 then some (rdiv (sumN l) 32).toNat else x.delay })

/-- A bypassed node times an exchange between its neighbours, X on its WEST side and Y: the interval to Y's response gives its EAST
delay, and the X–Y delay that Y publishes, less that and 0.1 ns for the bypass, its WEST one (R376). Y's slot names X. -/
def State.throughEcho (s : State) (interval : Nat) (y : Byte) : State :=
  let t := s.echoed 0 interval
  let k : Fin 8 := Fin.ofNat 8 (y.toNat + 7)
  let x : Byte := BitVec.ofNat 8 (field 19 1 s.ring.last[k])
  let t := (t.onPort 0 (fun q => { q with partner := y })).onPort 1 (fun q => { q with partner := x })
  match (t.ring.ports[(0 : Fin 2)]).delay, s.publishedDelay k 1 with
  | some d, some xy => t.onPort 1 (fun q => { q with delay := some (xy - d - 1) })
  | _, _ => t

/-- ECHO_EXCHANGE: one exchange, the round trip in 0.1 ns and the responder's turnaround in bit times (R376). While the bypass is
closed it is one of the neighbours', seen on the EAST port. -/
def execEchoExchange (port : Fin 2) (roundTrip : Nat) (echo : EchoReport) (s : State) : Host.Outcome State Fault Refusal :=
  .next (
    let t := s.codeErrors echo.codeErrors
    let interval := roundTrip - 16 * echo.turnaround
    match (s.ring.ports[port]).state with
    | .training | .standby | .inService => t.echoed port interval
    | .listen => if port = 0 ∧ 1 ≤ echo.node.toNat ∧ echo.node.toNat ≤ 8 then t.throughEcho interval echo.node else t
    | .down => t)

/-- TRAINING_COMPLETE (Table 16.5, steps 3 to 5), with the code violations of its TRAIN sets. -/
def execTrainingComplete (port : Fin 2) (train : TrainReport) (codeErrors : Nat) (s : State) : Host.Outcome State Fault Refusal :=
  .next (
    let x := s.ring.ports[port]
    let t := s.codeErrors codeErrors
    if x.state ≠ .training then t
    else
      let foreign : Bool := decide (train.master ≠ s.ring.master ∨ train.epoch ≠ s.ring.epoch)
      let other : Bool := decide (train.code ≠ s.checkCode)
      let t := (t.portFaultIf other 0x0F03 port)
      let t := if foreign then (t.stick 0x0F10 255 5).portFault 0x0F06 port else t.clearFault 0x0F06 255
      if foreign || other || decide (x.echoes.length < 16) then t
      else
        let loop := (s.onPort port (fun x => { x with partner := train.node })).loopDelay s.joinedMask
        let t := t.checkLoop loop
        if loopBudget < loop then t
        else t.onPort port (fun x => { x with state := .standby, since := s.frame64, partner := train.node }))

/-- RING_TRAIN_FAIL: a segment has trained for RING.TRAIN_TIMEOUT frames; training restarts. -/
def execRingTrainFail (port : Fin 2) (s : State) : Host.Outcome State Fault Refusal :=
  .next (
    let x := s.ring.ports[port]
    if x.state = .training ∧ s.devN 0x0F07 ≤ (s.frame64 - x.since).toNat then
      (s.onPort port (fun x => { x with since := s.frame64, echoes := [], delay := none })).portFault 0x0F02 port
    else s)

/-- UNWRAP at T(U): every trained segment enters service, and the books of the node are full again (R373, R389). A credit that
returns later, for a packet still in flight, finds nothing spent and is not added. -/
def execUnwrap (s : State) : Host.Outcome State Fault Refusal :=
  .next (match s.announcement with
    | some x =>
      if x.event = 2 ∧ x.frame ≤ s.frame64 ∧ s.ring.joined ∧ s.ring.wrapped then
        let t := s.each (allFin 2) (fun p t => if (t.ring.ports[p]).state = .standby then t.portInService p else t)
        (t.onRing (fun r => { r with
          wrapped := false, announced := none, segmentDown := false
          spent := Vector.replicate 8 0
          credits := Vector.replicate 8 (s.devN 0x0F03)
          filled := Vector.replicate 8 (s.devN 0x0F03) })).relink
      else s
    | none => s)

/-- RETRAIN_AT_FRAME: at T(F) both ends of the announced segment become end ports and train (R384). -/
def execRetrainAtFrame (port : Fin 2) (s : State) : Host.Outcome State Fault Refusal :=
  .next (match s.announcement with
    | some x =>
      let own := BitVec.ofNat 8 s.ownNode
      let here : Bool := decide (x.node = own) && x.ports.getLsbD port.val
      let far : Bool := decide (x.node ≠ own) && decide ((s.ring.ports[port]).partner = x.node) && x.ports.getLsbD (1 - port.val)
      if x.event = 3 ∧ x.frame ≤ s.frame64 ∧ s.ring.joined ∧ (here || far) ∧ (s.ring.ports[port]).state = .inService then
        (s.endPortAt port).relink
      else s
    | none => s)

/-- A node has joined: the credits of its pair are full, and the book is checked again (R104, R389). -/
def State.fillPair (s : State) (k : Fin 8) : State :=
  s.onRing (fun r => { r with
    segmentDown := false, filled := r.filled.set k (s.devN 0x0F03), spent := r.spent.set k 0
    credits := r.credits.set k (s.devN 0x0F03), buffered := r.buffered.set k 0, returns := r.returns.set k 0 })

/-- JOIN_RECEIVED: a neighbour has joined; the STANDBY port toward it enters service (R377). A node that joined inside a segment
in service leaves its length unknown until it is measured again. -/
def execJoinReceived (port : Fin 2) (node : Byte) (item : JoinReport) (s : State) : Host.Outcome State Fault Refusal :=
  .next (
    let t := s.codeErrors item.codeErrors
    if ¬s.ring.joined then t
    else if item.epoch ≠ s.ring.epoch then (t.stick 0x0F10 255 5).portFault 0x0F06 port
    else
      let inside : Bool := decide ((s.ring.ports[port]).state = .inService)
      let t := t.onPort port (fun x => { x with
        partner := node, echoes := if inside then [] else x.echoes, delay := if inside then none else x.delay })
      let t := if 1 ≤ node.toNat ∧ node.toNat ≤ 8 then t.fillPair (Fin.ofNat 8 (node.toNat + 7)) else t
      if (s.ring.ports[port]).state = .standby then t.portInService port else t)

/-! ### State slots (R385, R386, R389) -/

/-- A Mortar field of type PREPARE, VOTE, DECISION or ACK, or a group flag, in a slot (R378). -/
def slotBusy (b : List Byte) : Bool :=
  let kinds := [field 48 1 b, field 80 1 b]
  kinds.any (fun k => decide (1 ≤ k ∧ k ≤ 4)) || (field 1 1 b).testBit 6

/-- The master withdraws a window when a field or flag arrives (R378), and answers a retrain request (R384). -/
def State.masterHears (s : State) (k : Fin 8) (b : List Byte) : State :=
  if !(s.ring.joined && s.isMaster) then s
  else
    match s.ring.announced with
    | some x => if x.event = 1 ∧ slotBusy b then s.onRing (fun r => { r with announced := none }) else s
    | none =>
      if field 27 1 b = 0 then s
      else s.onRing (fun r => { r with announced := some {
        event := 3, frame := s.frame64 + 8, node := BitVec.ofNat 8 (k.val + 1), ports := BitVec.ofNat 8 (field 27 1 b) } })

/-- STATE_SLOT_RECEIVED: 192 bytes and their CRC. A slot that fails it is not delivered (R386). No more credits return than are
spent (R389). A node whose slot newly shows it joined has full credits, and one that newly shows an end node tells that a segment
is down (R104, R370). -/
def execStateSlotReceived (port : Fin 2) (node : Fin 8) (slot : List Byte) (codeErrors : Nat) (s : State) :
    Host.Outcome State Fault Refusal :=
  .next (
    let t := s.codeErrors codeErrors
    let b := slot.take 192
    if slot.length ≠ 194 ∨ crc16Bytes b ≠ slot.drop 192 then t.damaged port
    else if ¬s.ring.joined then t.onRing (fun r => { r with last := r.last.set node b })
    else if (s.ring.received[node]).isSome then t
    else
      let back := min (field 40 4 b / 16 ^ s.ring.addr.val % 16) s.ring.spent[node]
      let joins : Bool := (field 1 1 b).testBit 0 && !(field 1 1 s.ring.last[node]).testBit 0
      let ends : Bool := (field 1 1 b).testBit 7 && !(field 1 1 s.ring.last[node]).testBit 7
      let t := t.onRing (fun r => { r with
        received := r.received.set node (some b), missing := r.missing.set node 0, last := r.last.set node b
        credits := r.credits.set node (r.credits[node] + back), spent := r.spent.set node (r.spent[node] - back) })
      let t := if joins then t.fillPair node else t
      let t := if ends then t.learnWrap else t
      let t := if node.val + 1 = s.ring.master.toNat ∧ s.follows ∧ !s.ring.detached ∧ field 8 8 b ≠ s.frame64.toNat then t.detach else t
      let t := if s.rank = 0 ∧ node ≠ s.ring.addr ∧ field 44 1 b = 0 ∧ (field 1 1 b).testBit 0 then t.raise 0x0F0B 255 else t
      t.masterHears node b)

/-- CREDIT_RETURN: a packet of a node has left the receive buffer (R389). -/
def execCreditReturn (node : Fin 8) (s : State) : Host.Outcome State Fault Refusal :=
  .next (
    if s.ring.buffered[node] = 0 then s
    else s.onRing (fun r => { r with buffered := r.buffered.set node (r.buffered[node] - 1), returns := r.returns.set node (r.returns[node] + 1) }))

/-! ### Listening, joining and starting (R377 to R380) -/

/-- The loop delay with the own residence, as a listening node forms it from the slots it has decoded (Table 16.6, step 3). -/
def State.listenLoop (s : State) (x : ListenReport) : Nat := s.loopDelay x.joined.toNat + x.residence

/-- The checks of Table 16.6, step 3. -/
def State.listenOk (s : State) (x : ListenReport) : Bool :=
  decide (x.code = s.checkCode) && !x.joined.getLsbD s.ring.addr.val && decide (s.listenLoop x ≤ loopBudget)

/-- Step 4: the node knows its path delay. On a path without a running link it need not (R378). -/
def State.pathKnown (s : State) (x : ListenReport) : Bool :=
  !x.running || (allFin 2).all (fun p => (s.ring.ports[p]).delay.isSome)

/-- RING_LISTEN_ACQUIRED (Table 16.6, steps 2 to 4): the checks, and the one step of the tick at the first report that passes
them with every bay off (R48). -/
def execRingListenAcquired (report : ListenReport) (s : State) : Host.Outcome State Fault Refusal :=
  .next (
    if s.ring.joined ∨ s.dev 0x0F00 = 0 ∨ s.power.booting then s
    else
      let t := (s.codeErrors report.codeErrors).raiseIf (decide (report.code ≠ s.checkCode)) 0x0F03
      let t := if report.joined.getLsbD s.ring.addr.val then t.raise 0x0F04 255 else t
      let t := t.checkLoop (s.listenLoop report)
      let t := t.onRing (fun r => { r with acquired := some report, heardTick := r.heardTick || report.running })
      if s.listenOk report && s.pathKnown report && s.everyBayOff && !s.ring.stepped then
        t.onRing (fun r => { r with
          stepped := true
          master := report.master, epoch := report.epoch, hadEpoch := true
          stepTo := some (report.frame + 1, clampI (-5000) 5000 (s.ring.heardPhase.getD 0)) })
      else t)

/-- The node becomes part of a ring: its bypass opens, and its books are full (R365, R389). On a running link it keeps the partners
and delays it has found, and the frame and the next are quiet (R378); else both segments train. -/
def State.opened (s : State) (running : Bool) : State :=
  let st : PortState := if running then .inService else .training
  let full := s.devN 0x0F03
  let t := s.onRing (fun r => { r with
    joined := true, detached := false, wrapped := !running, quiet := running, lockedOnce := false, stepTo := none, segmentDown := false
    lastWindow := if running then s.frame64 else r.lastWindow
    ports := r.ports.map (fun (x : RingPort) => ({ state := st, since := s.frame64, endPort := !running
                                                   partner := if running then x.partner else 0
                                                   delay := if running then x.delay else none } : RingPort))
    credits := Vector.replicate 8 full, filled := Vector.replicate 8 full, spent := Vector.replicate 8 0
    buffered := Vector.replicate 8 0, returns := Vector.replicate 8 0
    missing := Vector.replicate 8 0 })
  let t := t.onTb (fun x => { x with locked := false, inWindow := 0, outWindow := 0, missed := 0, alarmRun := 0, quietRun := 0, phase := none, held := 0, succeeds := false })
  (t.clearFault 0x0F07 255).retrained 3

/-- JOIN: at the frame of a window that the master's slot of the frame before still announces, or at once when the through path
carries no running link; the tick has been stepped by then (Table 16.6, steps 4 and 5, R378). -/
def execJoin (s : State) : Host.Outcome State Fault Refusal :=
  .next (match s.ring.acquired with
    | none => s
    | some x =>
      let window : Bool := match s.announcedBy x.master.toNat with
        | some a => decide (a.event = 1 ∧ a.frame = s.frame64) &&
          decide (field 8 8 s.ring.last[Fin.ofNat 8 (x.master.toNat + 7)] + 1 = s.frame64.toNat)
        | none => false
      if s.ring.joined ∨ s.dev 0x0F00 = 0 ∨ !s.listenOk x ∨ !s.ring.stepped ∨ s.ring.stepTo.isSome ∨ x.master = 0 ∨ (x.running ∧ !window) then s
      else (s.opened x.running).sendJoin)

/-- RING_START: a node of rank r that has heard no tick for (r + 1) RING.START_WAIT frames starts its own ring (R380). -/
def execRingStart (s : State) : Host.Outcome State Fault Refusal :=
  .next (
    let waited := (s.frame64 - s.ring.listenSince).toNat
    if s.ring.joined ∨ s.dev 0x0F00 = 0 ∨ s.power.booting ∨ s.ring.heardTick ∨ s.rank = 255 ∨
        waited < (s.rank + 1) * s.devN 0x0F05 then s
    else
      let t := ((s.opened false).becomeMaster (if s.ring.hadEpoch then s.ring.epoch + 1 else 1)).sendJoin
      if s.ring.hadEpoch then t.raise 0x0F09 255 else t)

/-- INSERTION_WINDOW_ANNOUNCE: for an expected node that is not joined, 40 frames ahead and a period after the last window
(R378). -/
def execInsertionWindowAnnounce (s : State) : Host.Outcome State Fault Refusal :=
  .next (
    let wanted : Bool := (allFin 8).any (fun k => (s.devN 0x0F02).testBit k.val && !s.joinedMask.testBit k.val)
    let busy : Bool := (s.ring.slots.toList ++ s.ring.received.toList).any (fun o => match o with | some b => slotBusy b | none => false)
    let due : Bool := s.ring.lastWindow = 0 || decide (s.devN 0x0F06 ≤ (s.frame64 + 40 - s.ring.lastWindow).toNat)
    if s.ring.joined ∧ s.isMaster ∧ s.ring.announced.isNone ∧ wanted ∧ due ∧ !busy then
      s.onRing (fun r => { r with announced := some { event := 1, frame := s.frame64 + 40 } })
    else s)

/-- The bypass closes and Table 16.6 starts again (R365, R384). The faults that only a joined node can have clear at once, those of
the timebase among them (DESIGN CHOICE, notes/assumptions/146). -/
def State.leaveRing (s : State) : State :=
  let t := s.each [0x0104, 0x0105, 0x0106, 0x0F01, 0x0F03, 0x0F05, 0x0F06, 0x0F0B] (fun c t => t.clearFault c 255)
  let t := t.onRing (fun r => { r with
    joined := false, detached := false, wrapped := false, quiet := false, acquired := none, heardTick := false, heardPhase := none, stepped := false
    segmentDown := false, listenSince := s.frame64, announced := none, stepTo := none, retrainRequest := 0
    ports := Vector.replicate 2 { state := if s.dev 0x0F00 = 0 then .down else .listen, since := s.frame64 }
    received := Vector.replicate 8 none, slots := Vector.replicate 8 none, last := Vector.replicate 8 []
    missing := Vector.replicate 8 0, own := [], fields := [], lockedOnce := false })
  t.onTb (fun x => { x with holdover := false, locked := false, missed := 0, phase := none, phaseErr := 0, frameLen := 10000, held := 0, succeeds := false })

/-! ### What a tick does to the ring -/

/-- PHASE_CORRECTION (R49, R50): the length of the frame that begins, the lock and the runs of Table 2.5. A frame that brought
no tick symbol has no e, and leaves the runs for lock, unlock and TB_PHASE_ALARM as they stand (DESIGN CHOICE,
notes/assumptions/102). A node that generates the tick itself has e = 0. -/
def State.phaseCorrection (s : State) : State :=
  if !s.follows then
    let quiet := if s.isActive 0x0105 255 then s.tb.quietRun + 1 else 0
    let t := s.onTb (fun t => { t with phase := none, phaseErr := 0, frameLen := 10000, missed := 0, holdover := false, alarmRun := 0,
                                       quietRun := quiet, lengths := [], held := 0, succeeds := false })
    if 16 ≤ quiet then t.clearFault 0x0105 255 else t
  else
    let l := if s.tb.holdover then s.tb.lengths else (s.tb.frameLen :: s.tb.lengths).take (s.devN 0x0103)
    match s.tb.phase with
    | some e =>
      let slew := s.dev 0x0100
      let len := (10000 - clampI (-slew) slew e).toNat
      let inside : Bool := decide (e.natAbs ≤ s.devN 0x0101)
      let alarm : Bool := decide (s.devN 0x0102 < e.natAbs * 5)
      let t := s.onTb (fun t =>
        let i := if inside then t.inWindow + 1 else 0
        let o := if inside then 0 else t.outWindow + 1
        { t with phase := none, phaseErr := sat16 (5 * e), frameLen := len, missed := 0, holdover := false, held := 0, succeeds := false
                 inWindow := i, outWindow := o, locked := if 16 ≤ i then true else if 16 ≤ o then false else t.locked
                 lengths := l
                 alarmRun := if alarm then t.alarmRun + 1 else 0, quietRun := if alarm then 0 else t.quietRun + 1 })
      let t := t.onRing (fun r => { r with lockedOnce := r.lockedOnce || t.tb.locked })
      let t := t.clearFault 0x0104 255
      if 16 ≤ t.tb.quietRun then t.clearFault 0x0105 255 else t
    | none =>
      let n := s.tb.held
      let len := if l = [] then 10000 else (n + 1) * sumN l / l.length - n * sumN l / l.length
      s.onTb (fun t => { t with frameLen := len, lengths := l, held := n + 1, missed := if s.ring.quiet then t.missed else t.missed + 1 })

/-- The frames in a row in which a port in service has received no tick block: its partner has stopped, while the other port still
receives or serves no segment (R372; DESIGN CHOICE, notes/assumptions/154). -/
def State.silence (s : State) (p : Fin 2) : Nat :=
  let x := s.ring.ports[p]
  let y := s.ring.ports[1 - p]
  if x.state ≠ .inService ∨ x.ticked then 0
  else if s.ring.quiet ∨ (y.state = .inService ∧ !y.ticked) then x.silent
  else x.silent + 1

/-- The slots of the frame that ends are delivered; a joined node's slot that is missing is lost (R386). A port whose run of bad
or silent frames reaches RING.ERR_FRAMES, or that has lost signal or lock, is down from this tick (R372). Quiet frames count
toward nothing. -/
def State.deliverSlots (s : State) : State :=
  let others := (allFin 8).filter (fun k => k ≠ s.ring.addr && s.joinedMask.testBit k.val)
  let lost := others.filter (fun k => (s.ring.received[k]).isNone)
  let t := if s.ring.joined ∧ !s.ring.quiet ∧ lost ≠ [] then
      ((s.countN 0x0F11 255 lost.length).stick 0x0F10 255 7).raise 0x0F08 255 else s
  let t := t.onRing (fun r => { r with
    slots := r.received, received := Vector.replicate 8 none
    missing := if s.ring.quiet then r.missing
      else Vector.ofFn (fun k : Fin 8 => if (r.received[k]).isSome then 0 else r.missing[k] + 1)
    ports := Vector.ofFn (fun p : Fin 2 =>
      let x := r.ports[p]
      { x with badRun := if x.frameBad then x.badRun + 1 else if s.ring.quiet then x.badRun else 0, frameBad := false
               silent := s.silence p, ticked := false }) })
  t.each (allFin 2) (fun p t =>
    let x := t.ring.ports[p]
    if x.lost ∨ t.devN 0x0F08 ≤ x.badRun ∨ t.devN 0x0F08 ≤ x.silent then t.linkDown p else t)

/-- The master's announcements at the tick of frame n (R373, R378, R384): one whose frame has passed goes, its own retrain
request is answered, and UNWRAP follows when every segment is trained; its lead of eight frames is the model's. -/
def State.masterAnnounces (s : State) : State :=
  let t := s.onRing (fun r => { r with announced := r.announced.filter (fun x => decide (s.frame64 ≤ x.frame)) })
  if !(s.ring.joined && s.isMaster) ∨ t.ring.announced.isSome then t
  else if s.ring.retrainRequest ≠ 0 then
    t.onRing (fun r => { r with announced := some {
      event := 3, frame := s.frame64 + 8, node := BitVec.ofNat 8 s.ownNode, ports := s.ring.retrainRequest } })
  else
    let trained : Bool := (allFin 2).all (fun p => match (s.ring.ports[p]).state with | .standby | .inService => true | _ => false) &&
      (allFin 8).all (fun k => k = s.ring.addr || !s.joinedMask.testBit k.val ||
        decide (0 < field 18 1 s.ring.last[k] ∧ 0 < field 19 1 s.ring.last[k]))
    if s.ring.wrapped && trained then t.onRing (fun r => { r with announced := some { event := 2, frame := s.frame64 + 8 } }) else t

/-- RING.LOOP_DELAY of the ring that the slots show; RING_DELAY_BUDGET clears when it is known and within the budget (R371). -/
def State.measureLoop (s : State) : State :=
  if s.ring.joined then
    let loop := s.loopDelay s.joinedMask
    let t := s.setPar 0x0F16 255 (min loop 250000)
    if s.loopKnown s.joinedMask && decide (loop ≤ loopBudget) then t.clearFault 0x0F05 255 else t
  else s

/-- The ring's part of a tick, in the frame that begins. A request to retrain is answered at its frame (R384). -/
def State.ringTick (s : State) : State :=
  let t := s.deliverSlots
  let starts : Bool := match t.announcement with | some x => decide (x.event = 1 ∧ x.frame = s.frame64) | none => false
  let answered : Bool := match t.announcement with
    | some x => decide (x.event = 3 ∧ x.frame = s.frame64 ∧ x.node.toNat = s.ownNode)
    | none => false
  let t := t.onRing (fun r =>
    let w := if starts then s.frame64 else r.lastWindow
    { r with lastWindow := w, retrainRequest := if answered then 0 else r.retrainRequest, quiet := r.joined && decide (w ≠ 0) && decide (s.frame64 = w ∨ s.frame64 = w + 1) })
  let t := t.masterAnnounces.measureLoop
  let strap : Bool := t.ring.joined && decide (t.rank = 0) && (allFin 8).any (fun k => k ≠ t.ring.addr && t.joinedMask.testBit k.val &&
    decide (field 44 1 t.ring.last[k] = 0))
  let t := if strap then t else t.clearFault 0x0F0B 255
  let t := match t.ring.retraining with
    | some (3, _, _, _) => if t.ring.joined then t.leaveRing else t
    | _ => t
  t.originate.each (allFin 2) (fun p u => u.onPort p (fun x => { x with guard := if t.ring.joined then t.guardSet p else [], blocks := [] }))

end Sys2Proof.Machine
end

