-- ==== Sys2Proof/Machine/Modes.lean ====
section
/-! DEFINITION. The mode controller (R443 to R455) up to the boot: MODE_SET and its transitions, leaving Service (R72,
R200, R286, R319, R462), a waiting rollback, the descent, Dormant, Keep and waking, and the tests of DIAG_SELFTEST. -/

namespace Sys2Proof.Machine

def State.onPower (s : State) (f : Power → Power) : State := { s with power := f s.power }

/-- The mode changes; the change is logged (R443, Table 20.6). Limp ends every TEACH (R344). -/
def State.setMode (s : State) (m : Mode) : State :=
  let t := if m = .limp then s.each (allFin 16) (fun a t => t.endTeach a Status.learnGated) else s
  (t.onPower (fun p => { p with mode := m, idleFrames := 0 })).event
    { code := 0x0080, inst := 255, kind := 2, cls := 1, detail := m.code, data := leBytes 1 s.power.mode.code, frame := s.frame64 }

def modeOf (b : Byte) : Option Mode :=
  match b.toNat with
  | 0 => some .keep | 1 => some .dormant | 2 => some .ready | 3 => some .run | 4 => some .limp | 5 => some .service
  | _ => none

/-! ### Conditions of Table 19.2 -/

/-- Run and Limp are refused after a failed boot step or with an unlisted pairing (Tables 19.9 and 20.9). -/
def State.runBarred (s : State) : Bool := s.isActive 0x0001 255 || s.isActive 0x1403 255

/-- R317 and R342 on a request for Run or Limp. -/
def State.runRefusal (s : State) : Option Nat :=
  if s.saf.graceExpired then some Status.safetyInhibit
  else if s.lanes.redundancyLost && decide (s.dev 0x0D00 = 0) then some Status.faultLatched
  else none

/-- With one lane and LANE.SINGLE_OK = 1 a request for Run enters Limp (R342). -/
def State.runOrLimp (s : State) (m : Mode) : Mode := if m = .run ∧ s.lanes.redundancyLost ∧ s.dev 0x0D00 ≠ 0 then .limp else m

/-- With one lane and LANE.SINGLE_OK = 0 a request for Run or Limp is refused from every mode (R342). -/
def State.singleRefused (s : State) (m : Mode) : Bool :=
  s.lanes.redundancyLost && decide (s.dev 0x0D00 = 0) && (m = .run || m = .limp)

def Mode.low : Mode → Bool | .keep | .dormant => true | _ => false

/-- Whether Table 19.2 has a row from the mode in force to `m`. -/
def State.allows (s : State) (m : Mode) : Bool :=
  match s.power.mode with
  | .ready => !((m = .run || m = .limp) && s.runBarred)
  | .run => m = .ready || m = .service || m.low
  | .limp => m = .ready || m = .service || m.low || m = .run
  | .service => !s.isActive 0x1403 255 && !((m = .run || m = .limp) && s.runBarred)
  | .dormant => !((m = .run || m = .limp) && s.runBarred)
  | .keep => false

/-- The first failing condition of a MODE_SET to `m`. -/
def State.modeRefusal (s : State) (m : Mode) : Option Nat :=
  let descends : Bool := (s.power.mode = .run || s.power.mode = .limp) && !(m = .run)
  if !s.allows m then some Status.wrongMode
  else if s.power.pending.isSome then some Status.busy
  else
    match (if m = .run ∨ m = .limp then s.runRefusal else none) with
    | some status => some status
    | none =>
      if (m.low && s.cfg.flash.isSome) || (descends && !s.allDisabled) then some Status.busy
      else none

/-- Frames to the first change of a transition, and whether that change ends it. -/
def State.firstChange (s : State) (m : Mode) : Nat × Bool :=
  match s.power.mode with
  | .ready => if m = .run ∨ m = .limp then (2, false) else (1, m ≠ .keep)
  | .service => (Config.leaveService.val + 1, m = .ready && decide (Config.leaveService.val = 0))
  | _ => (1, m = .ready || m = .run)

/-! ### MODE_SET, LATENCY_SET and MODE_STATUS -/

/-- The reply field. -/
def modeField (m : Mode) : Body := .bytes (leBytes 1 m.code ++ pad 3)

/-- The device wakes from Dormant to Ready with a cause of Table 19.7 (R39, R447): the safety channel leaves retention, a
ring node listens again, and the debug port draws a nonce (R493). The channel boots without a switch test, unless that of the last
boot has still to run (R315). -/
def State.wakeDormant (s : State) (cause : Nat) : State :=
  let t := s.setMode .ready
  let t := (t.onPower (fun p => { p with wakeCause := cause })).count 0x1312 255
  let t := t.onTb (fun x => { x with running := true })
  let t := t.onRing (fun r => { r with listenSince := s.frame64 })
  let t := { t with dbg := { t.dbg with nonces := t.dbg.nonces + 1 } }
  if t.saf.bootTest then (if t.vgdPresent then t.startBootTest else t) else t.safetyBoot true 0

/-- MODE_SET (R444). A request outside Table 19.2 and one refused by R342 report the mode in force (R56). A reply of
ACCEPTED_PENDING reports the mode in force, or Limp where Run becomes Limp; OK reports the mode of the next tick. -/
def execModeSet (r : Req) (mode : Byte) (s : State) : Host.Outcome State Fault Refusal :=
  .next (s.request 0xB0 r (fun k s =>
    match modeOf mode with
    | none => s.refuse r 0xB0 Status.badParameter
    | some asked =>
      let m := s.runOrLimp asked
      if s.singleRefused asked then s.answer r 0xB0 Status.faultLatched (modeField s.power.mode)
      else if m = s.power.mode then s.answer r 0xB0 Status.alreadyDone (modeField s.power.mode)
      else
        match s.modeRefusal m with
        | some status => s.answer r 0xB0 status (if status = Status.safetyInhibit then .bare else modeField s.power.mode)
        | none =>
          if s.power.mode = .dormant then
            let t := s.wakeDormant 7
            if m = .ready then t.answer r 0xB0 Status.ok (modeField m)
            else (t.onPower (fun p => { p with pending := some m, dueAt := s.frame64 + 2, requester := some (some k, r.seq) })).answer
              r 0xB0 Status.pending (modeField (if m = asked then .ready else m))
          else
            let (frames, ends) := s.firstChange m
            let t := s.onPower (fun p => { p with
              pending := some m, dueAt := s.frame64 + BitVec.ofNat 64 frames, requester := if ends then none else some (some k, r.seq) })
            if ends then t.answer r 0xB0 Status.ok (modeField m)
            else t.answer r 0xB0 Status.pending (modeField (if m = asked then s.power.mode else m))))

/-- LATENCY_SET (R445). -/
def execLatencySet (r : Req) (latency : Word) (s : State) : Host.Outcome State Fault Refusal :=
  .next (s.request 0xB1 r (fun _ s =>
    let t := s.setDev 0x1300 latency.toNat
    t.answer r 0xB1 Status.ok (modeField t.targetMode)))

/-- MODE_STATUS (Table 19.8). -/
def execModeStatus (r : Req) (s : State) : Host.Outcome State Fault Refusal :=
  .next (s.request 0xB2 r (fun _ s => s.answer r 0xB2 Status.ok .modes))

/-! ### Leaving Service -/

/-- A change of the pair types gives the pair new axis slots (R200). Two bays that become a stepper pair with different carriers
both take the one of bay 2k, held like a write of it (R107, R114); the manual does not say which stands (DESIGN CHOICE,
notes/assumptions/106). -/
def State.retypePairs (s : State) (before : Nat) : State :=
  s.each (allFin 8) (fun k t =>
    if before.testBit k.val = t.isStepper k.val then t
    else
      let fresh : Axis := { since := t.frame64 }
      let u := (t.onAx (slotOfStepper k) (fun _ => fresh)).onAx (oddOf (slotOfStepper k)) (fun _ => fresh)
      let c := u.par 0x0300 (2 * k.val)
      if u.isStepper k.val ∧ c ≠ u.par 0x0300 (2 * k.val + 1) then u.writeCarrier (2 * k.val) c else u)

/-- A change of one of these invalidates the axis's table (R286). -/
def tableParameters : List Nat := [0x0900, 0x0909, 0x090A, 0x0901, 0x0A00, 0x0A01]

/-- What follows a change of SVC values (R200, R286, R365, R396, R410): RING.ENABLE closes the bypass or starts Table 16.6. -/
def State.valuesChanged (s : State) (before : State) : State :=
  let t := s.retypePairs (before.devN 0x0800)
  let t := t.each t.presentAxes (fun a t =>
    if tableParameters.any (fun i => decide (t.par i a.val ≠ before.par i a.val)) then t.invalidateTable a else t)
  let t := if t.dev 0x0F00 = before.dev 0x0F00 then t else t.leaveRing
  (t.configureCounters.configureCan 0).configureCan 1

/-- The values of Service take effect (R72, R123, R319, R459, R462): the set being activated with its keys and its safety set,
then the SVC writes in their order, whose completions stand for their taking effect, and an accepted safety set. The manual does
not order a set and the writes of one stay in Service (DESIGN CHOICE, notes/assumptions/107). -/
def State.leaveService (s : State) : State :=
  let t := match s.cfg.activating with
    | some (k, trial) =>
      let bs := s.slotSet k
      let t := ((s.applySet (some k)).becomeActive k trial).storeKeys (carriedKeys bs)
      match carriedSafety bs with
      | some b => if (t.safetySetStatus b).isNone then t.loadSafetySet b else t
      | none => t
    | none => s
  let t := t.each s.svcPending (fun (k, x) t => t.takeValue (k / 256) (k % 256) x)
  let t := match s.saf.setAccepted with | some b => t.loadSafetySet b | none => t
  let t := t.each (List.range 48) (fun h t => t.setPar 0x0307 h 0)
  let t := t.valuesChanged s
  let t := t.each s.svcWaiting (fun (slot, seq, opcode) t => t.complete slot seq opcode.toNat Status.ok)
  let t := t.each s.cfg.activateWaiting (fun (slot, seq) t => t.complete slot seq 0x81 Status.ok)
  { t with svcPending := [], svcWaiting := [], saf := { t.saf with setAccepted := none }
           cfg := { t.cfg with activating := none, activateWaiting := [] } }

/-! ### MODE_TRANSITION_COMPLETE (R444) -/

/-- The transition ends; its request completes (R68). -/
def State.endTransition (s : State) (status : Nat) : State :=
  let t := s.onPower (fun p => { p with pending := none, requester := none })
  match s.power.requester with
  | some (slot, seq) => t.complete slot seq 0xB0 status
  | none => t

/-- MODE_TRANSITION_COMPLETE: the change due at this tick. The descent to Dormant or Keep has its own command. -/
def execModeTransitionComplete (s : State) : Host.Outcome State Fault Refusal :=
  .next (match s.power.pending with
    | none => s
    | some m =>
      let later (t : State) (frames : Long) : State := t.onPower (fun p => { p with dueAt := s.frame64 + frames })
      if s.frame64 < s.power.dueAt then s
      else
        match s.power.mode with
        | .service =>
          let t := s.leaveService.setMode .ready
          if m = .ready then t.endTransition Status.ok
          else later t (if m.low then 0 else 2)
        | .run | .limp =>
          if s.power.mode = .limp ∧ m = .run then
            if s.lanes.redundancyLost then s.endTransition Status.faultLatched else (s.setMode .run).endTransition Status.ok
          else if !s.allDisabled then s.endTransition Status.busy
          else
            let t := s.setMode .ready
            if m = .ready then t.endTransition Status.ok else later t 1
        | .ready =>
          if m.low then s
          else if m = .service then (s.setMode .service).endTransition Status.ok
          else if m = .ready then s.endTransition Status.ok
          else
            match s.runRefusal with
            | some status => s.endTransition status
            | none => (s.setMode (s.runOrLimp m)).endTransition Status.ok
        | .keep | .dormant => s)

/-! ### ROLLBACK_APPLY (R464) -/

/-- At the first tick with every axis DISABLED a waiting rollback takes effect as though Service were left. An automatic one
that changes the set check code holds the channel in STO with cause 7; the older safety set becomes the active one. -/
def execRollbackApply (s : State) : Host.Outcome State Fault Refusal :=
  .next (
    if !s.cfg.rollbackPending ∨ !s.allDisabled then s
    else
      let safety := s.rollsSafetyBack
      let t := s.landRollback.valuesChanged s
      let t := if safety && s.cfg.rollbackBy.isNone && !decide (s.saf.state = .locked) then t.enterSto 7 else t
      let t := match safety, s.olderSafety with
        | true, some b => t.loadSafetySet b
        | _, _ => t
      match s.cfg.rollbackBy with
      | some (slot, seq) =>
        State.complete { t with cfg := { t.cfg with rollbackBy := none } } slot seq 0x83 Status.ok
      | none => t)

/-! ### Dormant and Keep (R447 to R450, Table 19.3) -/

/-- Program every waiting entry into the flash ring (R470): the sector after the newest is kept erased. -/
def logPlace (seq : Word) : Nat := 0x740000 + 32 * ((seq.toNat - 1) % 16384)
def State.flashEntry (s : State) (e : Entry) : State :=
  let sector := ((e.seq.toNat - 1) / 128 + 1) % 128
  let t := if (e.seq.toNat - 1) % 128 = 0 then s.flashErase (0x740000 + 4096 * sector) 4096 else s
  t.flashProgram (logPlace e.seq) e.bytes

def State.flushLog (s : State) : State :=
  let t := s.each (s.log.entries.filter (fun e => !e.flashed)) (fun e t => t.flashEntry e)
  { t with log := { t.log with entries := t.log.entries.map (fun (e : Entry) => { e with flashed := true }) } }

/-- EVENT_FLASH_PROGRAM (R470). -/
def execEventFlashProgram (s : State) : Host.Outcome State Fault Refusal := .next s.flushLog

/-- Both STO switches open and the channel out of operation (R299). -/
def State.safetySleep (s : State) : State := s.islandReset

/-- The debug port is locked again (R494). -/
def State.lockDebug (s : State) : State :=
  ({ s with dbg := { s.dbg with scope := 0, halted := Vector.replicate 4 false, token := none } } : State).clearFault 0x0002 255

/-- IDLE_DESCENT (R448): the conditions have held for PWR.IDLE_TIME frames. -/
def execIdleDescent (s : State) : Host.Outcome State Fault Refusal :=
  .next (
    if s.idle ∧ s.devN 0x1301 ≤ s.power.idleFrames ∧ s.targetMode.low ∧ s.power.pending.isNone then
      s.onPower (fun p => { p with pending := some s.targetMode, dueAt := s.frame64 })
    else s)

/-- A descent to a mode is due. -/
def State.descends (s : State) (m : Mode) : Bool :=
  s.power.mode = .ready && decide (s.power.pending = some m) && decide (s.power.dueAt ≤ s.frame64) && s.cfg.flash.isNone && s.allDisabled

/-- DORMANT_ENTRY (R447): what the last tick left behind is kept; the tick stops. -/
def execDormantEntry (s : State) : Host.Outcome State Fault Refusal :=
  .next (
    if !s.descends .dormant then s
    else
      let t := s.quarryDormant.safetySleep.lockDebug
      let t := t.each (allFin 16) (fun b t => t.bayOff b)
      let t := if t.ring.joined then t.leaveRing else t
      let t := (t.endTransition Status.ok).setMode .dormant
      (t.onTb (fun x => { x with running := false })).flushLog)

/-- The parameters that Keystone holds: the wake configuration and the wake count (R449). -/
def keystoneKeys : List Nat := [0x1302, 0x1303, 0x1304, 0x1305, 0x1312].map (fun i => regKey i 255)

/-- What outlives a loss of every supply but VBAT: flash and what its records say, Keystone, and the levels on the pins. -/
def State.survive (s : State) : State :=
  { State.reset with
    regs := s.regs.filter (fun c => keystoneKeys.contains c.1)
    flash := s.flash, badFlash := s.badFlash
    power := { s.power with booting := false, pending := none, requester := none, idleFrames := 0, selftests := none, dueAt := 0 }
    cfg := { State.reset.cfg with
      slots := s.cfg.slots, lane := s.cfg.lane, safety := s.cfg.safety, laneBoot := s.cfg.laneBoot, safetyBoot := s.cfg.safetyBoot
      keys := s.cfg.keys, revoked := s.cfg.revoked, safetySets := s.cfg.safetySets }
    dbg := { State.reset.dbg with nonces := s.dbg.nonces }
    saf := { State.reset.saf with a := s.saf.a, b := s.saf.b }
    fio := { State.reset.fio with levels := s.fio.levels }
    motion := { State.reset.motion with badSlot := s.motion.badSlot }
    free := s.free, pending := s.pending }

/-- A restart with a reset cause (R39, R299, R365, R400, R440, R452, R494): the boot sequence follows as BOOT. The dies'
over-voltage comparators and their choppers act through reset (R137, R452). -/
def State.restart (s : State) (cause : Nat) : State :=
  let t := s.survive
  let t := t.onPower (fun p => { p with booting := true, pwrEn := true, quarryInit := true })
  let t := { t with
    regs := t.regs.filter (fun c => c.1 = regKey 0x1312 255)
    dbg := { t.dbg with nonces := t.dbg.nonces + 1 }
    pwm := { t.pwm with overVoltage := s.pwm.overVoltage, dies := t.pwm.dies.zipWith (fun (x y : Die) => { x with ov1 := y.ov1, ov2 := y.ov2, brakeOn := y.brakeOn, brakeSeen := y.brakeOn }) s.pwm.dies } }
  t.setDev 0x0010 cause

/-- KEEP_ENTRY (Table 19.3): sessions and records end, the log is written, and `PWR_EN` falls. A wake event that came
meanwhile releases it again. -/
def execKeepEntry (s : State) : Host.Outcome State Fault Refusal :=
  .next (
    if !s.descends .keep then s
    else
      let t := s.each (allFin 8) (fun k t => t.endSession k 1)
      let t := ((t.endTransition Status.ok).setMode .keep).flushLog.survive
      let t := (t.onPower (fun p => { p with pwrEn := false })).onTb (fun x => { x with running := false })
      if s.power.wakeLatched then
        ((t.onPower (fun p => { p with wakeLatched := false })).count 0x1312 255).restart 1
      else t)

def wakeBit : WakeSource → Nat
  | .wakeA => 0 | .wakeB => 1 | .timer => 2 | .can0 => 3 | .can1 => 4 | .di => 5

/-- WAKE (R449): an enabled source wakes the device; in Keep only the pins and the timer act. -/
def execWake (source : WakeSource) (s : State) : Host.Outcome State Fault Refusal :=
  .next (
    let armed : Bool := match source with
      | .timer => decide (s.devN 0x1305 ≠ 0)
      | .di => decide (s.devN 0x1303 ≠ 0)
      | _ => true
    let keystone : Bool := decide ((wakeBit source) ≤ 2)
    if !(s.devN 0x1302).testBit (wakeBit source) ∨ !armed then s
    else
      match s.power.mode with
      | .dormant => s.wakeDormant ((wakeBit source) + 1)
      | .keep =>
        if keystone then ((s.onPower (fun p => { p with wakeCause := (wakeBit source) + 1, startTries := 0 })).count 0x1312 255).restart 1 else s
      | _ => if keystone ∧ s.power.pending = some .keep then
          s.onPower (fun p => { p with wakeLatched := true, wakeCause := (wakeBit source) + 1 }) else s)

/-! ### Resets, supplies and self-tests -/

/-- The reset causes of MODE.RESET_CAUSE. -/
def resetCode : ResetEvent → Nat
  | .vbatPowerOn => 0 | .keepWake => 1 | .pin => 2 | .supervisor => 3 | .fwActivate => 4 | .debugPort => 5

/-- RESET (R453): VBAT power-on restarts Keystone too, and TEST holds the device in reset (R482). -/
def execReset (cause : ResetReport) (s : State) : Host.Outcome State Fault Refusal :=
  .next (
    let t := (s.restart (resetCode cause.event)).onPower (fun p => { p with test := cause.test })
    match cause.event with
    | .vbatPowerOn => ({ t with power := { State.reset.power with booting := true, test := cause.test } } : State).setPar 0x1312 255 0
    | .supervisor => t.onPower (fun p => { p with supplyReset := true })
    | _ => t)

/-- SUPPLY_RESET (R451, Table 19.3a): VBAT resets Keystone. -/
def execSupplyReset (supply : Supply) (s : State) : Host.Outcome State Fault Refusal :=
  execReset { event := if supply = .vbat then .vbatPowerOn else .supervisor, test := s.power.test } s

/-- PWR_START_RETRY (R451): the third failure leaves the device in Keep. -/
def execPwrStartRetry (s : State) : Host.Outcome State Fault Refusal :=
  .next (
    if !s.power.booting then s
    else if s.power.startTries < 2 then
      s.onPower (fun p => { p with startTries := p.startTries + 1, startRetried := true })
    else
      (s.onPower (fun p => { p with mode := .keep, booting := false, pwrEn := false, startTries := 0, startRetried := true })).onTb
        (fun x => { x with running := false }))

/-- PWR_VBAT_LOW (Table 19.9). -/
def execPwrVbatLow (mv : Nat) (s : State) : Host.Outcome State Fault Refusal :=
  .next (
    let t := s.setDev 0x1311 (min mv 4000)
    if mv < 2000 then (t.onPower (fun p => { p with vbatLow := true })).raise 0x1302 255 else t)

/-- QUARRY_INIT_DONE (R453). -/
def execQuarryInitDone (s : State) : Host.Outcome State Fault Refusal :=
  .next (s.onPower (fun p => { p with quarryInit := false }))

/-- DIAG_SELFTEST (R316, R454). The states in which no switch test may run are told apart by the model; in LOCKED, where every axis is
in state STO (R303), that state counts as DISABLED (DEDUCED, notes/assumptions/151). -/
def execDiagSelftest (r : Req) (tests : Word) (s : State) : Host.Outcome State Fault Refusal :=
  .next (s.request 0xC0 r (fun k s =>
    let m := tests.toNat
    let switch : Bool := m.testBit 0
    let st := s.saf.state
    let others : Bool := s.faults.any (fun f => f.code / 256 = 0x0C && f.rank = 7 && f.code ≠ 0x0C06)
    s.checked r 0xC0 [
      (decide (m = 0 ∨ 8 ≤ m), Status.badParameter),
      ((m.testBit 1 && s.anyEnabled) || (switch && !(s.presentAxes.all (fun a =>
        (s.ax a).state = .disabled || (st = .locked && (s.ax a).state = .sto)))), Status.busy),
      (s.power.selftests.isSome || s.saf.testByHost.isSome, Status.busy),
      (switch && st = .locked && (others || !s.isActive 0x0C06 255), Status.faultLatched),
      (switch && st ≠ .runPermitted && st ≠ .locked, Status.busy)]
      (fun s =>
        let rest := m / 2 * 2
        let t := s.onPower (fun p => { p with selftests := if rest = 0 then none else some (rest, some k, r.seq) })
        let t := if switch then (t.onSaf (fun x => { x with testByHost := some (some k, r.seq) })).beginSwitchTest else t
        t.answer r 0xC0 Status.pending .bare)))

/-- SELFTEST_COMPLETE (R454): test 1 or 2 ends; the tests run in bit order and a failure ends the request. The fault that a
failed test logs is raised by the command of its own finding (DEDUCED, notes/assumptions/113). -/
def execSelftestComplete (test : Nat) (passed : Bool) (s : State) : Host.Outcome State Fault Refusal :=
  .next (match s.power.selftests with
    | some (m, slot, seq) =>
      let first := if m.testBit 1 then 1 else 2
      if s.saf.testByHost.isSome ∨ test ≠ first then s
      else
        let rest := m - 2 ^ test
        if !passed then (s.onPower (fun p => { p with selftests := none })).complete slot seq 0xC0 Status.faultLatched
        else if rest = 0 then (s.onPower (fun p => { p with selftests := none })).complete slot seq 0xC0 Status.ok
        else s.onPower (fun p => { p with selftests := some (rest, slot, seq) })
    | none => s)

/-! ### TB_CLOCK_LOSS (R52, R122, R401) -/

/-- A half-bridge that clock loss turns on low: COMPLEMENTARY, or a coil in CHOP or SLOW; one that runs in OFF stays off, be it by its
entry or by its release (R120). -/
def State.shortsOnClockLoss (s : State) (b : Fin 16) (x : Fin 3) : Bool :=
  if (s.hb (hbOf b x)).release ≠ .no then false
  else if s.stepperAt b then
    decide (x.val < 2) && (let m := bitsOf 0 2 (s.hb (hbOf b 0)).active.toNat; m = 1 || m = 2)
  else decide (bitsOf 14 2 (s.hb (hbOf b x)).active.toNat = 0)

/-- The low-side gate of a half-bridge that clock loss shorts is on from a count that the manual bounds only from below: at least the
dead time after the loss, whose instant in the period is free (R122). -/
def State.lateShort (s : State) (h : Fin 48) : State :=
  let (v, t) := s.draw
  t.onHb h (fun x => { x with lowFrom := (s.bay (bayOfHb h)).startedAt + v.toNat + (s.dead (bayOfHb h)).toNat })

/-- TB_CLOCK_LOSS: the backup clock forces SHORT; every other half-bridge is off, the outputs take their failstate, and the
device-scope SHORT of the fault acts on every axis at once (Tables 1.7 and 2.5). -/
def execTbClockLoss (s : State) : Host.Outcome State Fault Refusal :=
  .next (
    if s.tb.clockLost then s
    else
      let t := s.each (allFin 16) (fun b t => t.each (allFin 3) (fun x t =>
        if s.shortsOnClockLoss b x then (t.latchHb false 6 (hbOf b x)).lateShort (hbOf b x)
        else if s.stepperAt b ∧ x.val < 2 then t
        else t.onHb (hbOf b x) (fun h => { h with active := 0x4000, gates := {} })))
      let t := { t with pwm := { t.pwm with backupClock := true } }
      let t := (t.onTb (fun x => { x with clockLost := true })).raise 0x0101 255
      let t := match t.faults.find? (fun f => f.code = 0x0101) with | some f => t.beginReaction f | none => t
      t.doFailstate)

end Sys2Proof.Machine
end

