-- ==== Sys2Proof/Machine/Boot.lean ====
section
/-! DEFINITION. The boot sequence (R453, Table 19.4): images and configuration (R465, R466, R468), trims (R161), lanes
(R341), the safety channel (R315, R320), the event log (R470) and the first mode (Table 19.2). -/

namespace Sys2Proof.Machine

/-! ### The event log in memory (R469, R470) -/

/-- The sequence number after one, which is never 0, and the one before it. -/
def seqAfter (q : Word) : Word := if q + 1 = 0 then 1 else q + 1
def seqBefore (q : Word) : Word := if q - 1 = 0 then 0xFFFFFFFF else q - 1

/-- Write an entry to its place in the mirror (Table 1.4). -/
def State.mirrorEntry (s : State) (e : Entry) : State :=
  s.dramWrite (0x6B00000 + 32 * ((e.seq.toNat - 1) % 4096)) e.bytes

/-- The entry that 32 bytes of the ring hold; none when its CRC is wrong. -/
def entryOf (bs : List Byte) : Option Entry :=
  if decide (field 0 4 bs = 0) || decide ((crc32c (slice 0 28 bs)).toNat ≠ field 28 4 bs) then none
  else some {
    seq := BitVec.ofNat 32 (field 0 4 bs), flashed := true
    ev := { frame := BitVec.ofNat 64 (field 4 8 bs), code := field 12 2 bs, inst := field 14 1 bs, kind := field 15 1 bs % 4
            cls := field 15 1 bs / 4 % 16, detail := field 16 1 bs, session := field 17 1 bs, extra := field 18 2 bs
            data := slice 20 8 bs } }

/-- The places of the flash ring that are not erased. -/
def ringPlaces : List Host.Cell → List Nat
  | [] => []
  | (a, _) :: rest =>
    let l := ringPlaces rest
    if 0x740000 ≤ a ∧ a < 0x7C0000 ∧ !l.contains ((a - 0x740000) / 32) then (a - 0x740000) / 32 :: l else l

/-- The entries that the flash ring holds. -/
def State.ringEntries (s : State) : List Entry :=
  (ringPlaces s.flash).filterMap (fun k => entryOf (s.flashRead (0x740000 + 32 * k) 32))

/-- The gap-free run that ends with a sequence number, newest first, at most `n` entries. -/
def runBack (l : List Entry) : Nat → Word → List Entry
  | 0, _ => []
  | n + 1, q =>
    match l.find? (fun e => e.seq = q) with
    | some e => e :: runBack l n (seqBefore q)
    | none => []

/-- The mirror is rebuilt from the newest gap-free run, and the numbering goes on from there (R470). -/
def State.rebuildLog (s : State) : State :=
  let l := s.ringEntries
  match l.foldl (fun (best : Option Word) e => match best with
      | some q => if later e.seq q then some e.seq else best
      | none => some e.seq) none with
  | none => s
  | some q =>
    let run := (runBack l 4096 q).reverse
    let t := s.each run (fun e t => t.mirrorEntry e)
    { t with log := { t.log with entries := run, next := seqAfter q } }

/-! ### Images (R468) -/

/-- The slot that boots and whether it is the fallback: the valid slot of highest generation, unless it fails its check or
its newest record is BOOTED already. -/
def State.bootChoice (s : State) (kind : Fin 2) (ok : PairAB) : Option (Fin 2 × Bool) :=
  let x0 := s.imageAt kind 0
  let x1 := s.imageAt kind 1
  let first : Fin 2 := if x1.valid && (!x0.valid || decide (x0.generation < x1.generation)) then 1 else 0
  let good (k : Fin 2) : Bool := (s.imageAt kind k).valid && (if k = 0 then ok.a else ok.b)
  let stale : Bool := match (s.imageAt kind first).record with | some (.booted, _) => true | _ => false
  if good first && !stale then some (first, false)
  else if good (first + 1) then some (first + 1, true)
  else none

/-- Boot a slot: BOOTED follows a newest record that is not CONFIRMED, since an unconfirmed image survives one boot. -/
def State.bootImage (s : State) (kind slot : Fin 2) (fellBack : Bool) : State :=
  let t := if kind = 0 then { s with cfg := { s.cfg with laneBoot := slot } } else { s with cfg := { s.cfg with safetyBoot := slot } }
  let x := t.imageAt kind slot
  let t := if x.confirmed then t else t.recordImage kind slot .booted x.generation
  if fellBack then (t.raise 0x1404 255).imageEvent kind slot 3 else t

/-! ### The configuration (R464, R465) -/

/-- The slot whose newest record is TRIAL. -/
def State.trialSlot (s : State) : Option (Fin 8) :=
  (allFin 8).find? (fun k => match s.cfg.slots[k].record with | some (.trial, _) => true | _ => false)

/-- A trial that the reset interrupted rolls back; whether the safety set goes back with it (R463, R464). -/
def State.endTrialAtBoot (s : State) : State × Bool :=
  match s.trialSlot with
  | none => (s, false)
  | some k =>
    let t := { s with cfg := { s.cfg with activeSlot := some k } }
    let back := t.rollsSafetyBack
    let p := t.previousSlot
    let u := (t.recordSlot k .rolledBack t.cfg.slots[k].generation).configEvent k 4
    let u := match p with | some n => u.recordSlot n .activated u.nextGeneration | none => u
    let u := (u.raise 0x1401 255).stick 0x1410 255 5
    let u := match back, u.olderSafety with
      | true, some b => u.loadSafetySet b
      | _, _ => u
    ({ u with cfg := { u.cfg with activeSlot := none } }, back)

/-- The configuration set in force after boot. -/
def State.bootConfig (s : State) : State :=
  let t := s.each ((allFin 8).filter (fun k => s.cfg.slots[k].record.isSome && !s.cfg.slots[k].valid)) (fun k t => t.raise 0x1402 k.val)
  match t.previousSlot with
  | none => t
  | some k =>
    let u := t.applySet (some k)
    { u with cfg := { u.cfg with activeSlot := some k } }

/-! ### Lanes and the safety channel -/

/-- R341: different images in the lanes; the lane that runs alone. -/
def State.bootLanes (s : State) (r : BootReport) : State :=
  if r.lanesMatch then s.onLanes (fun x => { x with standby := .comparing })
  else
    let lone := if r.laneAOk then 0 else 1
    let t := s.onLanes (fun x => { x with activeB := !r.laneAOk, standby := .imageMismatch, redundancyLost := true, byImage := true, apart := some s.motion })
    (t.raise 0x0D05 (1 - lone)).raise 0x0D04 (1 - lone)

/-- The self-tests and the switch test end BOOT (R315, Table 13.3). Without VGD the channel stays there until the test can
run. -/
def State.finishSafety (s : State) (r : BootReport) (rolledBack : Bool) : State :=
  if !r.safetyTestsOk then s.safetyBoot false 0x0C0E
  else if !r.vgdPresent then s.onSaf (fun x => { x with bootTest := true, cause := if rolledBack then 7 else x.cause })
  else if !r.switchTestOk then s.safetyBoot false 0x0C06
  else
    let t := (s.setDev 0x0C33 0).count 0x0C34 255
    if rolledBack then t.enterSto 7 else t.safetyBoot true 0

/-- The stored set is verified and loaded (R320). -/
def State.bootSafety (s : State) (r : BootReport) (rolledBack : Bool) : State :=
  match s.activeSafety with
  | some (_, _, b) =>
    if (s.safetySetStatus b).isSome then (s.safetyFault 0x0C11 4).onSaf (fun x => { x with setValid := false })
    else (s.loadSafetyValues b).finishSafety r rolledBack
  | none => s.finishSafety r rolledBack

/-- ISLAND_SUPPLY_RESTORED: SAFE_SUPPLY is logged, the island boots its channel again, on the stored set (R320), and the switch test
of R315 follows, at once where both dies have VGD. SAFE_SUPPLY clears itself when that boot has passed. `testsOk` is whether the
self-tests passed. -/
def execIslandSupplyRestored (testsOk : Bool) (s : State) : Host.Outcome State Fault Refusal :=
  .next (
    if !s.saf.supplyLost then s
    else
      let t := (s.raise 0x0C0F 255).onSaf (fun x => { x with supplyLost := false })
      let bad := match s.activeSafety with | some (_, _, b) => (s.safetySetStatus b).isSome | none => false
      if !testsOk then t.safetyBoot false 0x0C0F
      else if bad then (t.safetyFault 0x0C11 4).onSaf (fun x => { x with setValid := false })
      else
        let t := t.onSaf (fun x => { x with bootTest := true })
        if t.vgdPresent then t.startBootTest else t)

/-! ### BOOT -/

/-- A failing step that Table 19.4 does not name on its own. -/
def bootStepFails (r : BootReport) : Bool :=
  !r.romOk || !r.sramOk || (r.lanesMatch && !r.laneAOk) || !r.dieLinkOk || !r.safetyTestsOk || (r.vgdPresent && !r.switchTestOk)

/-- The first mode (Table 19.2). -/
def State.firstMode (s : State) (failed : Bool) : Mode :=
  if failed then .service
  else if s.dev 0x0000 = 3 ∧ s.runRefusal.isNone then s.runOrLimp .run
  else .ready

/-- What the supplies left to log (R451). -/
def State.bootSupplies (s : State) : State :=
  let t := if s.power.supplyReset then s.raise 0x1301 255 else s
  let t := if s.power.startRetried then (t.raise 0x1303 255).stick 0x1310 255 10 else t
  t.onPower (fun p => { p with supplyReset := false, startRetried := false, startTries := 0 })

/-- Driver dies without VGD are locked out (R133). -/
def State.bootVgd (s : State) (present : Bool) : State :=
  if present then s
  else s.each (allFin 2) (fun d t =>
    ((t.onDie d (fun x => { x with vgdLocked := true })).each (baysOfDie d) (fun b t => t.latchBay true 3 b)).raise 0x0405 (dieInst d))

/-- BOOT: the sequence completes. With TEST high the device stays in reset (R482). -/
def execBoot (r : BootReport) (s : State) : Host.Outcome State Fault Refusal :=
  .next (
    if !s.power.booting ∨ s.power.test then s
    else
      let lane := s.bootChoice 0 r.laneSlotOk
      let safe := s.bootChoice 1 r.safetySlotOk
      let t := s.onRing (fun x => { x with addr := r.addr, masterSel := r.masterSel, listenSince := s.frame64 })
      let t := t.rebuildLog.bootSupplies
      let t := match lane with | some (k, back) => t.bootImage 0 k back | none => t
      let t := match safe with | some (k, back) => t.bootImage 1 k back | none => t
      let (t, rolledBack) := t.endTrialAtBoot
      let t := t.bootConfig
      let t := if r.trimsOk then t
        else (t.each (allFin 16) (fun b t => t.onBay b (fun y => { y with trimDefault := true }))).raise 0x0505 255
      let t := ((t.configureCounters.configureCan 0).configureCan 1).loadTemplate
      let t := ((t.bootLanes r).bootVgd r.vgdPresent).bootSafety r rolledBack
      let broken := bootStepFails r || lane.isNone || safe.isNone
      let t := if broken then t.raise 0x0001 255 else t
      let listed := t.pairingListed t.cfg.laneBoot t.cfg.safetyBoot
      let t := if listed then t else t.raise 0x1403 255
      let t := t.setDev 0x0011 (min r.duration 4294967295)
      let t := t.onRing (fun x => { x with ports := x.ports.map (fun (y : RingPort) =>
        { y with state := if t.dev 0x0F00 = 0 then .down else .listen, since := t.frame64 }) })
      let m := t.firstMode (broken || !listed)
      let t := t.event { code := 0x0080, inst := 255, kind := 2, cls := 1, detail := m.code, extra := t.devN 0x0010
                         data := leBytes 1 t.power.mode.code, frame := t.frame64 }
      t.onPower (fun p => { p with mode := m, booting := false, idleFrames := 0 }))

end Sys2Proof.Machine
end

