-- ==== Sys2Proof/Machine/Debug.lean ====
section
/-! DEFINITION. The debug port (R492 to R495), and the reads of the scrubbers (R25 to R28, Table 1.6). -/

namespace Sys2Proof.Machine

def State.onDbg (s : State) (f : Debug → Debug) : State := { s with dbg := f s.dbg }

/-- The port is powered in every mode but Keep. -/
def State.debugUp (s : State) : Bool := !decide (s.power.mode = .keep)

/-- Select an instruction that is always available, with what its data register captures. -/
def State.selects (s : State) (code : Nat) (dr : List Byte) : State :=
  if s.debugUp then s.onDbg (fun x => { x with selected := code, dr := dr }) else s

def State.unlocked (s : State) : Bool := s.isActive 0x0002 255

/-- IDCODE. -/
def idcodeWord : Nat := Config.ctlRevision.toNat % 16 * 2 ^ 28 + 0x4816 * 2 ^ 12 + 0x2E5 * 2 + 1
def execIdcode (s : State) : Host.Outcome State Fault Refusal := .next (s.selects 1 (leBytes 4 idcodeWord))

/-- The serial number, and the nonce in force (R493). -/
def serialNumber : List Byte := (allFin 16).map Config.serialByte
def State.nonce (s : State) : List Byte := slice 0 16 (Config.nonce s.dbg.nonces)

def execChallenge (s : State) : Host.Outcome State Fault Refusal := .next (s.selects 8 (serialNumber ++ s.nonce))

/-- UNLOCK: a blocked port starts no check. -/
def execUnlock (token : List Byte) (s : State) : Host.Outcome State Fault Refusal :=
  .next (
    let t := s.selects 9 []
    if !s.debugUp ∨ 3 ≤ s.dbg.failures then t
    else t.onDbg (fun x => { x with token := some (slice 0 108 token) }))

/-- The checks of R493 on a token of Table 21.17, in their order; a reserved scope bit must be 0, reserved padding is ignored
(R3). -/
def State.tokenOk (s : State) (b : List Byte) : Bool :=
  field 0 4 b = 1 && slice 4 16 b = serialNumber && slice 20 16 b = s.nonce &&
  Config.verifies Config.rootKey (slice 0 44 b) (slice 44 64 b) && decide (field 36 4 b < 8)

/-- TOKEN_CHECK_DONE. -/
def execTokenCheckDone (s : State) : Host.Outcome State Fault Refusal :=
  .next (match s.dbg.token with
    | none => s
    | some b =>
      let t := s.onDbg (fun x => { x with token := none })
      if s.tokenOk b then (t.onDbg (fun x => { x with scope := field 36 4 b })).raise 0x0002 255
      else (t.onDbg (fun x => { x with failures := x.failures + 1 })).raise 0x0003 255)

def execDbgStatus (s : State) : Host.Outcome State Fault Refusal := .next (s.selects 0xA (leBytes 1 s.debugState))

/-- The key store of R459 and the records of the safety sets (R460), which hold SAF values: the port never reaches them (R494;
DEDUCED, notes/assumptions/158). -/
def meetsKeys (address length : Nat) : Bool := overlaps address length 0xFFC000 0x3000

/-- DEBUG_RESET: writing 1 while unlocked resets the device. -/
def execDebugReset (bit : Bool) (s : State) : Host.Outcome State Fault Refusal :=
  .next (if s.unlocked ∧ s.debugUp then (if bit then (s.selects 0xD []).restart 5 else s.selects 0xD []) else s)

def execBypass (s : State) : Host.Outcome State Fault Refusal := .next (s.selects 0xF [])

/-! ### SCRUB_READ -/

/-- SCRUB_READ: one bit in error is corrected and counted; two are counted and act as Table 1.6 says. A lane's SRAM error is a
health fault of the frame (R327). -/
def execScrubRead (m : MemoryKind) (address : Nat) (errors : Nat) (s : State) : Host.Outcome State Fault Refusal :=
  .next (
    if errors = 0 then s
    else if errors = 1 then
      let t := s.countCorrected m
      match m with
      | .flash => t.flashCorrected address
      | .laneA | .laneB | .dram => t
    else
      let t := s.countUncorrectable m 1
      match m with
      | .flash => t.flashUncorrectable address
      | .dram => t.dramUncorrectable address
      | .laneA => t.onLanes (fun x => { x with sramBad := x.sramBad.set (0 : Fin 2) true })
      | .laneB => t.onLanes (fun x => { x with sramBad := x.sramBad.set (1 : Fin 2) true }))

/-! ### CORE_ACCESS (R121, R494, Table 21.16) -/

/-- Where a byte or a register was written through the port since its core last ran; anything else it reads is a free value. -/
def heldOr {α : Type} (l : List (Nat × α)) (k : Nat) (free : α) : α :=
  match l.find? (fun x => x.1 = k) with | some x => x.2 | none => free

def coreNumber (lane core : Fin 2) : Fin 4 := ⟨2 * lane.val + core.val, by omega⟩

/-- Both cores of a lane are halted: nothing but the port writes its SRAM. -/
def Debug.stopped (d : Debug) (lane : Fin 2) : Bool := d.halted[coreNumber lane 0] && d.halted[coreNumber lane 1]

def Debug.writeSram (d : Debug) (lane : Fin 2) (a : Nat) (bs : List Byte) : Debug :=
  let new := (List.range bs.length).zip bs |>.map (fun (i, b) => ((a + i) % 0x400000, b))
  { d with sram := upd d.sram lane (fun l => new ++ l.filter (fun x => !new.any (fun y => y.1 = x.1))) }

def Debug.writeReg (d : Debug) (c : Fin 4) (n v : Nat) : Debug :=
  { d with coreRegs := upd d.coreRegs c (fun l => (n, v) :: l.filter (fun x => !(x.1 = n))) }

/-- A core runs again: its registers are its own, and it may write any byte of its lane's SRAM. -/
def Debug.runs (d : Debug) (lane core : Fin 2) : Debug :=
  { d with sram := d.sram.set lane [], coreRegs := d.coreRegs.set (coreNumber lane core) [] }

def Debug.setHalted (d : Debug) (c : Fin 4) (on : Bool) : Debug := { d with halted := d.halted.set c on }

/-! The Template table in a lane's SRAM (R21, R281) -/

/-- The entry number and the byte of it that an SRAM address holds; none outside the table. -/
def tablePlace (a : Nat) : Option (Nat × Nat) :=
  let base := Config.templateTable.val
  if base ≤ a ∧ a < base + 0x20000 then some ((a - base) / 8, (a - base) % 8) else none

/-- The lane whose engines `Lanes.apart` holds: the standby, or a halted active lane while its standby still compares. -/
def State.apartLane (s : State) : Fin 2 :=
  let act : Fin 2 := Fin.ofNat 2 s.activeLane
  if s.lanes.standby = .comparing ∧ s.dbg.laneHalted act then act else Fin.ofNat 2 s.standbyLane

/-- The engines of a lane. -/
def State.laneMotion (s : State) (lane : Fin 2) : Motion :=
  match s.lanes.apart with
  | some m => if lane = s.apartLane then m else s.motion
  | none => s.motion

/-- An entry with one byte of it changed; the reserved flags are not held. -/
def Bin.withByte (b : Bin) (i : Nat) (v : Byte) : Bin :=
  let row := (binRow b).set i v
  { b with mean := wrapSigned 16 (field 0 2 row), spread := field 2 2 row, count := field 4 2 row, age := field 6 1 row
           updated := (field 7 1 row).testBit 0 }

/-- A write of the port into the table of a halted lane: that lane's table alone changes, and the lanes no longer agree. -/
def State.writeTable (s : State) (lane : Fin 2) (a : Nat) (bs : List Byte) : State :=
  let change (m : Motion) : Motion :=
    { m with bins := ((List.range bs.length).zip bs).foldl (fun l (i, v) =>
        match tablePlace ((a + i) % 0x400000) with
        | some (k, j) => Sparse.write (fun _ => ({} : Bin)) l k ((Sparse.read (fun _ => ({} : Bin)) l k).withByte j v)
        | none => l) m.bins }
  if s.lanes.standby = .comparing ∨ lane = Fin.ofNat 2 s.standbyLane then
    s.onLanes (fun x => { x with apart := some (change (s.laneMotion lane)) })
  else { s with motion := change s.motion }

/-- A read of `n` bytes of DRAM or flash through the port: each uncorrectable word it meets is counted and acts as Table 1.6 says
(R25), and the port does not show it: its bytes are free values. -/
def State.coreRead (s : State) (flash : Bool) (a n : Nat) : State :=
  let bad := s.badWords flash a n
  let bs := if flash then s.flashRead a n else s.dramRead a n
  let shown := (bs.zip (List.range bs.length)).map (fun (b, i) =>
    if bad.contains ((a + i) / 8) then BitVec.ofInt 8 (Config.freeInt (s.free + i)) else b)
  { (s.meetBad flash a n).onDbg (fun x => { x with dr := shown }) with free := s.free + n }

/-- A byte of a lane's SRAM as the port reads it: the Template table (R21); elsewhere what the port wrote while both cores stood, and
a free value, for the layout and the programs are not given. -/
def State.sramByte (s : State) (lane : Fin 2) (a : Nat) (free : Byte) : Byte :=
  match tablePlace a with
  | some (k, j) => (binRow (Sparse.read (fun _ => ({} : Bin)) (s.laneMotion lane).bins k)).getD j 0
  | none => if s.dbg.stopped lane then heldOr s.dbg.sram[lane] a free else free

/-- CORE_ACCESS on a lane in scope: halt, resume and step of one core, its registers while it is halted, and its lane's SRAM, which
is written while a core of the lane is halted (DESIGN CHOICE, notes/assumptions/130). DRAM and flash are read with scope bit 2. -/
def execCoreAccess (lane : Fin 2) (op : CoreOp) (s : State) : Host.Outcome State Fault Refusal :=
  .next (
    let inScope : Bool := s.unlocked && s.dbg.scope.testBit lane.val
    let t := if s.unlocked then s.selects 0xC s.dbg.dr else s
    let free (i : Nat) : Byte := BitVec.ofInt 8 (Config.freeInt (t.free + i))
    let shows (n : Nat) (bs : List Byte) : State := { t.onDbg (fun x => { x with dr := bs }) with free := t.free + n }
    let sram (l : Fin 2) (a n : Nat) : State :=
      if inScope ∧ lane = l then shows n ((List.range n).map (fun i => s.sramByte l ((a + i) % 0x400000) (free i))) else t
    match op with
    | .halt c => if inScope then t.onDbg (fun x => x.setHalted (coreNumber lane c) true) else t
    | .resume c => if inScope then t.onDbg (fun x => (x.setHalted (coreNumber lane c) false).runs lane c) else t
    | .step c => if inScope then t.onDbg (fun x => x.runs lane c) else t
    | .registerRead c n =>
      let v := ofLe ((List.range 4).map free)
      if inScope then shows 4 (leBytes 4 (if s.dbg.halted[coreNumber lane c] then heldOr s.dbg.coreRegs[coreNumber lane c] n v else v)) else t
    | .registerWrite c n v =>
      if inScope ∧ s.dbg.halted[coreNumber lane c] then t.onDbg (fun x => x.writeReg (coreNumber lane c) n v) else t
    | .memoryWrite a bs =>
      if inScope ∧ s.dbg.laneHalted lane then
        let u := t.writeTable lane a bs
        if s.dbg.stopped lane then u.onDbg (fun x => x.writeSram lane a bs) else u
      else t
    | .memoryRead .laneA a n => sram 0 a n
    | .memoryRead .laneB a n => sram 1 a n
    | .memoryRead .dram a n => if s.unlocked ∧ s.dbg.scope.testBit 2 then t.coreRead false a n else t
    | .memoryRead .flash a n => if s.unlocked ∧ s.dbg.scope.testBit 2 ∧ !meetsKeys a n then t.coreRead true a n else t)

end Sys2Proof.Machine
end

