-- ==== Sys2Proof/Machine/FaultClear.lean ====
section
/-! DEFINITION. `FAULT_CLEAR` (R501, R120, R407 and the Cleared-by column of each fault table). -/

namespace Sys2Proof.Machine

/-- Whether an instance is one that the named fault can carry (R32, R501 step 1). -/
def State.carries (s : State) (row : FaultRow) (inst : Nat) : Bool :=
  row.inst.has inst && (match row.inst with
    | .axis => s.axisExists (Fin.ofNat 16 inst)
    | .stepper => s.isStepper inst
    | _ => true)

/-- Two voltages differ by no more than 5% of the larger. -/
def within5 (v w : Nat) : Bool := decide (20 * (max v w - min v w) ≤ max v w)

/-- The cause of SAFE_SADC_PLAUS is inactive (Table 13.8): the VBUS channels of the safety ADCs agree with each other, on a shared
bus, and with those of the lanes; no phase of an OFF bay shows more than VBUS while the bus is present, which is taken as VBUS of
GD.VBUS_UV or more (DEDUCED, notes/assumptions/150). -/
def State.scansPlausible (s : State) : Bool :=
  let v := s.saf.scanVbus
  (s.dev 0x0406 = 0 || within5 v[(0 : Fin 2)] v[(1 : Fin 2)]) &&
  (allFin 2).all (fun d => within5 v[d] (s.die d).vbus &&
    ((v[d] : Int) < s.dev 0x0405 || (baysOfDie d).all (fun b =>
      !((allFin 3).all (fun x => s.hbOff (hbOf b x))) || (allFin 3).all (fun x => s.parN 0x0513 (hbOf b x).val ≤ v[d]))))

/-- Whether the live condition of a fault's entry allows the clearing now. The live sources that the state does not
hold show as free values. -/
def State.clearable (s : State) (code inst : Nat) : Bool :=
  let live := Config.freeBool s.free
  let die : Fin 2 := if inst < 8 then 0 else 1
  if code = 0x0401 ∨ code = 0x0402 ∨ code = 0x0404 ∨ code = 0x1005 then live
  else if code = 0x0304 then s.dbg.halted.toList.all (fun h => !h)
  else if code = 0x0408 then
    !s.pwm.overVoltage && (allFin 2).all (fun d => decide (((s.die d).vbus : Int) < s.dev 0x0400 - s.dev 0x0402))
  else if code = 0x040B then (allFin 2).all (fun d =>
    (s.die d).shortRun = 0 && !(decide (s.devN 0x0403 < (s.die d).brakeSense) && !(s.die d).brakeSeen))
  else if code = 0x040E then !(s.die die).linkFailed && !(s.die die).linkFailedBefore
  else if code = 0x040C then decide (s.dev 0x0405 ≤ ((s.die die).vbus : Int))
  else if code = 0x0410 then decide ((s.die die).temp < 1300)
  else if code = 0x0C02 then s.saf.bothLow && s.saf.a && s.saf.b
  else if code = 0x0C0C then s.saf.scanOk.toList.all id
  else if code = 0x0C0D then s.scansPlausible
  else if code = 0x0D04 then !s.lanes.byImage
  else true

/-! ### Clear-attempt counters (R120, R407) -/

/-- The half-bridges whose forcing latches a fault holds; none for a fault that forces nothing. -/
def State.forcedBy (s : State) (row : FaultRow) (f : Active) : List (Fin 48) :=
  if ¬(f.rank = 5 ∨ f.rank = 6) then []
  else match row.inst with
    | .halfBridge => (allFin 48).filter (fun h => h.val = f.inst)
    | _ => (s.baysInScope row f.inst).flatMap (fun b => (allFin 3).map (hbOf b))

/-- The place of an output latch in FIO.CLEAR_ATTEMPTS: its group or its privileged output. -/
def latchSub (row : FaultRow) (inst : Nat) : Nat := if row.inst = .outputs ∨ row.inst = .groups then inst / 4 else inst

def State.clearAttempts (s : State) (row : FaultRow) (f : Active) : Nat :=
  if f.code = 0x1003 ∨ f.code = 0x1004 ∨ f.code = 0x1005 then s.parN 0x1036 (latchSub row f.inst)
  else match s.forcedBy row f with
    | [] => f.attempts
    | l => l.foldl (fun m h => max m (s.parN 0x0311 h.val)) 0

/-- The first saturation of a clear-attempt counter that no parameter shows sets the sticky bit of its block and logs one event
(R7); the counters' keys lie above those of the parameters, the Template entries and the memories. -/
def State.attemptsSaturate (s : State) (f : Active) (n : Nat) : State :=
  if n < 65535 then s
  else
    let block := if f.code / 256 = 6 then 7 else f.code / 256
    let (st, bit, code) := counterSaturation (256 * block)
    s.firstSaturation (67108864 + 256 * f.code + f.inst) st (statusSub (256 * block) f.inst) bit code (saturationInst (256 * block) f.inst)

/-- One more failed attempt on a latch. -/
def State.countAttempt (s : State) (row : FaultRow) (f : Active) : State :=
  if f.code = 0x1003 ∨ f.code = 0x1004 ∨ f.code = 0x1005 then s.count 0x1036 (latchSub row f.inst)
  else match s.forcedBy row f with
    | [] => State.attemptsSaturate { s with faults := s.faults.map (fun g =>
        if g.code = f.code && g.inst = f.inst then { g with attempts := min (g.attempts + 1) 65535 } else g) } f (f.attempts + 1)
    | l => s.each l (fun h t => t.count 0x0311 h.val)

/-- The counters of a cleared latch return to 0. -/
def State.zeroAttempts (s : State) (row : FaultRow) (f : Active) : State :=
  if f.code = 0x1003 ∨ f.code = 0x1004 ∨ f.code = 0x1005 then s.setPar 0x1036 (latchSub row f.inst) 0
  else s.each (s.forcedBy row f) (fun h t => t.setPar 0x0311 h.val 0)

/-! ### The clearing action of each fault -/

/-- Whether another active fault still holds the common reaction latch (source 8) of a bay. -/
def State.heldByFault (s : State) (b : Fin 16) : Bool :=
  s.faults.any (fun f => 4 ≤ f.rank && decide (forceSource f.code = some 8) && f.rank < 7 &&
    (match FaultTable.find f.code with | some row => (s.baysInScope row f.inst).contains b | none => false)) ||
  (s.ax (s.axisOfBay b)).regenShort ||
  (let r := s.pwm.boot; (s.baysWith b).any (fun c => (allFin 3).any (fun x => (r[hbOf c x]).exhausted)))

/-- Release a bay's latches of one source, when no other fault holds them. -/
def State.releaseFault (s : State) (src : Nat) (b : Fin 16) : State :=
  if src = 8 && s.heldByFault b then s else s.releaseBay src b

/-- Axes that a cleared brake fault of a die releases into OFF (R139). -/
def State.releaseBraked (s : State) (die : Fin 2) : State :=
  if s.isActive 0x0409 (dieInst die) || s.isActive 0x040A (dieInst die) then s
  else
    let t := s.onDie die (fun d => { d with brakeFailed := false })
    t.each (t.presentAxes.filter (fun a => dieOf a = die && (t.ax a).regenShort)) (fun a t =>
      let t := t.onAx a (fun x => { x with regenShort := false })
      let t := t.each (t.baysOfAxis a) (fun b t => t.releaseFault 8 b)
      if (t.ax a).state = .shorted then t.setDisabled a else t)

/-- The outputs an output latch held return at the next tick (R407). -/
def State.releaseOutputs (s : State) (mask : Half) (f : FieldIo → FieldIo) : State :=
  s.onFio (fun x => { f x with returning := x.returning ||| mask })

/-- The clearing action of a fault whose entry names FAULT_CLEAR. -/
def State.clearLatch (s : State) (row : FaultRow) (f : Active) : State :=
  let bays := s.baysInScope row f.inst
  let t := (s.zeroAttempts row f).clearFault f.code f.inst
  let die : Fin 2 := if f.inst < 8 then 0 else 1
  if f.code = 0x0401 then (t.clearShort (Fin.ofNat 16 f.inst)).onBay (Fin.ofNat 16 f.inst) (fun y => { y with retry := {} })
  else if f.code = 0x0402 then
    let h : Fin 48 := Fin.ofNat 48 f.inst
    let t := (t.clearBoot .untilEnable h).onBoot h (fun _ => {})
    t.each bays (fun b t => t.releaseFault 8 b)
  else if f.code = 0x0404 then t.releaseWith 0x0404 9 (Fin.ofNat 16 f.inst)
  else if f.code = 0x0408 then t.each bays (fun b t => t.releaseBay 4 b)
  else if f.code = 0x040E then t.each bays (fun b t => t.releaseBay 5 b)
  else if f.code = 0x0304 then t.each (allFin 16) (fun b t => (t.releaseBay 7 b).onBay b (fun y => { y with halted := false }))
  else if f.code = 0x0409 ∨ f.code = 0x040A then t.releaseBraked die
  else if f.code = 0x0210 then { t with mtr := { t.mtr with hold := false } }
  else if f.code / 256 = 0x0C then t.leaveLocked
  else if f.code = 0x0D04 then
    (t.onLanes (fun x => { x with
      historyA := if f.inst = 0 then [] else x.historyA, historyB := if f.inst = 0 then x.historyB else [],
      redundancyLost := false })).startCopy
  else if f.code = 0x1003 then
    t.releaseOutputs (groupMask (f.inst / 4)) (fun x => { x with groupLatch := x.groupLatch &&& ~~~(bitMask 4 (f.inst / 4)) })
  else if f.code = 0x1004 then
    t.releaseOutputs (bitMask 16 f.inst) (fun x => { x with
      channelLatch := x.channelLatch &&& ~~~(bitMask 4 (f.inst - 12)), channelCause := x.channelCause &&& ~~~(bitMask 4 (f.inst - 12)) })
  else if f.code = 0x1005 then
    t.releaseOutputs (groupMask (f.inst / 4)) (fun x => { x with thermalLatch := x.thermalLatch &&& ~~~(bitMask 4 (f.inst / 4)) })
  else t.each bays (fun b t => t.releaseFault 8 b)

/-- An axis that its reaction's faults no longer hold: FAULT shows STANDSTILL again, and a forced axis whose bays are
released is DISABLED until AXIS_ENABLE (R120). -/
def State.afterClear (s : State) (a : Fin 16) : State :=
  let x := s.ax a
  if x.state = .fault ∧ ¬s.stopFault a then s.setAxisState a .standstill
  else if (x.state = .shorted ∨ x.state = .coasting) ∧ 4 ≤ x.reaction ∧ ¬(s.baysOfAxis a).any s.bayForced ∧ ¬s.stopFault a ∧
      s.saf.word ≠ .ss1 then
    s.setDisabled a
  else s

/-! ### The request -/

/-- Latches cleared, latches still set, and the largest clear-attempt count among those. -/
structure ClearCount where
  cleared : Nat := 0
  still : Nat := 0
  attempts : Nat := 0
  deriving DecidableEq, Repr

def ClearCount.bytes (c : ClearCount) : List Byte := leBytes 1 c.cleared ++ leBytes 1 c.still ++ leBytes 2 c.attempts

/-- Step 3 of R501 for one active fault. `free` advances with each test of a live source. -/
def State.clearOne (s : State) (c : ClearCount) (f : Active) : State × ClearCount :=
  match FaultTable.find f.code with
  | none => (s, c)
  | some row =>
    let stays (t : State) : ClearCount :=
      let g := (t.faults.find? (fun g => g.code = f.code && g.inst = f.inst)).getD f
      { c with still := c.still + 1, attempts := max c.attempts (t.clearAttempts row g) }
    if f.code = 0x1103 then
      ({ s with can := upd s.can (Fin.ofNat 2 f.inst) (fun x => { x with recovering := true }) }, c)
    else if row.clear = .faultClear then
      if s.clearable f.code f.inst then
        let t := { s with free := s.free + 1 }.clearLatch row f
        (t.each t.presentAxes (fun a t => t.afterClear a), { c with cleared := c.cleared + 1 })
      else
        let t := { s with free := s.free + 1 }.countAttempt row f
        (t, stays t)
    else (s, stays s)

def State.clearEach (s : State) (c : ClearCount) : List Active → State × ClearCount
  | [] => (s, c)
  | f :: rest => let (t, d) := s.clearOne c f; t.clearEach d rest

/-- The faults that code 0x0000 acts on (R501, step 4). -/
def State.latchesOf (s : State) (inst : Nat) : List Active :=
  s.faults.filter (fun f => f.inst = inst && (match FaultTable.find f.code with
    | some row => row.clear = .faultClear || row.clear = .other || f.code = 0x1103
    | none => false))

/-- The acknowledgement of R308. -/
def State.acknowledge (s : State) : State × Nat :=
  if ¬(s.saf.state = .sto) then (s, Status.alreadyDone)
  else if s.saf.a && s.saf.b && !s.safetyLatched then (s.onSaf (fun x => { x with acknowledged := true }), Status.ok)
  else (s, Status.faultLatched)

/-- The clearing entries that a request logs carry its session (Table 20.5). -/
def State.clearedBy (s : State) (before : State) (slot : Fin 8) : State :=
  let n := before.log.fresh.length
  { s with log := { s.log with fresh := s.log.fresh.take n ++ (s.log.fresh.drop n).map (fun (e : Event) =>
      if e.kind = 1 then { e with session := slot.val } else e) } }

/-- FAULT_CLEAR (R501). -/
def execFaultClear (r : Req) (code : Half) (inst : Byte) (s : State) : Host.Outcome State Fault Refusal :=
  .next (s.request 0x44 r (fun slot s =>
    let act (l : List Active) : State :=
      let (t, c) := s.clearEach {} l
      let t := t.clearedBy s slot
      let status := if l = [] then Status.alreadyDone else if c.still = 0 then Status.ok else Status.faultLatched
      t.answer r 0x44 status (.bytes c.bytes)
    if code = 0 then
      if inst.toNat < 48 ∨ inst = 0xFF then act (s.latchesOf inst.toNat) else s.refuse r 0x44 Status.badParameter
    else match FaultTable.find code.toNat with
    | none => s.refuse r 0x44 Status.badParameter
    | some row =>
      if !s.carries row inst.toNat then s.refuse r 0x44 Status.badParameter
      else if code = 0x0C01 then
        let (t, status) := s.acknowledge
        t.answer r 0x44 status (.bytes { cleared := boolNat (status = Status.ok), still := boolNat (status = Status.faultLatched) : ClearCount }.bytes)
      else act (s.faults.filter (fun f => f.code = code.toNat && f.inst = inst.toNat))))

end Sys2Proof.Machine
end

