-- ==== Sys2Proof/Machine/Apply.lean ====
section
/-! DEFINITION. The opcodes of Table 3.6 from bytes to their meanings: permitted lengths (R500), payload fields, and the
execution of a request that has passed checks 1 to 7. -/

namespace Sys2Proof.Machine

/-- The payload lengths that an opcode permits (R500). -/
def lengthOk (op : Nat) (p : List Byte) : Bool :=
  let n := p.length
  let count (at_ : Nat) : Nat := field at_ 1 p
  match op with
  | 0x01 => decide (n ≤ 1020)
  | 0x02 | 0x04 | 0x22 | 0x23 | 0x72 | 0x73 | 0x83 | 0x90 | 0xA0 | 0xA1 | 0xB2 => n = 0
  | 0x03 | 0x21 | 0x39 | 0x52 | 0x92 => n = 8
  | 0x11 | 0x36 | 0x43 | 0x53 | 0x60 | 0x80 | 0x84 => n = 12
  | 0x30 | 0x31 => n = 24
  | 0x32 => n = 20
  | 0x12 => decide (1 ≤ n) && n = 4 + 4 * count 0
  | 0x13 => decide (1 ≤ n) && n = 4 + 12 * count 0
  | 0x33 => decide (5 ≤ n) && n = 24 + 8 * count 4
  | 0x70 => decide (4 ≤ n) && n = 32 + 4 * count 3
  | 0x62 => decide (5 ≤ n ∧ n ≤ 1024)
  | _ => n = 4

/-- The write entries of a payload. -/
def writeEntries : Nat → List Byte → List WriteEntry
  | n + 1, i0 :: i1 :: k :: t :: rest =>
    { index := i1 ++ i0, sub := k, type := t, value := BitVec.ofNat 64 (field 0 8 rest) } :: writeEntries n (rest.drop 8)
  | _, _ => []

/-- The request that an opcode and its payload spell; none for an opcode outside Table 3.6. -/
def readRequest (r : Req) (op : Nat) (p : List Byte) : Option Instr :=
  let b (k : Nat) : Byte := BitVec.ofNat 8 (field k 1 p)
  let h (k : Nat) : Half := BitVec.ofNat 16 (field k 2 p)
  let w (k : Nat) : Word := BitVec.ofNat 32 (field k 4 p)
  let lim (k : Nat) : Limits := { vmax := w k, amax := w (k + 4), dmax := w (k + 8), jmax := w (k + 12) }
  match op with
  | 0x01 => some (.ping r p)
  | 0x02 => some (.identify r)
  | 0x03 => some (.sessionOpen r (b 0) (b 1) (h 2) (w 4))
  | 0x04 => some (.sessionClose r)
  | 0x10 => some (.paramRead r (h 0) (b 2))
  | 0x11 => (writeEntries 1 p).head?.map (fun e => .paramWrite r e)
  | 0x12 => some (.paramReadMulti r ((List.range (field 0 1 p)).map (fun k => (h (4 + 4 * k), b (6 + 4 * k)))))
  | 0x13 => some (.paramWriteMulti r (writeEntries (field 0 1 p) (p.drop 4)))
  | 0x20 => some (.txnBegin r (b 0) (h 2))
  | 0x21 => some (.txnCommitAt r (b 0) (w 4))
  | 0x22 => some (.txnAbort r)
  | 0x23 => some (.txnStatus r)
  | 0x30 => some (.moveAbs r (b 0) (b 1) (h 2) (w 4) (lim 8))
  | 0x31 => some (.moveRel r (b 0) (b 1) (h 2) (w 4) (lim 8))
  | 0x32 => some (.moveVel r (b 0) (b 1) (h 2) (w 4) (w 8) (w 12) (w 16))
  | 0x33 => some (.moveGroup r (b 0) (b 1) (h 2) (lim 8)
      ((List.range (field 4 1 p)).map (fun k => { axis := b (24 + 8 * k), target := w (28 + 8 * k) })))
  | 0x34 => some (.queueFlush r (b 0))
  | 0x35 => some (.axisAbort r (b 0) (b 1))
  | 0x36 => some (.gearEngage r (b 0) (b 1) (h 2) (w 4) (w 8))
  | 0x37 => some (.gearRelease r (b 0))
  | 0x38 => some (.latchArm r (b 0) (b 1) (b 2))
  | 0x39 => some (.stepFollow r (b 0) (b 1) (h 2) (w 4))
  | 0x40 => some (.axisEnable r (b 0))
  | 0x41 => some (.axisDisable r (b 0))
  | 0x42 => some (.axisShortBrake r (b 0))
  | 0x43 => some (.axisHome r (b 0) (b 1) (h 2) (w 4) (h 8))
  | 0x44 => some (.faultClear r (h 0) (b 2))
  | 0x45 => some (.motorIdentify r (b 0) (b 1))
  | 0x50 => some (.snapshot r (w 0))
  | 0x51 => some (.statusAxes r (w 0))
  | 0x52 => some (.eventRead r (w 0) (b 4))
  | 0x53 => some (.subscribe r (w 0) (h 4) (w 8))
  | 0x60 => some (.dataOpen r (b 0) (b 1) (w 4) (w 8))
  | 0x61 => some (.dataRead r (b 0) (h 2))
  | 0x62 => some (.dataWrite r (b 0) (p.drop 4))
  | 0x63 => some (.dataClose r (b 0))
  | 0x70 => some (.quarrySetup r {
      d := field 0 2 p, decimation := field 2 1 p, count := field 3 1 p, segments := field 4 2 p, pre := field 8 4 p
      source := field 12 1 p, kind := field 13 1 p, item := field 14 1 p, ringOut := field 15 1 p
      level := wrapSigned 32 (field 16 4 p), hysteresis := field 20 4 p, ringIn := field 24 1 p
      channels := (List.range (field 3 1 p)).map (fun k => field (32 + 4 * k) 4 p) })
  | 0x71 => some (.quarryArm r (b 0))
  | 0x72 => some (.quarryForce r)
  | 0x73 => some (.quarryStatus r)
  | 0x80 => some (.cfgStage r (b 0) (w 4) (w 8))
  | 0x81 => some (.cfgActivate r (b 0) (b 1) (h 2))
  | 0x82 => some (.cfgConfirm r (b 0))
  | 0x83 => some (.cfgRollback r)
  | 0x84 => some (.fwStage r (b 0) (w 4) (w 8))
  | 0x85 => some (.fwActivate r (b 0))
  | 0x90 => some (.safetyStatus r)
  | 0x91 => some (.safetyStopRequest r (b 0))
  | 0x92 => some (.safetySetLoad r (w 0) (w 4))
  | 0xA0 => some (.ringStatus r)
  | 0xA1 => some (.ringTopology r)
  | 0xA2 => some (.ringRetrain r (b 0))
  | 0xB0 => some (.modeSet r (b 0))
  | 0xB1 => some (.latencySet r (w 0))
  | 0xB2 => some (.modeStatus r)
  | 0xC0 => some (.diagSelftest r (w 0))
  | 0xC1 => some (.laneSwap r (b 0))
  | 0xC2 => some (.templateLearn r (b 0) (b 1) (h 2))
  | 0xC3 => some (.templateFreeze r (b 0) (b 1))
  | 0xC4 => some (.templateReset r (b 0) (b 1))
  | _ => none

/-- The state a meaning answers. -/
def ranNext (o : Host.Outcome State Fault Refusal) (s : State) : State :=
  match o with | .next t => t | .fault _ | .refused _ => s

/-- Execute one request (steps 4 to 6 of Table 4.1): the meaning of its opcode. Only opcodes arrive as requests. -/
def State.run (s : State) (cmd : Instr) : State :=
  match cmd with
  | .ping r bytes => ranNext (execPing r bytes s) s
  | .identify r => ranNext (execIdentify r s) s
  | .sessionOpen r role flags keepalive client => ranNext (execSessionOpen r role flags keepalive client s) s
  | .sessionClose r => ranNext (execSessionClose r s) s
  | .paramRead r index sub => ranNext (execParamRead r index sub s) s
  | .paramWrite r e => ranNext (execParamWrite r e s) s
  | .paramReadMulti r entries => ranNext (execParamReadMulti r entries s) s
  | .paramWriteMulti r entries => ranNext (execParamWriteMulti r entries s) s
  | .txnBegin r flags timeout => ranNext (execTxnBegin r flags timeout s) s
  | .txnCommitAt r flags frame => ranNext (execTxnCommitAt r flags frame s) s
  | .txnAbort r => ranNext (execTxnAbort r s) s
  | .txnStatus r => ranNext (execTxnStatus r s) s
  | .moveAbs r axis blend flags target lim => ranNext (execMoveAbs r axis blend flags target lim s) s
  | .moveRel r axis blend flags distance lim => ranNext (execMoveRel r axis blend flags distance lim s) s
  | .moveVel r axis blend flags velocity amax dmax jmax => ranNext (execMoveVel r axis blend flags velocity amax dmax jmax s) s
  | .moveGroup r group blend flags lim members => ranNext (execMoveGroup r group blend flags lim members s) s
  | .queueFlush r axis => ranNext (execQueueFlush r axis s) s
  | .axisAbort r axis kind => ranNext (execAxisAbort r axis kind s) s
  | .gearEngage r master slave flags ratio offset => ranNext (execGearEngage r master slave flags ratio offset s) s
  | .gearRelease r slave => ranNext (execGearRelease r slave s) s
  | .latchArm r axis source edge => ranNext (execLatchArm r axis source edge s) s
  | .stepFollow r axis counter flags ratio => ranNext (execStepFollow r axis counter flags ratio s) s
  | .axisEnable r axis => ranNext (execAxisEnable r axis s) s
  | .axisDisable r axis => ranNext (execAxisDisable r axis s) s
  | .axisShortBrake r axis => ranNext (execAxisShortBrake r axis s) s
  | .axisHome r axis method flags velocity force => ranNext (execAxisHome r axis method flags velocity force s) s
  | .faultClear r code inst => ranNext (execFaultClear r code inst s) s
  | .motorIdentify r axis steps => ranNext (execMotorIdentify r axis steps s) s
  | .snapshot r sections => ranNext (execSnapshot r sections s) s
  | .statusAxes r axes => ranNext (execStatusAxes r axes s) s
  | .eventRead r from_ max => ranNext (execEventRead r from_ max s) s
  | .subscribe r classes period axes => ranNext (execSubscribe r classes period axes s) s
  | .dataOpen r space flags address length => ranNext (execDataOpen r space flags address length s) s
  | .dataRead r handle length => ranNext (execDataRead r handle length s) s
  | .dataWrite r handle bytes => ranNext (execDataWrite r handle bytes s) s
  | .dataClose r handle => ranNext (execDataClose r handle s) s
  | .quarrySetup r block => ranNext (execQuarrySetup r block s) s
  | .quarryArm r flags => ranNext (execQuarryArm r flags s) s
  | .quarryForce r => ranNext (execQuarryForce r s) s
  | .quarryStatus r => ranNext (execQuarryStatus r s) s
  | .cfgStage r slot offset length => ranNext (execCfgStage r slot offset length s) s
  | .cfgActivate r slot flags trial => ranNext (execCfgActivate r slot flags trial s) s
  | .cfgConfirm r slot => ranNext (execCfgConfirm r slot s) s
  | .cfgRollback r => ranNext (execCfgRollback r s) s
  | .fwStage r image offset length => ranNext (execFwStage r image offset length s) s
  | .fwActivate r image => ranNext (execFwActivate r image s) s
  | .safetyStatus r => ranNext (execSafetyStatus r s) s
  | .safetyStopRequest r scope => ranNext (execSafetyStopRequest r scope s) s
  | .safetySetLoad r offset length => ranNext (execSafetySetLoad r offset length s) s
  | .ringStatus r => ranNext (execRingStatus r s) s
  | .ringTopology r => ranNext (execRingTopology r s) s
  | .ringRetrain r ports => ranNext (execRingRetrain r ports s) s
  | .modeSet r mode => ranNext (execModeSet r mode s) s
  | .latencySet r latency => ranNext (execLatencySet r latency s) s
  | .modeStatus r => ranNext (execModeStatus r s) s
  | .diagSelftest r tests => ranNext (execDiagSelftest r tests s) s
  | .laneSwap r flags => ranNext (execLaneSwap r flags s) s
  | .templateLearn r axis mode cycles => ranNext (execTemplateLearn r axis mode cycles s) s
  | .templateFreeze r axis freeze => ranNext (execTemplateFreeze r axis freeze s) s
  | .templateReset r axis directions => ranNext (execTemplateReset r axis directions s) s
  | .statusWordWrite r e => ranNext (execStatusWordWrite r e s) s
  | .tplSave r value => ranNext (execTplSave r value s) s
  | .qryRelease r value => ranNext (execQryRelease r value s) s
  | .cntPreset r counter value => ranNext (execCntPreset r counter value s) s
  | .gateOverride r hb value => ranNext (execGateOverride r hb value s) s
  | .carrierWrite r bay value => ranNext (execCarrierWrite r bay value s) s
  | .bankSwap r axis value => ranNext (execBankSwap r axis value s) s
  | _ => s

end Sys2Proof.Machine
end

