-- ==== Sys2Proof/Machine/Packets.lean ====
section
/-! DEFINITION. Packets into and out of the device: checks 1 to 7 (R57 to R63, R500, R502), forwarding (R59), replies
(R66), the SPI frames that carry packets (R348 to R353), and the async blocks of the ring (R388, R389). -/

namespace Sys2Proof.Machine

/-! ### Replies (R66) -/

/-- The fields of a reply: sections and axis records come from the snapshot, the rest from the state it was latched from. -/
def State.replyFields (view : State) (b : Body) : List Byte × List Word :=
  let snap := view.mtr.now
  match b with
  | .sections mask => (leBytes 4 mask.toNat ++ ((List.range 9).filter (fun k => mask.toNat.testBit k)).flatMap (fun k => snap.sections.getD k []), [])
  | .axes mask => (leBytes 4 mask.toNat ++ view.latchedAxes mask, [])
  | b => view.fields b

/-- Build a waiting reply: it goes toward its host and into its session's cache. A corrupt snapshot replies INTERNAL
(Table 1.6). -/
def State.finishReply (s : State) (view : State) (x : Awaiting) : State :=
  let bad := view.mtr.now.corrupt
  let (fields, events) := if bad then ([], []) else view.replyFields x.body
  let bytes := view.replyBytes x.opcode x.seq x.tag (if bad then Status.internal else x.status.toNat)
    (view.mtr.now.frame.setWidth 32) fields
  let t := s.send { bytes := bytes, host := x.src, slot := x.slot, events := events }
  match x.slot with
  | none => t
  | some k => t.onSession k (fun y =>
      if y.src = x.src then { y with cache := y.cache.map (fun (c : Cached) => if c.seq = x.seq then { c with reply := bytes, events := events } else c) } else y)

/-- Build every reply that waits. -/
def State.finishReplies (s : State) (view : State) : State :=
  let t := { s with cmd := { s.cmd with awaiting := [] } }
  t.each s.cmd.awaiting (fun x t => t.finishReply view x)

/-! ### Forwarding (R59, R388) -/

/-- The ports by which a broadcast leaves: every port that is no end port; the master of a closed ring uses EAST alone. -/
def State.broadcastPorts (s : State) : List (Fin 2) :=
  (allFin 2).filter (fun p => !(s.ring.ports[p]).endPort && !(p = 1 && s.isMaster && !s.ring.wrapped))

def State.forwardTo (s : State) (src : Source) (bytes : List Byte) (node : Byte) : State :=
  let ports := if node = 0xFF then s.broadcastPorts else [s.routeTo node.toNat]
  s.each ports (fun p t =>
    t.onOut (if p = 0 then 1 else 2) (fun l => l ++ [{ bytes := bytes, host := src, forward := some node, left := bytes.length }]))

/-! ### Checks 1 to 7 -/

/-- A refusal on arrival, from the header (R58, R66). -/
def State.refuseNow (s : State) (r : Req) (op status : Nat) : State := s.sendNow r op status []

/-- The cached CRC of R63. -/
def requestCrc (op : Nat) (tag : Half) (payload : List Byte) : Word := crc32c (leBytes 1 op ++ leBytes 2 tag.toNat ++ payload)

/-- An accepted request waits for its tick; in Dormant it is executed and answered at once (R446). -/
def State.acceptRequest (s : State) (ingress : Port) (r : Req) (op : Nat) (cmd : Instr) : State :=
  if s.power.mode = .dormant then
    let t := s.run cmd
    t.finishReplies t
  else
    { s with cmd := { s.cmd with arrivals := s.cmd.arrivals ++ [{ req := r, ingress := ingress, opcode := BitVec.ofNat 8 op, cmd := cmd }] } }

/-- Check 7 and what follows it: a new request, a duplicate, or a stale number (R62, R63). -/
def State.sequenceCheck (s : State) (k : Fin 8) (x : Session) (ingress : Port) (r : Req) (op : Nat) (payload : List Byte) (cmd : Instr) : State :=
  let crc := requestCrc op r.tag payload
  let stale := (s.count 0x0212 255).refuseNow r op Status.seqStale
  match x.cache.find? (fun c => c.seq = r.seq) with
  | some c =>
    if c.crc ≠ crc then stale
    else
      let t := (s.count 0x0213 255).onSession k (fun y => y.refresh r.arrived)
      if c.reply = [] then t else t.send { bytes := c.reply, host := r.src, slot := some k, events := c.events }
  | none =>
    let ahead := (r.seq - x.lastSeq).toNat
    if ahead = 0 ∨ 32768 ≤ ahead then stale
    else
      let t := s.onSession k (fun y => { y.refresh r.arrived with
        lastSeq := r.seq, untouched := false
        cache := (y.cache ++ [({ seq := r.seq, crc := crc } : Cached)]).drop (y.cache.length + 1 - 32) })
      t.acceptRequest ingress r op cmd

/-- Checks 6 and 7 for a request that this node executes. -/
def State.localRequest (s : State) (ingress : Port) (r : Req) (op : Nat) (bytes payload : List Byte) : State :=
  match opRow op, readRequest r op payload with
  | some row, some cmd =>
    if row.role = .none then
      match cmd with
      | .sessionOpen r role flags keepalive client => s.openSession bytes r role flags keepalive client
      | cmd => s.run cmd
    else
      match s.slotOf r.src with
      | none => s.refuseNow r op Status.noSession
      | some k =>
        match s.session k with
        | none => s.refuseNow r op Status.noSession
        | some x => s.sequenceCheck k x ingress r op payload cmd
  | _, _ => s.refuseNow r op Status.unknownOpcode

/-- A packet has arrived whole: `src` its source, `ingress` the port it arrived at. The caller has dealt with packets under
16 bytes. -/
def State.receivePacket (s : State) (src : Source) (ingress : Port) (bytes : List Byte) (arrived : Nat) : State :=
  let n := bytes.length
  let body := bytes.take (n - 4)
  let ring : Bool := src.port = .east || src.port = .west
  let op := field 1 1 body
  let r : Req := { src := src, seq := BitVec.ofNat 16 (field 2 2 body), tag := BitVec.ofNat 16 (field 4 2 body), arrived := arrived }
  let b0 := field 0 1 body
  let length := field 6 2 body
  let target := field 8 1 body
  let payload := body.drop 12
  let known := (opRow op).isSome
  if (crc32c body).toNat ≠ field (n - 4) 4 bytes then
    let t := s.count 0x0211 255
    if ring then t else t.refuseNow r op Status.badCrc
  else if b0 % 4 ≠ 0 then s
  else if 1024 < length ∨ length ≠ payload.length ∨ (known ∧ !lengthOk op payload) then s.refuseNow r op Status.badLength
  else if b0 / 16 ≠ 1 then s.refuseNow r op Status.versionMismatch
  else
    match opRow op with
    | none => s.refuseNow r op Status.unknownOpcode
    | some row =>
      let broadcast := target = 0xFF
      if (¬broadcast ∧ 8 < target) ∨ (broadcast ∧ !row.bc) then s.refuseNow r op Status.badParameter
      else if target = 0 ∨ target = s.ownNode ∨ (broadcast ∧ ring) then s.localRequest ingress r op body payload
      else if broadcast then
        let t := s.localRequest ingress r op body payload
        if s.ring.joined then t.forwardTo src bytes 0xFF else t
      else if ring then s
      else if s.ring.joined ∧ s.joinedMask.testBit (target - 1) then s.forwardTo src bytes (BitVec.ofNat 8 target)
      else s.send {
        bytes := packetBytes false (BitVec.ofNat 8 op) r.seq r.tag target Status.nodeUnreachable
          (leBytes 4 (s.mtr.now.frame.setWidth 32 : Word).toNat), host := src, slot := s.slotOf src }

/-! ### Packets on SPI -/

/-- The pushes that wait for the SPI host. -/
def State.spiPushes (s : State) : List OutPacket := (s.cmd.out[(0 : Fin 5)]).filter OutPacket.push

/-- The level on ATTN_N (R76, R350): low while a reply or push waits for the SPI host, or a WARN event is unread. -/
def State.attnN (s : State) : Bool := s.spiReplies.isEmpty && s.spiPushes.isEmpty && !s.warnUnread

/-- The port status word (Table 15.2) before a packet of `next` bytes. -/
def State.portStatus (s : State) (next : Nat) : List Byte :=
  leBytes 4 (next % 2048 + min s.spiReplies.length 31 * 2 ^ 11 + min s.spiPushes.length 31 * 2 ^ 16 + bit s.warnUnread 21 + bit (s.rxFull s.hp.pins.fell) 22 +
    bit s.outqFull 23 + s.hp.burstStatus.toNat * 2 ^ 24)

/-- The events of a packet have been read (R76). -/
def State.eventsRead (s : State) (l : List Word) : State :=
  { s with cmd := { s.cmd with unread := s.cmd.unread.filter (fun q => !l.contains q) } }

/-- PACKET_WRITE (R351): the packet occupies a receive buffer until at most 2 µs after its CRC check. A frame below 16 bytes, or one begun while OUTQ_FULL is set, is a frame error. -/
def execPacketWrite (f : SpiFrame) (arrived : Nat) (bytes : List Byte) (s : State) : Host.Outcome State Fault Refusal :=
  .next (s.spiFrame f none (fun s =>
    if bytes.length < 16 ∨ s.outqFull then s.frameError
    else
      let (n, s) := s.within 400
      let s := s.onPins (fun p => { p with buffers := (arrived + n) :: p.buffers.filter (fun c => decide (arrived < c)) })
      s.receivePacket { port := .spi } .spi bytes arrived))

/-- Drop the first packet of a list that satisfies a test. -/
def dropFirst (p : OutPacket → Bool) : List OutPacket → List OutPacket
  | [] => []
  | x :: rest => if p x then rest else x :: dropFirst p rest

/-- PACKET_READ (R352): the oldest reply, else the oldest push, which leaves its queue once clocked out whole. -/
def execPacketRead (f : SpiFrame) (s : State) : Host.Outcome State Fault Refusal :=
  .next (s.spiFrame f (some 20) (fun s =>
    match s.spiReplies.head?, s.spiPushes.head? with
    | none, none => s.driveOut (clocked f (s.portStatus 0))
    | o, p =>
      match o.or p with
      | none => s.driveOut (clocked f (s.portStatus 0))
      | some x =>
        let t := s.driveOut (clocked f (s.portStatus x.bytes.length ++ x.bytes))
        if f.complete then
          let t := (t.onOut 0 (dropFirst (fun y => y.push = x.push))).admitLate
          State.eventsRead { t with cmd := { t.cmd with lastRead := x.bytes } } x.events
        else t))

/-- STATUS_READ. -/
def execStatusRead (f : SpiFrame) (s : State) : Host.Outcome State Fault Refusal :=
  .next (s.spiFrame f (some 20) (fun s => s.driveOut (clocked f (s.portStatus 0))))

/-- PACKET_REREAD (R353). -/
def execPacketReread (f : SpiFrame) (s : State) : Host.Outcome State Fault Refusal :=
  .next (s.spiFrame f (some 20) (fun s => s.driveOut (clocked f (s.portStatus s.cmd.lastRead.length ++ s.cmd.lastRead))))

/-! ### Async blocks (Table 16.7) -/

/-- The controller of a CAN host, which the framing does not tell: the first whose storing filters name its index. -/
def State.canOfHost (s : State) (host : Nat) : Fin 2 :=
  let names (c : Fin 2) : Bool := (s.filters c).any (fun f => f.stores && decide (f.host.val = host))
  if !names 0 && names 1 then 1 else 0

/-- A reply or push from the ring for a host of this node (R388); `code` is entry port and host index. -/
def State.deliverReply (s : State) (code : Nat) (bytes : List Byte) : State :=
  let push : Bool := (field 0 1 bytes).testBit 1
  match code % 4 with
  | 0 => s.send { bytes := bytes, host := { port := .spi }, push := push }
  | 3 =>
    let k := code / 4 % 8
    s.send { bytes := bytes, host := { port := if s.canOfHost k = 0 then .can0 else .can1, host := BitVec.ofNat 8 k }, push := push }
  | _ => s

/-- A packet of the ring is complete. -/
def State.ringPacket (s : State) (port : Fin 2) (src : Source) (bytes : List Byte) (arrived : Nat) : State :=
  let k := src.node.toNat - 1
  let t := if h : k < 8 then s.onRing (fun r => { r with buffered := r.buffered.set k (r.buffered[k] + 1) }) else s
  if bytes.length < 16 then t.count 0x0F12 255
  else if (field 0 1 bytes).testBit 0 then
    if (crc32c (bytes.take (bytes.length - 4))).toNat = field (bytes.length - 4) 4 bytes then t.deliverReply src.host.toNat bytes
    else t.count 0x0211 255
  else t.receivePacket src (if port = 0 then .east else .west) bytes arrived

/-- A block of Table 16.7 from its characters 1 to 68: occupied, with its fill. -/
def wireBlock (body : List Byte) : List Byte := 0xFB :: (body ++ [0xBC, 0x50, 0x50])

/-- A block that is not freed here leaves by the other port, where its stream goes on (R369, R388). -/
def State.passBlock (s : State) (port : Fin 2) (block : List Byte) : State :=
  if s.passesOn port then s.onPort (1 - port) (fun x => { x with blocks := x.blocks ++ [wireBlock block] }) else s

/-- ASYNC_BLOCK_RECEIVED: characters 1 to 68 of a block, `count` the edge at which it passes its CRC check. A block for
another node, and a broadcast, passes on; one that fails is freed and takes along the packet of the source it names (R388). A node
takes no copy of its own broadcast. -/
def execAsyncBlockReceived (port : Fin 2) (block : List Byte) (codeErrors count : Nat) (s : State) : Host.Outcome State Fault Refusal :=
  .next (
    let t := s.codeErrors codeErrors
    let b := block.take 64
    if ¬s.ring.joined then t
    else if block.length ≠ 68 ∨ leBytes 4 (crc32c b).toNat ≠ block.drop 64 then
      let named (src : Source) : Bool := src.node = BitVec.ofNat 8 (field 1 1 b) && src.host = BitVec.ofNat 8 (field 2 1 b / 4 % 32)
      ((t.damaged port).onPort port (fun y => { y with assembling := y.assembling.filter (fun e => !named e.1) })).count 0x0F12 255
    else
      let dest := field 0 1 b
      let node := field 1 1 b
      let flags := field 2 1 b
      let n := field 3 1 b
      let t := if dest = s.ownNode then t else t.passBlock port block
      if (dest ≠ s.ownNode ∧ dest ≠ 0xFF) ∨ node = 0 ∨ 8 < node ∨ node = s.ownNode ∨ n = 0 ∨ 60 < n then t
      else
        let src : Source := { port := .east, node := BitVec.ofNat 8 node, host := BitVec.ofNat 8 (flags / 4 % 32) }
        let x := t.ring.ports[port]
        let held := x.assembling.find? (fun e => e.1 = src)
        let rest := x.assembling.filter (fun e => !(e.1 = src))
        let set (l : List (Source × List Byte)) (t : State) : State := t.onPort port (fun y => { y with assembling := l })
        let data : Option (List Byte) := if flags.testBit 0 then some (slice 4 n b) else held.map (fun e => e.2 ++ slice 4 n b)
        match data with
        | none => t
        | some bs =>
          if flags.testBit 1 then (set rest t).ringPacket port src bs count
          else set (rest ++ [(src, bs)]) t)

end Sys2Proof.Machine
end

