-- ==== Sys2Proof/Machine/Can.lean ====
section
/-! DEFINITION. The CAN controllers at work (R412 to R421): filters and receive queues, the reassembler, the transmit
buffers, the cyclic status frame, and error confinement. -/

namespace Sys2Proof.Machine

def State.onCan (s : State) (c : Fin 2) (f : Can → Can) : State := { s with can := upd s.can c f }
def canPort (c : Fin 2) : Port := if c = 0 then .can0 else .can1

/-- The place of a controller's output queue. -/
def canQueue (c : Fin 2) : Fin 5 := if c = 0 then 3 else 4

/-- The controller takes part in the bus. -/
def Can.onBus (x : Can) : Bool := x.state = .active || x.state = .passive

/-! ### Receiving (R412, R414) -/

/-- Store a frame for a host in RXQ0 or RXQ1; a full queue drops and counts it. -/
def State.storeFrame (s : State) (c : Fin 2) (q : Nat) (e : CanEntry) : State :=
  let x := s.can[c]
  if 16 ≤ (if q = 0 then x.queue0 else x.queue1).length then
    let t := s.count (canIndex c 0x22) q
    if t.stuck (canIndex c 0x20) 255 16 then t else (t.stick (canIndex c 0x20) 255 16).raiseAgain 0x1104 c.val
  else s.onCan c (fun y => if q = 0 then { y with queue0 := y.queue0 ++ [e] } else { y with queue1 := y.queue1 ++ [e] })

/-- CAN_FRAME_RECEIVED: the first matching filter decides; a remote frame matches none (R409). -/
def execCanFrameReceived (c : Fin 2) (frame : CanFrame) (arrived : Nat) (s : State) : Host.Outcome State Fault Refusal :=
  .next (
    if !(s.can[c]).onBus ∨ frame.remote ∨ (frame.fd ∧ s.canPar c 0x01 = 0) then s
    else
      let ident := frame.ident.toNat % (if frame.extended then 2 ^ 29 else 2 ^ 11)
      match (s.filters c).find? (fun f => f.matches_ frame.extended ident) with
      | none => s
      | some f => if f.stores then s.storeFrame c (f.action - 1) { frame := frame, host := f.host, time := arrived } else s)

/-! ### The reassembler (R415 to R418) -/

/-- A packet in progress, or a segment, is discarded and counted. -/
def State.discardSegment (s : State) (c : Fin 2) : State := (s.count (canIndex c 0x23) 255).raise 0x1105 c.val

def Can.packetOf (x : Can) (h : Fin 8) : Option CanPacket := x.assembling.find? (fun p => p.host = h)
def State.dropPacket (s : State) (c : Fin 2) (h : Fin 8) : State :=
  s.onCan c (fun x => { x with assembling := x.assembling.filter (fun p => !(p.host = h)) })

/-- A new SINGLE or FIRST discards the packet its source has in progress. -/
def State.restartSource (s : State) (c : Fin 2) (h : Fin 8) : State :=
  if ((s.can[c]).packetOf h).isSome then (s.dropPacket c h).discardSegment c else s

/-- A packet is whole: it arrives at most 2 µs after its last frame became valid (R418). -/
def State.canPacket (s : State) (c : Fin 2) (h : Fin 8) (bytes : List Byte) (time : Nat) : State :=
  let (late, t) := s.draw
  t.receivePacket { port := canPort c, host := BitVec.ofNat 8 h.val } (canPort c) bytes (time + (late % 401).toNat)

/-- A packet in progress with more bytes: complete, or waiting for its next segment. -/
def State.canProgress (s : State) (c : Fin 2) (p : CanPacket) (time : Nat) : State :=
  let t := s.dropPacket c p.host
  if p.length ≤ p.bytes.length then t.canPacket c p.host (p.bytes.take p.length) time
  else t.onCan c (fun x => { x with assembling := x.assembling ++ [p] })

/-- One segment, taken from its queue. -/
def State.segment (s : State) (c : Fin 2) (e : CanEntry) : State :=
  let d := e.frame.data
  let b0 := field 0 1 d
  let own := (s.can[c]).packetOf e.host
  match b0 / 64 with
  | 0 =>
    let t := s.restartSource c e.host
    let p := d.drop 1
    let n := 16 + field 6 2 p
    if d = [] ∨ b0 % 64 ≠ 0 ∨ p.length < 16 ∨ p.length < n then t.discardSegment c else t.canPacket c e.host (p.take n) e.time
  | 1 =>
    let t := s.restartSource c e.host
    let n := field 1 2 d
    if b0 % 64 ≠ 0 ∨ n < 16 ∨ 1040 < n then t.discardSegment c
    else t.canProgress c { host := e.host, length := n, bytes := d.drop 3, index := 1 } e.time
  | 2 =>
    match own with
    | none => s.discardSegment c
    | some p =>
      if b0 % 64 ≠ p.index then (s.dropPacket c e.host).discardSegment c
      else s.canProgress c { p with bytes := p.bytes ++ d.drop 1, index := (p.index + 1) % 64, frames := 0 } e.time
  | _ => s.discardSegment c

/-- A FIRST that would start a fifth packet waits at the head of its queue. -/
def Can.waits (x : Can) (e : CanEntry) : Bool :=
  field 0 1 e.frame.data / 64 = 1 && (x.packetOf e.host).isNone && decide (4 ≤ x.assembling.length)

/-- CAN_SEGMENT: RXQ0 goes first (R414). -/
def execCanSegment (c : Fin 2) (s : State) : Host.Outcome State Fault Refusal :=
  .next (
    let x := s.can[c]
    match x.queue0, x.queue1 with
    | e :: rest, _ => if x.waits e then s else (s.onCan c (fun y => { y with queue0 := rest })).segment c e
    | [], e :: rest => if x.waits e then s else (s.onCan c (fun y => { y with queue1 := rest })).segment c e
    | [], [] => s)

/-- CAN_SEGMENT_TIMEOUT. -/
def execCanSegmentTimeout (c : Fin 2) (host : Fin 8) (s : State) : Host.Outcome State Fault Refusal :=
  .next (match (s.can[c]).packetOf host with
    | some p => if s.canPar c 0x10 ≤ p.frames then (s.dropPacket c host).discardSegment c else s
    | none => s)

/-! ### Transmitting (R416, R419) -/

/-- The data lengths of CAN FD. -/
def canLength (fd : Bool) (n : Nat) : Nat :=
  if !fd ∨ n ≤ 8 then n
  else if n ≤ 12 then 12 else if n ≤ 16 then 16 else if n ≤ 20 then 20 else if n ≤ 24 then 24
  else if n ≤ 32 then 32 else if n ≤ 48 then 48 else 64

/-- The smallest data length that holds a segment, padded with 0xCC. -/
def padSegment (fd : Bool) (b : List Byte) : List Byte := b ++ List.replicate (canLength fd b.length - b.length) 0xCC

/-- The NEXT segments of the rest of a packet. -/
def nextSegments (fd : Bool) : Nat → Nat → List Byte → List (List Byte)
  | 0, _, _ => []
  | n + 1, i, b =>
    if b = [] then []
    else
      let k := if fd then 63 else 7
      padSegment fd (BitVec.ofNat 8 (0x80 + i % 64) :: b.take k) :: nextSegments fd n (i + 1) (b.drop k)

/-- The segments of a packet: SINGLE up to 63 bytes in CAN FD, else FIRST and NEXT. -/
def segmentsOf (fd : Bool) (b : List Byte) : List (List Byte) :=
  if fd ∧ b.length ≤ 63 then [padSegment fd (0 :: b)]
  else
    let k := if fd then 61 else 5
    padSegment fd ((0x40 :: leBytes 2 b.length) ++ b.take k) :: nextSegments fd b.length 1 (b.drop k)

/-- Fill a free transmit buffer with the first packet whose host the other buffer is not sending to. -/
def State.fillBuffer (s : State) (c : Fin 2) (b : Fin 2) : State :=
  let x := s.can[c]
  if (x.tx[b]).isSome then s
  else
    let other := (x.tx[1 - b]).map CanTx.host
    match (s.cmd.out[canQueue c]).find? (fun p => !decide (other = some (Fin.ofNat 8 p.host.host.toNat))) with
    | none => s
    | some p =>
      let h : Fin 8 := Fin.ofNat 8 p.host.host.toNat
      let ident := s.canSub c 0x13 h.val
      let t := s.onOut (canQueue c) (dropFirst (fun q => !decide (other = some (Fin.ofNat 8 q.host.host.toNat))))
      if ident = noIdent then t
      else t.onCan c (fun y => { y with tx := y.tx.set b (some {
        host := h, ident := BitVec.ofNat 32 ident, fd := decide (s.canPar c 0x01 = 1), segments := segmentsOf (decide (s.canPar c 0x01 = 1)) p.bytes, events := p.events }) })

/-- The order in which identifiers win arbitration: the base first, then the 11-bit frame. -/
def arbitration (w : Nat) : Nat := if identExtended w then identBits w * 2 + 1 else identBits w * 2 ^ 19

/-- The buffers that hold a frame, TXB2 last, as (buffer, identifier). -/
def State.pendingBuffers (s : State) (c : Fin 2) : List (Nat × Nat) :=
  let x := s.can[c]
  ((allFin 2).filterMap (fun b => (x.tx[b]).map (fun y => (b.val, y.ident.toNat)))) ++
    (if x.status.isSome then [(2, s.canPar c 0x11)] else [])

/-- The buffer that sends next (CANc.TX_PRIO). -/
def State.nextBuffer (s : State) (c : Fin 2) : Option Nat :=
  let l := s.pendingBuffers c
  if s.canPar c 0x0E = 1 then l.head?.map Prod.fst
  else (l.foldl (fun (best : Option (Nat × Nat)) e => match best with
      | some b => if arbitration e.2 < arbitration b.2 then some e else best
      | none => some e) none).map Prod.fst

/-- Send the next segment of a buffer; the last one ends its packet, whose events are then read (R76). -/
def State.sendSegment (s : State) (c : Fin 2) (b : Fin 2) : State :=
  match (s.can[c]).tx[b] with
  | none => s
  | some y =>
    match y.segments with
    | [] => s.onCan c (fun x => { x with tx := x.tx.set b none })
    | d :: rest =>
      let t := s.onCan c (fun x => { x with
        sent := some (y.ident, d), sentFd := y.fd, sentBrs := y.fd && decide (s.canPar c 0x02 = 1), tx := x.tx.set b (if rest = [] then none else some { y with segments := rest }) })
      if rest = [] then t.eventsRead y.events else t

/-- CAN_TRANSMIT: the buffers fill, and one frame is sent without error. -/
def execCanTransmit (c : Fin 2) (s : State) : Host.Outcome State Fault Refusal :=
  .next (
    if !(s.can[c]).onBus then s
    else
      let t := (s.fillBuffer c 0).fillBuffer c 1
      match t.nextBuffer c with
      | none => t
      | some 0 => t.sendSegment c 0
      | some 1 => t.sendSegment c 1
      | some _ => t.onCan c (fun x => { x with
          sent := x.status.map (fun d => (BitVec.ofNat 32 (t.canPar c 0x11), d)), status := none
          sentFd := decide (t.canPar c 0x01 = 1), sentBrs := decide (t.canPar c 0x01 = 1) && decide (t.canPar c 0x02 = 1) }))

/-- The status frame from the snapshot latched last (Table 17.7); in the failstate of R401 the outputs no longer follow the word of
the lanes. -/
def State.statusFrame (s : State) (fd : Bool) : List Byte :=
  let snap := s.mtr.now
  let device := snap.sections.getD 0 []
  let fio := snap.sections.getD 3 []
  let safety := snap.sections.getD 4 []
  let driven := if s.fio.failed then s.outputLevel.toNat else field 4 2 fio - (field 4 2 fio &&& field 6 2 fio)
  let b := slice 0 4 fio ++ leBytes 2 driven ++ slice 8 1 device ++ slice 0 1 safety ++ leBytes 4 (snap.frame.setWidth 32 : Word).toNat ++
    slice 12 2 device ++ pad 2
  if fd then b else b.take 8

/-- CAN_STATUS_FRAME (R420). -/
def execCanStatusFrame (c : Fin 2) (s : State) : Host.Outcome State Fault Refusal :=
  .next (
    let x := s.can[c]
    let period := s.canPar c 0x12
    if !x.onBus ∨ period = 0 ∨ s.canPar c 0x11 = noIdent ∨ x.statusAge < period then s
    else s.onCan c (fun y => { y with status := some (s.statusFrame (decide (s.canPar c 0x01 = 1))), statusAge := 0 }))

/-! ### Errors (R421) -/

/-- CAN_ERROR_PASSIVE. -/
def execCanErrorPassive (c : Fin 2) (transmit receive : Nat) (s : State) : Host.Outcome State Fault Refusal :=
  .next (
    if (s.can[c]).state = .active then
      ((s.onCan c (fun x => { x with state := .passive })).errorCounters c transmit receive).raise 0x1102 c.val
    else s)

/-- CAN_BUS_OFF: the buffers are emptied and the packets in progress discarded. -/
def execCanBusOff (c : Fin 2) (s : State) : Host.Outcome State Fault Refusal :=
  .next (
    if !(s.can[c]).onBus then s
    else
      let t := s.each (s.can[c]).assembling (fun p t => (t.dropPacket c p.host).discardSegment c)
      let t := t.onCan c (fun x => { x with
        state := .busOff, recovering := decide (s.canPar c 0x0F = 1), tx := Vector.replicate 2 none, status := none })
      let t := (t.count (canIndex c 0x24) 255).stick (canIndex c 0x20) 255 17
      (t.clearFault 0x1102 c.val).raise 0x1103 c.val)

/-- CAN_BUS_OFF_RECOVERED: 128 occurrences of 11 recessive bits after recovery began. -/
def execCanBusOffRecovered (c : Fin 2) (s : State) : Host.Outcome State Fault Refusal :=
  .next (
    let x := s.can[c]
    if x.state = .busOff ∧ x.recovering then
      (s.onCan c (fun y => { y with recovering := false })).joinBus c
    else s)

/-- A frame in which an error-passive controller may have returned to error-active: a free value says whether it did, and its
counters, both below 128 by then, are free (R421; DESIGN CHOICE, notes/assumptions/157). -/
def State.canRecovers (s : State) (c : Fin 2) : State :=
  if (s.can[c]).state = .passive then
    let back := Config.freeBool s.free
    let t := { s with free := s.free + 1 }
    if back then
      let (v, t) := t.draw
      ((t.onCan c (fun x => { x with state := .active })).errorCounters c (v % 128).toNat (v / 128 % 128).toNat).clearFault 0x1102 c.val
    else t
  else s

/-- One frame of age for the packets in progress and the status frame. -/
def State.ageCan (s : State) (c : Fin 2) : State :=
  s.onCan c (fun x => { x with
    statusAge := x.statusAge + 1, assembling := x.assembling.map (fun (p : CanPacket) => { p with frames := p.frames + 1 }) })

end Sys2Proof.Machine
end

