-- ==== Sys2Proof/Machine/Completions.lean ====
section
/-! DEFINITION. Steps 1 and 2 of a tick (Table 4.1): the completions of the frame that ends, the faults that clear
themselves, and the reactions that begin. -/

namespace Sys2Proof.Machine

/-! ### Step 1: completions -/

/-- Whether an entry is complete (R230, R231): it has landed; the members of a group complete together (R255). -/
def State.entryDone (s : State) (m : Move) : Bool :=
  m.landed && (decide (m.kind ≠ .group) || decide (m.duration ≤ (s.frame64 - m.startedAt).toNat))

/-- The first frame in which the entry behind a completed one may start (Table 10.4). -/
def State.successorAt (s : State) (m : Move) (next : Option Move) : Long :=
  match next with
  | some n => if m.kind ≠ .vel ∧ State.blends m n then s.frame64 else s.frame64 + 1
  | none => s.frame64 + 1

/-- Complete the entries that are done, oldest first (R230); a completed stroke ages its bins (R285). The number bounds the
entries. -/
def State.finishDone (s : State) (a : Fin 16) : Nat → State
  | 0 => s
  | k + 1 =>
    match (s.ax a).queue.findIdx? (fun m => s.entryDone m) with
    | none => s
    | some i =>
      let s := match (s.ax a).queue[i]? with | some m => s.endPassOf a m | none => s
      match (s.ax a).queue[i]? with
      | none => s
      | some m =>
        let at_ := s.successorAt m (s.ax a).queue[i + 1]?
        let t := (((s.leaveGroup a m).finishEntry a i 0).strokeCompleted a m).onAx a (fun x => { x with startAt := at_ })
        t.finishDone a k

/-- A capture of the frame that ends sets LATCH_VALID and logs the latch (R247). -/
def State.latchDelivered (s : State) (a : Fin 16) : State :=
  match (s.ax a).latchTaken with
  | none => s
  | some (pos, frame) =>
    let t := s.onAx a (fun x => { x with latchTaken := none, latchValid := true })
    let t := (t.setPar 0x0932 a.val (wrapSigned 32 pos)).setPar 0x0933 a.val frame.toNat
    t.event { code := 0x0981, inst := a.val, kind := 2, cls := 2, data := leBytesI 4 pos ++ leBytes 4 frame.toNat,
              frame := s.frame64, order := a.val }

/-- The completions of one axis; a held demand completes nothing (R238). -/
def State.completeAxis (s : State) (a : Fin 16) : State :=
  let t := if (s.ax a).held then s else (s.finishDone a 33).homingComplete a
  t.latchDelivered a

/-! ### Faults that clear themselves (R503) -/

/-- The conditions that a tick reads from the state. -/
def State.selfClear (s : State) : State :=
  let t := s.each (allFin 2) (fun d t => if (t.die d).temp < 1250 then t.clearFault 0x040F (dieInst d) else t)
  let t := t.each t.presentAxes (fun a t =>
    let l := (t.ax a).loops
    let t := if t.saliencyBad a then t else t.clearFault 0x060B a.val
    let t := if t.parN 0x0A1B a.val ≤ l.envQuiet then t.clearFault 0x0A02 a.val else t
    if l.limitRun = 0 then t.clearFault 0x0A03 a.val else t)
  let t := if t.power.vbatLow && decide (2100 < t.devN 0x1311) then
      (t.onPower (fun p => { p with vbatLow := false })).clearFault 0x1302 255 else t
  t.diagnosticsClear

/-! ### Step 2: reactions -/

/-- The reactions of the faults detected in the last frame, the highest rank first (R12, Table 1.7). -/
def State.beginReactions (s : State) : State :=
  let waiting := s.faults.filter (fun f => !f.started)
  s.each (([7, 6, 5, 4, 3, 2, 1] : List Nat).flatMap (fun k => waiting.filter (fun f => f.rank = k))) (fun f t => t.beginReaction f)

/-- A member whose entry a reaction removed leaves a group that has not started (R239, R255). -/
def State.leaveWaiting (s : State) (g : Fin 8) : State :=
  match s.motion.groups[g] with
  | none => s
  | some grp =>
    let left := grp.members.filter (fun a => ((s.ax a).groupEntry g).isSome)
    if (grp.started ∧ left ≠ []) ∨ left = grp.members then s
    else { s with motion := { s.motion with
      groups := s.motion.groups.set g (if left = [] then none else some { grp with members := left }) } }

/-- A group-stop bit ends when the members stand still, four frames after the stop at the earliest (R385). -/
def State.endGroupStop (s : State) (g : Fin 8) : State :=
  let still := s.motion.stopping[g].all (fun a => (s.ax a).demand.v = 0 && (s.ax a).demand.a = 0)
  if s.motion.groupStops.getLsb g ∧ s.ring.groupStopUntil[g].toNat ≤ s.frame64.toNat ∧ still then
    { s with motion := { s.motion with groupStops := s.motion.groupStops &&& ~~~BitVec.ofNat 8 (2 ^ g.val),
                                       stopping := s.motion.stopping.set g [] } }
  else s

/-- An axis of a device that loses redundancy in Run or Limp with LANE.SINGLE_OK = 0 (R342): it stops, and at standstill it
is disabled. -/
def State.stopSingle (s : State) (a : Fin 16) : State :=
  match (s.ax a).state with
  | .disabled | .sto => s
  | .standstill | .fault | .enabling => s.disableAxis a
  | .shorted | .coasting => if (s.ax a).speed = 0 then s.disableAxis a else s
  | .moving | .stopping => s.reactAxis 3 a

/-- R342: Run becomes Limp at the next tick; without LANE.SINGLE_OK the device stops, and is Ready at the tick after the
last axis was disabled. -/
def State.singleLane (s : State) : State :=
  if !s.lanes.redundancyLost then s
  else if s.devN 0x0D00 = 1 then (if s.power.mode = .run then s.setMode .limp else s)
  else if s.power.mode = .run ∨ s.power.mode = .limp then
    if s.allDisabled then s.setMode .ready else s.each s.presentAxes (fun a t => t.stopSingle a)
  else s

/-- Steps 1 and 2 at T(n), in the frame that begins. -/
def State.completions (s : State) : State := (s.each s.presentAxes (fun a t => t.completeAxis a)).selfClear
def State.reactions (s : State) : State :=
  let t := s.each s.presentAxes (fun a t => (t.losRetry a).regenShort a)
  let t := (t.beginReactions).each (allFin 8) (fun g t => (t.leaveWaiting g).endGroupStop g)
  t.singleLane

/-! ### The safety state word (R303, R308) -/

/-- The reaction of the lanes to the word that Mortar hands them at the tick. -/
def State.safetyWord (s : State) : State :=
  match s.saf.word with
  | .ss1 => s.each (s.presentAxes.filter (fun a => (s.ax a).state.enabled)) (fun a t => t.reactAxis 4 a)
  | .sto | .locked => s.each s.presentAxes (fun a t => t.reactAxis 7 a)
  | .runPermitted => s.each (s.presentAxes.filter (fun a => (s.ax a).state = .sto)) (fun a t =>
      (t.releaseSlaves a).onAx a (fun x => { x with state := .disabled, since := t.frame64, reaction := 0, stop := none, held := false }))
  | .boot | .testing => s

end Sys2Proof.Machine
end

