-- ==== Sys2Proof/Machine/Commit.lean ====
section
/-! DEFINITION. Steps 4 to 6 of a tick (Table 4.1): the transactions whose commit frame it is (R96, R102, R103), and the
direct requests that are eligible (R45, R46, R357). -/

namespace Sys2Proof.Machine

/-! ### Entries of a transaction (R96) -/

/-- The parameter entries of a staged write. -/
def stagedWrites : Instr → List WriteEntry
  | .paramWrite _ e => [e]
  | .paramWriteMulti _ es => es
  | .qryRelease _ v => [⟨0x1201, 0xFF, 3, v⟩]
  | .cntPreset _ c v => [⟨0x1004, c, 3, v⟩]
  | .carrierWrite _ b v => [⟨0x0300, b, 10, v⟩]
  | .bankSwap _ a v => [⟨0x0A0D, a, 10, v⟩]
  | _ => []

/-- The axes of a staged axis entry; a QUEUE_FLUSH of every axis has none of its own. -/
def State.entryAxes (s : State) : Instr → List (Fin 16)
  | .moveAbs _ a .. | .moveRel _ a .. | .moveVel _ a .. | .latchArm _ a .. | .stepFollow _ a .. | .axisEnable _ a
  | .templateFreeze _ a _ | .gearRelease _ a => (s.axisArg a).toList
  | .moveGroup _ _ _ _ _ ms => ms.filterMap (fun m => s.axisArg m.axis)
  | .queueFlush _ a => if a = 0xFF then [] else (s.axisArg a).toList
  | .gearEngage _ m sl .. => (s.axisArg m).toList ++ (s.axisArg sl).toList
  | _ => []

/-- The axis states that drop an entry (R96); an AXIS_ENABLE needs no enabled axis. -/
def State.dropsEntry (s : State) (enable : Bool) (a : Fin 16) : Bool :=
  match (s.ax a).state with
  | .disabled => !enable
  | .stopping | .fault | .shorted | .coasting | .sto => true
  | .enabling | .standstill | .moving => false

/-- The instance of a dropped entry that no axis state drops: its first axis, or 255 where it names none (Table 4.12). -/
def State.entryInst (s : State) (e : Staged) : Nat := match s.entryAxes e.cmd with | a :: _ => a.val | [] => 255

/-- The first reason of R96 for which an entry is dropped: an axis's state, or the mode. -/
def State.dropReason (s : State) (e : Staged) : Option Nat :=
  let enable : Bool := match e.cmd with | .axisEnable .. => true | _ => false
  match (s.entryAxes e.cmd).find? (s.dropsEntry enable) with
  | some a => some a.val
  | none =>
    let permitted : Bool := match opRow e.opcode.toNat with | some row => row.modes.has s.power.mode | none => false
    if permitted then none else some (s.entryInst e)

/-- Drop an entry: counted and logged, one event for each. -/
def State.dropEntry (s : State) (e : Staged) (inst : Nat) : State :=
  let t := (s.countN 0x0234 255 (entryCount e.cmd)).stick 0x0230 255 2
  State.raise { t with faults := t.faults.filter (fun f => !(f.code = 0x0214 && f.inst = inst)) } 0x0214 inst

/-- Whether the owning chapter refuses an entry at its commit tick: the state checks that a direct request of its opcode meets
(DEDUCED, notes/assumptions/10). An AXIS_ENABLE of an axis that is enabled already has reached its state. -/
def State.entryFails (s : State) (e : Staged) : Bool :=
  match e.cmd with
  | .moveAbs .. | .moveRel .. | .moveVel .. => e.prepared.any (fun (a, m) => s.moveFails a m)
  | .moveGroup _ g _ flags lim _ => s.groupFails (Fin.ofNat 8 g.toNat) flags lim e.prepared
  | .gearEngage _ m sl .. =>
    match s.axisArg m, s.axisArg sl with
    | some m, some sl => s.gearPairing m sl || (s.gearStates m sl).any (fun c => c.1)
    | _, _ => true
  | .stepFollow _ a _ flags _ => match s.axisArg a with | some a => (s.followChecks a flags).any (fun c => c.1) | none => true
  | .axisEnable _ a =>
    match s.axisArg a with
    | some a => (match firstFail (s.enableChecks a) with | some st => !(st = Status.alreadyDone) | none => false)
    | none => true
  | .quarryArm _ flags => !((s.quarryArm flags).2 = Status.ok) && !((s.quarryArm flags).2 = Status.alreadyDone)
  | _ => false

/-- The effect of an entry at its commit tick. -/
def State.applyOne (s : State) (e : Staged) : State :=
  match e.cmd with
  | .moveAbs .. | .moveRel .. | .moveVel .. => s.each e.prepared (fun (a, m) t => t.enqueue a m)
  | .moveGroup _ g _ flags lim _ => s.enqueueGroup (Fin.ofNat 8 g.toNat) flags lim e.prepared
  | .queueFlush _ a => match s.axesArg a with | some l => (s.flushAxes l).1 | none => s
  | .gearEngage _ m sl flags ratio offset =>
    match s.axisArg m, s.axisArg sl with
    | some m, some sl => s.engage m sl flags ratio.toInt offset.toInt
    | _, _ => s
  | .gearRelease _ sl => match s.axisArg sl with | some a => s.ungear a | none => s
  | .latchArm _ a source edge => match s.axisArg a with | some a => s.armLatch a source edge | none => s
  | .stepFollow _ a counter flags ratio => match s.axisArg a with | some a => s.followAxis a counter flags ratio | none => s
  | .axisEnable _ a =>
    match s.axisArg a with
    | some a => if (firstFail (s.enableChecks a)).isNone then (s.enableAxis a).1 else s
    | none => s
  | .templateFreeze _ a freeze => match s.axisArg a with | some a => s.freezeAxis a (freeze = 1) | none => s
  | .quarryArm _ flags => (s.quarryArm flags).1
  | cmd => s.applyEntries (stagedWrites cmd)

/-- Apply the entries in staging order; answers how many were dropped. -/
def State.applyStaged (s : State) : List Staged → State × Nat
  | [] => (s, 0)
  | e :: rest =>
    let t := s.unreserve (s.slotsOf e.cmd)
    let dropped := (s.dropReason e).orElse (fun _ => if t.entryFails e then some (t.entryInst e) else none)
    match dropped with
    | some inst => let (u, n) := (t.dropEntry e inst).applyStaged rest; (u, n + entryCount e.cmd)
    | none => (t.applyOne e).applyStaged rest

/-- Apply a transaction at T(c) and end it. `missing` is whether the coordinator misses an acknowledgement (Table 4.7). -/
def State.applyTxn (s : State) (t : Txn) (missing : Bool) : State :=
  let (u, dropped) := s.applyStaged t.staged
  let t := { t with applied := t.entries - dropped }
  if missing then u.endTxn t .inconsistent Status.inconsistent
  else u.endTxn t (if dropped = 0 then .committed else .partial_) Status.ok

/-! ### Steps 4 and 5 -/

/-- Insert by a key, behind equal keys. -/
def insertBy {α : Type} (before : α → α → Bool) (x : α) : List α → List α
  | [] => [x]
  | y :: rest => if before x y then x :: y :: rest else y :: insertBy before x rest
def sortBy {α : Type} (before : α → α → Bool) (l : List α) : List α := l.foldl (fun acc x => insertBy before x acc) []

def Txn.due (t : Txn) (n : Long) : Bool := match t.commit with | some c => decide (c.toNat ≤ n.toNat) | none => false

/-- One ring transaction at T(c) (Table 4.9, steps 7 to 9). -/
def State.ringCommit (s : State) (t : Txn) : State :=
  match t.state with
  | .committing =>
    if t.spoiled then (if t.coordinator then s.unreserve (t.staged.flatMap (fun e => s.slotsOf e.cmd)) else s).isolate t
    else
      let others := t.participants &&& ~~~BitVec.ofNat 8 (2 ^ s.ring.addr.val)
      s.applyTxn t (t.coordinator && decide (others &&& ~~~t.acks ≠ 0))
  | .voting => if t.coordinator then s.abortTxn t else s.isolate t
  | _ => s

/-- Ordered by coordinator node, client ID and TAG. -/
def ringBefore (t u : Txn) : Bool :=
  let key (x : Txn) : Nat := (x.coordNode.toNat * 2 ^ 32 + x.client.toNat) * 2 ^ 16 + x.tag.toNat
  decide (key t < key u)

/-- A transaction that this tick's step 4 or 5 made final is marked for step 6 (R84). -/
def State.sealTxn (s : State) (t : Txn) : State :=
  { s with mtr := { s.mtr with txns := s.mtr.txns.map (fun u =>
      if u.same t && u.state.final then { u with doneAt := some s.frame64 } else u) } }

/-- Step 4: the ring transactions whose T(c) has come. One that the coordinator aborted has its completion logged now (Table 4.9,
step 9), whatever has become of its record. -/
def State.commitRing (s : State) : State :=
  let live := s.mtr.txns.filter (fun t => t.ring && t.due s.frame64 && !t.state.final)
  let owed := s.mtr.owed.filter (fun t => t.due s.frame64)
  let u := { s with mtr := { s.mtr with owed := s.mtr.owed.filter (fun t => !t.due s.frame64) } }
  u.each (sortBy ringBefore (live ++ owed)) (fun t u =>
    if t.state.final then u.complete (some t.slot) t.commitSeq 0x21 Status.txnAborted else (u.ringCommit t).sealTxn t)

/-- Local transactions, ordered by the arrival of their TXN_COMMIT_AT, by port on equal arrivals (R46): those of one arrival were
executed at one tick, in port order. -/
def State.commitLocals (s : State) : State :=
  let due := s.mtr.txns.filter (fun t => !t.ring && t.state = .committing && t.due s.frame64)
  s.each (sortBy (fun t u => decide (t.commitArrived < u.commitArrived ∨ (t.commitArrived = u.commitArrived ∧ t.commitOrder < u.commitOrder))) due)
    (fun t u => (u.applyTxn t false).sealTxn t)

/-! ### Step 6 -/

/-- The order of ports on equal arrivals (R46). -/
def portOrder : Port → Nat
  | .spi => 0 | .east => 1 | .west => 2 | .can0 => 3 | .can1 => 4

def arrivesBefore (x y : Arrival) : Bool :=
  decide (x.req.arrived * 8 + portOrder x.ingress < y.req.arrived * 8 + portOrder y.ingress)

def dataPort (x : Arrival) : Bool := x.opcode.toNat / 16 = 6

/-- Execute the eligible requests in order; at most 16 data-port requests of one session, and the others wait (R357). -/
def State.execute (s : State) (counts : List (Option (Fin 8))) : List Arrival → State
  | [] => s
  | x :: rest =>
    if dataPort x then
      let k := s.slotOf x.req.src
      if 16 ≤ (counts.filter (fun j => decide (j = k))).length then
        State.execute { s with cmd := { s.cmd with arrivals := s.cmd.arrivals ++ [x] } } counts rest
      else (s.run x.cmd).execute (k :: counts) rest
    else (s.run x.cmd).execute counts rest

/-- The direct requests eligible at this tick (R45): those that arrived strictly before T(n) − 10 µs. -/
def State.executeEligible (s : State) : State :=
  let ready (x : Arrival) : Bool := decide (x.req.arrived + 2000 < s.tb.tickAt)
  let due := s.cmd.arrivals.filter ready
  State.execute { s with cmd := { s.cmd with arrivals := s.cmd.arrivals.filter (fun x => !ready x) } } []
    (sortBy arrivesBefore due)

/-- FRM writes made in Dormant take effect at the first tick after wake (R446). -/
def State.wakeValues (s : State) : State :=
  if s.frmPending = [] ∧ s.frmWaiting = [] then s
  else
    let t := s.each s.frmPending (fun (k, x) t => t.takeValue (k / 256) (k % 256) x)
    let t := t.each s.frmWaiting (fun (slot, seq, opcode) t => t.complete slot seq opcode.toNat Status.ok)
    { t with frmPending := [], frmWaiting := [] }

end Sys2Proof.Machine
end

