-- ==== Sys2Proof/Machine/Tick.lean ====
section
/-! DEFINITION. The tick (R36 to R39, R83, Table 4.1): FRAME64 advances, the results of the last frame are latched with its
events, transactions and requests take effect, and the frame that begins gets its inputs. -/

namespace Sys2Proof.Machine

/-! ### The frame counter (R36, R39, R44, R48) -/

/-- FRAME64 and the count of the new tick; the first tick after PLL lock makes FRAME64 0. -/
def State.advance (s : State) : State :=
  if !s.tb.started then { s with frame64 := 0, tb := { s.tb with started := true } }
  else
    let at_ (cut : Int) : Nat := ((s.tb.tickAt : Int) + s.tb.frameLen - cut).toNat
    match s.ring.stepTo with
    | some (f, cut) => { s with frame64 := f, tb := { s.tb with tickAt := at_ cut }, ring := { s.ring with stepTo := none } }
    | none =>
      let t : State := { s with frame64 := s.frame64 + 1, tb := { s.tb with tickAt := at_ 0 } }
      if t.frame32 = 0 then t.firstSaturation (regKey 0x0111 255) 0x0110 255 3 0x0107 255 else t

/-! ### Books (R104, R105) -/

def gapFree : List Entry → Bool
  | e :: f :: rest => decide (f.seq = seqAfter e.seq) && gapFree (f :: rest)
  | _ => true

/-- The books of Table 4.10 in table order, as one device sees them: each balances. -/
def State.bookChecks (s : State) : List Bool := [
  (allFin 16).all (fun a => decide ((s.ax a).queue.length + (s.ax a).reserved ≤ 32)),
  (allFin 8).all (fun k => decide (s.ring.credits[k] + s.ring.spent[k] = s.ring.filled[k])),
  decide (s.dev 0x1214 - s.dev 0x1215 ≤ s.dev 0x1200 * 1048576),
  (allFin 2).all (fun c => decide ((s.can[c]).queue0.length ≤ 16 ∧ (s.can[c]).queue1.length ≤ 16)),
  gapFree s.log.entries,
  s.motion.bins.all (fun (_, b) => decide (b.count = min b.updates 65535))]

/-- The books that are in one of their out-of-balance moments (R104): ring credits after a segment goes down, and the Template
counts in the last frame of a lane state copy (R334). -/
def State.bookSkipped (s : State) : List Bool :=
  [false, s.ring.segmentDown, false, false, false, s.lanes.finalPhase]

/-- BOOK_CHECK (R105): the flags of Table 4.4, and the fault. -/
def State.checkBooks (s : State) : State :=
  let rows := s.bookChecks.zip s.bookSkipped
  let bad := sumN (rows.zipIdx.map (fun ((ok, skip), i) => bit (!ok && !skip) i))
  let skipped := sumN (rows.zipIdx.map (fun ((_, skip), i) => bit skip (8 + i)))
  let t := { s with mtr := { s.mtr with books := BitVec.ofNat 32 (bad + skipped) } }
  if bad = 0 then t else (t.stick 0x0230 255 3).raise 0x0213 255

/-! ### The event log (R74, R76, R469, R470) -/

/-- The order of R469: the axis compute slots, then the device's entries by index block and code. -/
def eventBefore (x y : Event) : Bool :=
  let key (e : Event) : Nat := if e.order < 16 then e.order * 65536 else 16 * 65536 + e.code
  decide (key x < key y)

/-- EVENT_LOG_ENTRY: one entry takes the next number. The mirror keeps the newest 4,096; an unprogrammed entry that it
overwrites is lost (R470). -/
def State.logEntry (s : State) (ev : Event) : State × Entry :=
  let e : Entry := { seq := s.log.next, ev := ev }
  let lagging : Bool := decide (4096 ≤ s.log.entries.length) && (match s.log.entries.head? with | some o => !o.flashed | none => false)
  let t := { s with log := { s.log with next := seqAfter s.log.next
                                        entries := (s.log.entries ++ [e]).drop (s.log.entries.length + 1 - 4096) } }
  let t := if ev.kind = 0 ∧ 2 ≤ ev.detail then { t with cmd := { t.cmd with unread := t.cmd.unread ++ [e.seq] } } else t
  let t := t.mirrorEntry e
  let t := if lagging then ((t.count 0x1432 255).stick 0x1410 255 7).raise 0x1406 255 else t
  (t, e)

def State.logEntries (s : State) : List Event → State × List Entry
  | [] => (s, [])
  | ev :: rest =>
    let (t, e) := s.logEntry ev
    let (u, l) := t.logEntries rest
    (u, e :: l)

/-- The events of the frame that ends are numbered; beyond 64 EVT_OVERFLOW takes the last place (R469). -/
def State.numberEvents (s : State) : State × List Entry :=
  let l := sortBy eventBefore s.log.fresh
  let t := { s with log := { s.log with fresh := [] } }
  if l.length ≤ 64 then t.logEntries l
  else
    let lost := l.length - 63
    let u := t.raise 0x1405 255
    let lostEvent := u.log.fresh
    let u := { u with log := { u.log with fresh := [] } }
    let u := (u.countN 0x1432 255 lost).stick 0x1410 255 7
    u.logEntries (l.take 63 ++ lostEvent)

/-! ### The async region (Table 16.7, R388, R389) -/

/-- Where a packet for the ring goes. -/
def OutPacket.dest (p : OutPacket) : Byte := match p.forward with | some d => d | none => p.host.node

/-- Its host's entry port and index at the source (Table 16.7, flags 2 to 6): the own host's for a request sent on, the asking
node's for a reply or push. -/
def OutPacket.entry (p : OutPacket) : Nat :=
  match p.forward with
  | none => p.host.host.toNat % 32
  | some _ => match p.host.port with
    | .spi => 0 | .east => 1 | .west => 2
    | .can0 | .can1 => 3 + 4 * (p.host.host.toNat % 8)

/-- The next blocks of a packet (Table 16.7). -/
def OutPacket.blocks (p : OutPacket) (own count : Nat) : List (List Byte) :=
  (List.range count).map (fun i =>
    let start := p.bytes.length - p.left + 60 * i
    let n := min 60 (p.bytes.length - start)
    let body := [p.dest] ++ leBytes 1 own ++
      leBytes 1 (bit (decide (start = 0)) 0 + bit (decide (p.bytes.length ≤ start + 60)) 1 + 4 * p.entry) ++
      leBytes 1 n ++ slice start n p.bytes ++ pad (60 - n)
    wireBlock (body ++ leBytes 4 (crc32c body).toNat))

/-- The nodes whose credit a packet on a stream spends: its destination; of a broadcast sent both ways, those that its stream
reaches first, so that each joined node is charged once (R389; DEDUCED, notes/assumptions/155). -/
def State.charged (s : State) (q : Fin 2) (dest : Byte) : List (Fin 8) :=
  if dest = 0xFF then (allFin 8).filter (fun k => decide (k ≠ s.ring.addr) && s.joinedMask.testBit k.val &&
    (decide (s.broadcastPorts.length = 1) || decide (s.routeTo (k.val + 1) = q)))
  else (allFin 8).filter (fun k => decide (k.val + 1 = dest.toNat))

/-- The blocks that one stream takes in the frame (R388, R389): consecutive blocks of the oldest packet, in the free ones that
pass; its first block spends a credit, and a packet without credit waits. The number bounds the packets. -/
def State.drain (s : State) (q : Fin 5) (port : Fin 2) (share : Nat) : Nat → State
  | 0 => s
  | n + 1 =>
    match s.cmd.out[q] with
    | [] => s
    | p :: rest =>
      let nodes := s.charged port p.dest
      let first : Bool := decide (p.left = p.bytes.length)
      if share = 0 ∨ (first ∧ nodes.any (fun k => s.ring.credits[k] = 0)) then s
      else
        let t := if first then s.onRing (fun r => { r with
            credits := Vector.ofFn (fun k : Fin 8 => if nodes.contains k then r.credits[k] - 1 else r.credits[k])
            spent := Vector.ofFn (fun k : Fin 8 => if nodes.contains k then r.spent[k] + 1 else r.spent[k]) }) else s
        let blocks := min share ((p.left + 59) / 60)
        let left := p.left - 60 * blocks
        let t := t.onPort port (fun x => { x with blocks := x.blocks ++ p.blocks s.ownNode blocks })
        if left = 0 then ((t.onOut q (fun _ => rest)).eventsRead p.events).drain q port (share - blocks) n
        else t.onOut q (fun _ => { p with left := left } :: rest)

/-- What the sender fills of one stream in the frame that ends: up to RING.BLOCK_SHARE of the 20 blocks that did not pass occupied
(R388, Table 16.3), from what is queued by then (DESIGN CHOICE, notes/assumptions/155). -/
def State.fillStream (s : State) (port : Fin 2) : State :=
  let q : Fin 5 := if port = 0 then 1 else 2
  if (s.ring.ports[port]).endPort then s
  else s.drain q port (min (s.devN 0x0F04) (20 - (s.ring.ports[port]).blocks.length)) s.cmd.out[q].length

def State.drainRing (s : State) : State :=
  if s.ring.joined ∧ ¬s.ring.detached then (s.fillStream 0).fillStream 1 else s

/-! ### The end of the frame -/

/-- What the frame that ends still does with its own number. -/
def State.endFrame (s : State) : State :=
  let t := s.drainRing.quarryFrame.idleCounters.gatherAcks
  let t := ((t.ageCan 0).ageCan 1)
  let t := ((t.canRecovers 0).canRecovers 1)
  let t := t.each (allFin 2) (fun d t => t.onDie d (fun x => { x with linkFailedBefore := x.linkFailed, linkFailed := false }))
  let t := t.diesFrame.each (allFin 16) (fun b t => t.peakFrame b)
  { t with cmd := { t.cmd with
    sessions := t.cmd.sessions.map (fun (o : Option Session) => o.map (fun (x : Session) => { x with sinceStatus := x.sinceStatus + 1 })) } }

/-- Steps 1 and 2 belong to the frame that ends: what they log and raise carries its number (DEDUCED,
notes/assumptions/120). -/
def State.stamp (s : State) (old : Long) : State :=
  { s with
    log := { s.log with fresh := s.log.fresh.map (fun (e : Event) => if e.frame = s.frame64 then { e with frame := old } else e) }
    faults := s.faults.map (fun (f : Active) => if f.frame = s.frame64 then { f with frame := old } else f) }

/-- The results of the frame come from the lane that is active after the decision: under rows 4 and 5 of Table 14.2 the new
one (R331). -/
def State.resultLane (s : State) : State :=
  if s.lanes.swapAtTick ∧ (s.lanes.row = 4 ∨ s.lanes.row = 5) then
    s.onLanes (fun x => { x with activeB := !x.activeB })
  else s

/-- Step 3: the books are checked, the events numbered, the snapshot latched, the replies built and the new entries pushed.
The roles themselves change after step 6 (R337). -/
def State.latch (s : State) (old : Long) : State :=
  let (v, entries) := ({ s with frame64 := old }.checkBooks.quarryFault).numberEvents
  let v := v.resultLane.latchSnapshot
  let t := v.finishReplies v
  let t := t.each entries (fun e t => t.pushEntry e)
  { t with frame64 := s.frame64 }.onLanes (fun x => { x with activeB := s.lanes.activeB })

/-- An occurrence is active in the snapshot of its frame alone (R503). -/
def occurrence (code : Nat) : Bool := match FaultTable.find code with | some row => row.clear = .occurrence | none => false
def State.dropOccurrences (s : State) (old : Long) : State :=
  { s with faults := s.faults.filter (fun f => !(occurrence f.code && f.frame.toNat ≤ old.toNat)) }

/-! ### The frame that begins -/

/-- ENVELOPE_DEMAND_RESET (R237), the demand that a geared slave uses in this frame (R249), and the bank in force at the
start of the tick (R272). -/
def State.demandTick (s : State) (a : Fin 16) : State :=
  s.onAx a (fun x =>
    let y := if x.loops.running && decide (1 < x.loops.reported) then x.toMeasured else x
    { y with demandLast := y.demand, bank := s.parN 0x0A0D a.val })

/-- What counts seconds: the ages of R317 and R338, and the voltage of VBAT, a free value each second. -/
def State.seconds (s : State) : State :=
  if s.frame64.toNat % 20000 = 0 then
    let (v, t) := s.draw
    (t.ageTest.count 0x0D11 255).setPar 0x1311 255 (clampI 0 4000 v)
  else s

/-- Step 7: the inputs of both lanes, the ring's slots, and what the frame carries. -/
def State.beginFrame (s : State) : State :=
  let t := s.laneTick.safetyWord
  let t := (t.onQry (fun q => { q with published := none })).ringTick
  let t := t.outputWord.seconds
  let t := t.onPower (fun p => { p with idleFrames := if t.idle then p.idleFrames + 1 else 0 })
  let slot := t.slotBytes
  t.onRing (fun r => { r with own := if r.joined then slot ++ crc16Bytes slot else [], returns := Vector.replicate 8 0 })

/-- A tick of a running timebase once the boot sequence is over. -/
def State.tick (s : State) : State :=
  let old := s.frame64
  let t := (s.endFrame.advance.stretchPeriods ((s.tb.frameLen : Int) - 10000)).phaseCorrection.endBursts
  let t := t.outputUpdate
  let t := { t with motion := { t.motion with binsLast := t.motion.bins } }.lapseSwap
  let t := ((t.completions.reactions.stamp old).latch old).succeed
  let t := (t.dropOccurrences old).latchInputs.latchStatus
  let t := t.each (allFin 16) (fun a t => t.demandTick a)
  let t := t.commitRing.commitLocals.wakeValues.executeEligible
  t.shadowTransfer.beginFrame

/-- TICK: nothing in Dormant and Keep (R39); while the boot sequence runs only the counter advances. -/
def execTick (s : State) : Host.Outcome State Fault Refusal :=
  .next (if !s.tb.running then s else if s.power.booting then s.advance else s.tick)

end Sys2Proof.Machine
end

