-- ==== Sys2Proof/Machine/Dispatch.lean ====
section
/-! DEFINITION. The meaning of every command: one arm per constructor of `Instr`, each a direct call of the command's
own meaning. -/

namespace Sys2Proof.Machine

def exec (i : Instr) (s : State) : Host.Outcome State Fault Refusal :=
  match i with
  | .ping r bytes => Sys2Proof.Machine.execPing r bytes s
  | .identify r => Sys2Proof.Machine.execIdentify r s
  | .sessionOpen r role flags keepalive client => Sys2Proof.Machine.execSessionOpen r role flags keepalive client s
  | .sessionClose r => Sys2Proof.Machine.execSessionClose r s
  | .paramRead r index sub => Sys2Proof.Machine.execParamRead r index sub s
  | .paramWrite r e => Sys2Proof.Machine.execParamWrite r e s
  | .paramReadMulti r entries => Sys2Proof.Machine.execParamReadMulti r entries s
  | .paramWriteMulti r entries => Sys2Proof.Machine.execParamWriteMulti r entries s
  | .txnBegin r flags timeout => Sys2Proof.Machine.execTxnBegin r flags timeout s
  | .txnCommitAt r flags frame => Sys2Proof.Machine.execTxnCommitAt r flags frame s
  | .txnAbort r => Sys2Proof.Machine.execTxnAbort r s
  | .txnStatus r => Sys2Proof.Machine.execTxnStatus r s
  | .moveAbs r axis blend flags target lim => Sys2Proof.Machine.execMoveAbs r axis blend flags target lim s
  | .moveRel r axis blend flags distance lim => Sys2Proof.Machine.execMoveRel r axis blend flags distance lim s
  | .moveVel r axis blend flags velocity amax dmax jmax => Sys2Proof.Machine.execMoveVel r axis blend flags velocity amax dmax jmax s
  | .moveGroup r group blend flags lim members => Sys2Proof.Machine.execMoveGroup r group blend flags lim members s
  | .queueFlush r axis => Sys2Proof.Machine.execQueueFlush r axis s
  | .axisAbort r axis kind => Sys2Proof.Machine.execAxisAbort r axis kind s
  | .gearEngage r master slave flags ratio offset => Sys2Proof.Machine.execGearEngage r master slave flags ratio offset s
  | .gearRelease r slave => Sys2Proof.Machine.execGearRelease r slave s
  | .latchArm r axis source edge => Sys2Proof.Machine.execLatchArm r axis source edge s
  | .stepFollow r axis counter flags ratio => Sys2Proof.Machine.execStepFollow r axis counter flags ratio s
  | .axisEnable r axis => Sys2Proof.Machine.execAxisEnable r axis s
  | .axisDisable r axis => Sys2Proof.Machine.execAxisDisable r axis s
  | .axisShortBrake r axis => Sys2Proof.Machine.execAxisShortBrake r axis s
  | .axisHome r axis method flags velocity force => Sys2Proof.Machine.execAxisHome r axis method flags velocity force s
  | .faultClear r code inst => Sys2Proof.Machine.execFaultClear r code inst s
  | .motorIdentify r axis steps => Sys2Proof.Machine.execMotorIdentify r axis steps s
  | .snapshot r sections => Sys2Proof.Machine.execSnapshot r sections s
  | .statusAxes r axes => Sys2Proof.Machine.execStatusAxes r axes s
  | .eventRead r from_ max => Sys2Proof.Machine.execEventRead r from_ max s
  | .subscribe r classes period axes => Sys2Proof.Machine.execSubscribe r classes period axes s
  | .dataOpen r space flags address length => Sys2Proof.Machine.execDataOpen r space flags address length s
  | .dataRead r handle length => Sys2Proof.Machine.execDataRead r handle length s
  | .dataWrite r handle bytes => Sys2Proof.Machine.execDataWrite r handle bytes s
  | .dataClose r handle => Sys2Proof.Machine.execDataClose r handle s
  | .quarrySetup r block => Sys2Proof.Machine.execQuarrySetup r block s
  | .quarryArm r flags => Sys2Proof.Machine.execQuarryArm r flags s
  | .quarryForce r => Sys2Proof.Machine.execQuarryForce r s
  | .quarryStatus r => Sys2Proof.Machine.execQuarryStatus r s
  | .cfgStage r slot offset length => Sys2Proof.Machine.execCfgStage r slot offset length s
  | .cfgActivate r slot flags trial => Sys2Proof.Machine.execCfgActivate r slot flags trial s
  | .cfgConfirm r slot => Sys2Proof.Machine.execCfgConfirm r slot s
  | .cfgRollback r => Sys2Proof.Machine.execCfgRollback r s
  | .fwStage r image offset length => Sys2Proof.Machine.execFwStage r image offset length s
  | .fwActivate r image => Sys2Proof.Machine.execFwActivate r image s
  | .safetyStatus r => Sys2Proof.Machine.execSafetyStatus r s
  | .safetyStopRequest r scope => Sys2Proof.Machine.execSafetyStopRequest r scope s
  | .safetySetLoad r offset length => Sys2Proof.Machine.execSafetySetLoad r offset length s
  | .ringStatus r => Sys2Proof.Machine.execRingStatus r s
  | .ringTopology r => Sys2Proof.Machine.execRingTopology r s
  | .ringRetrain r ports => Sys2Proof.Machine.execRingRetrain r ports s
  | .modeSet r mode => Sys2Proof.Machine.execModeSet r mode s
  | .latencySet r latency => Sys2Proof.Machine.execLatencySet r latency s
  | .modeStatus r => Sys2Proof.Machine.execModeStatus r s
  | .diagSelftest r tests => Sys2Proof.Machine.execDiagSelftest r tests s
  | .laneSwap r flags => Sys2Proof.Machine.execLaneSwap r flags s
  | .templateLearn r axis mode cycles => Sys2Proof.Machine.execTemplateLearn r axis mode cycles s
  | .templateFreeze r axis freeze => Sys2Proof.Machine.execTemplateFreeze r axis freeze s
  | .templateReset r axis directions => Sys2Proof.Machine.execTemplateReset r axis directions s
  | .statusWordWrite r e => Sys2Proof.Machine.execStatusWordWrite r e s
  | .tplSave r value => Sys2Proof.Machine.execTplSave r value s
  | .qryRelease r value => Sys2Proof.Machine.execQryRelease r value s
  | .cntPreset r counter value => Sys2Proof.Machine.execCntPreset r counter value s
  | .gateOverride r hb value => Sys2Proof.Machine.execGateOverride r hb value s
  | .carrierWrite r bay value => Sys2Proof.Machine.execCarrierWrite r bay value s
  | .bankSwap r axis value => Sys2Proof.Machine.execBankSwap r axis value s
  | .packetWrite f arrived bytes => Sys2Proof.Machine.execPacketWrite f arrived bytes s
  | .packetRead f => Sys2Proof.Machine.execPacketRead f s
  | .statusRead f => Sys2Proof.Machine.execStatusRead f s
  | .rawRead f handle length => Sys2Proof.Machine.execRawRead f handle length s
  | .rawWrite f handle length bytes crc => Sys2Proof.Machine.execRawWrite f handle length bytes crc s
  | .packetReread f => Sys2Proof.Machine.execPacketReread f s
  | .statusPush slot => Sys2Proof.Machine.execStatusPush slot s
  | .sessionExpiry slot => Sys2Proof.Machine.execSessionExpiry slot s
  | .tick => Sys2Proof.Machine.execTick s
  | .txnTimeout slot tag => Sys2Proof.Machine.execTxnTimeout slot tag s
  | .recordRelease slot tag => Sys2Proof.Machine.execRecordRelease slot tag s
  | .tbPhaseAlarm => Sys2Proof.Machine.execTbPhaseAlarm s
  | .axisComputeSlot axis fb edges => Sys2Proof.Machine.execAxisComputeSlot axis fb edges s
  | .laneDeadline a b cmp slack => Sys2Proof.Machine.execLaneDeadline a b cmp slack s
  | .copyFinalPhase dirty => Sys2Proof.Machine.execCopyFinalPhase dirty s
  | .copyRelease => Sys2Proof.Machine.execCopyRelease s
  | .laneCopyFail => Sys2Proof.Machine.execLaneCopyFail s
  | .proofSwap readbackOk => Sys2Proof.Machine.execProofSwap readbackOk s
  | .proofSwapResult clean => Sys2Proof.Machine.execProofSwapResult clean s
  | .laneSwapOverdue => Sys2Proof.Machine.execLaneSwapOverdue s
  | .carrierPeriodStart bay second => Sys2Proof.Machine.execCarrierPeriodStart bay second s
  | .adcTrigger bay which raw => Sys2Proof.Machine.execAdcTrigger bay which raw s
  | .sampleRecord bay report => Sys2Proof.Machine.execSampleRecord bay report s
  | .snsMissing bay => Sys2Proof.Machine.execSnsMissing bay s
  | .snsRange bay => Sys2Proof.Machine.execSnsRange bay s
  | .snsPeak bay => Sys2Proof.Machine.execSnsPeak bay s
  | .dieLinkCrcFail bay => Sys2Proof.Machine.execDieLinkCrcFail bay s
  | .shortComparatorTrip bay lowOn => Sys2Proof.Machine.execShortComparatorTrip bay lowOn s
  | .bootUv hb => Sys2Proof.Machine.execBootUv hb s
  | .autoRetryTry which sourceActive => Sys2Proof.Machine.execAutoRetryTry which sourceActive s
  | .shootThroughInterlock hb => Sys2Proof.Machine.execShootThroughInterlock hb s
  | .vgdLockout die => Sys2Proof.Machine.execVgdLockout die s
  | .vgdLockoutRelease die => Sys2Proof.Machine.execVgdLockoutRelease die s
  | .gdVgdHigh die => Sys2Proof.Machine.execGdVgdHigh die s
  | .ov1Assert die => Sys2Proof.Machine.execOv1Assert die s
  | .brakeOff die => Sys2Proof.Machine.execBrakeOff die s
  | .ov2Assert die => Sys2Proof.Machine.execOv2Assert die s
  | .ov2Release => Sys2Proof.Machine.execOv2Release s
  | .gdBrakeFail die => Sys2Proof.Machine.execGdBrakeFail die s
  | .gdBrakeOverload die => Sys2Proof.Machine.execGdBrakeOverload die s
  | .gdBrakeShorted die => Sys2Proof.Machine.execGdBrakeShorted die s
  | .gdVbusUv die => Sys2Proof.Machine.execGdVbusUv die s
  | .gdVbusMismatch => Sys2Proof.Machine.execGdVbusMismatch s
  | .gdDieHot die temp => Sys2Proof.Machine.execGdDieHot die temp s
  | .gdDieOvertemp die temp => Sys2Proof.Machine.execGdDieOvertemp die temp s
  | .tbClockLoss => Sys2Proof.Machine.execTbClockLoss s
  | .pwmDebugHalt => Sys2Proof.Machine.execPwmDebugHalt s
  | .chopTrip bay count => Sys2Proof.Machine.execChopTrip bay count s
  | .chopOffTimeEnd bay => Sys2Proof.Machine.execChopOffTimeEnd bay s
  | .diodeTest axis => Sys2Proof.Machine.execDiodeTest axis s
  | .catchBrakeEnd axis => Sys2Proof.Machine.execCatchBrakeEnd axis s
  | .acquisitionDecision axis => Sys2Proof.Machine.execAcquisitionDecision axis s
  | .injectionConverged axis => Sys2Proof.Machine.execInjectionConverged axis s
  | .comInjConverge axis => Sys2Proof.Machine.execComInjConverge axis s
  | .polarityTestEnd axis => Sys2Proof.Machine.execPolarityTestEnd axis s
  | .dcAlignEnd axis => Sys2Proof.Machine.execDcAlignEnd axis s
  | .comLos axis => Sys2Proof.Machine.execComLos axis s
  | .comPlausibility axis => Sys2Proof.Machine.execComPlausibility axis s
  | .comOverspeed axis => Sys2Proof.Machine.execComOverspeed axis s
  | .comHallInvalid axis => Sys2Proof.Machine.execComHallInvalid axis s
  | .comEncIndex axis count => Sys2Proof.Machine.execComEncIndex axis count s
  | .identifyStepDone axis turns results => Sys2Proof.Machine.execIdentifyStepDone axis turns results s
  | .stepperEnergise k => Sys2Proof.Machine.execStepperEnergise k s
  | .stpCatchFail k => Sys2Proof.Machine.execStpCatchFail k s
  | .holdCurrent k => Sys2Proof.Machine.execHoldCurrent k s
  | .stpStall k => Sys2Proof.Machine.execStpStall k s
  | .stpStallBlind k => Sys2Proof.Machine.execStpStallBlind k s
  | .stpNoRegulation k => Sys2Proof.Machine.execStpNoRegulation k s
  | .stpOpenCoil k => Sys2Proof.Machine.execStpOpenCoil k s
  | .reversalRequest axis => Sys2Proof.Machine.execReversalRequest axis s
  | .groupStart group => Sys2Proof.Machine.execGroupStart group s
  | .prfGroupStop group source => Sys2Proof.Machine.execPrfGroupStop group source s
  | .ringGroupStop group => Sys2Proof.Machine.execRingGroupStop group s
  | .prfEotExceeded axis => Sys2Proof.Machine.execPrfEotExceeded axis s
  | .homeFound axis => Sys2Proof.Machine.execHomeFound axis s
  | .prfHomeFail axis => Sys2Proof.Machine.execPrfHomeFail axis s
  | .latchCapture axis source rising count => Sys2Proof.Machine.execLatchCapture axis source rising count s
  | .gearSynchronised axis => Sys2Proof.Machine.execGearSynchronised axis s
  | .lpFollowErr axis => Sys2Proof.Machine.execLpFollowErr axis s
  | .lpEnvelopeExceeded axis => Sys2Proof.Machine.execLpEnvelopeExceeded axis s
  | .lpCurrentLimit axis => Sys2Proof.Machine.execLpCurrentLimit axis s
  | .gainRampEnd axis => Sys2Proof.Machine.execGainRampEnd axis s
  | .templateSaveComplete report => Sys2Proof.Machine.execTemplateSaveComplete report s
  | .siChange levels => Sys2Proof.Machine.execSiChange levels s
  | .safeSiDiscrepancy => Sys2Proof.Machine.execSafeSiDiscrepancy s
  | .stoReqPulse tenths => Sys2Proof.Machine.execStoReqPulse tenths s
  | .heartbeat beat => Sys2Proof.Machine.execHeartbeat beat s
  | .safeWatchdog => Sys2Proof.Machine.execSafeWatchdog s
  | .safetyStateWord => Sys2Proof.Machine.execSafetyStateWord s
  | .safetyScan scan => Sys2Proof.Machine.execSafetyScan scan s
  | .ss1TimerExpiry => Sys2Proof.Machine.execSs1TimerExpiry s
  | .plumbSs1Expiry => Sys2Proof.Machine.execPlumbSs1Expiry s
  | .safeStoFb a b => Sys2Proof.Machine.execSafeStoFb a b s
  | .stoRelease => Sys2Proof.Machine.execStoRelease s
  | .safeRailAbsent a b => Sys2Proof.Machine.execSafeRailAbsent a b s
  | .switchTestStart => Sys2Proof.Machine.execSwitchTestStart s
  | .switchTestStep a b inTime => Sys2Proof.Machine.execSwitchTestStep a b inTime s
  | .safeTestFail => Sys2Proof.Machine.execSafeTestFail s
  | .safeTestOverdue => Sys2Proof.Machine.execSafeTestOverdue s
  | .safeTestGrace => Sys2Proof.Machine.execSafeTestGrace s
  | .safetyDiagnosticFail d => Sys2Proof.Machine.execSafetyDiagnosticFail d s
  | .diEdge input level count => Sys2Proof.Machine.execDiEdge input level count s
  | .counterEdge counter up => Sys2Proof.Machine.execCounterEdge counter up s
  | .freqGateEnd counter edges span => Sys2Proof.Machine.execFreqGateEnd counter edges span s
  | .vfieldUv group mv => Sys2Proof.Machine.execVfieldUv group mv s
  | .vfieldOv group mv => Sys2Proof.Machine.execVfieldOv group mv s
  | .vfieldRecover group mv => Sys2Proof.Machine.execVfieldRecover group mv s
  | .fioDoGroupOverload group => Sys2Proof.Machine.execFioDoGroupOverload group s
  | .fioDoOverload channel toVfield => Sys2Proof.Machine.execFioDoOverload channel toVfield s
  | .fioDoMismatch channel => Sys2Proof.Machine.execFioDoMismatch channel s
  | .fioDoOpen channel => Sys2Proof.Machine.execFioDoOpen channel s
  | .fioDoThermal group => Sys2Proof.Machine.execFioDoThermal group s
  | .canFrameReceived c frame arrived => Sys2Proof.Machine.execCanFrameReceived c frame arrived s
  | .canSegment c => Sys2Proof.Machine.execCanSegment c s
  | .canSegmentTimeout c host => Sys2Proof.Machine.execCanSegmentTimeout c host s
  | .canTransmit c => Sys2Proof.Machine.execCanTransmit c s
  | .canStatusFrame c => Sys2Proof.Machine.execCanStatusFrame c s
  | .canErrorPassive c transmit receive => Sys2Proof.Machine.execCanErrorPassive c transmit receive s
  | .canBusOff c => Sys2Proof.Machine.execCanBusOff c s
  | .canBusOffRecovered c => Sys2Proof.Machine.execCanBusOffRecovered c s
  | .tickSymbolReceived port block count residence codeErrors => Sys2Proof.Machine.execTickSymbolReceived port block count residence codeErrors s
  | .holdover => Sys2Proof.Machine.execHoldover s
  | .masterLost => Sys2Proof.Machine.execMasterLost s
  | .ringLinkDown port => Sys2Proof.Machine.execRingLinkDown port s
  | .trainingComplete port train codeErrors => Sys2Proof.Machine.execTrainingComplete port train codeErrors s
  | .ringTrainFail port => Sys2Proof.Machine.execRingTrainFail port s
  | .echoExchange port roundTrip echo => Sys2Proof.Machine.execEchoExchange port roundTrip echo s
  | .stateSlotReceived port node slot codeErrors => Sys2Proof.Machine.execStateSlotReceived port node slot codeErrors s
  | .asyncBlockReceived port block codeErrors count => Sys2Proof.Machine.execAsyncBlockReceived port block codeErrors count s
  | .creditReturn node => Sys2Proof.Machine.execCreditReturn node s
  | .ringListenAcquired report => Sys2Proof.Machine.execRingListenAcquired report s
  | .join => Sys2Proof.Machine.execJoin s
  | .insertionWindowAnnounce => Sys2Proof.Machine.execInsertionWindowAnnounce s
  | .ringStart => Sys2Proof.Machine.execRingStart s
  | .unwrap => Sys2Proof.Machine.execUnwrap s
  | .retrainAtFrame port => Sys2Proof.Machine.execRetrainAtFrame port s
  | .prepareReceived node index => Sys2Proof.Machine.execPrepareReceived node index s
  | .commitDecision slot tag => Sys2Proof.Machine.execCommitDecision slot tag s
  | .decisionReceived node index => Sys2Proof.Machine.execDecisionReceived node index s
  | .quarryTrigger => Sys2Proof.Machine.execQuarryTrigger s
  | .ringTrigger node => Sys2Proof.Machine.execRingTrigger node s
  | .quarryRecordEnd => Sys2Proof.Machine.execQuarryRecordEnd s
  | .quarryRearm => Sys2Proof.Machine.execQuarryRearm s
  | .wake source => Sys2Proof.Machine.execWake source s
  | .idleDescent => Sys2Proof.Machine.execIdleDescent s
  | .dormantEntry => Sys2Proof.Machine.execDormantEntry s
  | .keepEntry => Sys2Proof.Machine.execKeepEntry s
  | .modeTransitionComplete => Sys2Proof.Machine.execModeTransitionComplete s
  | .reset cause => Sys2Proof.Machine.execReset cause s
  | .boot report => Sys2Proof.Machine.execBoot report s
  | .supplyReset supply => Sys2Proof.Machine.execSupplyReset supply s
  | .pwrStartRetry => Sys2Proof.Machine.execPwrStartRetry s
  | .pwrVbatLow mv => Sys2Proof.Machine.execPwrVbatLow mv s
  | .quarryInitDone => Sys2Proof.Machine.execQuarryInitDone s
  | .flashOpComplete report => Sys2Proof.Machine.execFlashOpComplete report s
  | .trialExpiry => Sys2Proof.Machine.execTrialExpiry s
  | .rollbackApply => Sys2Proof.Machine.execRollbackApply s
  | .eventFlashProgram => Sys2Proof.Machine.execEventFlashProgram s
  | .scrubRead m address errors => Sys2Proof.Machine.execScrubRead m address errors s
  | .idcode => Sys2Proof.Machine.execIdcode s
  | .challenge => Sys2Proof.Machine.execChallenge s
  | .unlock token => Sys2Proof.Machine.execUnlock token s
  | .tokenCheckDone => Sys2Proof.Machine.execTokenCheckDone s
  | .dbgStatus => Sys2Proof.Machine.execDbgStatus s
  | .coreAccess lane op => Sys2Proof.Machine.execCoreAccess lane op s
  | .debugReset bit => Sys2Proof.Machine.execDebugReset bit s
  | .bypass => Sys2Proof.Machine.execBypass s
  | .vgdBrkLow die => Sys2Proof.Machine.execVgdBrkLow die s
  | .safetySetCheckDone => Sys2Proof.Machine.execSafetySetCheckDone s
  | .selftestComplete test passed => Sys2Proof.Machine.execSelftestComplete test passed s
  | .railPresent a b => Sys2Proof.Machine.execRailPresent a b s
  | .joinReceived port node item => Sys2Proof.Machine.execJoinReceived port node item s
  | .retrainTimeout => Sys2Proof.Machine.execRetrainTimeout s
  | .islandSupplyRestored testsOk => Sys2Proof.Machine.execIslandSupplyRestored testsOk s

end Sys2Proof.Machine
end

