-- ==== Sys2Proof/Machine/Encode.lean ====
section
/-! DEFINITION. The encoder of requests: opcode, payload and packet as a host sends them (Tables 3.1 and 3.6, R2, R55), beside the
decoder of Machine/Apply.lean. Reserved bytes are 0 (R3). -/

namespace Sys2Proof.Machine

def le1 (n : Nat) : List Byte := leBytes 1 n
def le2 (h : Half) : List Byte := leBytes 2 h.toNat
def le4 (w : Word) : List Byte := leBytes 4 w.toNat
def le8 (l : Long) : List Byte := leBytes 8 l.toNat
def zeros (n : Nat) : List Byte := List.replicate n 0

/-- The four limits of a motion request. -/
def limitBytes (l : Limits) : List Byte := le4 l.vmax ++ le4 l.amax ++ le4 l.dmax ++ le4 l.jmax

/-- One entry of a parameter write. -/
def writeBytes (e : WriteEntry) : List Byte := le2 e.index ++ [e.sub, e.type] ++ le8 e.value

/-- The setup block of Table 18.1. -/
def quarryBytes (q : QuarryBlock) : List Byte :=
  leBytes 2 q.d ++ le1 q.decimation ++ le1 q.count ++ leBytes 2 q.segments ++ zeros 2 ++ leBytes 4 q.pre ++ le1 q.source ++
    le1 q.kind ++ le1 q.item ++ le1 q.ringOut ++ leBytesI 4 q.level ++ leBytes 4 q.hysteresis ++ le1 q.ringIn ++ zeros 7 ++
    q.channels.flatMap (leBytes 4)

/-- The opcode of a request with the sender's header fields; none for a row that no opcode of its own carries. -/
def requestOf : Instr → Option (Nat × Req)
  | .ping r _ => some (0x01, r)
  | .identify r => some (0x02, r)
  | .sessionOpen r .. => some (0x03, r)
  | .sessionClose r => some (0x04, r)
  | .paramRead r .. => some (0x10, r)
  | .paramWrite r _ => some (0x11, r)
  | .paramReadMulti r _ => some (0x12, r)
  | .paramWriteMulti r _ => some (0x13, r)
  | .txnBegin r .. => some (0x20, r)
  | .txnCommitAt r .. => some (0x21, r)
  | .txnAbort r => some (0x22, r)
  | .txnStatus r => some (0x23, r)
  | .moveAbs r .. => some (0x30, r)
  | .moveRel r .. => some (0x31, r)
  | .moveVel r .. => some (0x32, r)
  | .moveGroup r .. => some (0x33, r)
  | .queueFlush r _ => some (0x34, r)
  | .axisAbort r .. => some (0x35, r)
  | .gearEngage r .. => some (0x36, r)
  | .gearRelease r _ => some (0x37, r)
  | .latchArm r .. => some (0x38, r)
  | .stepFollow r .. => some (0x39, r)
  | .axisEnable r _ => some (0x40, r)
  | .axisDisable r _ => some (0x41, r)
  | .axisShortBrake r _ => some (0x42, r)
  | .axisHome r .. => some (0x43, r)
  | .faultClear r .. => some (0x44, r)
  | .motorIdentify r .. => some (0x45, r)
  | .snapshot r _ => some (0x50, r)
  | .statusAxes r _ => some (0x51, r)
  | .eventRead r .. => some (0x52, r)
  | .subscribe r .. => some (0x53, r)
  | .dataOpen r .. => some (0x60, r)
  | .dataRead r .. => some (0x61, r)
  | .dataWrite r .. => some (0x62, r)
  | .dataClose r _ => some (0x63, r)
  | .quarrySetup r _ => some (0x70, r)
  | .quarryArm r _ => some (0x71, r)
  | .quarryForce r => some (0x72, r)
  | .quarryStatus r => some (0x73, r)
  | .cfgStage r .. => some (0x80, r)
  | .cfgActivate r .. => some (0x81, r)
  | .cfgConfirm r _ => some (0x82, r)
  | .cfgRollback r => some (0x83, r)
  | .fwStage r .. => some (0x84, r)
  | .fwActivate r _ => some (0x85, r)
  | .safetyStatus r => some (0x90, r)
  | .safetyStopRequest r _ => some (0x91, r)
  | .safetySetLoad r .. => some (0x92, r)
  | .ringStatus r => some (0xA0, r)
  | .ringTopology r => some (0xA1, r)
  | .ringRetrain r _ => some (0xA2, r)
  | .modeSet r _ => some (0xB0, r)
  | .latencySet r _ => some (0xB1, r)
  | .modeStatus r => some (0xB2, r)
  | .diagSelftest r _ => some (0xC0, r)
  | .laneSwap r _ => some (0xC1, r)
  | .templateLearn r .. => some (0xC2, r)
  | .templateFreeze r .. => some (0xC3, r)
  | .templateReset r .. => some (0xC4, r)
  | _ => none

/-- The payload of a request (Table 3.6). -/
def payloadOf : Instr → List Byte
  | .ping _ bytes => bytes
  | .sessionOpen _ role flags keepalive client => [role, flags] ++ le2 keepalive ++ le4 client
  | .paramRead _ index sub => le2 index ++ [sub, 0]
  | .paramWrite _ e => writeBytes e
  | .paramReadMulti _ es => le1 es.length ++ zeros 3 ++ es.flatMap (fun (i, k) => le2 i ++ [k, 0])
  | .paramWriteMulti _ es => le1 es.length ++ zeros 3 ++ es.flatMap writeBytes
  | .txnBegin _ flags timeout => [flags, 0] ++ le2 timeout
  | .txnCommitAt _ flags frame => [flags] ++ zeros 3 ++ le4 frame
  | .moveAbs _ axis blend flags target lim => [axis, blend] ++ le2 flags ++ le4 target ++ limitBytes lim
  | .moveRel _ axis blend flags distance lim => [axis, blend] ++ le2 flags ++ le4 distance ++ limitBytes lim
  | .moveVel _ axis blend flags velocity a d j => [axis, blend] ++ le2 flags ++ le4 velocity ++ le4 a ++ le4 d ++ le4 j
  | .moveGroup _ group blend flags lim ms =>
    [group, blend] ++ le2 flags ++ le1 ms.length ++ zeros 3 ++ limitBytes lim ++
      ms.flatMap (fun m => [m.axis] ++ zeros 3 ++ le4 m.target)
  | .queueFlush _ axis => [axis] ++ zeros 3
  | .axisAbort _ axis kind => [axis, kind] ++ zeros 2
  | .gearEngage _ master slave flags ratio offset => [master, slave] ++ le2 flags ++ le4 ratio ++ le4 offset
  | .gearRelease _ slave => [slave] ++ zeros 3
  | .latchArm _ axis source edge => [axis, source, edge, 0]
  | .stepFollow _ axis counter flags ratio => [axis, counter] ++ le2 flags ++ le4 ratio
  | .axisEnable _ axis | .axisDisable _ axis | .axisShortBrake _ axis => [axis] ++ zeros 3
  | .axisHome _ axis method flags velocity force => [axis, method] ++ le2 flags ++ le4 velocity ++ le2 force ++ zeros 2
  | .faultClear _ code inst => le2 code ++ [inst, 0]
  | .motorIdentify _ axis steps => [axis, steps] ++ zeros 2
  | .snapshot _ sections => le4 sections
  | .statusAxes _ axes => le4 axes
  | .eventRead _ from_ max => le4 from_ ++ [max] ++ zeros 3
  | .subscribe _ classes period axes => le4 classes ++ le2 period ++ zeros 2 ++ le4 axes
  | .dataOpen _ space flags address length => [space, flags] ++ zeros 2 ++ le4 address ++ le4 length
  | .dataRead _ handle length => [handle, 0] ++ le2 length
  | .dataWrite _ handle bytes => [handle] ++ zeros 3 ++ bytes
  | .dataClose _ handle => [handle] ++ zeros 3
  | .quarrySetup _ block => quarryBytes block
  | .quarryArm _ flags => [flags] ++ zeros 3
  | .cfgStage _ slot offset length => [slot] ++ zeros 3 ++ le4 offset ++ le4 length
  | .cfgActivate _ slot flags trial => [slot, flags] ++ le2 trial
  | .cfgConfirm _ slot => [slot] ++ zeros 3
  | .fwStage _ image offset length => [image] ++ zeros 3 ++ le4 offset ++ le4 length
  | .fwActivate _ image => [image] ++ zeros 3
  | .safetyStopRequest _ scope => [scope] ++ zeros 3
  | .safetySetLoad _ offset length => le4 offset ++ le4 length
  | .ringRetrain _ ports => [ports] ++ zeros 3
  | .modeSet _ mode => [mode] ++ zeros 3
  | .latencySet _ latency => le4 latency
  | .diagSelftest _ tests => le4 tests
  | .laneSwap _ flags => [flags] ++ zeros 3
  | .templateLearn _ axis mode cycles => [axis, mode] ++ le2 cycles
  | .templateFreeze _ axis freeze => [axis, freeze] ++ zeros 2
  | .templateReset _ axis directions => [axis, directions] ++ zeros 2
  | _ => []

/-- The packet of a request to a node: header, payload and CRC (R54, R55, Table 3.1). -/
def requestPacket (r : Req) (op : Nat) (node : Byte) (payload : List Byte) : List Byte :=
  let body := [0x10] ++ le1 op ++ le2 r.seq ++ le2 r.tag ++ leBytes 2 payload.length ++ [node] ++ zeros 3 ++ payload
  body ++ leBytes 4 (crc32c body).toNat

end Sys2Proof.Machine
end

