-- ==== Sys2Proof/Safety.lean ====
section
/-! DEFINITION. What counts as a safe run of the device, and the terms in which claims speak of its commands: canonical
state, torque off, an admitted request, a command that completes, and a reply. -/

namespace Sys2Proof.Machine

/-- The parameter list and both memories are in their canonical form. -/
def State.canonical (s : State) : Bool :=
  Sparse.wf regDefault s.regs && Memory.wf dramDefault s.dram && Memory.wf flashDefault s.flash

/-- Both switches of the safety channel are open, so no gate can turn on (R298 to R301). -/
def State.torqueOff (s : State) : Bool := !s.saf.hs && !s.saf.ls

/-- The states of Table 13.2 in which both switches are open, with no release under way. -/
def State.torqueDenied (s : State) : Bool := (decide (s.saf.state = .sto) || decide (s.saf.state = .locked)) && !s.saf.releasing

/-- A command completes: `exec` answers a next state, of which `p` holds. -/
def Answers (o : Host.Outcome State Fault Refusal) (p : State → Prop) : Prop := ∃ t, o = .next t ∧ p t

/-- A safe run: every step answers a next state (no meaning of the model stops). -/
def SafeRun (s : State) (n : Nat) : Prop := ∃ t, Sys2Proof.core.run n s = .next t

/-- A request of opcode `code` has reached its tick in session `k` and passes checks 8 and 9 of Table 3.2, the isolated hold
of R103 and the TAG rule of R90. -/
def State.admits (s : State) (code : Nat) (r : Req) (k : Fin 8) : Bool :=
  decide (s.slotOf r.src = some k) &&
  (match opRow code, s.session k with
   | some op, some x => (s.admission op r x.role).isNone
   | _, _ => false)

/-- No transaction in VOTING or COMMITTING claims what a command acts on (R92). -/
def State.unclaimed (s : State) (c : Instr) : Bool :=
  !s.claimed none (fun t => t.state = .voting || t.state = .committing) (s.claims c)

/-- A direct request, with TAG 0: it is admitted, and no transaction about to apply claims what it acts on. -/
def State.direct (s : State) (code : Nat) (r : Req) (k : Fin 8) (c : Instr) : Bool :=
  s.admits code r k && decide (r.tag = 0) && s.unclaimed c

/-- An axis on which checks 2 to 4 of Table 10.2 pass: it is enabled, in no stop or fault, and neither geared, following nor homing. -/
def State.mayMove (s : State) (a : Fin 16) : Bool := (s.axisChecks a).all (fun c => !c.1)

/-- The reply that a request of a session waits for (R66). -/
def replyOf (r : Req) (k : Fin 8) (code status : Nat) (body : Body) : Awaiting :=
  { src := r.src, slot := some k, opcode := BitVec.ofNat 8 code, seq := r.seq, tag := r.tag, status := BitVec.ofNat 8 status,
    body := body }

/-- The state with one more reply waiting. -/
def State.withReply (s : State) (x : Awaiting) : State := { s with cmd := { s.cmd with awaiting := s.cmd.awaiting ++ [x] } }

/-- `t` differs from `s` in one axis slot alone. -/
def OnAxis (s t : State) (a : Fin 16) : Prop :=
  t = { s with motion := { s.motion with axes := t.motion.axes } } ∧ ∀ b : Fin 16, b ≠ a → t.ax b = s.ax b

/-- One fault was raised between `s` and `t` (R10, R503): a fault that was active stays as it is; one that was not is active since this
frame, and its event waits for the next tick. -/
def Raised (s t : State) (code inst : Nat) : Prop :=
  (s.isActive code inst = true → t.faults = s.faults ∧ t.log = s.log) ∧
  (s.isActive code inst = false → ∃ (f : Active) (e : Event), t.faults = s.faults ++ [f] ∧ f.code = code ∧ f.inst = inst ∧
    f.frame = s.frame64 ∧ t.log = { s.log with fresh := s.log.fresh ++ [e] } ∧ e.code = code ∧ e.inst = inst ∧ e.kind = 0 ∧
    e.frame = s.frame64)

/-- `t` is `s` with one fault raised and nothing else changed. -/
def OnlyRaised (s t : State) (code inst : Nat) : Prop :=
  t = { s with faults := t.faults, log := t.log } ∧ Raised s t code inst

/-- `t` is `s` with a change of one axis slot and one fault raised. -/
def OnAxisRaised (s t : State) (a : Fin 16) (code inst : Nat) : Prop :=
  t = { s with motion := { s.motion with axes := t.motion.axes }, faults := t.faults, log := t.log } ∧
  (∀ b : Fin 16, b ≠ a → t.ax b = s.ax b) ∧ Raised s t code inst

/-- `t` is `s` after a direct axis move was accepted: one entry of which `p` holds stands behind the queue of the axis, or in place of
it under REPLACE, and the reply carries the free slots and the move ID. A REPLACE logs the entries it removes and takes the axis
out of its groups; nothing else changes. -/
def Queued (s t : State) (a : Fin 16) (k : Fin 8) (r : Req) (code : Nat) (replace : Bool) (p : Move → Prop) : Prop :=
  ∃ (m : Move) (q : List Move),
    (t.ax a).queue = q ++ [m] ∧ q.length = (if replace then 0 else (s.ax a).queue.length) ∧ p m ∧ m.id = (s.ax a).nextId ∧
    (t.ax a).nextId = nextMoveId (s.ax a).nextId ∧ (t.ax a).obstruction = false ∧ (t.ax a).demand = (s.ax a).demand ∧
    (∀ b : Fin 16, b ≠ a → t.ax b = s.ax b) ∧
    (replace = false → t.motion.groups = s.motion.groups ∧ t.log = s.log) ∧
    t = { s with motion := { s.motion with axes := t.motion.axes, groups := t.motion.groups }, log := t.log,
                 cmd := (s.withReply (replyOf r k code Status.ok
                   (.bytes ([BitVec.ofNat 8 (t.ax a).free, 0, 0, 0] ++ leBytes 4 m.id)))).cmd }

end Sys2Proof.Machine
end

