-- ==== Sys2Proof/WellFormed.lean ====
section
/-! DEFINITION. The commands that the device's surroundings can send: the operands of a command that its packet, frame or
block has room for (Table 3.1, Table 3.6, R409, R412, Table 16.7, Table 18.1, Table 21.17). The meanings of Machine/ are
total and do not rest on these checks. -/

namespace Sys2Proof

/-- A source of the table of sessions (Sessions and ownership): a ring source names the node at which its packet entered, a
CAN source one of eight identifier pairs. -/
def Source.wf (x : Source) : Bool :=
  match x.port with
  | .spi => decide (x.node = 0) && decide (x.host = 0)
  | .east | .west => decide (1 ≤ x.node.toNat) && decide (x.node.toNat ≤ 8)
  | .can0 | .can1 => decide (x.node = 0) && decide (x.host.toNat < 8)

def Req.wf (r : Req) : Bool := r.src.wf

/-- The fields of a set-up block fit their columns of Table 18.1. -/
def QuarryBlock.wf (q : QuarryBlock) : Bool :=
  decide (q.d < 65536) && decide (q.decimation < 256) && decide (q.count < 249) && decide (q.segments < 65536) &&
  decide (q.pre < 4294967296) && decide (q.source < 256) && decide (q.kind < 256) && decide (q.item < 256) &&
  decide (q.ringOut < 256) && decide (-2147483648 ≤ q.level) && decide (q.level < 2147483648) &&
  decide (q.hysteresis < 4294967296) && decide (q.ringIn < 256) && decide (q.channels.length = q.count) &&
  q.channels.all (fun c => decide (c < 4294967296))

/-- A CAN frame: an identifier of its width, and a length that the frame format has (R409, R412). -/
def CanFrame.wf (f : CanFrame) : Bool :=
  (f.extended || decide (f.ident.toNat < 2048)) &&
  (if f.fd then ([0, 1, 2, 3, 4, 5, 6, 7, 8, 12, 16, 20, 24, 32, 48, 64] : List Nat).contains f.data.length
   else decide (f.data.length ≤ 8))

/-- A block of a link: its characters, and a phase within the frame. -/
def blockWf (length : Nat) (block : List Byte) : Bool := decide (block.length = length)

/-- An SPI frame of a transfer: its counts in order, and no more bytes than clocked. -/
def SpiFrame.wf (f : SpiFrame) (sent : Nat) : Bool :=
  decide (f.fell ≤ f.rose ∧ (f.cut ∨ (f.fell ≤ f.headed ∧ f.headed ≤ f.rose))) && (!f.complete || (!f.cut && decide (sent ≤ f.count)))

/-- The operands that the command's carrier has room for. -/
def Instr.wf : Instr → Bool
  | .ping r bytes => r.wf && decide (bytes.length ≤ 1020)
  | .identify r | .sessionClose r | .txnAbort r | .txnStatus r | .quarryForce r | .quarryStatus r | .cfgRollback r
  | .safetyStatus r | .ringStatus r | .ringTopology r | .modeStatus r => r.wf
  | .sessionOpen r .. | .paramRead r .. | .paramWrite r .. | .txnBegin r .. | .txnCommitAt r .. | .moveAbs r .. | .moveRel r ..
  | .moveVel r .. | .queueFlush r .. | .axisAbort r .. | .gearEngage r .. | .gearRelease r .. | .latchArm r .. | .stepFollow r ..
  | .axisEnable r .. | .axisDisable r .. | .axisShortBrake r .. | .axisHome r .. | .faultClear r .. | .motorIdentify r ..
  | .snapshot r .. | .statusAxes r .. | .eventRead r .. | .subscribe r .. | .dataOpen r .. | .dataRead r .. | .dataClose r ..
  | .quarryArm r .. | .cfgStage r .. | .cfgActivate r .. | .cfgConfirm r .. | .fwStage r .. | .fwActivate r ..
  | .safetyStopRequest r .. | .safetySetLoad r .. | .ringRetrain r .. | .modeSet r .. | .latencySet r .. | .diagSelftest r ..
  | .laneSwap r .. | .templateLearn r .. | .templateFreeze r .. | .templateReset r .. | .statusWordWrite r .. | .tplSave r ..
  | .qryRelease r .. | .cntPreset r .. | .gateOverride r .. | .carrierWrite r .. | .bankSwap r .. => r.wf
  | .paramReadMulti r es => r.wf && decide (es.length ≤ 255)
  | .paramWriteMulti r es => r.wf && decide (es.length ≤ 85)
  | .moveGroup r _ _ _ _ ms => r.wf && decide (ms.length ≤ 125)
  | .dataWrite r _ bytes => r.wf && decide (1 ≤ bytes.length) && decide (bytes.length ≤ 1020)
  | .quarrySetup r block => r.wf && block.wf
  | .packetWrite f _ bytes => f.wf bytes.length && decide (bytes.length ≤ 1040)
  | .rawWrite f _ _ bytes _ => f.wf bytes.length
  | .packetRead f | .statusRead f | .rawRead f .. | .packetReread f => f.wf 0
  | .statusPush _ | .sessionExpiry _ => true
  | .tick | .txnTimeout .. | .recordRelease .. | .tbPhaseAlarm | .axisComputeSlot .. => true
  | .laneDeadline _ _ _ slack => decide (slack ≤ 50000)
  | .copyFinalPhase dirty => decide (dirty ≤ 1024)
  | .copyRelease | .laneCopyFail | .proofSwap _ | .proofSwapResult _ | .laneSwapOverdue | .carrierPeriodStart .. | .adcTrigger ..
  | .sampleRecord .. | .snsMissing _ | .snsRange _ | .snsPeak _ | .dieLinkCrcFail _ => true
  | .shortComparatorTrip .. | .bootUv _ | .autoRetryTry .. | .shootThroughInterlock _ | .vgdLockout _ | .vgdLockoutRelease _
  | .gdVgdHigh _ | .ov1Assert _ | .brakeOff _ | .ov2Assert _ | .ov2Release | .gdBrakeFail _ | .gdBrakeOverload _
  | .gdBrakeShorted _ | .gdVbusUv _ | .gdVbusMismatch | .gdDieHot .. | .gdDieOvertemp .. | .tbClockLoss | .pwmDebugHalt
  | .chopTrip .. | .chopOffTimeEnd _ => true
  | .diodeTest _ | .catchBrakeEnd _ | .acquisitionDecision _ | .injectionConverged _ | .comInjConverge _ | .polarityTestEnd _
  | .dcAlignEnd _ | .comLos _ | .comPlausibility _ | .comOverspeed _ | .comHallInvalid _ | .comEncIndex .. => true
  | .identifyStepDone _ _ results => decide (results.length ≤ 3)
  | .stepperEnergise _ | .stpCatchFail _ | .holdCurrent _ | .stpStall _ | .stpStallBlind _ | .stpNoRegulation _ | .stpOpenCoil _
  | .reversalRequest _ | .groupStart _ | .prfGroupStop .. | .ringGroupStop _ | .prfEotExceeded _ | .homeFound _ | .prfHomeFail _
  | .latchCapture .. | .gearSynchronised _ | .lpFollowErr _ | .lpEnvelopeExceeded _ | .lpCurrentLimit _ | .gainRampEnd _
  | .templateSaveComplete _ => true
  | .siChange _ | .safeSiDiscrepancy | .stoReqPulse _ | .heartbeat _ | .safeWatchdog | .safetyStateWord | .ss1TimerExpiry
  | .plumbSs1Expiry | .safeStoFb .. | .stoRelease | .safeRailAbsent .. | .switchTestStart | .switchTestStep .. | .safeTestFail
  | .safeTestOverdue | .safeTestGrace | .safetyDiagnosticFail _ => true
  | .safetyScan scan => decide (scan.phases.length = 24)
  | .diEdge .. | .counterEdge .. | .freqGateEnd .. | .vfieldUv .. | .vfieldOv .. | .vfieldRecover .. | .fioDoGroupOverload _
  | .fioDoOverload .. | .fioDoMismatch _ | .fioDoOpen _ | .fioDoThermal _ => true
  | .canFrameReceived _ frame _ => frame.wf
  | .canSegment _ | .canSegmentTimeout .. | .canTransmit _ | .canStatusFrame _ | .canErrorPassive .. | .canBusOff _
  | .canBusOffRecovered _ => true
  | .tickSymbolReceived _ block .. => blockWf 8 block
  | .stateSlotReceived _ _ slot _ => blockWf 194 slot
  | .asyncBlockReceived _ block .. => blockWf 68 block
  | .holdover | .masterLost | .ringLinkDown _ | .trainingComplete .. | .ringTrainFail _ | .echoExchange .. | .creditReturn _
  | .ringListenAcquired _ | .join | .insertionWindowAnnounce | .ringStart | .unwrap | .retrainAtFrame _ | .prepareReceived ..
  | .commitDecision .. | .decisionReceived .. => true
  | .quarryTrigger | .ringTrigger _ | .quarryRecordEnd | .quarryRearm | .wake _ | .idleDescent | .dormantEntry | .keepEntry
  | .modeTransitionComplete | .reset .. | .boot _ | .supplyReset _ | .pwrStartRetry | .quarryInitDone | .flashOpComplete _
  | .trialExpiry | .rollbackApply | .eventFlashProgram => true
  | .pwrVbatLow mv => decide (mv ≤ 4000)
  | .scrubRead _ _ errors => decide (errors ≤ 2)
  | .idcode | .challenge | .tokenCheckDone | .dbgStatus | .coreAccess .. | .debugReset _ | .bypass => true
  | .unlock token => decide (token.length = 108)
  | .vgdBrkLow _ | .safetySetCheckDone | .selftestComplete .. | .railPresent .. | .joinReceived .. | .retrainTimeout
  | .islandSupplyRestored _ => true

end Sys2Proof
end

