-- ==== Sys2Proof/Certificates/Slice0/Obligations.lean ====
section
/-! DEFINITION. The statements about the device, each an obligation for the provers. `Answers o p` says that a command completes
with a next state of which `p` holds; `t = { s with f := t.f, … }` says that every other field is unchanged. -/

open Sys2Proof Sys2Proof.Machine

/-! ### The machine as a whole -/

/-- A step takes the command at the front of the queue and executes it with the queue's rest. -/
def Obligations.StepRunsFrontCommand : Prop :=
  ∀ (c : Instr) (rest : List Instr) (s : State), step { s with pending := c :: rest } = exec c { s with pending := rest }

/-- On an empty queue the block idles. This is the model's choice (notes/assumptions/1), not a rule of the manual.
No command touches the queue: what waits behind it waits unchanged. -/
def Obligations.QueueOnlyShrinks : Prop :=
   (∀ s : State, s.pending = [] → step s = .next s) ∧
   (∀ (c : Instr) (s t : State), exec c s = .next t → t.pending = s.pending)

/-- The state after reset: the timebase at 0 with no event and no fault, every axis DISABLED with nothing queued, every half-bridge
OFF and unforced, every output off, the safety channel in BOOT with both switches open, no session, transaction, handle or
record, and every parameter at the default of its table.
After reset the parameter list and both memories are in canonical form. -/
def Obligations.ResetState : Prop :=
   (State.reset.frame64 = 0 ∧ State.reset.faults = [] ∧ State.reset.log.entries = [] ∧
    (∀ a : Fin 16, (State.reset.ax a).state = .disabled ∧ (State.reset.ax a).queue = [] ∧ (State.reset.ax a).homed = false) ∧
    (∀ h : Fin 48, (State.reset.hb h).active = 0x4000 ∧ State.reset.level h = .entry) ∧
    State.reset.outputEnable = 0 ∧
    State.reset.saf.state = .boot ∧ State.reset.torqueOff = true ∧
    (∀ k : Fin 8, State.reset.session k = none) ∧ State.reset.mtr.txns = [] ∧ (∀ i : Fin 8, State.reset.hp.handles[i] = none) ∧
    State.reset.qry.state = .idle ∧ State.reset.qry.held = [] ∧
    (∀ i k : Nat, State.reset.par i k = regDefault (regKey i k)) ∧
    State.reset.pending = []) ∧
   (State.reset.canonical = true)

/-- Every step that answers a next state keeps the parameter list and both memories in canonical form. -/
def Obligations.EveryStepKeepsCanonicalForm : Prop :=
  ∀ s t : State, s.canonical = true → step s = .next t → t.canonical = true

/-- Decoding the payload of a well-formed request gives the request back, and its length is one that the opcode permits. -/
def Obligations.RequestDecodesFromItsPayload : Prop :=
  ∀ (c : Instr) (op : Nat) (r : Req), c.wf = true → requestOf c = some (op, r) →
    lengthOk op (payloadOf c) = true ∧ readRequest r op (payloadOf c) = some c

/-- Frame a is later than frame b when (a − b) mod 2^32 lies in 1 to 2^31 − 1; a difference of exactly 2^31 is the far past, and a
frame in the far past is never later. -/
def Obligations.FrameOrder : Prop :=
  ∀ a b : Word,
    (later a b = true ↔ 1 ≤ (a.toNat + (2 ^ 32 - b.toNat)) % 2 ^ 32 ∧ (a.toNat + (2 ^ 32 - b.toNat)) % 2 ^ 32 ≤ 2 ^ 31 - 1) ∧
    ((a.toNat + (2 ^ 32 - b.toNat)) % 2 ^ 32 = 2 ^ 31 → later a b = false) ∧
    ((a.toNat + (2 ^ 32 - b.toNat)) % 2 ^ 32 = 2 ^ 31 + 1 → later b a = true)

/-- A request that its session's role, the mode, the isolated hold or the TAG rule does not permit is answered with that status
alone and changes nothing; one from a source without a session is answered NO_SESSION. -/
def Obligations.RefusedRequestsChangeNothing : Prop :=
  (∀ (c : Instr) (op : Nat) (r : Req) (row : OpRow) (k : Fin 8) (x : Session) (status : Nat) (s : State),
    requestOf c = some (op, r) → opRow op = some row → row.role ≠ .none → s.slotOf r.src = some k → s.session k = some x →
    s.admission row r x.role = some status → exec c s = .next (s.withReply (replyOf r k op status .bare))) ∧
  (∀ (c : Instr) (op : Nat) (r : Req) (row : OpRow) (s : State),
    requestOf c = some (op, r) → opRow op = some row → row.role ≠ .none → s.slotOf r.src = none →
    exec c s = .next (s.withReply { replyOf r 0 op Status.noSession .bare with slot := none }))

/-! ### Requests that read -/

/-- A read that its session, the mode and its operands permit answers OK with the fields of its opcode, and changes nothing; with an
operand out of its range it is refused and changes nothing (PARAM_READ, PARAM_READ_MULTI, SNAPSHOT, STATUS_AXES, EVENT_READ); the status
requests answer with their block (TXN_STATUS, QUARRY_STATUS, SAFETY_STATUS, RING_STATUS, RING_TOPOLOGY, MODE_STATUS). -/
def Obligations.ReadsAnswerAndChangeNothing : Prop :=
  (∀ (r : Req) (i : Half) (k : Byte) (n : Fin 8) (s : State), s.admits 0x10 r n = true →
    ((s.accessible i.toNat k.toNat).isSome = true →
      exec (.paramRead r i k) s = .next (s.withReply (replyOf r n 0x10 Status.ok (.param i.toNat k.toNat)))) ∧
    (s.accessible i.toNat k.toNat = none →
      exec (.paramRead r i k) s = .next (s.withReply (replyOf r n 0x10 Status.badParameter .bare)))) ∧
  (∀ (r : Req) (es : List (Half × Byte)) (n : Fin 8) (s : State), s.admits 0x12 r n = true →
    (1 ≤ es.length ∧ es.length ≤ 64 →
      exec (.paramReadMulti r es) s = .next (s.withReply (replyOf r n 0x12 Status.ok (.params es)))) ∧
    (es.length = 0 ∨ 64 < es.length →
      exec (.paramReadMulti r es) s = .next (s.withReply (replyOf r n 0x12 Status.outOfRange .bare)))) ∧
  (∀ (r : Req) (m : Word) (n : Fin 8) (s : State), s.admits 0x50 r n = true →
    (m.toNat < 512 → exec (.snapshot r m) s = .next (s.withReply (replyOf r n 0x50 Status.ok (.sections m)))) ∧
    (512 ≤ m.toNat → exec (.snapshot r m) s = .next (s.withReply (replyOf r n 0x50 Status.badParameter .bare)))) ∧
  (∀ (r : Req) (m : Word) (n : Fin 8) (s : State), s.admits 0x51 r n = true →
    ((s.maskArg m).isSome = true → exec (.statusAxes r m) s = .next (s.withReply (replyOf r n 0x51 Status.ok (.axes m)))) ∧
    (s.maskArg m = none → exec (.statusAxes r m) s = .next (s.withReply (replyOf r n 0x51 Status.badParameter .bare)))) ∧
  (∀ (r : Req) (f : Word) (max : Byte) (n : Fin 8) (s : State), s.admits 0x52 r n = true →
    (1 ≤ max.toNat ∧ max.toNat ≤ 31 →
      exec (.eventRead r f max) s = .next (s.withReply (replyOf r n 0x52 Status.ok (.events f max.toNat)))) ∧
    (max.toNat = 0 ∨ 31 < max.toNat →
      exec (.eventRead r f max) s = .next (s.withReply (replyOf r n 0x52 Status.outOfRange .bare)))) ∧
  (∀ (r : Req) (n : Fin 8) (s : State),
    (s.admits 0x23 r n = true →
      exec (.txnStatus r) s = .next (s.withReply (replyOf r n 0x23 Status.ok (.txn n r.tag)))) ∧
    (s.admits 0x73 r n = true → exec (.quarryStatus r) s = .next (s.withReply (replyOf r n 0x73 Status.ok .quarry))) ∧
    (s.admits 0x90 r n = true → exec (.safetyStatus r) s = .next (s.withReply (replyOf r n 0x90 Status.ok .safety))) ∧
    (s.admits 0xA0 r n = true → exec (.ringStatus r) s = .next (s.withReply (replyOf r n 0xA0 Status.ok .ring))) ∧
    (s.admits 0xA1 r n = true → exec (.ringTopology r) s = .next (s.withReply (replyOf r n 0xA1 Status.ok .topology))) ∧
    (s.admits 0xB2 r n = true → exec (.modeStatus r) s = .next (s.withReply (replyOf r n 0xB2 Status.ok .modes))))

/-! ### Sessions -/

/-- PING and IDENTIFY need no session: the reply enters the sender's queue at once, from the snapshot latched last, and nothing else
changes; a corrupt snapshot replies INTERNAL. -/
def Obligations.PingAndIdentifyReplyAtOnce : Prop :=
  (∀ (r : Req) (bytes : List Byte) (s : State), s.mtr.now.corrupt = false →
    exec (.ping r bytes) s = .next (s.send
      { bytes := s.replyBytes 0x01 r.seq r.tag Status.ok (s.mtr.now.frame.setWidth 32) bytes, host := r.src, slot := s.slotOf r.src })) ∧
  (∀ (r : Req) (s : State), s.mtr.now.corrupt = false →
    exec (.identify r) s = .next (s.send
      { bytes := s.replyBytes 0x02 r.seq r.tag Status.ok (s.mtr.now.frame.setWidth 32) s.identity, host := r.src, slot := s.slotOf r.src })) ∧
  (∀ (r : Req) (bytes : List Byte) (s : State), s.mtr.now.corrupt = true →
    exec (.ping r bytes) s = .next (s.send
      { bytes := s.replyBytes 0x01 r.seq r.tag Status.internal (s.mtr.now.frame.setWidth 32) [], host := r.src, slot := s.slotOf r.src })) ∧
  (∀ (p : OutPacket) (s : State),
    s.send p = { s with cmd := { s.cmd with out := (s.send p).cmd.out } } ∧
    (s.send p).cmd.out[s.outPort p.host] = s.cmd.out[s.outPort p.host] ++ [{ p with left := p.bytes.length }] ∧
    ∀ q : Fin 5, q ≠ s.outPort p.host → (s.send p).cmd.out[q] = s.cmd.out[q])

/-- The keepalive of SESSION_OPEN: 200 to 65,535 frames as asked, 20,000 for 0, and OUT_OF_RANGE for 1 to 199. The session opens in
the lowest free slot (the model's choice, notes/assumptions/103) of a source that held none. -/
def Obligations.SessionOpenKeepalive : Prop :=
  ∀ (r : Req) (role flags : Byte) (keepalive : Half) (client : Word) (k : Fin 8) (s : State),
    s.slotOf r.src = none → role.toNat < 2 → flags.toNat < 2 → r.tag = 0 → (role = 1 → s.controlSlot = none) →
    s.session k = none → (∀ j : Fin 8, j < k → (s.session j).isSome = true) →
    (keepalive = 0 ∨ 200 ≤ keepalive.toNat →
      Answers (exec (.sessionOpen r role flags keepalive client) s) (fun t =>
        t = { s with cmd := t.cmd, log := t.log } ∧
        (∀ j : Fin 8, j ≠ k → t.session j = s.session j) ∧
        ∃ x, t.session k = some x ∧ x.src = r.src ∧ x.client = client ∧ x.lastSeq = r.seq ∧ x.refreshed = r.arrived ∧
          x.role = (if role = 1 then .control else .observer) ∧
          x.keepalive = (if keepalive = 0 then 20000 else keepalive.toNat) ∧
          t.cmd.out[s.outPort r.src] = s.cmd.out[s.outPort r.src] ++
            [{ bytes := x.openReply, host := r.src, slot := some k, left := x.openReply.length }])) ∧
    (1 ≤ keepalive.toNat ∧ keepalive.toNat ≤ 199 →
      exec (.sessionOpen r role flags keepalive client) s =
        .next (s.send { bytes := s.replyNow r 0x03 Status.outOfRange [], host := r.src, slot := none }))

/-- SESSION_CLOSE ends its session after its reply is queued: the slot is free, its pushes are released, and so are its handles, one in
a raw burst when the burst ends; the other sessions stay. SUBSCRIBE stores its masks and period in its session alone.
A session expires at the first tick at or after its last packet's arrival plus its keepalive, not before; a CONTROL session that
expires while an axis is enabled raises CMD_HOST_LOSS. A status push is due when the period of its session's subscription has
elapsed: it takes the next push number, enters the queue when fewer than 16 pushes wait, and else is counted in CMD.PUSH_LOST. -/
def Obligations.SessionEndsAndPushes : Prop :=
   ((∀ (r : Req) (k : Fin 8) (s : State), s.admits 0x04 r k = true →
      Answers (exec (.sessionClose r) s) (fun t =>
        t.session k = none ∧ (∀ j : Fin 8, j ≠ k → t.session j = s.session j) ∧
        t.cmd.awaiting = s.cmd.awaiting ++ [replyOf r k 0x04 Status.ok .bare] ∧
        (∀ i : Fin 8, ∀ h : Handle, t.hp.handles[i] = some h →
          (s.hp.handles[i] = some h ∧ h.owner ≠ k) ∨ (s.bursting i = true ∧ h.owner = k ∧ h.ended = true)) ∧
        (∀ x ∈ t.mtr.txns, x.slot = k → x.orphan = true) ∧
        (∀ q : Fin 5, ∀ p ∈ t.cmd.out[q], p.push = true → p.slot ≠ some k))) ∧
    (∀ (r : Req) (classes : Word) (period : Half) (axes : Word) (k : Fin 8) (s : State), s.admits 0x53 r k = true →
      classes.toNat < 2048 → (s.maskArg axes).isSome = true →
      Answers (exec (.subscribe r classes period axes) s) (fun t =>
        t = { s with cmd := t.cmd } ∧ (∀ j : Fin 8, j ≠ k → t.session j = s.session j) ∧
        (∀ x, s.session k = some x →
          t.session k = some { x with classes := classes, period := period.toNat, axes := axes, sinceStatus := 0 }) ∧
        t.cmd.awaiting = s.cmd.awaiting ++ [replyOf r k 0x53 Status.ok .bare]))) ∧
   ((∀ (k : Fin 8) (x : Session) (s : State), s.session k = some x →
      (s.tb.tickAt < x.refreshed + 10000 * x.keepalive → exec (.sessionExpiry k) s = .next s) ∧
      (x.refreshed + 10000 * x.keepalive ≤ s.tb.tickAt →
        Answers (exec (.sessionExpiry k) s) (fun t =>
          t.session k = none ∧ (∀ j : Fin 8, j ≠ k → t.session j = s.session j) ∧
          (x.role = .control ∧ s.anyEnabled = true → t.isActive 0x0201 255 = true)))) ∧
    (∀ (k : Fin 8) (x : Session) (s : State), s.session k = some x → 0 < x.period → x.period ≤ x.sinceStatus →
      Answers (exec (.statusPush k) s) (fun t =>
        t.session k = some { x with sinceStatus := 0, pushSeq := x.pushSeq + 1 } ∧
        (∀ j : Fin 8, j ≠ k → t.session j = s.session j) ∧
        (s.pushesOf k < 16 →
          (t.cmd.out[s.outPort x.src]).length = (s.cmd.out[s.outPort x.src]).length + 1 ∧
          t = { s with cmd := t.cmd }) ∧
        (16 ≤ s.pushesOf k → t.cmd.out = s.cmd.out))))

/-! ### Parameters -/

/-- Writing a parameter sets it and no other (R4): what is written is read back, and every other parameter reads as before. -/
def Obligations.WrittenParameterReadsBack : Prop :=
  ∀ (s : State) (i k j l : Nat) (x : Int), s.canonical = true → k < 256 → l < 256 →
    (s.setPar i k x).par j l = (if j = i ∧ l = k then x else s.par j l)

/-- A direct write that passes the checks of R71 takes effect at its tick and reports that frame, with no other change: the parameter
takes the value. In Service an SVC value waits for the end of Service, and in Dormant an FRM value for the wake: such a write
replies ACCEPTED_PENDING with the apply frame 0xFFFFFFFF (R72). The list of indices names the parameters whose write acts. -/
def Obligations.DirectWrites : Prop :=
  (∀ (r : Req) (e : WriteEntry) (row : ParamRow) (x : Int) (k : Fin 8) (s : State),
    s.direct 0x11 r k (.paramWrite r e) = true → s.writeRefusal s.pendingView false e = none →
    ParamTable.find e.index.toNat = some row → row.access = .rw → row.type.decode e.value = some x →
    (row.commit ≠ .svc → (row.commit = .imm ∨ s.power.mode ≠ .dormant) →
      ([0x0300, 0x0B18, 0x1004, 0x1021, 0x1201] : List Nat).contains e.index.toNat = false →
      exec (.paramWrite r e) s = .next ((s.setPar e.index.toNat e.sub.toNat x).withReply
        (replyOf r k 0x11 Status.ok (.bytes (leBytes 4 s.frame32.toNat))))) ∧
    (row.commit = .svc →
      exec (.paramWrite r e) s = .next (State.withReply
        { s with svcPending := s.svcPending ++ [(regKey e.index.toNat e.sub.toNat, x)], svcWaiting := s.svcWaiting ++ [(some k, r.seq, 0x11)] }
        (replyOf r k 0x11 Status.pending (.bytes (leBytes 4 0xFFFFFFFF))))) ∧
    (row.commit = .frm → s.power.mode = .dormant →
      exec (.paramWrite r e) s = .next (State.withReply
        { s with frmPending := s.frmPending ++ [(regKey e.index.toNat e.sub.toNat, x)], frmWaiting := s.frmWaiting ++ [(some k, r.seq, 0x11)] }
        (replyOf r k 0x11 Status.pending (.bytes (leBytes 4 0xFFFFFFFF)))))) ∧
  (∀ (r : Req) (axis : Byte) (v : Long) (k : Fin 8) (s : State), s.direct 0x11 r k (.bankSwap r axis v) = true →
    s.writeRefusal s.pendingView false ⟨0x0A0D, axis, 10, v⟩ = none → s.power.mode ≠ .dormant →
    exec (.bankSwap r axis v) s = .next ((s.setPar 0x0A0D axis.toNat v.toNat).withReply
      (replyOf r k 0x11 Status.ok (.bytes (leBytes 4 s.frame32.toNat))))) ∧
  (∀ (r : Req) (hb : Byte) (v : Long) (k : Fin 8) (s : State), s.direct 0x11 r k (.gateOverride r hb v) = true →
    s.writeRefusal s.pendingView false ⟨0x0307, hb, 1, v⟩ = none →
    exec (.gateOverride r hb v) s = .next ((s.setPar 0x0307 hb.toNat v.toNat).withReply
      (replyOf r k 0x11 Status.ok (.bytes (leBytes 4 s.frame32.toNat)))))

/-- The writes that act on more than their parameter, at their tick: FIO.CNT_PRESET replaces the count and the count latched for the
frame; PWM.CARRIER waits for LOAD_ALL on every bay of its axis; QRY.RELEASE frees the records not later than its value; TPL.SAVE
captures the tables and starts the save. Nothing else changes.
A direct write of a status word clears the W1C bits that it writes as 1; it leaves the W1C bits written as 0 and every other bit,
and changes nothing else (R504). The request is PARAM_WRITE or its row STATUS_WORD_WRITE. -/
def Obligations.ActingWrites : Prop :=
   ((∀ (r : Req) (c : Byte) (v : Long) (n : Fin 8) (k : Fin 8) (s : State), s.direct 0x11 r k (.cntPreset r c v) = true →
      s.writeRefusal s.pendingView false ⟨0x1004, c, 3, v⟩ = none → s.power.mode ≠ .dormant → c.toNat = n.val →
      Answers (exec (.cntPreset r c v) s) (fun t =>
        t = { s with regs := t.regs, fio := { s.fio with counters := t.fio.counters, counts := t.fio.counts }, cmd := t.cmd } ∧
        t.fio.counters[n].count = v.setWidth 32 ∧ t.fio.counts[n] = v.setWidth 32 ∧
        (∀ m : Fin 8, m ≠ n → t.fio.counters[m] = s.fio.counters[m] ∧ t.fio.counts[m] = s.fio.counts[m]))) ∧
    (∀ (r : Req) (b : Byte) (v : Long) (k : Fin 8) (s : State), s.direct 0x11 r k (.carrierWrite r b v) = true →
      s.writeRefusal s.pendingView false ⟨0x0300, b, 10, v⟩ = none → s.power.mode ≠ .dormant →
      Answers (exec (.carrierWrite r b v) s) (fun t =>
        t = { s with regs := t.regs, pwm := { s.pwm with bays := t.pwm.bays }, cmd := t.cmd } ∧
        ∀ y : Fin 16, t.bay y = (if (s.baysOfAxis (s.axisOfBay (Fin.ofNat 16 b.toNat))).contains y
          then { s.bay y with carrierHeld := some (if v = 0 then 10000 else 5000) } else s.bay y))) ∧
    (∀ (r : Req) (v : Long) (k : Fin 8) (s : State), s.direct 0x11 r k (.qryRelease r v) = true →
      s.writeRefusal s.pendingView false ⟨0x1201, 0xFF, 3, v⟩ = none → s.power.mode ≠ .dormant →
      Answers (exec (.qryRelease r v) s) (fun t =>
        t = { s with regs := t.regs, qry := { s.qry with held := t.qry.held }, faults := t.faults, log := t.log, cmd := t.cmd } ∧
        t.qry.held = s.qry.held.filter (fun x => later x.sequence (v.setWidth 32)))) ∧
    (∀ (r : Req) (v : Long) (k : Fin 8) (s : State), s.direct 0x11 r k (.tplSave r v) = true →
      s.writeRefusal s.pendingView false ⟨0x0B18, 0xFF, 1, v⟩ = none →
      Answers (exec (.tplSave r v) s) (fun t =>
        t = { s with dram := t.dram, badDram := t.badDram, motion := { s.motion with saving := true },
                     cfg := { s.cfg with flash := some .templateSave }, cmd := t.cmd } ∧
        ∀ a : Nat, a < templateCopy → Sparse.read dramDefault t.dram a = Sparse.read dramDefault s.dram a))) ∧
   (∀ (r : Req) (e : WriteEntry) (row : ParamRow) (mask : Nat) (k : Fin 8) (s : State),
      s.canonical = true → s.direct 0x11 r k (.paramWrite r e) = true →
      s.accessible e.index.toNat e.sub.toNat = some row → row.access = .status mask →
      row.commit = .imm → row.type = .u32 → e.type = 3 → e.value.toNat < 2 ^ 32 →
      ∀ c : Instr, c = .paramWrite r e ∨ c = .statusWordWrite r e →
        Answers (exec c s) (fun t =>
          t = (s.setPar e.index.toNat e.sub.toNat (t.par e.index.toNat e.sub.toNat)).withReply
            (replyOf r k 0x11 Status.ok (.bytes (leBytes 4 s.frame32.toNat))) ∧
          ∀ b : Nat, b < 32 → (t.parN e.index.toNat e.sub.toNat).testBit b =
            ((s.parN e.index.toNat e.sub.toNat).testBit b && !(e.value.toNat.testBit b && mask.testBit b))))

/-- The checks of a write of one parameter: an unknown index or sub-index, another type or a read-only parameter gives BAD_PARAMETER; then
the class outside Service gives WRONG_MODE, and a SAF parameter in Service AUTH_FAIL, whatever the value; then upper bytes that
break R70 give BAD_PARAMETER, and a value out of the range OUT_OF_RANGE. Nothing is written. A PWM.GATE_OVERRIDE that would turn on
both gates is refused and raises PWM_SHOOT_THROUGH_BLOCKED (R123). -/
def Obligations.WriteChecks : Prop :=
  ∀ (r : Req) (e : WriteEntry) (k : Fin 8) (s : State), s.admits 0x11 r k = true → r.tag = 0 →
    (s.accessible e.index.toNat e.sub.toNat = none →
      exec (.paramWrite r e) s = .next (s.withReply (replyOf r k 0x11 Status.badParameter .bare))) ∧
    (∀ row : ParamRow, s.accessible e.index.toNat e.sub.toNat = some row →
      (e.type.toNat ≠ row.type.code ∨ row.access = .ro →
        exec (.paramWrite r e) s = .next (s.withReply (replyOf r k 0x11 Status.badParameter .bare))) ∧
      (e.type.toNat = row.type.code → row.access = .rw →
        (row.commit = .svc ∨ row.commit = .saf → s.power.mode ≠ .service →
          exec (.paramWrite r e) s = .next (s.withReply (replyOf r k 0x11 Status.wrongMode .bare))) ∧
        (row.commit = .saf → s.power.mode = .service →
          exec (.paramWrite r e) s = .next (s.withReply (replyOf r k 0x11 Status.authFail .bare))) ∧
        (row.commit = .imm ∨ row.commit = .frm → e.index ≠ 0x0307 →
          (row.type.decode e.value = none →
            exec (.paramWrite r e) s = .next (s.withReply (replyOf r k 0x11 Status.badParameter .bare))) ∧
          (∀ x : Int, row.type.decode e.value = some x → row.accepts x = false →
            exec (.paramWrite r e) s = .next (s.withReply (replyOf r k 0x11 Status.outOfRange .bare)))))) ∧
    (∀ hb : Byte, hb.toNat < 48 → s.power.mode = .service →
      Answers (exec (.gateOverride r hb 7) s) (fun t =>
        t = { s with regs := t.regs, faults := t.faults, log := t.log, cmd := (s.withReply (replyOf r k 0x11 Status.badParameter .bare)).cmd } ∧
        t.isActive 0x0303 (hb.toNat / 3) = true ∧ ∀ h : Nat, t.par 0x0307 h = s.par 0x0307 h))

/-- A write of class SVC or SAF made outside Service, direct or staged, is refused with WRONG_MODE and changes nothing: a PARAM_WRITE,
and a PARAM_WRITE_MULTI whose entries before the failing one pass, which names that entry's position. -/
def Obligations.ClassOutsideService : Prop :=
  ∀ (r : Req) (e : WriteEntry) (row : ParamRow) (k : Fin 8) (s : State), s.power.mode ≠ .service →
    s.accessible e.index.toNat e.sub.toNat = some row → e.type.toNat = row.type.code → row.access = .rw →
    row.commit = .svc ∨ row.commit = .saf →
    (s.admits 0x11 r k = true → exec (.paramWrite r e) s = .next (s.withReply (replyOf r k 0x11 Status.wrongMode .bare))) ∧
    (∀ before after : List WriteEntry, s.admits 0x13 r k = true → (before ++ e :: after).length ≤ 64 →
      s.entriesRefusal s.pendingView (decide (r.tag ≠ 0)) 0 [] before = none →
      exec (.paramWriteMulti r (before ++ e :: after)) s = .next (s.withReply
        (replyOf r k 0x13 Status.wrongMode (.bytes (leBytes 4 0xFFFFFFFF ++ leBytes 1 before.length ++ [0, 0, 0])))))

/-- PARAM_WRITE_MULTI checks every entry before it applies any. When one fails nothing is written, and the reply carries its status
and position; when all pass outside Dormant and no entry is SVC, the entries take their values in payload order. -/
def Obligations.MultipleWrites : Prop :=
  ∀ (r : Req) (es : List WriteEntry) (k : Fin 8) (s : State),
    (s.admits 0x13 r k = true → es.length = 0 ∨ 64 < es.length →
      exec (.paramWriteMulti r es) s = .next (s.withReply (replyOf r k 0x13 Status.outOfRange .bare))) ∧
    (∀ status n : Nat, s.admits 0x13 r k = true → 1 ≤ es.length → es.length ≤ 64 →
      s.entriesRefusal s.pendingView (decide (r.tag ≠ 0)) 0 [] es = some (status, n) →
      (status ≠ Status.badParameter ∨ ∀ e, es[n]? = some e → e.index ≠ 0x0307) →
      exec (.paramWriteMulti r es) s = .next (s.withReply
        (replyOf r k 0x13 status (.bytes (leBytes 4 0xFFFFFFFF ++ leBytes 1 n ++ [0, 0, 0]))))) ∧
    (s.direct 0x13 r k (.paramWriteMulti r es) = true → 1 ≤ es.length → es.length ≤ 64 →
      s.entriesRefusal s.pendingView false 0 [] es = none → s.power.mode ≠ .dormant →
      (∀ e ∈ es, writeCommit e ≠ .svc ∧ (∃ row, ParamTable.find e.index.toNat = some row ∧ row.access = .rw) ∧
        ([0x0300, 0x0B18, 0x1004, 0x1021, 0x1201] : List Nat).contains e.index.toNat = false) →
      exec (.paramWriteMulti r es) s = .next (State.withReply
        (es.foldl (fun t e => t.setPar e.index.toNat e.sub.toNat (writeValue e)) s)
        (replyOf r k 0x13 Status.ok (.bytes (leBytes 4 s.frame32.toNat ++ leBytes 1 255 ++ [0, 0, 0])))))


/-! ### Transactions -/

/-- TXN_BEGIN creates the OPEN record of its TAG, in place of a final one, with the deadline of R94; every other record stays. With TAG 0,
with a TAG whose record is not final, or with RING off a ring it is refused with BAD_PARAMETER, and with a timeout of 1 to 19
frames with OUT_OF_RANGE; the ninth live transaction of the device and the fifth of a session give TXN_LIMIT.
TXN_ABORT ends an OPEN transaction, or a local COMMITTING one, as ABORTED with nothing applied; at a ring participant in VOTING it is
refused with BUSY, at the coordinator the decision becomes ABORT. After the decision, at T(c), and at a record that steps 4 and 5 of
this tick made final it replies ALREADY_DONE; at any other final record it is refused by its state (notes/assumptions/101: the model's
reading of R97 beside R98). An OPEN transaction times out at the first tick at or after its deadline, and a final record goes after MTR.RECORD_HOLD frames. -/
def Obligations.TxnBeginsAndEnds : Prop :=
   (∀ (r : Req) (flags : Byte) (timeout : Half) (k : Fin 8) (x : Session) (s : State), s.admits 0x20 r k = true → s.session k = some x →
      (r.tag = 0 ∨ 2 ≤ flags.toNat ∨ (flags = 1 ∧ ¬(s.ring.joined = true ∧ s.ring.detached = false)) ∨
          (∃ y, s.findTxn k r.tag = some y ∧ y.state.final = false) →
        exec (.txnBegin r flags timeout) s = .next (s.withReply (replyOf r k 0x20 Status.badParameter .bare))) ∧
      (r.tag ≠ 0 → flags.toNat < 2 → (flags = 1 → s.ring.joined = true ∧ s.ring.detached = false) →
          (∀ y, s.findTxn k r.tag = some y → y.state.final = true) →
        (1 ≤ timeout.toNat → timeout.toNat ≤ 19 →
          exec (.txnBegin r flags timeout) s = .next (s.withReply (replyOf r k 0x20 Status.outOfRange .bare))) ∧
        (timeout = 0 ∨ 20 ≤ timeout.toNat →
          (8 ≤ s.liveTxns ∨ 4 ≤ (s.mtr.txns.filter (fun t => t.slot = k && !t.orphan && !t.state.final)).length →
            exec (.txnBegin r flags timeout) s = .next (s.withReply (replyOf r k 0x20 Status.txnLimit .bare))) ∧
          (s.liveTxns < 8 → (s.mtr.txns.filter (fun t => t.slot = k && !t.orphan && !t.state.final)).length < 4 →
            Answers (exec (.txnBegin r flags timeout) s) (fun t =>
              t = State.withReply { s with mtr := { s.mtr with txns := t.mtr.txns } } (replyOf r k 0x20 Status.ok .bare) ∧
              t.findTxn k r.tag = some
                { slot := k, tag := r.tag, client := x.client, ring := decide (flags = 1), state := .open_
                  deadline := r.arrived + 10000 * (if timeout = 0 then s.devN 0x0221 else timeout.toNat) } ∧
              ∀ (j : Fin 8) (tag : Half), ¬(j = k ∧ tag = r.tag) → t.findTxn j tag = s.findTxn j tag))))) ∧
   ((∀ (r : Req) (k : Fin 8) (s : State), s.admits 0x22 r k = true →
      (s.findTxn k r.tag = none → exec (.txnAbort r) s = .next (s.withReply (replyOf r k 0x22 Status.badParameter .bare))) ∧
      (∀ x : Txn, s.findTxn k r.tag = some x → x.doneAt = some s.frame64 →
        exec (.txnAbort r) s = .next (s.withReply (replyOf r k 0x22 Status.alreadyDone .bare))) ∧
      (∀ x : Txn, s.findTxn k r.tag = some x → x.doneAt ≠ some s.frame64 →
        (x.state = .open_ ∨ (x.state = .committing ∧ x.ring = false) →
          Answers (exec (.txnAbort r) s) (fun t =>
            t = { s with mtr := t.mtr, motion := t.motion, regs := t.regs, saturated := t.saturated, faults := t.faults, log := t.log,
                         cmd := (s.withReply (replyOf r k 0x22 Status.ok .bare)).cmd } ∧
            t.findTxn k r.tag = some { x with state := .aborted, staged := [], finalAt := s.frame64 } ∧
            ∀ a : Fin 16, t.ax a = { s.ax a with reserved := (t.ax a).reserved })) ∧
        (x.state = .committing ∧ x.ring = true ∨ x.state = .committed ∨ x.state = .partial_ →
          exec (.txnAbort r) s = .next (s.withReply (replyOf r k 0x22 Status.alreadyDone .bare))) ∧
        (x.state = .voting → x.coordinator = false →
          exec (.txnAbort r) s = .next (s.withReply (replyOf r k 0x22 Status.busy .bare))) ∧
        (x.state = .voting → x.coordinator = true →
          Answers (exec (.txnAbort r) s) (fun t =>
            t = State.withReply { s with mtr := { s.mtr with txns := t.mtr.txns } } (replyOf r k 0x22 Status.ok .bare) ∧
            t.findTxn k r.tag = some { x with decided := some false })) ∧
        (x.state = .aborted → exec (.txnAbort r) s = .next (s.withReply (replyOf r k 0x22
          (if x.ring = true ∧ x.decided ≠ none then Status.alreadyDone else Status.txnAborted) .bare))) ∧
        (x.state = .timedOut → exec (.txnAbort r) s = .next (s.withReply (replyOf r k 0x22 Status.txnTimeout .bare))) ∧
        (x.state = .inconsistent → exec (.txnAbort r) s = .next (s.withReply (replyOf r k 0x22
          (if x.ring = true ∧ x.decided ≠ none then Status.alreadyDone else Status.inconsistent) .bare))))) ∧
    (∀ (k : Fin 8) (tag : Half) (x : Txn) (s : State), s.findTxn k tag = some x → x.state = .open_ →
      (s.tb.tickAt < x.deadline → exec (.txnTimeout k tag) s = .next s) ∧
      (x.deadline ≤ s.tb.tickAt →
        Answers (exec (.txnTimeout k tag) s) (fun t =>
          t = { s with mtr := t.mtr, motion := t.motion, regs := t.regs, saturated := t.saturated, faults := t.faults, log := t.log } ∧
          t.findTxn k tag = some { x with state := .timedOut, staged := [], finalAt := s.frame64 }))) ∧
    (∀ (k : Fin 8) (tag : Half) (x : Txn) (s : State), s.findTxn k tag = some x → x.state.final = true →
      ((s.frame64 - x.finalAt).toNat < s.devN 0x0223 → exec (.recordRelease k tag) s = .next s) ∧
      (s.devN 0x0223 ≤ (s.frame64 - x.finalAt).toNat →
        Answers (exec (.recordRelease k tag) s) (fun t =>
          t = { s with mtr := { s.mtr with txns := t.mtr.txns } } ∧ t.findTxn k tag = none ∧
          ∀ (j : Fin 8) (g : Half), ¬(j = k ∧ g = tag) → t.findTxn j g = s.findTxn j g))))

/-- TXN_COMMIT_AT of a local OPEN transaction sets the commit frame: the next one with EARLIEST, else the named frame, from the next to
MTR.COMMIT_HORIZON frames ahead; another frame is refused with OUT_OF_RANGE and the transaction stays OPEN (R95). On a ring
the coordinator's transaction enters VOTING, with c = N + MTR.RING_K under EARLIEST (R99). -/
def Obligations.TxnCommitAt : Prop :=
  ∀ (r : Req) (flags : Byte) (frame : Word) (k : Fin 8) (x : Txn) (s : State), s.admits 0x21 r k = true →
    s.findTxn k r.tag = some x → x.state = .open_ → x.doneAt ≠ some s.frame64 →
    (2 ≤ flags.toNat → exec (.txnCommitAt r flags frame) s = .next (s.withReply (replyOf r k 0x21 Status.badParameter .bare))) ∧
    (x.ring = false → ∀ ahead : Nat,
      (flags = 1 ∧ ahead = 1) ∨ (flags = 0 ∧ ahead = (frame - s.frame32).toNat ∧ 1 ≤ ahead ∧ ahead ≤ s.devN 0x0222) →
      Answers (exec (.txnCommitAt r flags frame) s) (fun t =>
        t = State.withReply { s with mtr := { s.mtr with txns := t.mtr.txns, commits := s.mtr.commits + 1 } } (replyOf r k 0x21 Status.pending
          (.bytes (leBytes 4 ((s.frame64 + BitVec.ofNat 64 ahead).setWidth 32 : Word).toNat))) ∧
        t.findTxn k r.tag = some
          { x with state := .committing, commit := some (s.frame64 + BitVec.ofNat 64 ahead)
                   commitSeq := r.seq, commitArrived := r.arrived, commitOrder := s.mtr.commits } ∧
        ∀ (j : Fin 8) (tag : Half), ¬(j = k ∧ tag = r.tag) → t.findTxn j tag = s.findTxn j tag)) ∧
    (x.ring = false → flags = 0 → (frame - s.frame32).toNat < 1 ∨ s.devN 0x0222 < (frame - s.frame32).toNat →
      exec (.txnCommitAt r flags frame) s = .next (s.withReply (replyOf r k 0x21 Status.outOfRange .bare))) ∧
    (x.ring = true → flags = 1 → s.announcement = none →
      s.mtr.txns.all (fun u => !(u.coordinator && (u.state = .voting || u.state = .committing))) = true → s.ringTxns < 2 →
      Answers (exec (.txnCommitAt r flags frame) s) (fun t =>
        t = State.withReply { s with mtr := { s.mtr with txns := t.mtr.txns }, ring := { s.ring with fields := t.ring.fields, own := t.ring.own } }
          (replyOf r k 0x21 Status.pending
            (.bytes (leBytes 4 ((s.frame64 + BitVec.ofNat 64 (s.devN 0x0220)).setWidth 32 : Word).toNat))) ∧
        ∃ y, t.findTxn k r.tag = some y ∧ y.state = .voting ∧ y.coordinator = true ∧ y.staged = x.staged ∧
          y.commit = some (s.frame64 + BitVec.ofNat 64 (s.devN 0x0220))))

/-- A node that receives PREPARE votes in its next slot: YES when it holds the transaction in OPEN, is in no hold, c is later than N + 2
and fewer than two ring transactions are in progress, and it then enters VOTING; NO when it holds the record otherwise or is in
isolated hold, and a record that was still OPEN then ends ABORTED (Table 4.7); NONE when it holds no record (R101). The coordinator decides COMMIT when every joined node has voted, none NO and
one YES, else ABORT. A participant in VOTING takes a decision received before T(c − 1) and acknowledges it. -/
def Obligations.DistributedCommit : Prop :=
  (∀ (node : Fin 8) (index : Fin 2) (s : State),
    (s.fieldFrom node index = none → exec (.prepareReceived node index) s = .next s ∧ exec (.decisionReceived node index) s = .next s)) ∧
  (∀ (node : Fin 8) (index : Fin 2) (f : List Byte) (s : State), s.fieldFrom node index = some f → field 0 1 f = 1 → s.ring.joined = true →
    Answers (exec (.prepareReceived node index) s) (fun t =>
      t = { s with mtr := t.mtr, motion := t.motion, regs := t.regs, saturated := t.saturated, faults := t.faults, log := t.log,
                   ring := { s.ring with fields := t.ring.fields } } ∧
      ∃ b, t.ring.fields.getLast? = some { first := s.frame64 + 1, last := s.frame64 + 1, bytes := b } ∧ field 0 1 b = 2 ∧
        ((s.mtr.hold = true → field 12 1 b = 0) ∧
         (s.ringTxn (BitVec.ofNat 32 (field 4 4 f)) (BitVec.ofNat 16 (field 2 2 f)) = none → t = { s with ring := t.ring }) ∧
         (s.mtr.hold = false → s.ring.detached = false → s.ringTxn (BitVec.ofNat 32 (field 4 4 f)) (BitVec.ofNat 16 (field 2 2 f)) = none →
            field 12 1 b = 2) ∧
         (∀ x, s.ringTxn (BitVec.ofNat 32 (field 4 4 f)) (BitVec.ofNat 16 (field 2 2 f)) = some x →
            (x.state ≠ .open_ → field 12 1 b = 0 ∧ t = { s with ring := t.ring }) ∧
            (x.state = .open_ → x.orphan = false → (s.mtr.hold = true ∨ s.ring.detached = true ∨ 2 ≤ s.ringTxns ∨
                s.frameNear (field 8 4 f) ≤ s.frame64 + 2) →
              field 12 1 b = 0 ∧ (t.findTxn x.slot x.tag).map (fun y => (y.state, y.staged)) = some (.aborted, [])) ∧
            (x.state = .open_ → s.mtr.hold = false → s.ring.detached = false → s.ringTxns < 2 → s.frame64 + 2 < s.frameNear (field 8 4 f) → x.orphan = false →
              field 12 1 b = 1 ∧ (t.findTxn x.slot x.tag).map Txn.state = some .voting ∧ t.regs = s.regs ∧ t.log = s.log ∧
              t.motion = s.motion))))) ∧
  (∀ (slot : Fin 8) (tag : Half) (x : Txn) (s : State),
    s.mtr.txns.find? (fun t => t.slot = slot && t.tag = tag && t.coordinator && t.state = .voting) = some x → x.orphan = false →
    x.begunAt + 1 = s.frame64 →
    let ballot := fun (k : Fin 8) => if k = s.ring.addr then some 1 else voteIn s.ring.received[k] x
    let commit : Prop := x.decided ≠ some false ∧ (∀ k : Fin 8, x.participants.getLsbD k.val = true → ∃ v, ballot k = some v ∧ v ≠ 0) ∧
      ∃ k : Fin 8, x.participants.getLsbD k.val = true ∧ ballot k = some 1
    (commit → Answers (exec (.commitDecision slot tag) s) (fun t =>
      t = { s with mtr := { s.mtr with txns := t.mtr.txns }, ring := { s.ring with fields := t.ring.fields } } ∧
      ∃ y ∈ t.mtr.txns, y.slot = slot ∧ y.tag = tag ∧ y.state = .committing ∧ y.decided = some true ∧ y.staged = x.staged ∧
        ∀ k : Fin 8, y.participants.getLsbD k.val = (x.participants.getLsbD k.val && decide (ballot k = some 1)))) ∧
    (¬commit → Answers (exec (.commitDecision slot tag) s) (fun t =>
      (t.findTxn slot tag).map (fun y => (y.state, y.staged)) = some (.aborted, [])))) ∧
  (∀ (node : Fin 8) (index : Fin 2) (f : List Byte) (x : Txn) (c : Long) (s : State), s.fieldFrom node index = some f → field 0 1 f = 3 →
    s.ringTxn (BitVec.ofNat 32 (field 4 4 f)) (BitVec.ofNat 16 (field 2 2 f)) = some x → x.state = .voting → x.coordinator = false →
    x.orphan = false → field 1 1 f = x.coordNode.toNat → x.commit = some c →
    (c ≤ s.frame64 + 1 → exec (.decisionReceived node index) s = .next s) ∧
    (s.frame64 + 1 < c →
      Answers (exec (.decisionReceived node index) s) (fun t =>
        (t.findTxn x.slot x.tag).map Txn.state = some (if field 12 1 f = 1 then .committing else .aborted) ∧
        ∃ b, t.ring.fields.getLast? = some { first := s.frame64 + 1, last := c - 1, bytes := b } ∧ field 0 1 b = 4)))


/-! ### Motion requests -/

/-- A request with TAG ≠ 0 of an opcode that R90 lets a transaction stage changes, whatever it is answered, no parameter in force, no
memory, no block and no session: of an axis at most its reserved slots, its next move ID and OBSTRUCTION. It waits in its
transaction, or is refused.
A staged entry: the request enters its OPEN transaction, which counts it, when no other live transaction claims its resources and
the limits of Table 4.5 and the queue slots allow it; another claim gives TXN_CONFLICT, a transaction that is no longer open the
status of R95 or R98 (ALREADY_DONE when steps 4 and 5 of this tick ended it), and the transaction stays as it was. Shown on LATCH_ARM, QUARRY_ARM, GEAR_RELEASE and QUEUE_FLUSH. -/
def Obligations.StagingRules : Prop :=
   (∀ (c : Instr) (op : Nat) (r : Req) (row : OpRow) (s : State), requestOf c = some (op, r) → opRow op = some row →
      row.tag = .staged → r.tag ≠ 0 →
      Answers (exec c s) (fun t =>
        t = { s with mtr := { s.mtr with txns := t.mtr.txns },
                     motion := { s.motion with axes := t.motion.axes, nextGroupId := t.motion.nextGroupId }, cmd := t.cmd } ∧
        t.cmd = { s.cmd with awaiting := t.cmd.awaiting } ∧
        ∀ a : Fin 16, t.ax a =
          { s.ax a with reserved := (t.ax a).reserved, nextId := (t.ax a).nextId, obstruction := (t.ax a).obstruction })) ∧
   (∀ (c : Instr) (op : Nat) (r : Req) (k : Fin 8) (x : Txn) (s : State), requestOf c = some (op, r) → s.admits op r k = true → r.tag ≠ 0 →
      (c = .latchArm r 0 0 0 ∧ (s.axisArg 0).isSome ∨ c = .quarryArm r 0 ∨ c = .gearRelease r 0 ∧ (s.axisArg 0).isSome ∨ c = .queueFlush r 0xFF) →
      s.findTxn k r.tag = some x →
      (x.doneAt = some s.frame64 → exec c s = .next (s.withReply (replyOf r k op Status.alreadyDone .bare))) ∧
      (∀ st, x.doneAt ≠ some s.frame64 → x.state.refusal = some st → exec c s = .next (s.withReply (replyOf r k op st .bare))) ∧
      (x.state = .open_ → x.doneAt ≠ some s.frame64 →
        (s.claimed (some x) (fun _ => true) (s.claims c) = true →
          exec c s = .next (s.withReply (replyOf r k op Status.txnConflict .bare))) ∧
        (s.claimed (some x) (fun _ => true) (s.claims c) = false →
          (256 ≤ x.entries → exec c s = .next (s.withReply (replyOf r k op Status.txnLimit .bare))) ∧
          (x.entries < 256 → x.bytes + 4 ≤ 65536 →
            sumN (s.mtr.txns.map (fun u => if u.state.final then 0 else u.bytes)) + 4 ≤ 262144 →
            Answers (exec c s) (fun t =>
              t = { s with mtr := { s.mtr with txns := t.mtr.txns }, cmd := t.cmd } ∧
              t.findTxn k r.tag = some { x with staged := x.staged ++ [{ cmd := c, opcode := BitVec.ofNat 8 op }],
                                                bytes := x.bytes + 4, entries := x.entries + 1 })))))

/-- An accepted direct move enters the queue with the next move ID of its axis (R222 to R229, R233): MOVE_ABS with the 64-bit target
nearest the demand position whose low 32 bits equal the request's, MOVE_REL with its distance added to the target it follows when
there is one, MOVE_VEL with its velocity as target. -/
def Obligations.MovesEnterTheQueue : Prop :=
  ∀ (r : Req) (axis blend : Byte) (flags : Half) (a : Fin 16) (k : Fin 8) (s : State), s.axisArg axis = some a → s.mayMove a = true →
    flags.toNat < 2 → blend.toNat ≤ 2 → s.queueBad a (decide (flags = 1)) = false →
    (∀ (target : Word) (lim : Limits), s.direct 0x30 r k (.moveAbs r axis blend flags target lim) = true →
      s.limitBad a (s.askedV a lim) lim = false →
      s.entryBad a { positionMove .abs blend flags lim with
        target := some (resolve32 (s.ax a).demand.counts target.toInt), id := (s.ax a).nextId } = false →
      Answers (exec (.moveAbs r axis blend flags target lim) s) (fun t =>
        Queued s t a k r 0x30 (decide (flags = 1)) (fun m =>
          m.kind = .abs ∧ m.blend = blend.toNat ∧ m.v = lim.vmax.toNat ∧ m.a = lim.amax.toNat ∧ m.d = lim.dmax.toNat ∧ m.j = lim.jmax.toNat ∧
          ∃ u : Int, m.target = some u ∧ (u - target.toInt) % 2 ^ 32 = 0 ∧
            -(2 ^ 31) ≤ u - (s.ax a).demand.counts ∧ u - (s.ax a).demand.counts < 2 ^ 31))) ∧
    (∀ (distance : Word) (lim : Limits), s.direct 0x31 r k (.moveRel r axis blend flags distance lim) = true →
      s.limitBad a (s.askedV a lim) lim = false →
      s.entryBad a { positionMove .rel blend flags lim with relative := distance.toInt, id := (s.ax a).nextId } = false →
      Answers (exec (.moveRel r axis blend flags distance lim) s) (fun t =>
        Queued s t a k r 0x31 (decide (flags = 1)) (fun m =>
          m.kind = .rel ∧ m.blend = blend.toNat ∧ m.relative = distance.toInt ∧
          m.target = ((s.ax a).relBase (decide (flags = 1))).map (fun b => b + distance.toInt)))) ∧
    (∀ velocity amax dmax jmax : Word, s.direct 0x32 r k (.moveVel r axis blend flags velocity amax dmax jmax) = true →
      s.limitBad a velocity.toInt.natAbs { vmax := 0, amax := amax, dmax := dmax, jmax := jmax } = false →
      s.beyondSide a * velocity.toInt ≤ 0 →
      Answers (exec (.moveVel r axis blend flags velocity amax dmax jmax) s) (fun t =>
        Queued s t a k r 0x32 (decide (flags = 1)) (fun m =>
          m.kind = .vel ∧ m.target = some velocity.toInt ∧ m.a = amax.toNat ∧ m.d = dmax.toNat ∧ m.j = jmax.toNat)))

/-- The checks of Table 10.2 on a direct axis move, in their order: a reserved flag or a blend above 2, an axis DISABLED, an axis in a stop
or with a fault of class STOP or higher, an axis geared, following or homing, and the queue. Nothing is queued. -/
def Obligations.MoveChecks : Prop :=
  ∀ (r : Req) (axis blend : Byte) (flags : Half) (x y z w : Word) (lim : Limits) (k : Fin 8) (s : State) (c : Instr) (op : Nat),
    (c = .moveAbs r axis blend flags x lim ∧ op = 0x30) ∨ (c = .moveRel r axis blend flags x lim ∧ op = 0x31) ∨
      (c = .moveVel r axis blend flags x y z w ∧ op = 0x32) →
    s.admits op r k = true → r.tag = 0 →
    (s.axisArg axis = none → exec c s = .next (s.withReply (replyOf r k op Status.badParameter .bare))) ∧
    (∀ a : Fin 16, s.axisArg axis = some a →
      (2 ≤ flags.toNat ∨ 2 < blend.toNat → exec c s = .next (s.withReply (replyOf r k op Status.badParameter .bare))) ∧
      (flags.toNat < 2 → blend.toNat ≤ 2 →
        ((s.ax a).state = .disabled → exec c s = .next (s.withReply (replyOf r k op Status.axisDisabled .bare))) ∧
        ((s.ax a).state = .stopping ∨ (s.ax a).state = .fault ∨ (s.ax a).state = .shorted ∨ (s.ax a).state = .coasting ∨
            (s.ax a).state = .sto ∨ ((s.ax a).state ≠ .disabled ∧ s.stopFault a = true) →
          exec c s = .next (s.withReply (replyOf r k op Status.faultLatched .bare))) ∧
        (((s.ax a).state = .enabling ∨ (s.ax a).state = .standstill ∨ (s.ax a).state = .moving) → s.stopFault a = false →
          ((s.ax a).gear.isSome ∨ (s.ax a).follow.isSome ∨ (s.ax a).homing.isSome →
            exec c s = .next (s.withReply (replyOf r k op Status.busy .bare))) ∧
          (s.mayMove a = true → op ≠ 0x32 → s.limitBad a (s.askedV a lim) lim = true ∨ s.unhomed a = true →
            exec c s = .next (s.withReply (replyOf r k op Status.outOfRange .bare))))))

/-- MOVE_GROUP queues one entry on each listed axis under one group ID and makes the group waiting; a group number already in use is
BUSY (R255). QUEUE_FLUSH removes the entries behind the move in progress and answers their number (R236). -/
def Obligations.GroupsAndFlush : Prop :=
  (∀ (r : Req) (g : Fin 8) (lim : Limits) (flags : Half) (members : List GroupTarget) (axes : List (Fin 16)) (k : Fin 8) (s : State),
    let c : Instr := .moveGroup r (BitVec.ofNat 8 g.val) 0 flags lim members
    s.direct 0x33 r k c = true → 1 ≤ members.length → members.length ≤ 16 → flags.toNat < 8 →
    members.map (fun m => s.axisArg m.axis) = axes.map some → axes.Nodup → (∀ a ∈ axes, s.mayMove a = true) →
    (s.motion.groups[g] ≠ none → exec c s = .next (s.withReply (replyOf r k 0x33 Status.busy .bare))) ∧
    (s.motion.groups[g] = none →
      (∀ e ∈ s.groupEntries g flags lim members, s.memberBad flags lim [] e.1 e.2 = false) →
      (∀ a ∈ axes, s.queueBad a (decide (flags.toNat % 2 = 1)) = false) →
      Answers (exec c s) (fun t =>
        t = { s with motion := { s.motion with axes := t.motion.axes, groups := t.motion.groups, nextGroupId := nextMoveId s.motion.nextGroupId },
                     log := t.log, cmd := (s.withReply (replyOf r k 0x33 Status.ok (.bytes (leBytes 4 (2147483648 + s.motion.nextGroupId))))).cmd } ∧
        t.motion.groups[g] = some { id := 2147483648 + s.motion.nextGroupId, members := axes,
                                    fixedTime := if flags.toNat.testBit 1 then some lim.vmax.toNat else none,
                                    ringCoupled := flags.toNat.testBit 2 } ∧
        (∀ a : Fin 16, a ∉ axes → t.ax a = s.ax a) ∧
        ∀ a ∈ axes, ∃ (m : Move) (q : List Move), (t.ax a).queue = q ++ [m] ∧ m.kind = .group ∧ m.group = some g ∧
          m.id = 2147483648 + s.motion.nextGroupId ∧ q.length = (if flags.toNat % 2 = 1 then 0 else (s.ax a).queue.length)))) ∧
  (∀ (r : Req) (axis : Byte) (axes : List (Fin 16)) (k : Fin 8) (s : State), s.direct 0x34 r k (.queueFlush r axis) = true →
    s.axesArg axis = some axes →
    Answers (exec (.queueFlush r axis) s) (fun t =>
      t = { s with motion := { s.motion with axes := t.motion.axes, groups := t.motion.groups }, log := t.log, cmd := t.cmd } ∧
      (∀ a : Fin 16, t.ax a = { s.ax a with queue := (t.ax a).queue }) ∧
      (∀ a : Fin 16, a ∉ axes → (t.ax a).queue = (s.ax a).queue) ∧
      (∀ a ∈ axes, (t.ax a).queue = ((s.ax a).queue.take 1).map (fun m => { m with passed := false })) ∧
      ∃ n : Nat, t.cmd = (s.withReply (replyOf r k 0x34 Status.ok (.bytes [BitVec.ofNat 8 n, 0, 0, 0]))).cmd ∧
        n + sumN (axes.map (fun a => (t.ax a).queue.length)) = sumN (axes.map (fun a => (s.ax a).queue.length))))

/-- AXIS_ABORT empties the queue of its axes, ends homing and following, and decelerates with the limits of its kind; of a geared slave it
acts on the master. A stop that a reaction began keeps its deceleration (R236, R12). When the only move of every named axis
completed at this tick it replies ALREADY_DONE (R84). -/
def Obligations.AxisAbort : Prop :=
  ∀ (r : Req) (axis kind : Byte) (axes : List (Fin 16)) (k : Fin 8) (s : State), s.admits 0x35 r k = true → s.axesArg axis = some axes →
    (2 ≤ kind.toNat → exec (.axisAbort r axis kind) s = .next (s.withReply (replyOf r k 0x35 Status.badParameter .bare))) ∧
    (kind.toNat < 2 → axes ≠ [] → axes.all s.justDone = true →
      exec (.axisAbort r axis kind) s = .next (s.withReply (replyOf r k 0x35 Status.alreadyDone .bare))) ∧
    (kind.toNat < 2 → (axes = [] ∨ axes.all s.justDone = false) →
      Answers (exec (.axisAbort r axis kind) s) (fun t =>
        t = { s with motion := { s.motion with axes := t.motion.axes, groups := t.motion.groups }, log := t.log,
                     cmd := (s.withReply (replyOf r k 0x35 Status.ok .bare)).cmd } ∧
        ∀ a : Fin 16,
          let on := (axes.map (fun b => match (s.ax b).gear with | some g => g.master | none => b)).contains a && !s.justDone a
          t.ax a = (if on then
              { s.ax a with queue := [], homing := none, follow := none, reversing := false, deferred := false,
                            stop := if (s.ax a).stop.isSome ∧ ((s.ax a).reaction = 4 ∨ ((s.ax a).reaction = 3 ∧ kind = 0)) then (s.ax a).stop
                                    else some (if kind = 1 then .hard else .profile) }
            else s.ax a)))

/-- Gearing, latches and step following on direct requests: GEAR_ENGAGE makes the slave follow its master from its present state, with
its catch-up term the difference to the geared position; GEAR_RELEASE ends it; LATCH_ARM arms the latch and clears its VALID;
STEP_FOLLOW follows its counter from the demand position of this tick and the count latched one tick before, so that the frame of the
execution adds its own pulses (R219); it is BUSY on an axis that follows already, and with its end flag it ends. Nothing else changes. -/
def Obligations.GearLatchFollow : Prop :=
  (∀ (r : Req) (master slave : Byte) (flags : Half) (ratio offset : Word) (m a : Fin 16) (k : Fin 8) (s : State),
    s.direct 0x36 r k (.gearEngage r master slave flags ratio offset) = true → s.axisArg master = some m → s.axisArg slave = some a →
    m ≠ a → flags.toNat < 2 → (s.ax a).gear = none → (s.ax m).gear = none →
    (∀ b : Fin 16, ∀ g, (s.ax b).gear = some g → g.master ≠ a) → ratio ≠ 0 → ratio.toInt.natAbs ≤ 262144 →
    ((s.ax m).state = .disabled ∨ (s.ax a).state = .disabled →
      exec (.gearEngage r master slave flags ratio offset) s = .next (s.withReply (replyOf r k 0x36 Status.axisDisabled .bare))) ∧
    ((s.ax m).state ≠ .disabled → (s.ax a).state ≠ .disabled → (s.ax a).queue = [] → (s.ax a).homing = none → (s.ax a).follow = none →
      Answers (exec (.gearEngage r master slave flags ratio offset) s) (fun t =>
        ∃ g, t = (s.onAx a (fun x => { x with gear := some g, stop := none })).withReply (replyOf r k 0x36 Status.ok .bare) ∧
          g.master = m ∧ g.ratio = ratio.toInt ∧ g.synced = false ∧
          (flags = 0 → g.offset = 65536 * offset.toInt) ∧ (flags = 1 → g.term.p = 0) ∧
          g.offset + rdiv (ratio.toInt * (s.ax m).demand.p) 65536 + g.term.p = (s.ax a).demand.p))) ∧
  (∀ (r : Req) (slave : Byte) (a : Fin 16) (k : Fin 8) (s : State), s.direct 0x37 r k (.gearRelease r slave) = true →
    s.axisArg slave = some a →
    ((s.ax a).gear ≠ none → exec (.gearRelease r slave) s =
      .next ((s.onAx a (fun x => { x with gear := none, releasedAt := some s.frame64 })).withReply (replyOf r k 0x37 Status.ok .bare))) ∧
    ((s.ax a).gear = none → exec (.gearRelease r slave) s = .next (s.withReply (replyOf r k 0x37 Status.alreadyDone .bare)))) ∧
  (∀ (r : Req) (axis source edge : Byte) (a : Fin 16) (k : Fin 8) (s : State), s.direct 0x38 r k (.latchArm r axis source edge) = true →
    s.axisArg axis = some a →
    (source.toNat < 32 ∨ source = 0x40 → edge.toNat ≤ 2 → exec (.latchArm r axis source edge) s =
      .next ((s.onAx a (fun x => { x with latch := some { source := source, edge := edge }, latchValid := false })).withReply
        (replyOf r k 0x38 Status.ok .bare))) ∧
    (¬(source.toNat < 32 ∨ source = 0x40) ∨ 2 < edge.toNat → exec (.latchArm r axis source edge) s =
      .next (s.withReply (replyOf r k 0x38 Status.badParameter .bare)))) ∧
  (∀ (r : Req) (axis counter : Byte) (flags : Half) (ratio : Word) (a : Fin 16) (n : Fin 8) (k : Fin 8) (s : State),
    s.direct 0x39 r k (.stepFollow r axis counter flags ratio) = true → 0x80 ≤ axis.toNat → s.axisArg axis = some a →
    counter.toNat = n.val → ratio ≠ 0 → ratio.toInt.natAbs ≤ 16777216 → ((s.axisChecks a).take 2).all (fun c => !c.1) = true →
    (s.ax a).gear = none → (s.ax a).homing = none → (s.ax a).queue = [] →
    (flags.toNat < 2 → (s.ax a).follow ≠ none → exec (.stepFollow r axis counter flags ratio) s =
      .next (s.withReply (replyOf r k 0x39 Status.busy .bare))) ∧
    (flags.toNat < 2 → (s.ax a).follow = none → exec (.stepFollow r axis counter flags ratio) s =
      .next ((s.onAx a (fun x => { x with
        stop := none
        follow := some { counter := n, ratio := ratio.toInt, invert := decide (flags = 1), origin := (s.ax a).demand.p
                         last := s.fio.countsBefore[n] } })).withReply (replyOf r k 0x39 Status.ok .bare))) ∧
    (2 ≤ flags.toNat → flags.toNat < 4 → (s.ax a).follow ≠ none → exec (.stepFollow r axis counter flags ratio) s =
      .next ((s.onAx a (fun x => { x with follow := none, stop := some .profile })).withReply (replyOf r k 0x39 Status.ok .bare))))


/-! ### Enabling, disabling, homing and clearing -/

/-- AXIS_ENABLE: an axis that is enabled already gives ALREADY_DONE (the model's reading, notes/assumptions/12), a safety channel that does
not permit torque SAFETY_INHIBIT, a switch test BUSY (R314), a latched fault FAULT_LATCHED; else, with VBUS and saliency sufficient, the
axis is ENABLING with every bay in calibration and its half-bridges OFF until the next frame (R188), and nothing but its COM_SALIENCY fault is cleared (R188, R213). AXIS_DISABLE and AXIS_SHORT_BRAKE empty
the queue, end homing and following, and leave the axis DISABLED or SHORTED, an axis in STO in STO; AXIS_DISABLE also ends gearing
with the axis as master or slave (R254). The first is shown on one axis, the others on every axis that the axis byte names. -/
def Obligations.EnableDisableBrake : Prop :=
  (∀ (r : Req) (axis : Byte) (a : Fin 16) (k : Fin 8) (s : State), s.direct 0x40 r k (.axisEnable r axis) = true → s.axisArg axis = some a →
    ((s.ax a).state.running = true → exec (.axisEnable r axis) s = .next (s.withReply (replyOf r k 0x40 Status.alreadyDone .bare))) ∧
    ((s.ax a).state.running = false → (s.ring.joined = true → s.ring.lockedOnce = true) → s.saf.word = .testing ∨ s.saf.state = .testing →
        exec (.axisEnable r axis) s = .next (s.withReply (replyOf r k 0x40 Status.busy .bare))) ∧
    ((s.ax a).state.running = false → (s.ring.joined = true → s.ring.lockedOnce = true) → s.saf.word ≠ .testing → s.saf.state ≠ .testing →
      (s.saf.word ≠ .runPermitted ∨ s.saf.graceExpired = true →
        exec (.axisEnable r axis) s = .next (s.withReply (replyOf r k 0x40 Status.safetyInhibit .bare))) ∧
      (s.saf.word = .runPermitted → s.saf.graceExpired = false →
        (s.stopFault a = true ∨ (s.baysOfAxis a).any s.bayForced = true →
          exec (.axisEnable r axis) s = .next (s.withReply (replyOf r k 0x40 Status.faultLatched .bare))) ∧
        (s.stopFault a = false → (s.baysOfAxis a).any s.bayForced = false → s.isActive 0x0505 255 = false → s.saliencyBad a = false →
          s.vbusLow a = false →
          Answers (exec (.axisEnable r axis) s) (fun t =>
            t = { s with motion := { s.motion with axes := t.motion.axes }, pwm := { s.pwm with bays := t.pwm.bays, hbs := t.pwm.hbs }, faults := t.faults,
                         log := t.log, cmd := (s.withReply (replyOf r k 0x40 Status.ok .bare)).cmd } ∧
            (t.ax a).state = .enabling ∧ (t.ax a).queue = (s.ax a).queue ∧ (t.ax a).demand = (s.ax a).demand ∧
            (t.ax a).enabling = some { step := .calibrate, since := s.frame64 } ∧
            (∀ b : Fin 16, b ≠ a → t.ax b = s.ax b) ∧
            (∀ b : Fin 16, (t.bay b).calibrating = ((s.baysOfAxis a).contains b || (s.bay b).calibrating)) ∧
            (∀ h : Fin 48, t.hb h = (if (s.baysOfAxis a).contains (bayOfHb h) then
                { s.hb h with release := if s.freeW h then .no else .untilFrame (s.frame64 + 1) } else s.hb h)) ∧
            t.faults = s.faults.filter (fun f => !(f.code = 0x060B && f.inst = a.val))))))) ∧
  (∀ (r : Req) (axis : Byte) (axes : List (Fin 16)) (k : Fin 8) (s : State), s.axesArg axis = some axes →
    (s.admits 0x41 r k = true →
      (axes.all (fun a => (s.ax a).state = .disabled) = true →
        exec (.axisDisable r axis) s = .next (s.withReply (replyOf r k 0x41 Status.alreadyDone .bare))) ∧
      (axes.all (fun a => (s.ax a).state = .disabled) = false →
        Answers (exec (.axisDisable r axis) s) (fun t =>
          t = { s with motion := { s.motion with axes := t.motion.axes, groups := t.motion.groups }, log := t.log,
                       cmd := (s.withReply (replyOf r k 0x41 Status.ok .bare)).cmd } ∧
          (∀ a ∈ axes, (t.ax a).queue = [] ∧ (t.ax a).homing = none ∧ (t.ax a).gear = none ∧
            (s.quickHeld a = false → (t.ax a).state = (if (s.ax a).state = .sto then .sto else .disabled) ∧ (t.ax a).follow = none ∧
              (t.ax a).stop = none ∧ (t.ax a).enabling = none) ∧
            (s.quickHeld a = true → (t.ax a).state = .shorted) ∧
            (t.ax a).homed = ((s.ax a).homed && s.keepsHome a)) ∧
          (∀ b : Fin 16, b ∉ axes → t.ax b = { s.ax b with gear := (t.ax b).gear, releasedAt :=
            if (t.ax b).gear = (s.ax b).gear then (s.ax b).releasedAt else some s.frame64 }) ∧
          (∀ b : Fin 16, ∀ g, (t.ax b).gear = some g → (s.ax b).gear = some g ∧ g.master ∉ axes)))) ∧
    (s.admits 0x42 r k = true →
      (axes.all (fun a => (s.ax a).state = .shorted) = true →
        exec (.axisShortBrake r axis) s = .next (s.withReply (replyOf r k 0x42 Status.alreadyDone .bare))) ∧
      (axes.all (fun a => (s.ax a).state = .shorted) = false → s.saf.state = .testing →
        exec (.axisShortBrake r axis) s = .next (s.withReply (replyOf r k 0x42 Status.busy .bare))) ∧
      (axes.all (fun a => (s.ax a).state = .shorted) = false → s.saf.state ≠ .testing →
        Answers (exec (.axisShortBrake r axis) s) (fun t =>
          t = { s with motion := { s.motion with axes := t.motion.axes, groups := t.motion.groups }, log := t.log,
                       cmd := (s.withReply (replyOf r k 0x42 Status.ok .bare)).cmd } ∧
          (∀ a ∈ axes, (t.ax a).queue = [] ∧ (t.ax a).homing = none ∧ (t.ax a).gear = (s.ax a).gear ∧ (t.ax a).homed = (s.ax a).homed ∧
            (t.ax a).state = (if (s.ax a).state = .sto then .sto else .shorted)) ∧
          (∀ b : Fin 16, b ∉ axes → t.ax b = s.ax b)))))

/-- AXIS_HOME begins homing and replies ACCEPTED_PENDING; method 2 (HERE) takes the present position as home at once, shifting the demand by
the same distance (R244, R246). HOME_FOUND does the same at the captured edge or at the stop; PRF_HOME_FAIL ends a run that took
too long, with its fault and the request's completion. -/
def Obligations.HomingRules : Prop :=
  (∀ (r : Req) (axis method : Byte) (flags : Half) (velocity : Word) (force : Half) (a : Fin 16) (k : Fin 8) (s : State),
    s.admits 0x43 r k = true → s.axisArg axis = some a → method.toNat ≤ 2 → flags.toNat < 2 →
    (method = 0 → signI velocity.toInt = s.closeSign a ∧ s.stepperAt a = false) →
    ((s.ax a).state = .enabling ∨ (s.ax a).state = .standstill ∨ (s.ax a).state = .moving) → s.stopFault a = false →
    (s.ax a).queue = [] → (s.ax a).gear = none → (∀ b : Fin 16, ∀ g, (s.ax b).gear = some g → g.master ≠ a) → (s.ax a).follow = none →
    (s.ax a).homing = none → (method = 2 → (s.ax a).state = .standstill) →
    (s.par 0x090E a.val < velocity.toInt.natAbs →
      exec (.axisHome r axis method flags velocity force) s = .next (s.withReply (replyOf r k 0x43 Status.outOfRange .bare))) ∧
    ((velocity.toInt.natAbs : Int) ≤ s.par 0x090E a.val → force = 0 ∨ (10 ≤ force.toInt ∧ force.toInt ≤ 10000) →
      Answers (exec (.axisHome r axis method flags velocity force) s) (fun t =>
        t = { s with motion := { s.motion with axes := t.motion.axes }, faults := t.faults, log := t.log,
                     cmd := (s.withReply (replyOf r k 0x43 Status.pending .bare)).cmd } ∧
        (∀ b : Fin 16, b ≠ a → t.ax b = s.ax b) ∧ t.isActive 0x0906 a.val = false ∧
        ∃ h, (t.ax a).homing = some h ∧ h.method = method.toNat ∧ h.velocity = velocity.toInt ∧ h.since = s.frame64 ∧ h.slot = some k ∧
          h.seq = r.seq ∧ h.force = (if force = 0 then s.par 0x0911 a.val else force.toInt) ∧ h.found = decide (method = 2) ∧
          (method ≠ 2 → t.ax a = { s.ax a with homing := some h, stop := none } ∧ h.backoff = decide (flags = 0)) ∧
          (method = 2 → (t.ax a).homed = true ∧ (t.ax a).measured = s.par 0x0910 a.val ∧
            (t.ax a).demand.p = (s.ax a).demand.p + (s.par 0x0910 a.val - (s.ax a).measured) * 65536)))) ∧
  (∀ (a : Fin 16) (h : Homing) (s : State), (s.ax a).homing = some h → h.found = false →
    (∀ point : Int, (h.method = 1 ∧ h.captured = some point) ∨
        (h.method = 0 ∧ s.parN 0x0913 a.val ≤ h.still ∧ point = (s.ax a).measured) →
      Answers (exec (.homeFound a) s) (fun t =>
        t = { s with motion := { s.motion with axes := t.motion.axes }, log := t.log } ∧
        (∀ b : Fin 16, b ≠ a → t.ax b = s.ax b) ∧ (t.ax a).homed = true ∧
        (t.ax a).measured = (s.ax a).measured + (s.par 0x0910 a.val - point) ∧
        (t.ax a).demand.p = (s.ax a).demand.p + (s.par 0x0910 a.val - point) * 65536 ∧
        (t.ax a).demand.v = (s.ax a).demand.v ∧ (t.ax a).homing.map Homing.found = some true)) ∧
    (h.method = 0 → h.still < s.parN 0x0913 a.val → exec (.homeFound a) s = .next s) ∧
    (s.parN 0x0915 a.val ≤ (s.frame64 - h.since).toNat →
      Answers (exec (.prfHomeFail a) s) (fun t =>
        t = { s with motion := { s.motion with axes := t.motion.axes }, faults := t.faults, log := t.log } ∧
        t.ax a = { s.ax a with homing := none, stop := some .profile } ∧ (∀ b : Fin 16, b ≠ a → t.ax b = s.ax b) ∧
        t.isActive 0x0906 a.val = true)) ∧
    ((s.frame64 - h.since).toNat < s.parN 0x0915 a.val → exec (.prfHomeFail a) s = .next s))

/-- FAULT_CLEAR (R501): a code that no table lists, or an instance the fault cannot carry, gives BAD_PARAMETER; a fault that is not active
gives ALREADY_DONE and changes nothing; a fault that FAULT_CLEAR does not clear counts as still set and gives FAULT_LATCHED,
changing nothing; a fault whose entry names FAULT_CLEAR is cleared when its live condition allows, else it stays with one more
attempt. Naming SAFE_STO_ACTIVE acknowledges the demand (R308). -/
def Obligations.FaultClear : Prop :=
  ∀ (r : Req) (code : Half) (inst : Byte) (k : Fin 8) (s : State), s.admits 0x44 r k = true → code ≠ 0 →
    (FaultTable.find code.toNat = none →
      exec (.faultClear r code inst) s = .next (s.withReply (replyOf r k 0x44 Status.badParameter .bare))) ∧
    (∀ row, FaultTable.find code.toNat = some row →
      (s.carries row inst.toNat = false →
        exec (.faultClear r code inst) s = .next (s.withReply (replyOf r k 0x44 Status.badParameter .bare))) ∧
      (s.carries row inst.toNat = true → code ≠ 0x0C01 →
        (s.isActive code.toNat inst.toNat = false →
          exec (.faultClear r code inst) s = .next (s.withReply (replyOf r k 0x44 Status.alreadyDone (.bytes [0, 0, 0, 0])))) ∧
        (∀ f, s.faults.filter (fun f => f.code = code.toNat && f.inst = inst.toNat) = [f] →
          (row.clear ≠ .faultClear → code ≠ 0x1103 →
            exec (.faultClear r code inst) s = .next (s.withReply
              (replyOf r k 0x44 Status.faultLatched (.bytes ([0, 1] ++ leBytes 2 (s.clearAttempts row f)))))) ∧
          (row.clear = .faultClear → code ≠ 0x1103 → s.clearable code.toNat inst.toNat = true →
            Answers (exec (.faultClear r code inst) s) (fun t =>
              t.isActive code.toNat inst.toNat = false ∧ t.cmd = (s.withReply (replyOf r k 0x44 Status.ok (.bytes [1, 0, 0, 0]))).cmd)) ∧
          (row.clear = .faultClear → code ≠ 0x1103 → s.clearable code.toNat inst.toNat = false →
            Answers (exec (.faultClear r code inst) s) (fun t =>
              t = { s with regs := t.regs, saturated := t.saturated, faults := t.faults, log := t.log, free := s.free + 1, cmd := t.cmd } ∧
              t.isActive code.toNat inst.toNat = true ∧
              ∃ n : Nat, t.cmd = (s.withReply (replyOf r k 0x44 Status.faultLatched (.bytes ([0, 1] ++ leBytes 2 n)))).cmd)))) ∧
      (s.carries row inst.toNat = true → code = 0x0C01 →
        (s.saf.state ≠ .sto → exec (.faultClear r code inst) s =
          .next (s.withReply (replyOf r k 0x44 Status.alreadyDone (.bytes [0, 0, 0, 0])))) ∧
        (s.saf.state = .sto → s.saf.a = true → s.saf.b = true → s.safetyLatched = false → exec (.faultClear r code inst) s =
          .next (State.withReply { s with saf := { s.saf with acknowledged := true } }
            (replyOf r k 0x44 Status.ok (.bytes [1, 0, 0, 0])))) ∧
        (s.saf.state = .sto → (s.saf.a = false ∨ s.saf.b = false ∨ s.safetyLatched = true) → exec (.faultClear r code inst) s =
          .next (s.withReply (replyOf r k 0x44 Status.faultLatched (.bytes [0, 1, 0, 0]))))))


/-! ### The safety channel -/

/-- Every step keeps torque off while the channel denies it: in STO without a release under way and in LOCKED both switches are open
(Table 13.2). -/
def Obligations.EveryStepKeepsTorqueDenied : Prop :=
  ∀ s t : State, (s.torqueDenied = true → s.torqueOff = true) → step s = .next t → (t.torqueDenied = true → t.torqueOff = true)

/-- No request of a host closes a switch that the channel holds open in STO or LOCKED (R298); DIAG_SELFTEST may start the switch test,
which is the channel's own. -/
def Obligations.HostsCloseNoSwitch : Prop :=
  ∀ (c : Instr) (op : Nat) (r : Req) (s t : State), requestOf c = some (op, r) → op ≠ 0xC0 → s.torqueDenied = true → s.torqueOff = true →
    exec c s = .next t → t.torqueOff = true

/-- A demand on the safety inputs, and SAFETY_STOP_REQUEST: from RUN_PERMITTED SS1 with both timers started, or STO with both switches
open when SAF.SI_MODE is STO; from TESTING STO; a second demand in SS1 changes nothing but the levels; a request in SS1, STO,
LOCKED or BOOT replies ALREADY_DONE (Table 13.3, R305, R310 to R312; BOOT is the model's reading). SS1 and STO on demand are
reported as SAFE_STO_ACTIVE. -/
def Obligations.SafetyDemand : Prop :=
  (∀ (l : PairAB) (s : State),
    (l.a = true → l.b = true →
      exec (.siChange l) s = .next { s with saf := { s.saf with a := true, b := true } }) ∧
    (l.a = false ∨ l.b = false →
      (s.saf.state = .runPermitted → s.dev 0x0C00 = 1 → Answers (exec (.siChange l) s) (fun t =>
        t = { s with saf := t.saf, faults := t.faults, log := t.log, regs := t.regs, saturated := t.saturated } ∧ t.saf.state = .ss1 ∧ t.saf.cause = 1 ∧
        t.saf.hs = s.saf.hs ∧ t.saf.ls = true ∧ t.saf.plumbTimer = true ∧ t.saf.ss1At = s.saf.now ∧ t.isActive 0x0C01 255 = true ∧
        ∀ a : Fin 16, t.saf.est[a] = { s.saf.est[a] with start := s.saf.est[a].speed })) ∧
      (s.saf.state = .testing ∨ ((s.saf.state = .runPermitted ∨ s.saf.state = .ss1) ∧ s.dev 0x0C00 ≠ 1) →
        Answers (exec (.siChange l) s) (fun t =>
          t = { s with saf := t.saf, faults := t.faults, log := t.log, power := t.power } ∧ t.saf.state = .sto ∧ t.torqueOff = true ∧
          t.saf.a = l.a ∧ t.saf.b = l.b ∧ t.saf.cause = 1 ∧ t.isActive 0x0C01 255 = true)) ∧
      ((s.saf.state = .ss1 ∧ s.dev 0x0C00 = 1) ∨ s.saf.state = .boot ∨ s.saf.state = .locked → exec (.siChange l) s = .next { s with saf := { s.saf with
        a := l.a, b := l.b, bothLow := s.saf.bothLow || (!l.a && !l.b) } }) ∧
      (s.saf.state = .sto → exec (.siChange l) s = .next { s with saf := { s.saf with
        a := l.a, b := l.b, bothLow := s.saf.bothLow || (!l.a && !l.b), acknowledged := false, releasing := false, hs := false, ls := false } }))) ∧
  (∀ (r : Req) (scope : Byte) (k : Fin 8) (s : State), s.admits 0x91 r k = true →
    (scope ≠ 0 → exec (.safetyStopRequest r scope) s = .next (s.withReply (replyOf r k 0x91 Status.badParameter .bare))) ∧
    (scope = 0 →
      (s.saf.state = .runPermitted → Answers (exec (.safetyStopRequest r scope) s) (fun t =>
        t = { s with saf := t.saf, faults := t.faults, log := t.log, regs := t.regs, saturated := t.saturated
                     cmd := (s.withReply (replyOf r k 0x91 Status.ok .bare)).cmd } ∧
        t.saf.state = .ss1 ∧ t.saf.cause = 2 ∧ t.saf.plumbTimer = true ∧ t.isActive 0x0C01 255 = true)) ∧
      (s.saf.state = .testing → Answers (exec (.safetyStopRequest r scope) s) (fun t =>
        t.saf.state = .sto ∧ t.saf.cause = 2 ∧ t.torqueOff = true)) ∧
      (s.saf.state = .boot ∨ s.saf.state = .ss1 ∨ s.saf.state = .sto ∨ s.saf.state = .locked →
        exec (.safetyStopRequest r scope) s = .next (s.withReply (replyOf r k 0x91 Status.alreadyDone .bare)))))

/-- SS1 ends in STO with both switches open at standstill of every monitored axis, at the processor's timer or at Plumb's (R311). A scan
whose estimate exceeds the limit, or is overrange, raises SAFE_DECEL_VIOLATION and locks the channel (R310). -/
def Obligations.StopOneEnds : Prop :=
  (∀ s : State,
    (s.saf.state = .ss1 → Answers (exec .ss1TimerExpiry s) (fun t => t.saf.state = .sto ∧ t.torqueOff = true ∧ t.saf.cause = s.saf.cause ∧
      t = { s with saf := t.saf, log := t.log, power := t.power })) ∧
    (s.saf.state ≠ .ss1 → exec .ss1TimerExpiry s = .next s) ∧
    (s.saf.plumbTimer = false → exec .plumbSs1Expiry s = .next s) ∧
    (s.saf.plumbTimer = true → Answers (exec .plumbSs1Expiry s) (fun t => t.saf.hs = false ∧ t.saf.plumbTimer = false ∧
      (s.saf.state = .ss1 → t.saf.state = .sto ∧ t.saf.ls = false) ∧ (s.saf.state ≠ .ss1 → t.saf.state = s.saf.state)))) ∧
  (∀ (scan : ScanReport) (s : State), scan.crcOk = true →
    Answers (exec (.safetyScan scan) s) (fun t =>
      t = { s with saf := t.saf, faults := t.faults, log := t.log, regs := t.regs, free := t.free, power := t.power } ∧
      t.saf.now = scan.time ∧
      (∀ a : Fin 16, ¬(a ∈ s.monitored ∧ dieOf a = scan.die) → t.saf.est[a] = s.saf.est[a]) ∧
      (s.saf.state ≠ .ss1 → t.saf.state = s.saf.state ∧ t.saf.hs = s.saf.hs ∧ t.saf.ls = s.saf.ls) ∧
      (s.saf.state = .ss1 →
        ((∃ a ∈ s.monitored, t.overLimit a scan.time = true) → t.saf.state = .locked ∧ t.torqueOff = true ∧ t.isActive 0x0C03 255 = true) ∧
        ((∀ a ∈ s.monitored, t.overLimit a scan.time = false) →
          ((∀ a ∈ s.monitored, t.standstill a = true) → t.saf.state = .sto ∧ t.torqueOff = true) ∧
          ((∃ a ∈ s.monitored, t.standstill a = false) → t.saf.state = .ss1 ∧ t.saf.hs = s.saf.hs ∧ t.saf.ls = s.saf.ls)))))

/-- A safety fault with reaction STO opens both switches and leaves the channel in LOCKED, with its fault active (Table 13.3, Table 13.12):
the discrepancy of the inputs, the watchdog, a corrupted scan, a rail that a half has not removed, a failed switch test, and the
diagnostics of Table 13.8; the supply monitor holds the island in BOOT with both switches open. When its supply is back, the fault
is raised and the channel boots on the stored set: a failed self-test or an invalid set locks it, else the switch test of BOOT
waits for VGD. -/
def Obligations.SafetyFaultsLock : Prop :=
  ∀ (c : Instr) (code : Nat) (s : State), (s.saf.state = .locked → s.torqueOff = true) →
    ((c = .safeSiDiscrepancy ∧ code = 0x0C02 ∧ s.saf.a ≠ s.saf.b) ∨ (c = .safeWatchdog ∧ code = 0x0C09) ∨
      (∃ scan, c = .safetyScan scan ∧ scan.crcOk = false ∧ code = 0x0C0C) ∨
      (∃ a b, c = .safeStoFb a b ∧ code = 0x0C04 ∧ ¬(s.saf.hs = true ∧ s.saf.ls = true) ∧ ¬(a ≤ 5000 ∧ b ≤ 5000)) ∨
      (c = .safeTestFail ∧ code = 0x0C06 ∧ s.inTest = true) ∨
      (∃ a b, c = .switchTestStep a b false ∧ code = 0x0C06 ∧ s.inTest = true) ∨
      (∃ d, c = .safetyDiagnosticFail d ∧ d ≠ .supply ∧ code = diagnosticCode d) →
      Answers (exec c s) (fun t =>
        t = { s with saf := t.saf, faults := t.faults, log := t.log, power := t.power } ∧
        t.saf.state = .locked ∧ t.torqueOff = true ∧ t.isActive code 255 = true)) ∧
    (s.saf.a = s.saf.b → exec .safeSiDiscrepancy s = .next s) ∧
    (s.inTest = false → exec .safeTestFail s = .next s) ∧
    Answers (exec (.safetyDiagnosticFail .supply) s) (fun t => t.saf.state = .boot ∧ t.torqueOff = true ∧ t.saf.supplyLost = true) ∧
    (s.saf.supplyLost = true → Answers (exec (.islandSupplyRestored false) s) (fun t =>
      t.saf.state = .locked ∧ t.torqueOff = true ∧ t.isActive 0x0C0F 255 = true)) ∧
    (s.saf.supplyLost = true → (∀ x, s.activeSafety = some x → (s.safetySetStatus x.2.2).isSome = false) →
      Answers (exec (.islandSupplyRestored true) s) (fun t =>
        t = { s with saf := t.saf, faults := t.faults, log := t.log } ∧ t.isActive 0x0C0F 255 = true ∧ t.saf.supplyLost = false ∧
        t.saf.state = s.saf.state ∧ t.saf.bootTest = true ∧
        (s.saf.state = .boot → s.vgdPresent = true → s.power.mode ≠ .dormant → s.power.mode ≠ .keep →
          t.saf.ls = true ∧ t.saf.hs = s.saf.plumbCloses ∧ t.saf.testStep = 0) ∧
        (s.vgdPresent = false → t.saf.ls = s.saf.ls ∧ t.saf.hs = s.saf.hs))) ∧
    (∀ x, s.activeSafety = some x → s.saf.supplyLost = true → (s.safetySetStatus x.2.2).isSome = true →
      Answers (exec (.islandSupplyRestored true) s) (fun t =>
        t.saf.state = .locked ∧ t.torqueOff = true ∧ t.saf.setValid = false ∧ t.isActive 0x0C11 255 = true))

/-- Release from STO (R308): with both inputs energised and no safety fault latched, both switches close when SAF.RESTART is AUTOMATIC and
an input caused the STO, or once acknowledged, STO_HS only when no demand on STO_REQ holds it open (R302); the state becomes
RUN_PERMITTED when both comparators read PRESENT, at least 9.0 V (R301). A rail that is not PRESENT in time leads back to STO and
raises SAFE_RAIL_ABSENT; while torque is permitted it raises the fault alone. -/
def Obligations.TorqueRelease : Prop :=
  ∀ (a b : Nat) (s : State),
    (s.saf.state = .sto → s.saf.a = true → s.saf.b = true → s.safetyLatched = false →
      (s.saf.cause = 1 ∧ s.dev 0x0C02 = 0) ∨ s.saf.acknowledged = true →
      exec .stoRelease s = .next { s with saf := { s.saf with hs := s.saf.stoReqAt.isNone, ls := true, releasing := true, plumbOpen := false } }) ∧
    (s.saf.state ≠ .sto ∨ s.saf.a = false ∨ s.saf.b = false ∨ s.safetyLatched = true ∨
        (s.saf.acknowledged = false ∧ (s.saf.cause ≠ 1 ∨ s.dev 0x0C02 ≠ 0)) → exec .stoRelease s = .next s) ∧
    (9000 ≤ a → 9000 ≤ b → s.saf.releasing = true → Answers (exec (.railPresent a b) s) (fun t =>
      t = { s with saf := t.saf, faults := t.faults, log := t.log } ∧ t.saf.state = .runPermitted ∧ t.saf.hs = (s.saf.hs || s.saf.plumbCloses) ∧
      t.saf.ls = true ∧ t.saf.railA = .present ∧ t.saf.railB = .present ∧ t.saf.releasing = false ∧ t.isActive 0x0C05 255 = false)) ∧
    (9000 ≤ a → 9000 ≤ b → s.saf.releasing = false → Answers (exec (.railPresent a b) s) (fun t =>
      t.saf = { s.saf with railA := .present, railB := .present } ∧ t.isActive 0x0C05 255 = false)) ∧
    (¬(9000 ≤ a ∧ 9000 ≤ b) →
      exec (.railPresent a b) s = .next { s with saf := { s.saf with railA := railOf a, railB := railOf b } } ∧
      (s.saf.releasing = true → Answers (exec (.safeRailAbsent a b) s) (fun t =>
        t = { s with saf := t.saf, faults := t.faults, log := t.log } ∧ t.torqueOff = true ∧ t.saf.releasing = false ∧
        t.saf.state = s.saf.state ∧ t.isActive 0x0C05 255 = true)) ∧
      (s.saf.releasing = false → s.saf.hs = true → s.saf.ls = true → Answers (exec (.safeRailAbsent a b) s) (fun t =>
        t.saf = { s.saf with railA := railOf a, railB := railOf b } ∧ t.isActive 0x0C05 255 = true)))

/-- Plumb and the processor (R302, R303): a low interval of STO_REQ longer than 15.0 µs opens STO_HS, one of 5.0 to 15.0 µs starts Plumb's
timer, a shorter one is reported; a valid heartbeat that permits torque closes STO_HS again 20 frames after the demand in a state
that permits it, unless Plumb's SS1 timer holds it open; an invalid one does nothing; the state word and its cause pass to the lanes.
The switch test (Table 13.6): it starts from RUN_PERMITTED when it is due and every axis has dwelt; the steps open STO_LS, close it,
open STO_HS and close it on their readings, the third only with both inputs energised in TESTING; the last PRESENT passes it, with
SAF.TEST_AGE back at 0 (R313, R316). From LOCKED the host may run it when SAFE_TEST_FAIL alone is latched (R316). The age beyond
SAF.TEST_INTERVAL raises SAFE_TEST_OVERDUE, and beyond the grace SAFE_TEST_GRACE (R317).
DIAG_SELFTEST (R316, R454) names one to three tests; the tests other than the switch test wait in bit order, and the last one that
passes, or the first that fails, completes the request. -/
def Obligations.PlumbAndSelfTests : Prop :=
   ((∀ (n : Nat) (beat : Heartbeat) (s : State),
      (150 < n → exec (.stoReqPulse n) s = .next { s with saf := { s.saf with hs := false, stoReqAt := some s.frame64 } }) ∧
      (50 ≤ n → n ≤ 150 → exec (.stoReqPulse n) s = .next { s with saf := { s.saf with plumbTimer := true } }) ∧
      (n < 50 → exec (.stoReqPulse n) s = .next { s with saf := { s.saf with reportedShort := true } }) ∧
      (beat.valid = false → exec (.heartbeat beat) s = .next s) ∧
      (beat.valid = true → s.saf.stoReqAt = none → exec (.heartbeat beat) s =
        .next { s with saf := { s.saf with reportedShort := false, beat := some beat } }) ∧
      (∀ f, beat.valid = true → s.saf.stoReqAt = some f →
        (beat.permits = true → 20 ≤ (s.frame64 - f).toNat → Answers (exec (.heartbeat beat) s) (fun t =>
          t = { s with saf := { s.saf with reportedShort := false, beat := some beat, stoReqAt := none, hs := t.saf.hs } } ∧
          (t.saf.hs = true ↔ s.saf.plumbOpen = false ∧ (s.saf.state = .runPermitted ∨ s.saf.state = .ss1 ∨ s.saf.state = .testing ∨
            (s.saf.state = .sto ∧ s.saf.releasing = true))))) ∧
        (beat.permits = false ∨ (s.frame64 - f).toNat < 20 →
          exec (.heartbeat beat) s = .next { s with saf := { s.saf with reportedShort := false, beat := some beat } })) ∧
      exec .safetyStateWord s = .next { s with saf := { s.saf with word := s.saf.state, wordCause := s.saf.cause } }) ∧
    (∀ s : State,
      (¬(s.saf.state = .runPermitted ∧ s.testDue = true ∧ s.dwell = true) → exec .switchTestStart s = .next s) ∧
      (s.saf.state = .runPermitted → s.testDue = true → s.dwell = true → Answers (exec .switchTestStart s) (fun t =>
        t = { s with saf := t.saf, log := t.log } ∧ t.saf.state = .testing ∧ t.saf.hs = (s.saf.hs || s.saf.plumbCloses) ∧
        t.saf.ls = decide (¬(s.saf.railA = .present ∧ s.saf.railB = .present)) ∧
        t.saf.testStep = (if s.saf.railA = .present ∧ s.saf.railB = .present then 1 else 0))) ∧
      (s.inTest = false → ∀ a b inTime, exec (.switchTestStep a b inTime) s =
        .next { s with saf := { s.saf with railA := railOf a, railB := railOf b } }) ∧
      (∀ a b : Nat, s.inTest = true → 9000 ≤ a → 9000 ≤ b →
        (s.saf.testStep = 0 → exec (.switchTestStep a b true) s =
          .next { s with saf := { s.saf with railA := .present, railB := .present, ls := false, testStep := 1 } }) ∧
        (s.saf.testStep = 3 → s.saf.state = .boot ∨ (s.saf.a = true ∧ s.saf.b = true) → exec (.switchTestStep a b true) s =
          .next { s with saf := { s.saf with railA := .present, railB := .present, hs := false, testStep := 5 } }) ∧
        (s.saf.testStep = 3 → s.saf.state = .testing → s.saf.a = false ∨ s.saf.b = false →
          Answers (exec (.switchTestStep a b true) s) (fun t => t.saf.state = .sto ∧ t.torqueOff = true)) ∧
        (s.saf.testStep = 7 → s.saf.state = .testing → s.canonical = true → Answers (exec (.switchTestStep a b true) s) (fun t =>
          t.dev 0x0C33 = 0 ∧ t.saf.overdue = false ∧ t.saf.graceExpired = false ∧ t.isActive 0x0C06 255 = false ∧
          (t.safetyLatched = true → t.saf.state = .locked) ∧
          (t.safetyLatched = false →
            t.saf.state = (if s.isActive 0x0C06 255 then .sto else if s.saf.a && s.saf.b then .runPermitted else .sto))))) ∧
      (∀ a b : Nat, s.inTest = true → a ≤ 5000 → b ≤ 5000 →
        (s.saf.testStep = 1 → exec (.switchTestStep a b true) s =
          .next { s with saf := { s.saf with railA := .removed, railB := .removed, ls := true, testStep := 3 } }) ∧
        (s.saf.testStep = 5 → exec (.switchTestStep a b true) s =
          .next { s with saf := { s.saf with railA := .removed, railB := .removed, hs := s.saf.plumbCloses, testStep := 7 } })) ∧
      (s.devN 0x0C33 ≤ s.devN 0x0C08 → exec .safeTestOverdue s = .next s) ∧
      (s.devN 0x0C08 < s.devN 0x0C33 → Answers (exec .safeTestOverdue s) (fun t =>
        t = { s with saf := { s.saf with overdue := true }, faults := t.faults, log := t.log } ∧ t.isActive 0x0C07 255 = true)) ∧
      (s.devN 0x0C33 ≤ s.devN 0x0C08 + s.devN 0x0C09 → exec .safeTestGrace s = .next s) ∧
      (s.devN 0x0C08 + s.devN 0x0C09 < s.devN 0x0C33 → Answers (exec .safeTestGrace s) (fun t =>
        t = { s with saf := { s.saf with graceExpired := true }, faults := t.faults, log := t.log } ∧ t.isActive 0x0C08 255 = true)))) ∧
   ((∀ (r : Req) (k : Fin 8) (tests : Word) (s : State), s.admits 0xC0 r k = true →
      (tests = 0 ∨ 8 ≤ tests.toNat → exec (.diagSelftest r tests) s = .next (s.withReply (replyOf r k 0xC0 Status.badParameter .bare))) ∧
      (1 ≤ tests.toNat → tests.toNat ≤ 7 →
        ((tests.toNat.testBit 1 = true ∧ s.anyEnabled = true) ∨ (tests.toNat.testBit 0 = true ∧ s.saf.state ≠ .locked ∧ s.allDisabled = false) ∨
            s.power.selftests.isSome = true ∨ s.saf.testByHost.isSome = true →
          exec (.diagSelftest r tests) s = .next (s.withReply (replyOf r k 0xC0 Status.busy .bare))) ∧
        (tests.toNat.testBit 0 = false → (tests.toNat.testBit 1 = true → s.anyEnabled = false) → s.power.selftests = none → s.saf.testByHost = none →
          exec (.diagSelftest r tests) s = .next (State.withReply
            { s with power := { s.power with selftests := some (tests.toNat, some k, r.seq) } } (replyOf r k 0xC0 Status.pending .bare))) ∧
        (tests.toNat.testBit 0 = true → s.allDisabled = true → s.anyEnabled = false → s.power.selftests = none → s.saf.testByHost = none →
            s.saf.state = .runPermitted → Answers (exec (.diagSelftest r tests) s) (fun t =>
          t.saf.testByHost = some (some k, r.seq) ∧ t.saf.state = .testing ∧ t.cmd = (s.withReply (replyOf r k 0xC0 Status.pending .bare)).cmd ∧
          t.power.selftests = (if tests = 1 then none else some (tests.toNat - 1, some k, r.seq)))) ∧
        (tests = 1 → s.saf.state = .locked → s.isActive 0x0C06 255 = true → s.power.selftests = none → s.saf.testByHost = none →
            (∀ a ∈ s.presentAxes, (s.ax a).state = .disabled ∨ (s.ax a).state = .sto) →
            (∀ f ∈ s.faults, f.code / 256 = 0x0C → f.rank = 7 → f.code = 0x0C06) → Answers (exec (.diagSelftest r tests) s) (fun t =>
          t.saf.testByHost = some (some k, r.seq) ∧ t.saf.state = .testing)))) ∧
    (∀ (test : Nat) (passed : Bool) (s : State),
      (s.power.selftests = none → exec (.selftestComplete test passed) s = .next s) ∧
      (∀ m slot seq, s.power.selftests = some (m, slot, seq) → s.saf.testByHost = none → test = (if m.testBit 1 then 1 else 2) →
        (passed = true → m - 2 ^ test ≠ 0 → exec (.selftestComplete test passed) s = .next { s with
          power := { s.power with selftests := some (m - 2 ^ test, slot, seq) } }) ∧
        (passed = false ∨ m - 2 ^ test = 0 → Answers (exec (.selftestComplete test passed) s) (fun t =>
          t = { s with power := { s.power with selftests := none }, log := t.log } ∧
          ∃ e, t.log = { s.log with fresh := s.log.fresh ++ [e] } ∧ e.code = 0x0280 ∧ e.extra = seq.toNat ∧
            e.detail = (if passed then Status.ok else Status.faultLatched))))))
/-! ### The enable sequence -/

/-- The enable sequence of Table 8.5 and R213: each of its eight commands completes with its effect on an axis whose sequence stands at the
step that the command ends, and changes nothing anywhere else.
DIODE_TEST, from the second frame of its step: within the limits it leads to acquisition, beyond them to the winding short with one
more failure and, at the last, COM_CATCH_FAIL on an axis that is no stepper (R189). CATCH_BRAKE_END ends the short after its time, or
instead, on an axis with feedback, once the back-EMF is below 70% of VBUS (R189, R213). INJECTION_CONVERGED ends injection after 20
frames in its band, within 400 frames, and COM_INJ_CONVERGE gives it up after them (R182). POLARITY_TEST_END decides after 12 frames, is
repeated while it is undecided, and ends the enabling with COM_POLARITY at the third (R182). DC_ALIGN_END comes after 400 frames and
leaves angle 0 (R186). STEPPER_ENERGISE energises a stepper pair at its demand (R213 step 4).
ACQUISITION_DECISION (R186, R190): without feedback, after COM.CS_ACQ frames, a back-EMF at the voltage limit leads back to the short, a
speed below the hand-over share to injection, and any other speed starts the loops at the estimated angle and speed, the axis
marked as caught with the sign of the speed. An encoder not yet aligned leads to its procedure; every other feedback starts the loops. An
axis that has started stands still, or stops while a fault of class STOP is latched on it (the model's reading, notes/assumptions/13). -/
def Obligations.EnableSequence : Prop :=
   (∀ (a : Fin 16) (e : Enabling) (s : State), (s.ax a).enabling = some e → e.step = .diode → 2 ≤ (s.frame64 - e.since).toNat →
      ((∀ b ∈ s.baysOfAxis a, (s.bay b).offsetInternal = false ∧
          ((s.microamps b (s.bay b).sample0).natAbs : Int) ≤ (s.diodeLimits a).1 * 1000 ∧
          ((s.microamps b (s.bay b).sample1).natAbs : Int) ≤ (s.diodeLimits a).1 * 1000) →
        Answers (exec (.diodeTest a) s) (fun t => OnAxis s t a ∧
          t.ax a = { s.ax a with enabling := some { e with step := .acquire, since := s.frame64 } })) ∧
      ((∃ b ∈ s.baysOfAxis a, (s.bay b).offsetInternal = true ∨
          (s.diodeLimits a).1 * 1000 < ((s.microamps b (s.bay b).sample0).natAbs : Int) ∨
          (s.diodeLimits a).1 * 1000 < ((s.microamps b (s.bay b).sample1).natAbs : Int)) →
        Answers (exec (.diodeTest a) s) (fun t =>
          t = { s with motion := { s.motion with axes := t.motion.axes }, faults := t.faults, log := t.log } ∧
          (∀ b : Fin 16, b ≠ a → t.ax b = s.ax b) ∧
          t.ax a = { s.ax a with enabling := some { e with step := .brake, since := s.frame64, failures := e.failures + 1 }
                                 stepper := { (s.ax a).stepper with braked := true, slow := true } } ∧
          ((s.diodeLimits a).2.2 ≤ e.failures + 1 ∧ s.stepperAt a = false → Raised s t 0x0608 a.val) ∧
          (¬((s.diodeLimits a).2.2 ≤ e.failures + 1 ∧ s.stepperAt a = false) → t.faults = s.faults ∧ t.log = s.log)))) ∧
   (∀ (a : Fin 16) (e : Enabling) (s : State), (s.ax a).enabling = some e → e.step = .brake → e.failures < (s.diodeLimits a).2.2 →
      (s.stepperAt a = true ∨ s.feedback a = 0 → (s.diodeLimits a).2.1 ≤ (s.frame64 - e.since).toNat) →
      (s.stepperAt a = false → s.feedback a ≠ 0 →
        300 * emfOf (s.ax a).com.omega (s.par 0x0605 a.val * 1000) ^ 2 < 49 * s.vbusOf a ^ 2) →
      Answers (exec (.catchBrakeEnd a) s) (fun t => OnAxis s t a ∧
        t.ax a = { s.ax a with enabling := some { e with step := .diode, since := s.frame64 }
                               stepper := { (s.ax a).stepper with slow := false } })) ∧
   (∀ (a : Fin 16) (e : Enabling) (s : State), (s.ax a).enabling = some e → e.step = .injection →
      (20 ≤ (s.ax a).com.convergeRun → (s.frame64 - e.since).toNat ≤ 400 →
        Answers (exec (.injectionConverged a) s) (fun t => OnAxis s t a ∧
          t.ax a = { s.ax a with enabling := some { e with step := .polarity, since := s.frame64 }
                                 com := { (s.ax a).com with converged := true, posPulse := 0, negPulse := 0 } })) ∧
      (400 ≤ (s.frame64 - e.since).toNat → (s.ax a).com.convergeRun < 20 → (s.ax a).state = .enabling →
        Answers (exec (.comInjConverge a) s) (fun t =>
          t = { s with motion := { s.motion with axes := t.motion.axes }, pwm := { s.pwm with bays := t.pwm.bays }
                       faults := t.faults
                       log := t.log } ∧
          (∀ b : Fin 16, b ≠ a → t.ax b = { s.ax b with gear := (t.ax b).gear }) ∧ (t.ax a).state = .disabled ∧
          (t.ax a).enabling = none ∧ Raised s t 0x0607 a.val))) ∧
   (∀ (a : Fin 16) (e : Enabling) (s : State), (s.ax a).enabling = some e → e.step = .polarity → 12 ≤ (s.frame64 - e.since).toNat →
      ∀ p n m : Int, (s.ax a).com.posPulse = p → (s.ax a).com.negPulse = n → m = 1000 + s.par 0x0626 a.val →
      (n * m < p * 1000 ∨ p * m < n * 1000 → Answers (exec (.polarityTestEnd a) s) (fun t => OnAxis s t a ∧
        (t.ax a).state = (if s.stopFault a then .stopping else .standstill) ∧ (t.ax a).enabling = none ∧ (t.ax a).com.polarity = true ∧
        (t.ax a).loops.running = true ∧
        (t.ax a).com.injTheta = (if n * m < p * 1000 then (s.ax a).com.injTheta else ((s.ax a).com.injTheta + 2147483648) % 4294967296) ∧
        (t.ax a).com.theta = ((t.ax a).com.injTheta / 65536 % 65536).toNat)) ∧
      (p * 1000 ≤ n * m → n * 1000 ≤ p * m → e.attempts < 2 → Answers (exec (.polarityTestEnd a) s) (fun t => OnAxis s t a ∧
        t.ax a = { s.ax a with enabling := some { e with attempts := e.attempts + 1, since := s.frame64 }
                               com := { (s.ax a).com with posPulse := 0, negPulse := 0 } })) ∧
      (p * 1000 ≤ n * m → n * 1000 ≤ p * m → 2 ≤ e.attempts → (s.ax a).state = .enabling →
        Answers (exec (.polarityTestEnd a) s) (fun t =>
          (∀ b : Fin 16, b ≠ a → t.ax b = { s.ax b with gear := (t.ax b).gear }) ∧ (t.ax a).state = .disabled ∧
          (t.ax a).enabling = none ∧ Raised s t 0x0606 a.val))) ∧
   (∀ (a : Fin 16) (e : Enabling) (s : State), (s.ax a).enabling = some e → e.step = .align → 400 ≤ (s.frame64 - e.since).toNat →
      Answers (exec (.dcAlignEnd a) s) (fun t => OnAxis s t a ∧
        (t.ax a).state = (if s.stopFault a then .stopping else .standstill) ∧ (t.ax a).com.aligned = true ∧ (t.ax a).com.theta = 0 ∧
        (t.ax a).com.zCount = none ∧ (t.ax a).loops.running = true)) ∧
   (∀ (k : Fin 8) (e : Enabling) (s : State), (s.ax (slotOfStepper k)).enabling = some e → e.step = .acquire →
      s.stepperAt (slotOfStepper k) = true →
      Answers (exec (.stepperEnergise k) s) (fun t => OnAxis s t (slotOfStepper k) ∧
        (t.ax (slotOfStepper k)).state = (if s.stopFault (slotOfStepper k) then .stopping else .standstill) ∧
        (t.ax (slotOfStepper k)).enabling = none ∧ (t.ax (slotOfStepper k)).stepper.energised = true ∧
        (t.ax (slotOfStepper k)).stepper.holding = true ∧
        (t.ax (slotOfStepper k)).demand = { (s.ax (slotOfStepper k)).demand with v := 0, a := 0 })) ∧
   (∀ (a : Fin 16) (e : Enabling) (s : State), (s.ax a).enabling = some e → e.step = .acquire → s.stepperAt a = false →
      (s.feedback a = 0 → s.parN 0x0651 a.val ≤ (s.frame64 - e.since).toNat → ∀ (mag sense omega : Int),
        mag = isqrtI ((s.backEmf a).1 * (s.backEmf a).1 + (s.backEmf a).2 * (s.backEmf a).2) →
        sense = signI (turnSense ((s.ax a).com.emf.take (s.parN 0x0651 a.val))) → omega = sense * s.emfSpeed a mag →
        (s.voltageLimit a ≤ mag → Answers (exec (.acquisitionDecision a) s) (fun t => (∀ b : Fin 16, b ≠ a → t.ax b = s.ax b) ∧
          (t.ax a).enabling = some { e with step := .brake, since := s.frame64, failures := e.failures + 1 } ∧
          (t.isActive 0x0608 a.val = (s.isActive 0x0608 a.val || decide ((s.diodeLimits a).2.2 ≤ e.failures + 1))))) ∧
        (mag < s.voltageLimit a → (omega.natAbs : Int) < s.handover a → Answers (exec (.acquisitionDecision a) s) (fun t =>
          OnAxis s t a ∧ t.ax a = { s.ax a with enabling := some { e with step := .injection, since := s.frame64 }
                                                com := { (s.ax a).com with convergeRun := 0, injError := 0 } })) ∧
        (mag < s.voltageLimit a → s.handover a ≤ (omega.natAbs : Int) → Answers (exec (.acquisitionDecision a) s) (fun t =>
          OnAxis s t a ∧ (t.ax a).state = (if s.stopFault a then .stopping else .standstill) ∧ (t.ax a).enabling = none ∧ (t.ax a).caught = true ∧
          (t.ax a).caughtNegative = decide (omega < 0) ∧ (t.ax a).com.source = 1 ∧ (t.ax a).com.omega = omega ∧
          (t.ax a).com.obsOmega = omega ∧
          (t.ax a).com.theta = ((cordicAngle (s.backEmf a).2 (s.backEmf a).1 - 16384 * sense) % 65536).toNat ∧
          (t.ax a).loops.running = true))) ∧
      (s.feedback a = 2 → (s.ax a).com.aligned = false → Answers (exec (.acquisitionDecision a) s) (fun t => OnAxis s t a ∧
        (t.ax a).enabling = some { e with step := if s.par 0x0627 a.val = 1 then .align else .injection, since := s.frame64 } ∧
        (t.ax a).state = (s.ax a).state ∧ (t.ax a).loops = (s.ax a).loops)) ∧
      (s.feedback a ≠ 0 → (s.feedback a = 2 → (s.ax a).com.aligned = true) → Answers (exec (.acquisitionDecision a) s) (fun t =>
        OnAxis s t a ∧ (t.ax a).state = (if s.stopFault a then .stopping else .standstill) ∧ (t.ax a).enabling = none ∧ (t.ax a).com.polarity = true ∧
        (t.ax a).com.source = s.feedback a + 1 ∧ (t.ax a).loops.running = true ∧
        (t.ax a).com.obsOmega = (s.ax a).com.omega ∧ (t.ax a).com.obsTheta = (s.ax a).com.theta * 65536 ∧
        (s.handover a ≤ ((s.ax a).com.omega.natAbs : Int) → (t.ax a).caught = true ∧
          (t.ax a).caughtNegative = decide ((s.ax a).com.omega < 0)) ∧
        ((s.ax a).com.omega.natAbs < s.handover a → (t.ax a).caught = (s.ax a).caught)))) ∧
   (∀ (a : Fin 16) (e : Enabling) (s : State), (s.ax a).enabling = some e →
      (e.step ≠ .diode ∨ (s.frame64 - e.since).toNat < 2 → exec (.diodeTest a) s = .next s) ∧
      (e.step ≠ .brake ∨ (s.diodeLimits a).2.2 ≤ e.failures → exec (.catchBrakeEnd a) s = .next s) ∧
      (e.step ≠ .injection ∨ (s.ax a).com.convergeRun < 20 ∨ 400 < (s.frame64 - e.since).toNat → exec (.injectionConverged a) s = .next s) ∧
      (e.step ≠ .injection ∨ (s.frame64 - e.since).toNat < 400 ∨ (20 ≤ (s.ax a).com.convergeRun ∧ (s.frame64 - e.since).toNat = 400) →
        exec (.comInjConverge a) s = .next s) ∧
      (e.step ≠ .polarity ∨ (s.frame64 - e.since).toNat < 12 → exec (.polarityTestEnd a) s = .next s) ∧
      (e.step ≠ .align ∨ (s.frame64 - e.since).toNat < 400 → exec (.dcAlignEnd a) s = .next s) ∧
      (∀ k : Fin 8, a = slotOfStepper k → e.step ≠ .acquire ∨ s.stepperAt a = false → exec (.stepperEnergise k) s = .next s) ∧
      (e.step ≠ .acquire ∨ s.stepperAt a = true ∨ (s.feedback a = 0 ∧ (s.frame64 - e.since).toNat < s.parN 0x0651 a.val) →
        exec (.acquisitionDecision a) s = .next s))

/-! ### Faults of running motors and steppers -/

/-- The faults that the engines of an axis count frames for (Table 8.10, Table 9.8; R185, R194, R195, R199, R205, R217, R220). Each is
raised once its count reaches its limit, with its sticky bit; below the limit the event does nothing. COM_LOS reacts with COAST
while a retry remains and else with SHORT; STP_STALL ends HOMED and its run; HOLD_CURRENT changes to the hold current after the
hold delay at rest.
The loop faults (R276) are raised at their counts with their sticky bits and do nothing below them; the gains reach their new values
in the last frame of a ramp (R275); PRF_EOT_EXCEEDED is raised once when the position passes the margin (R242). -/
def Obligations.MotorAndLoopFaults : Prop :=
   ((∀ (a : Fin 16) (s : State),
      (0 < (s.ax a).com.losRun → s.parN 0x0662 a.val ≤ (s.ax a).com.losRun → Answers (exec (.comLos a) s) (fun t =>
        t = { s with regs := t.regs, saturated := t.saturated, faults := t.faults, log := t.log } ∧ t.isActive 0x0601 a.val = true ∧
        (s.canonical = true → t.stuck 0x0700 a.val 8 = true) ∧
        (∀ f ∈ t.faults, f.code = 0x0601 → f.inst = a.val → f.started = false →
          f.rank = (if s.losTries a < s.parN 0x0663 a.val then 6 else 5)))) ∧
      ((s.ax a).com.losRun = 0 ∨ (s.ax a).com.losRun < s.parN 0x0662 a.val → exec (.comLos a) s = .next s) ∧
      (0 < (s.ax a).com.plausRun → s.parN 0x0665 a.val ≤ (s.ax a).com.plausRun → Answers (exec (.comPlausibility a) s) (fun t =>
        t = { s with regs := t.regs, faults := t.faults, log := t.log } ∧ Raised s t 0x0602 a.val ∧
        (s.canonical = true → t.stuck 0x0700 a.val 9 = true))) ∧
      ((s.ax a).com.plausRun = 0 ∨ (s.ax a).com.plausRun < s.parN 0x0665 a.val → exec (.comPlausibility a) s = .next s) ∧
      (4 ≤ (s.ax a).com.overRun → Answers (exec (.comOverspeed a) s) (fun t => OnlyRaised s t 0x0603 a.val)) ∧
      ((s.ax a).com.overRun < 4 → exec (.comOverspeed a) s = .next s) ∧
      (0 < (s.ax a).com.hallBad → s.parN 0x0662 a.val ≤ (s.ax a).com.hallBad →
        Answers (exec (.comHallInvalid a) s) (fun t => OnlyRaised s t 0x0604 a.val)) ∧
      ((s.ax a).com.hallBad = 0 ∨ (s.ax a).com.hallBad < s.parN 0x0662 a.val → exec (.comHallInvalid a) s = .next s)) ∧
    (∀ (k : Fin 8) (a : Fin 16) (s : State), a = slotOfStepper k → s.stepperAt a = true →
      (∀ e, (s.ax a).enabling = some e → e.step = .brake → s.parN 0x0817 k.val ≤ e.failures →
        Answers (exec (.stpCatchFail k) s) (fun t => OnlyRaised s t 0x0805 k.val)) ∧
      ((s.ax a).enabling = none → exec (.stpCatchFail k) s = .next s) ∧
      ((s.ax a).demand.v = 0 → s.parN 0x0804 k.val ≤ (s.ax a).stepper.stillFor → Answers (exec (.holdCurrent k) s) (fun t =>
        OnAxis s t a ∧ t.ax a = { s.ax a with stepper := { (s.ax a).stepper with holding := true } })) ∧
      ((s.ax a).demand.v ≠ 0 ∨ (s.ax a).stepper.stillFor < s.parN 0x0804 k.val → exec (.holdCurrent k) s = .next s) ∧
      (0 < (s.ax a).stepper.stallRun → s.parN 0x0811 k.val ≤ (s.ax a).stepper.stallRun → Answers (exec (.stpStall k) s) (fun t =>
        t = { s with motion := { s.motion with axes := t.motion.axes }, regs := t.regs, saturated := t.saturated
                     faults := t.faults, log := t.log } ∧
        (∀ b : Fin 16, b ≠ a → t.ax b = s.ax b) ∧
        t.ax a = { s.ax a with homed := false, stepper := { (s.ax a).stepper with stallRun := 0 } } ∧ t.isActive 0x0801 k.val = true)) ∧
      ((s.ax a).stepper.stallRun = 0 ∨ (s.ax a).stepper.stallRun < s.parN 0x0811 k.val → exec (.stpStall k) s = .next s) ∧
      (64 ≤ (s.ax a).stepper.blindRun → Answers (exec (.stpStallBlind k) s) (fun t => OnAxisRaised s t a 0x0806 k.val ∧
        t.ax a = { s.ax a with stepper := { (s.ax a).stepper with blindRun := 0 } })) ∧
      ((s.ax a).stepper.blindRun < 64 → exec (.stpStallBlind k) s = .next s) ∧
      (s.parN 0x0813 k.val ≤ max (s.ax a).stepper.noTripA (s.ax a).stepper.noTripB →
        Answers (exec (.stpNoRegulation k) s) (fun t => t = { s with regs := t.regs, faults := t.faults, log := t.log } ∧
          Raised s t 0x0802 k.val ∧ (s.canonical = true → t.stuck 0x0820 k.val 6 = true))) ∧
      (max (s.ax a).stepper.noTripA (s.ax a).stepper.noTripB < s.parN 0x0813 k.val → exec (.stpNoRegulation k) s = .next s) ∧
      (s.parN 0x0813 k.val ≤ max (s.ax a).stepper.openA (s.ax a).stepper.openB →
        Answers (exec (.stpOpenCoil k) s) (fun t => t = { s with regs := t.regs, faults := t.faults, log := t.log } ∧
          Raised s t 0x0803 k.val ∧ (s.canonical = true → t.stuck 0x0820 k.val 6 = true))) ∧
      (max (s.ax a).stepper.openA (s.ax a).stepper.openB < s.parN 0x0813 k.val → exec (.stpOpenCoil k) s = .next s))) ∧
   (∀ (a : Fin 16) (s : State),
      (0 < (s.ax a).loops.followRun → s.parN 0x0A19 a.val ≤ (s.ax a).loops.followRun → Answers (exec (.lpFollowErr a) s) (fun t =>
        t = { s with regs := t.regs, faults := t.faults, log := t.log } ∧ Raised s t 0x0A01 a.val ∧
        (s.canonical = true → t.stuck 0x0A40 a.val 13 = true))) ∧
      ((s.ax a).loops.followRun = 0 ∨ (s.ax a).loops.followRun < s.parN 0x0A19 a.val → exec (.lpFollowErr a) s = .next s) ∧
      (0 < (s.ax a).loops.envRun → s.parN 0x0A1B a.val ≤ (s.ax a).loops.envRun → Answers (exec (.lpEnvelopeExceeded a) s) (fun t =>
        t = { s with regs := t.regs, faults := t.faults, log := t.log } ∧ Raised s t 0x0A02 a.val ∧
        (s.canonical = true → t.stuck 0x0A40 a.val 14 = true))) ∧
      ((s.ax a).loops.envRun = 0 ∨ (s.ax a).loops.envRun < s.parN 0x0A1B a.val → exec (.lpEnvelopeExceeded a) s = .next s) ∧
      (0 < (s.ax a).loops.limitRun → s.parN 0x0A1C a.val ≤ (s.ax a).loops.limitRun →
        Answers (exec (.lpCurrentLimit a) s) (fun t => OnlyRaised s t 0x0A03 a.val)) ∧
      ((s.ax a).loops.limitRun = 0 ∨ (s.ax a).loops.limitRun < s.parN 0x0A1C a.val → exec (.lpCurrentLimit a) s = .next s) ∧
      ((s.ax a).loops.rampLeft ≤ 1 → Answers (exec (.gainRampEnd a) s) (fun t => OnAxis s t a ∧
        t.ax a = { s.ax a with loops := { (s.ax a).loops with gains := (s.ax a).loops.goal, rampLeft := 0 } })) ∧
      (1 < (s.ax a).loops.rampLeft → exec (.gainRampEnd a) s = .next s) ∧
      (s.eot a = true → (s.ax a).beyond = false →
        (s.par 0x090A a.val + s.par 0x090C a.val < (s.ax a).measured ∨ (s.ax a).measured < s.par 0x0909 a.val - s.par 0x090C a.val) →
        Answers (exec (.prfEotExceeded a) s) (fun t => OnAxisRaised s t a 0x0902 a.val ∧ t.ax a = { s.ax a with beyond := true })) ∧
      (s.eot a = false ∨ (s.ax a).beyond = true ∨ ((s.ax a).measured ≤ s.par 0x090A a.val + s.par 0x090C a.val ∧
        s.par 0x0909 a.val - s.par 0x090C a.val ≤ (s.ax a).measured) → exec (.prfEotExceeded a) s = .next s))

/-- Motor identification (R196, R197) and the index pulse (R186). MOTOR_IDENTIFY names one to four steps, checked before the state of the
axis: it must be DISABLED with no identification in progress; the engine drives its bay through the steps, whose half-bridges are given
back to their entries. A step that ends in time with results in their ranges writes them
to its result parameters (the encoder lines to the axis's record), and the last selected step completes the request with OK; a step that fails raises COM_ID_FAIL and
completes it with FAULT_LATCHED. The first index pulse after alignment records its count; a later one further away than
COM.ENC_Z_TOL raises COM_ENC_INDEX and ends the alignment. -/
def Obligations.IdentifyAndIndex : Prop :=
  (∀ (r : Req) (axis steps : Byte) (a : Fin 16) (k : Fin 8) (s : State), s.admits 0x45 r k = true → s.axisArg axis = some a →
    (steps = 0 ∨ 16 ≤ steps.toNat ∨ s.stepperAt a = true →
      exec (.motorIdentify r axis steps) s = .next (s.withReply (replyOf r k 0x45 Status.badParameter .bare))) ∧
    (1 ≤ steps.toNat → steps.toNat ≤ 15 → s.stepperAt a = false →
      ((s.ax a).state ≠ .disabled ∨ (s.ax a).identify.isSome = true ∨ s.saf.state = .testing →
        exec (.motorIdentify r axis steps) s = .next (s.withReply (replyOf r k 0x45 Status.busy .bare))) ∧
      ((s.ax a).state = .disabled → (s.ax a).identify = none → s.saf.state ≠ .testing → Answers (exec (.motorIdentify r axis steps) s) (fun t =>
        t = { s with motion := { s.motion with axes := t.motion.axes }, pwm := { s.pwm with hbs := t.pwm.hbs }, faults := t.faults
                     log := t.log, cmd := (s.withReply (replyOf r k 0x45 Status.pending .bare)).cmd } ∧
        (∀ h : Fin 48, t.hb h = (if bayOfHb h = a then { s.hb h with release := .no } else s.hb h)) ∧
        (∀ b : Fin 16, b ≠ a → t.ax b = s.ax b) ∧ t.isActive 0x0609 a.val = false ∧
        t.ax a = { s.ax a with identify := some { steps := steps.toNat, since := s.frame64, slot := some k, seq := r.seq }
                               com := { (s.ax a).com with idDone := 0, idFail := 0, intD := 0, intQ := 0 } })))) ∧
  (∀ (a : Fin 16) (turns : Nat) (results : List Int) (s : State),
    ((s.ax a).identify = none → exec (.identifyStepDone a turns results) s = .next s) ∧
    (∀ i b, (s.ax a).identify = some i → b < 4 → i.steps.testBit b = true → (s.ax a).com.idDone.testBit b = false →
        (∀ c < b, i.steps.testBit c = true → (s.ax a).com.idDone.testBit c = true) →
      (turns ≤ s.parN 0x0670 a.val → (s.frame64 - i.since).toNat < identifyFrames b → exec (.identifyStepDone a turns results) s = .next s) ∧
      (s.parN 0x0670 a.val < turns ∨ (identifyFrames b ≤ (s.frame64 - i.since).toNat ∧
          ∃ x ∈ (identifyTargets b).zip (s.identifyValues a b results), inRange x.1.2 x.2 = false) →
        Answers (exec (.identifyStepDone a turns results) s) (fun t =>
          t = { s with motion := { s.motion with axes := t.motion.axes }, faults := t.faults, log := t.log } ∧
          (∀ b : Fin 16, b ≠ a → t.ax b = s.ax b) ∧ t.isActive 0x0609 a.val = true ∧
          t.ax a = { s.ax a with identify := none, com := { (s.ax a).com with idFail := 2 ^ b } } ∧
          ∃ e, e ∈ t.log.fresh ∧ e.code = 0x0280 ∧ e.detail = Status.faultLatched ∧ e.extra = i.seq.toNat)) ∧
      (turns ≤ s.parN 0x0670 a.val → identifyFrames b ≤ (s.frame64 - i.since).toNat →
          (∀ x ∈ (identifyTargets b).zip (s.identifyValues a b results), inRange x.1.2 x.2 = true) →
        Answers (exec (.identifyStepDone a turns results) s) (fun t =>
          t = { s with motion := { s.motion with axes := t.motion.axes }, regs := t.regs, log := t.log } ∧
          (∀ b : Fin 16, b ≠ a → t.ax b = s.ax b) ∧ (t.ax a).com.idDone = (s.ax a).com.idDone + 2 ^ b ∧
          (s.canonical = true → ∀ x ∈ (identifyTargets b).zip (s.identifyValues a b results), x.1.1 ≠ 0 → t.par x.1.1 a.val = x.2) ∧
          (∀ x ∈ (identifyTargets b).zip (s.identifyValues a b results), x.1.1 = 0 → ((t.ax a).com.idLines : Int) = x.2) ∧
          (i.steps ≠ (s.ax a).com.idDone + 2 ^ b → (t.ax a).identify = some { i with since := s.frame64 } ∧ t.log = s.log) ∧
          (i.steps = (s.ax a).com.idDone + 2 ^ b → (t.ax a).identify = none ∧
            ∃ e, t.log = { s.log with fresh := s.log.fresh ++ [e] } ∧ e.code = 0x0280 ∧ e.detail = Status.ok ∧ e.extra = i.seq.toNat))))) ∧
  (∀ (a : Fin 16) (count : Word) (s : State),
    ((s.ax a).com.aligned = false → exec (.comEncIndex a count) s = .next s) ∧
    ((s.ax a).com.aligned = true →
      ((s.ax a).com.zCount = none → Answers (exec (.comEncIndex a count) s) (fun t => OnAxis s t a ∧
        t.ax a = { s.ax a with com := { (s.ax a).com with zCount := some count } })) ∧
      (∀ z, (s.ax a).com.zCount = some z →
        ((count - z).toInt.natAbs ≤ s.parN 0x0643 a.val → exec (.comEncIndex a count) s = .next s) ∧
        (s.parN 0x0643 a.val < (count - z).toInt.natAbs → Answers (exec (.comEncIndex a count) s) (fun t =>
          OnAxisRaised s t a 0x0605 a.val ∧ t.ax a = { s.ax a with com := { (s.ax a).com with aligned := false } })))))

/-! ### Events of profiles, loops and groups -/

/-- An edge captures the interpolated position in an armed latch of its source and edge, and in a homing run of method SWITCH that waits for
it (R244, R247); a geared slave whose catch-up term is at rest becomes synchronised (R250); a reversal request empties the queues of
the axis and its gear partners, sets OBSTRUCTION and stops every one that is not a slave at the hard limit, and a closing move is
answered by the opening move of R241, for the partners too (R253). -/
def Obligations.CaptureAndReversal : Prop :=
  (∀ (a : Fin 16) (source : Byte) (rising : Bool) (count : Nat) (s : State) (pos : Int),
    pos = (s.ax a).measuredBefore + rdiv (((s.ax a).measured - (s.ax a).measuredBefore) * count) s.tb.frameLen →
    (∀ l, (s.ax a).latch = some l → (s.ax a).homing = none →
      (l.source = source → (l.edge = 2 ∨ (l.edge = 0 ∧ rising = true) ∨ (l.edge = 1 ∧ rising = false)) →
        Answers (exec (.latchCapture a source rising count) s) (fun t => OnAxis s t a ∧
          t.ax a = { s.ax a with latch := none, latchTaken := some (pos, s.frame32) })) ∧
      (l.source ≠ source ∨ (l.edge = 0 ∧ rising = false) ∨ (l.edge = 1 ∧ rising = true) →
        exec (.latchCapture a source rising count) s = .next s)) ∧
    ((s.ax a).latch = none → (s.ax a).homing = none → exec (.latchCapture a source rising count) s = .next s) ∧
    (∀ h, (s.ax a).latch = none → (s.ax a).homing = some h → h.method = 1 → h.found = false → h.captured = none →
      source.toNat = s.parN 0x0916 a.val → (rising = true ↔ s.parN 0x0917 a.val = 0) →
      Answers (exec (.latchCapture a source rising count) s) (fun t => OnAxis s t a ∧
        t.ax a = { s.ax a with homing := some { h with captured := some pos } }))) ∧
  (∀ (a : Fin 16) (s : State),
    ((s.ax a).gear = none → exec (.gearSynchronised a) s = .next s) ∧
    (∀ g, (s.ax a).gear = some g →
      (g.term.p = 0 → g.term.v = 0 → g.synced = false → Answers (exec (.gearSynchronised a) s) (fun t => OnAxis s t a ∧
        t.ax a = { s.ax a with gear := some { g with synced := true } })) ∧
      (g.term.p ≠ 0 ∨ g.term.v ≠ 0 ∨ g.synced = true → exec (.gearSynchronised a) s = .next s)) ∧
    ((s.ax a).reversing = false → exec (.reversalRequest a) s = .next s) ∧
    ((s.ax a).reversing = true → Answers (exec (.reversalRequest a) s) (fun t =>
      t = { s with motion := { s.motion with axes := t.motion.axes, groups := t.motion.groups }, faults := t.faults, log := t.log } ∧
      t.isActive 0x0908 a.val = true ∧ (∀ b : Fin 16, b ≠ a → b ∉ s.partners a → t.ax b = s.ax b) ∧
      (∀ b : Fin 16, b = a ∨ b ∈ s.partners a →
        (t.ax b).obstruction = true ∧ (t.ax b).reversing = false ∧ (t.ax b).demand = (s.ax b).demand ∧
        ((s.ax b).gear.isSome = true → (t.ax b).queue = [] ∧ (t.ax b).stop = (s.ax b).stop) ∧
        ((s.ax b).gear = none → (t.ax b).stop = some .hard ∧ (t.ax b).follow = none ∧
          ((s.ax b).planned = none ∨ s.sigma b ≠ s.closeSign b → (t.ax b).queue = []) ∧
          ((s.ax b).planned ≠ none → s.sigma b = s.closeSign b → ∃ m, (t.ax b).queue = [m] ∧ m.kind = .reversal ∧
            m.id = (s.ax b).nextId ∧ m.v = s.parN 0x091B b.val ∧
            (s.par 0x091A b.val = 0 → m.target = some (s.bound b (s.openSign b))) ∧
            (s.par 0x091A b.val ≠ 0 → m.target = none ∧ m.relative = s.openSign b * s.par 0x091A b.val)))))))

/-- Coordinated groups (R255 to R257). GROUP_START does nothing until every member is ready. It then refuses the group when a target lies
outside a member's range or the time is too short, with PRF_GROUP_REJECTED on every member, and else starts all its entries in this
frame with one duration: the fixed time, or the longest of the members. A reaction of a member of a started group stops every other
member that has none of its own, with PRF_GROUP_STOP, and that member's gear partners (R252), ends the group, and, if the group is
ring-coupled, sets its group-stop bit, shown for at least 4 frames; the bit of another node's slot stops a ring-coupled group in the same way. -/
def Obligations.GroupEvents : Prop :=
  (∀ (g : Fin 8) (s : State),
    (s.motion.groups[g] = none → exec (.groupStart g) s = .next s ∧ exec (.ringGroupStop g) s = .next s ∧
      ∀ a, exec (.prfGroupStop g a) s = .next s) ∧
    (∀ grp, s.motion.groups[g] = some grp →
      (grp.started = true ∨ (∃ a ∈ grp.members, s.memberReady g a = false) → exec (.groupStart g) s = .next s) ∧
      (grp.started = false → grp.members.Nodup → (∀ a ∈ grp.members, s.memberReady g a = true) →
        (∀ a ∈ grp.members, ∃ m t, (s.ax a).queue.head? = some m ∧ m.target = some t) →
        ((∃ a ∈ grp.members, ∃ m t, (s.ax a).queue.head? = some m ∧ m.target = some t ∧ s.outside a t = true) →
          Answers (exec (.groupStart g) s) (fun t =>
            t = { s with motion := { s.motion with axes := t.motion.axes, groups := t.motion.groups }, faults := t.faults, log := t.log } ∧
            t.motion.groups[g] = none ∧ (∀ a ∈ grp.members, t.isActive 0x0903 a.val = true ∧
              (t.ax a).queue = (s.ax a).queue.tail ∧ (t.ax a).demand = (s.ax a).demand) ∧
            (∀ a : Fin 16, a ∉ grp.members → t.ax a = s.ax a))) ∧
        (∀ frames : Nat, (∀ f, grp.fixedTime = some f → f = frames) →
          (grp.fixedTime = none → ∃ a ∈ grp.members, ∃ m t, (s.ax a).queue.head? = some m ∧ m.target = some t ∧
            duration (s.ax a).demand t (s.moveLimits a m) = frames) →
          (∀ a ∈ grp.members, ∀ m t, (s.ax a).queue.head? = some m → m.target = some t →
            s.outside a t = false ∧ duration (s.ax a).demand t (s.moveLimits a m) ≤ frames) →
          Answers (exec (.groupStart g) s) (fun t =>
            t = { s with motion := { s.motion with axes := t.motion.axes, groups := t.motion.groups } } ∧
            t.motion.groups[g] = some { grp with started := true } ∧ (∀ a : Fin 16, a ∉ grp.members → t.ax a = s.ax a) ∧
            (∀ a ∈ grp.members, (t.ax a).demand = (s.ax a).demand ∧ ∃ m n, (s.ax a).queue.head? = some m ∧ (t.ax a).queue.head? = some n ∧
              (t.ax a).queue.tail = (s.ax a).queue.tail ∧ n.began = true ∧ n.startedAt = s.frame64 ∧ n.duration = frames ∧
              n.target = m.target ∧ n.id = m.id))))) ∧
    (∀ grp source, s.motion.groups[g] = some grp →
      (grp.started = false ∨ source ∉ grp.members ∨ (s.ax source).reaction < 3 → exec (.prfGroupStop g source) s = .next s) ∧
      (∀ c l, (c = .prfGroupStop g source ∧ source ∈ grp.members ∧ 3 ≤ (s.ax source).reaction ∧
              l = grp.members.filter (fun a => !(a = source))) ∨
            (c = .ringGroupStop g ∧ grp.ringCoupled = true ∧ l = grp.members ∧
              ∃ (k : Fin 8) (b : List Byte), s.ring.slots[k] = some b ∧ k ≠ s.ring.addr ∧ (field 2 1 b).testBit g.val = true) →
        grp.started = true → Answers (exec c s) (fun t =>
          t = { s with motion := { s.motion with axes := t.motion.axes, groups := s.motion.groups.set g none
                                                 groupStops := if grp.ringCoupled then s.motion.groupStops ||| (1 <<< g.val) else s.motion.groupStops
                                                 stopping := s.motion.stopping.set g grp.members }
                       ring := { s.ring with groupStopUntil := s.ring.groupStopUntil.set g (s.frame64 + 4) }
                       faults := t.faults
                       log := t.log } ∧
          (∀ a : Fin 16, a ∉ l → (∀ b ∈ l, (s.ax b).reaction < 3 → a ∉ s.geared b) → t.ax a = s.ax a) ∧
          (∀ a ∈ l, 3 ≤ (s.ax a).reaction → t.ax a = s.ax a) ∧
          ((∀ a ∈ l, ∀ b ∈ l, a ∉ s.geared b) → ∀ a ∈ l, (s.ax a).reaction < 3 → t.isActive 0x0907 a.val = true ∧
            ∀ b : Fin 16, b = a ∨ b ∈ s.geared a → (s.ax b).reaction < 3 → (s.ax b).state.holds = true → (t.ax b).state = .stopping ∧
              (t.ax b).reaction = 3 ∧ (t.ax b).stop = some .profile ∧ (t.ax b).queue = [] ∧ (t.ax b).demand = (s.ax b).demand))) ∧
      ((grp.ringCoupled = false ∨ grp.started = false ∨ (∀ k : Fin 8, k ≠ s.ring.addr → s.ring.slots[k] = none)) → exec (.ringGroupStop g) s = .next s)))

/-! ### Template, packets on SPI, and the data port -/

/-- TEMPLATE_LEARN refuses in the order of R291 and else starts a TEACH, or ends one with TXN_ABORTED; TEMPLATE_FREEZE ends a TEACH with
LEARN_GATED and stops or releases learning (R292); TEMPLATE_RESET clears every entry of the directions its mask names (R293). A save
that has ended leaves its slot holding the captured image and logs the generation when verified, and else raises TPL_SAVE_FAIL
(R294). -/
def Obligations.TemplateCommands : Prop :=
  (∀ (r : Req) (axis mode : Byte) (cycles : Half) (a : Fin 16) (k : Fin 8) (s : State), s.admits 0xC2 r k = true → s.axisArg axis = some a →
    (1 < mode.toNat ∨ (mode = 0 ∧ cycles ≠ 0) →
      exec (.templateLearn r axis mode cycles) s = .next (s.withReply (replyOf r k 0xC2 Status.badParameter .bare))) ∧
    (mode = 1 → cycles = 0 ∨ 1000 < cycles.toNat →
      exec (.templateLearn r axis mode cycles) s = .next (s.withReply (replyOf r k 0xC2 Status.outOfRange .bare))) ∧
    ((mode = 0 ∧ cycles = 0) ∨ (mode = 1 ∧ 1 ≤ cycles.toNat ∧ cycles.toNat ≤ 1000) →
      (s.power.mode = .limp ∨ (s.ax a).homed = false ∨ (s.ax a).template.frozen = true →
        exec (.templateLearn r axis mode cycles) s = .next (s.withReply (replyOf r k 0xC2 Status.learnGated .bare))) ∧
      (s.power.mode ≠ .limp → (s.ax a).homed = true → (s.ax a).template.frozen = false →
        (mode = 1 → (s.ax a).template.teach.isSome = true →
          exec (.templateLearn r axis mode cycles) s = .next (s.withReply (replyOf r k 0xC2 Status.busy .bare))) ∧
        (mode = 1 → (s.ax a).template.teach = none → Answers (exec (.templateLearn r axis mode cycles) s) (fun t =>
          t = { s with motion := { s.motion with axes := t.motion.axes }, cmd := (s.withReply (replyOf r k 0xC2 Status.pending .bare)).cmd } ∧
          (∀ b : Fin 16, b ≠ a → t.ax b = s.ax b) ∧
          t.ax a = { s.ax a with template := { (s.ax a).template with
            teach := some (cycles.toNat, cycles.toNat), teachSlot := some k, teachSeq := r.seq } })) ∧
        (mode = 0 → (s.ax a).template.teach = none →
          exec (.templateLearn r axis mode cycles) s = .next (s.withReply (replyOf r k 0xC2 Status.ok .bare))) ∧
        (mode = 0 → (s.ax a).template.teach.isSome = true → Answers (exec (.templateLearn r axis mode cycles) s) (fun t =>
          t = { s with motion := { s.motion with axes := t.motion.axes }, log := t.log
                       cmd := (s.withReply (replyOf r k 0xC2 Status.ok .bare)).cmd } ∧
          (∀ b : Fin 16, b ≠ a → t.ax b = s.ax b) ∧ (t.ax a).template.teach = none ∧
          ∃ e, t.log = { s.log with fresh := s.log.fresh ++ [e] } ∧ e.code = 0x0280 ∧ e.detail = Status.txnAborted ∧
            e.extra = (s.ax a).template.teachSeq.toNat))))) ∧
  (∀ (r : Req) (axis freeze : Byte) (a : Fin 16) (k : Fin 8) (s : State), s.axisArg axis = some a →
    (s.admits 0xC3 r k = true → 1 < freeze.toNat →
      exec (.templateFreeze r axis freeze) s = .next (s.withReply (replyOf r k 0xC3 Status.badParameter .bare))) ∧
    (s.direct 0xC3 r k (.templateFreeze r axis freeze) = true → freeze.toNat ≤ 1 → Answers (exec (.templateFreeze r axis freeze) s) (fun t =>
      t = { s with motion := { s.motion with axes := t.motion.axes }, log := t.log
                   cmd := (s.withReply (replyOf r k 0xC3 Status.ok .bare)).cmd } ∧
      (∀ b : Fin 16, b ≠ a → t.ax b = s.ax b) ∧ (t.ax a).template.frozen = decide (freeze = 1) ∧
      (t.ax a).template.teach = (if freeze = 1 then none else (s.ax a).template.teach) ∧
      (freeze = 1 → (s.ax a).template.teach.isSome = true → ∃ e, t.log = { s.log with fresh := s.log.fresh ++ [e] } ∧
        e.code = 0x0280 ∧ e.detail = Status.learnGated) ∧
      (freeze = 0 ∨ (s.ax a).template.teach = none → t.log = s.log)))) ∧
  (∀ (r : Req) (axis directions : Byte) (a : Fin 16) (k : Fin 8) (s : State), s.admits 0xC4 r k = true → s.axisArg axis = some a →
    (directions = 0 ∨ 3 < directions.toNat →
      exec (.templateReset r axis directions) s = .next (s.withReply (replyOf r k 0xC4 Status.badParameter .bare))) ∧
    (1 ≤ directions.toNat → directions.toNat ≤ 3 → Answers (exec (.templateReset r axis directions) s) (fun t =>
      t = { s with motion := { s.motion with bins := t.motion.bins }, cmd := (s.withReply (replyOf r k 0xC4 Status.ok .bare)).cmd } ∧
      (∀ (b : Fin 16) (closing : Bool) (n : Nat), n < 512 → t.binAt (binKey b closing n) =
        (if b = a ∧ directions.toNat.testBit (if closing then 1 else 0) then {} else s.binAt (binKey b closing n)))))) ∧
  (∀ (report : FlashReport) (s : State),
    (s.cfg.flash ≠ some .templateSave → exec (.templateSaveComplete report) s = .next s) ∧
    (s.cfg.flash = some .templateSave → report.verified = false → Answers (exec (.templateSaveComplete report) s) (fun t =>
      t.cfg.flash = none ∧ t.motion.saving = false ∧ Raised s t 0x0B04 255 ∧ t.dram = s.dram ∧
      ∀ x : Nat, x < templateBase s.templateTarget ∨ templateBase s.templateTarget + 0x20000 ≤ x → t.flashRead x 1 = s.flashRead x 1)) ∧
    (s.cfg.flash = some .templateSave → report.verified = true → Answers (exec (.templateSaveComplete report) s) (fun t =>
      t.cfg.flash = none ∧ t.motion.saving = false ∧ t.isActive 0x0B04 255 = false ∧ t.dram = s.dram ∧
      t.motion.saveGeneration = ofLe (s.dramRead (templateCopy + 4) 4) ∧
      (s.canonical = true → ∀ x : Nat, x < 102400 → t.flashRead (templateBase s.templateTarget + x) 1 = s.dramRead (templateCopy + x) 1) ∧
      (∀ x : Nat, x < templateBase s.templateTarget ∨ templateBase s.templateTarget + 0x20000 ≤ x → t.flashRead x 1 = s.flashRead x 1))))

/-- A read frame drove these bytes and did nothing else: RDY rose at most `most` counts after the frame's header. -/
def ReadFrame (s t : State) (f : SpiFrame) (most : Nat) (pins : SpiPins) (bs : List Byte) : Prop :=
  t = { s with free := s.free + 1
               hp := { s.hp with driven := bs, pins := { pins with fell := f.fell, rose := f.rose, readyAt := t.hp.pins.readyAt } } } ∧
  ∃ c : Nat, t.hp.pins.readyAt = some c ∧ f.headed ≤ c ∧ c ≤ f.headed + most

/-- A packet read or status read drove these bytes: data is ready at most 100 ns after the command's last bit. -/
def ReadDriven (s t : State) (f : SpiFrame) (bs : List Byte) : Prop :=
  ReadFrame s t f 20 { s.hp.pins with burst := none } bs

/-- A request that arrives whole on SPI reaches its session (R57 to R63, R351): it waits for its tick behind the requests that came
before, the session's last number advances, and its refresh time where the packet arrived before its deadline. The packet holds a
receive buffer for at most 2 µs. A frame of fewer than 16 bytes, of another type or ended inside its header, or one begun with RDY at 0
(so while the device boots) or while 32 replies wait, is a frame error (R348 to R350); in Keep the port takes no frame.
PACKET_READ drives the port status word and the oldest reply, else the oldest push; a packet clocked out whole leaves its queue, lets a
reply that waited for a place in, and is the one that PACKET_REREAD drives again; STATUS_READ drives the status word alone; RDY rises at most 100 ns after the last command bit
(R349, R352, R353). -/
def Obligations.PacketsInAndOut : Prop :=
   ((∀ (c : Instr) (op : Nat) (r : Req) (row : OpRow) (k : Fin 8) (x : Session) (node : Byte) (f : SpiFrame) (s : State),
      c.wf = true → requestOf c = some (op, r) → opRow op = some row → row.role ≠ .none → r.src = { port := .spi } → s.slotOf r.src = some k →
      s.session k = some x → x.cache.find? (fun y => y.seq = r.seq) = none →
      1 ≤ (r.seq - x.lastSeq).toNat → (r.seq - x.lastSeq).toNat < 32768 → s.power.mode ≠ .dormant → s.portUp = true →
      s.rdy f.fell = true → f.otherType = false → f.cut = false → f.timingOk = true → (f.quad = true → s.dev 0x0E00 ≠ 0) → s.outqFull = false → node = 0 ∨ node.toNat = s.ownNode →
      Answers (exec (.packetWrite f r.arrived (requestPacket r op node (payloadOf c))) s) (fun t =>
        t = { s with cmd := { s.cmd with sessions := t.cmd.sessions
                                         arrivals := s.cmd.arrivals ++ [{ req := r, ingress := .spi, opcode := BitVec.ofNat 8 op, cmd := c }] }
                     free := s.free + 1
                     hp := { s.hp with pins := { s.hp.pins with fell := f.fell, rose := f.rose, readyAt := none, burst := none
                                                                buffers := t.hp.pins.buffers } } } ∧
        (∃ held : Nat, t.hp.pins.buffers = held :: s.hp.pins.buffers.filter (fun c => decide (r.arrived < c)) ∧ r.arrived ≤ held ∧ held ≤ r.arrived + 400) ∧
        (∀ j : Fin 8, j ≠ k → t.session j = s.session j) ∧
        ∃ y, t.session k = some y ∧ y.lastSeq = r.seq ∧ y.refreshed = (if r.arrived < x.deadline then r.arrived else x.refreshed) ∧ y.untouched = false ∧ y.src = x.src ∧ y.role = x.role)) ∧
    (∀ (f : SpiFrame) (arrived : Nat) (bytes : List Byte) (s : State),
      (s.power.mode = .keep → exec (.packetWrite f arrived bytes) s = .next s ∧ exec (.packetRead f) s = .next s ∧
        exec (.statusRead f) s = .next s ∧ exec (.packetReread f) s = .next s ∧
        (∀ h n, exec (.rawRead f h n) s = .next s) ∧ (∀ h n b crc, exec (.rawWrite f h n b crc) s = .next s)) ∧
      (s.power.mode ≠ .keep → (s.rdy f.fell = false ∨ f.otherType = true ∨ f.cut = true ∨ f.timingOk = false ∨ (f.quad = true ∧ s.dev 0x0E00 = 0) ∨
          bytes.length < 16 ∨ s.outqFull = true) →
        Answers (exec (.packetWrite f arrived bytes) s) (fun t =>
          t = { s with regs := t.regs, saturated := t.saturated, faults := t.faults, log := t.log
                       hp := { s.hp with pins := { s.hp.pins with fell := f.fell, rose := f.rose, readyAt := none, burst := none } } } ∧
          (s.canonical = true → t.stuck 0x0E10 255 0 = true))))) ∧
   (∀ (f : SpiFrame) (s : State), s.portUp = true → s.rdy f.fell = true → f.otherType = false → f.cut = false → f.timingOk = true →
      (f.quad = true → s.dev 0x0E00 ≠ 0) → f.complete = true → ∀ v : State, v = { s with hp := { s.hp with pins := { s.hp.pins with fell := f.fell } } } →
      Answers (exec (.statusRead f) s) (fun t => ReadDriven s t f (v.portStatus 0)) ∧
      Answers (exec (.packetReread f) s) (fun t => ReadDriven s t f (v.portStatus s.cmd.lastRead.length ++ s.cmd.lastRead)) ∧
      (s.cmd.out[(0 : Fin 5)] = [] → Answers (exec (.packetRead f) s) (fun t => ReadDriven s t f (v.portStatus 0))) ∧
      (∀ x : OutPacket, (s.spiReplies.head? = some x ∨ (s.spiReplies = [] ∧ s.spiPushes.head? = some x)) →
        Answers (exec (.packetRead f) s) (fun t =>
          ReadDriven { s with cmd := t.cmd } t f (v.portStatus x.bytes.length ++ x.bytes) ∧
          t = { s with hp := t.hp, free := t.free
                       cmd := { s.cmd with out := t.cmd.out, late := t.cmd.late, lastRead := x.bytes
                                           unread := s.cmd.unread.filter (fun q => !x.events.contains q) } } ∧
          (∀ q : Fin 5, q ≠ 0 → t.cmd.out[q] = s.cmd.out[q]) ∧
          (s.cmd.late = [] → t.cmd.late = [] ∧ (x.push = false → t.spiReplies = s.spiReplies.tail ∧ t.spiPushes = s.spiPushes) ∧
            (x.push = true → t.spiPushes = s.spiPushes.tail ∧ t.spiReplies = s.spiReplies)) ∧
          (∀ y rest, s.cmd.late = y :: rest → y.push = false → x.push = false → s.spiReplies.length ≤ 32 →
            t.cmd.late = rest ∧ t.spiReplies = s.spiReplies.tail ++ [y] ∧ t.spiPushes = s.spiPushes))))

/-- The data port (R354 to R362). DATA_OPEN gives the first free handle a range of its space; DATA_READ and RAW_READ answer the bytes at
the handle's address and advance it; DATA_WRITE and RAW_WRITE store theirs there, and nowhere else, and advance it; DATA_CLOSE
frees the handle with the count and CRC of what was moved. A TEMPLATE handle reads a copy of the table made when it opens (R355). A handle of another session, or one not open, is BAD_PARAMETER; one in a raw
burst is BUSY (R357); a raw write whose CRC fails leaves its range open (free bytes) and its handle in place. -/
def Obligations.DataPortMovesBytes : Prop :=
  (∀ (r : Req) (k : Fin 8) (handle : Byte) (s : State), s.handle k handle = none →
    (s.admits 0x61 r k = true → ∀ n, exec (.dataRead r handle n) s = .next (s.withReply (replyOf r k 0x61 Status.badParameter .bare))) ∧
    (s.admits 0x62 r k = true → ∀ b, exec (.dataWrite r handle b) s = .next (s.withReply (replyOf r k 0x62 Status.badParameter .bare))) ∧
    (s.admits 0x63 r k = true → exec (.dataClose r handle) s = .next (s.withReply (replyOf r k 0x63 Status.badParameter .bare)))) ∧
  (∀ (r : Req) (k : Fin 8) (space flags : Byte) (address length : Word) (i : Fin 8) (x : Session) (size : Nat) (s : State),
    s.admits 0x60 r k = true → s.session k = some x → s.spaceSize space.toNat = some size → flags.toNat < 2 →
    (flags = 1 → x.role = .control ∧ s.mtr.hold = false ∧ space = 1 ∧ s.cfg.flashRange = none ∧
      ∀ (j : Fin 8) h, s.hp.handles[j] = some h → ¬(h.space = 1 ∧ h.write = true)) →
    (space = 3 → ∀ (j : Fin 8) h, s.hp.handles[j] = some h → h.space ≠ 3) → (space = 4 → s.power.mode = .service) →
    length ≠ 0 → address.toNat + length.toNat ≤ size → s.hp.handles[i] = none → (∀ j : Fin 8, j < i → (s.hp.handles[j]).isSome = true) →
    ((allFin 8).filter (fun j => match s.hp.handles[j] with | some h => h.owner = k && !h.ended | none => false)).length < 4 →
    exec (.dataOpen r space flags address length) s = .next (State.withReply
      { (if space = 3 then s.copyTable else s) with
        hp := { s.hp with handles := s.hp.handles.set i (some { owner := k, space := space.toNat, write := decide (flags = 1)
                                                                base := address.toNat, length := length.toNat }) } }
      (replyOf r k 0x60 Status.ok (.bytes (leBytes 1 (i.val + 1) ++ [0, 0, 0]))))) ∧
  (∀ (r : Req) (k : Fin 8) (handle : Byte) (i : Fin 8) (h : Handle) (s : State), s.handle k handle = some (i, h) →
    (s.bursting i = true →
      (s.admits 0x61 r k = true → ∀ n : Half, 1 ≤ n.toNat → n.toNat ≤ 1016 →
        exec (.dataRead r handle n) s = .next (s.withReply (replyOf r k 0x61 Status.busy .bare))) ∧
      (s.admits 0x62 r k = true → ∀ b, exec (.dataWrite r handle b) s =
        .next (s.withReply (replyOf r k 0x62 (if h.write then Status.busy else Status.badParameter) .bare))) ∧
      (s.admits 0x63 r k = true → exec (.dataClose r handle) s = .next (s.withReply (replyOf r k 0x63 Status.busy .bare)))) ∧
    (∀ n : Half, s.admits 0x61 r k = true → n.toNat < 1 ∨ 1016 < n.toNat →
      exec (.dataRead r handle n) s = .next (s.withReply (replyOf r k 0x61 Status.outOfRange .bare))) ∧
    (∀ n : Half, s.bursting i = false → s.admits 0x61 r k = true → 1 ≤ n.toNat → n.toNat ≤ 1016 → h.moved < h.length → s.spaceBad h h.at_ (min n.toNat h.left) = [] →
      exec (.dataRead r handle n) s = .next (State.withReply
        { s with hp := { s.hp with handles := s.hp.handles.set i (some { h with moved := h.moved + min n.toNat h.left }) } }
        (replyOf r k 0x61 Status.ok (.bytes (leBytes 4 h.at_ ++ s.spaceRead h h.at_ (min n.toNat h.left)))))) ∧
    (∀ bytes, s.bursting i = false → s.admits 0x62 r k = true → h.write = true → bytes.length ≤ h.left → Answers (exec (.dataWrite r handle bytes) s) (fun t =>
      t = { s with dram := t.dram, badDram := t.badDram
                   hp := { s.hp with handles := s.hp.handles.set i (some { h with moved := h.moved + bytes.length }) }
                   cmd := (s.withReply (replyOf r k 0x62 Status.ok (.bytes (leBytes 4 (h.at_ + bytes.length))))).cmd } ∧
      (s.canonical = true → t.dramRead (0x6000000 + h.at_) bytes.length = bytes) ∧
      ∀ x : Nat, x < 0x6000000 + h.at_ ∨ 0x6000000 + h.at_ + bytes.length ≤ x → t.dramRead x 1 = s.dramRead x 1)) ∧
    (s.bursting i = false → s.admits 0x63 r k = true → s.spaceBad h h.base h.moved = [] → exec (.dataClose r handle) s = .next (State.withReply
      { s with hp := { s.hp with handles := s.hp.handles.set i none } }
      (replyOf r k 0x63 Status.ok (.bytes (leBytes 4 h.moved ++ leBytes 4 (crc32c (s.spaceRead h h.base h.moved)).toNat))))) ∧
    (∀ (f : SpiFrame) (n : Word), s.portUp = true → s.rdy f.fell = true → f.otherType = false → f.cut = false → f.timingOk = true →
        (f.quad = true → s.dev 0x0E00 ≠ 0) → f.complete = true → s.power.mode ≠ .dormant → s.slotOf { port := .spi } = some k → 1 ≤ n.toNat → n.toNat ≤ 65536 → n.toNat ≤ h.left →
      (s.spaceBad h h.at_ n.toNat = [] → Answers (exec (.rawRead f handle n) s) (fun t =>
        ReadFrame { s with hp := { s.hp with handles := s.hp.handles.set i (some { h with moved := h.moved + n.toNat }), burstStatus := 0 } }
          t f 1000 { s.hp.pins with burst := some i }
          (leBytes 4 0 ++ leBytes 4 h.at_ ++ s.spaceRead h h.at_ n.toNat ++
            leBytes 4 (crc32c (leBytes 4 0 ++ leBytes 4 h.at_ ++ s.spaceRead h h.at_ n.toNat)).toNat))) ∧
      (∀ (bytes : List Byte) (crc : Word), h.write = true → bytes.length = n.toNat →
        (crc32c ([handle, 0, 0, 0] ++ leBytes 4 n.toNat ++ bytes) = crc → Answers (exec (.rawWrite f handle n bytes crc) s) (fun t =>
          t = { s with dram := t.dram, badDram := t.badDram, free := s.free + 1
                       hp := { s.hp with handles := s.hp.handles.set i (some { h with moved := h.moved + n.toNat }), burstStatus := 0
                                         pins := { s.hp.pins with fell := f.fell, rose := f.rose, readyAt := none, burst := some i
                                                                  busyTo := t.hp.pins.busyTo } } } ∧
          f.rose ≤ t.hp.pins.busyTo ∧ t.hp.pins.busyTo ≤ f.rose + 400 ∧
          (s.canonical = true → t.dramRead (0x6000000 + h.at_) n.toNat = bytes) ∧
          ∀ x : Nat, x < 0x6000000 + h.at_ ∨ 0x6000000 + h.at_ + n.toNat ≤ x → t.dramRead x 1 = s.dramRead x 1)) ∧
        (crc32c ([handle, 0, 0, 0] ++ leBytes 4 n.toNat ++ bytes) ≠ crc → Answers (exec (.rawWrite f handle n bytes crc) s) (fun t =>
          t = { s with dram := t.dram, badDram := t.badDram, regs := t.regs, saturated := t.saturated, faults := t.faults, log := t.log
                       free := t.free
                       hp := { s.hp with burstStatus := BitVec.ofNat 8 Status.badCrc
                                         pins := { s.hp.pins with fell := f.fell, rose := f.rose, readyAt := none, burst := some i
                                                                  busyTo := t.hp.pins.busyTo } } } ∧
          f.rose ≤ t.hp.pins.busyTo ∧ t.hp.pins.busyTo ≤ f.rose + 400 ∧
          ∀ x : Nat, x < 0x6000000 + h.at_ ∨ 0x6000000 + h.at_ + n.toNat ≤ x → t.dramRead x 1 = s.dramRead x 1)))))

/-! ### Quarry -/

/-- QUARRY_SETUP (R424 to R426): a block whose channels all name signals, whose source and kind exist and whose numbers lie in their ranges
is accepted unless the engine records (BUSY) or holds records of another segment count (BUSY); the engine is then IDLE with the
sizes that the block gives. A channel that names no signal, or a source that does not exist, is BAD_PARAMETER; fewer than 16
rows, or more pre-trigger rows than rows less 4, is OUT_OF_RANGE.
QUARRY_ARM takes the free segment that follows the last one used, with the next sequence number, and writes a header into that segment
alone; it is BUSY while the engine records, initialises its DRAM or has no free segment. DISARM ends the record in progress: held as
truncated after its trigger, freed before it (R436, R439, R440). QUARRY_FORCE anchors an armed record on its own frame and answers
the trigger frame (R431). When DRAM is initialised the engine may arm. -/
def Obligations.QuarrySetUpAndArming : Prop :=
   (∀ (r : Req) (k : Fin 8) (b : QuarryBlock) (s : State), s.admits 0x70 r k = true →
      ((∃ d ∈ b.channels, s.signalOk d = false) ∨ 3 < b.source ∨ (b.source = 1 ∧ 4 ≤ b.kind) ∨ (b.source = 2 ∧ 3 ≤ b.kind) ∨
          ((b.source = 0 ∨ b.source = 3) ∧ b.kind ≠ 0) →
        exec (.quarrySetup r b) s = .next (s.withReply (replyOf r k 0x70 Status.badParameter .bare))) ∧
      ((∀ d ∈ b.channels, s.signalOk d = true) → b.source ≤ 3 → (b.source = 1 → b.kind ≤ 3) → (b.source = 2 → b.kind ≤ 2) →
          ((b.source = 0 ∨ b.source = 3) → b.kind = 0) → b.decimation ≤ 2 → 1 ≤ b.count → b.count ≤ 32 → 1 ≤ b.d → b.d ≤ 65535 →
          1 ≤ b.segments → b.segments ≤ 4096 → b.ringOut < 8 ∨ b.ringOut = 255 → (b.source = 1 → b.item < b.count) → (b.source = 2 → b.item < 32) →
          (∀ d ∈ b.channels, bitField (chSignal d) = true → chWide d = false → chShift d = 0) →
        ((s.quarrySizes b).rows < 16 ∨ (s.quarrySizes b).rows - 4 < b.pre →
          exec (.quarrySetup r b) s = .next (s.withReply (replyOf r k 0x70 Status.outOfRange .bare))) ∧
        (16 ≤ (s.quarrySizes b).rows → b.pre + 4 ≤ (s.quarrySizes b).rows →
          (s.qry.state = .armed ∨ s.qry.state = .post ∨
              (s.qry.held ≠ [] ∧ ∃ o, s.qry.setup = some o ∧ o.block.segments ≠ b.segments) →
            exec (.quarrySetup r b) s = .next (s.withReply (replyOf r k 0x70 Status.busy .bare))) ∧
          (s.qry.state ≠ .armed → s.qry.state ≠ .post → (s.qry.held = [] ∨ ∀ o, s.qry.setup = some o → o.block.segments = b.segments) →
            Answers (exec (.quarrySetup r b) s) (fun t =>
              t = { s with qry := t.qry, faults := t.faults, log := t.log, cmd := (s.withReply (replyOf r k 0x70 Status.ok .bare)).cmd } ∧
              t.isActive 0x1201 255 = false ∧
              t.qry = { s.qry with state := .idle, setup := some (s.quarrySizes b), autoRearm := false, fillPre := false
                                   lastSegment := t.qry.lastSegment } ∧
              (s.quarrySizes b).block = b ∧ (s.quarrySizes b).rowSize % 8 = 0 ∧
              192 + (s.quarrySizes b).rows * (s.quarrySizes b).rowSize ≤ (s.quarrySizes b).segmentSize ∧
              b.segments * (s.quarrySizes b).segmentSize ≤ s.devN 0x1200 * 1048576))))) ∧
   ((∀ (r : Req) (k : Fin 8) (flags : Byte) (s : State),
      (s.admits 0x71 r k = true → 8 ≤ flags.toNat →
        exec (.quarryArm r flags) s = .next (s.withReply (replyOf r k 0x71 Status.badParameter .bare))) ∧
      (s.direct 0x71 r k (.quarryArm r flags) = true → flags.toNat < 4 →
        (s.qry.state = .armed ∨ s.qry.state = .post ∨ s.power.quarryInit = true ∨ s.qry.setup = none ∨
            (∃ c, s.qry.setup = some c ∧ s.qry.freeSegment c = none) →
          exec (.quarryArm r flags) s = .next (s.withReply (replyOf r k 0x71 Status.busy .bare))) ∧
        (∀ c seg, s.qry.state ≠ .armed → s.qry.state ≠ .post → s.power.quarryInit = false → s.qry.setup = some c →
            s.qry.freeSegment c = some seg → Answers (exec (.quarryArm r flags) s) (fun t =>
          t = { s with qry := t.qry, regs := t.regs, dram := t.dram, badDram := t.badDram, faults := t.faults, log := t.log
                       cmd := (s.withReply (replyOf r k 0x71 Status.ok .bare)).cmd } ∧
          t.qry.state = .armed ∧ t.qry.autoRearm = flags.getLsbD 0 ∧ t.qry.fillPre = flags.getLsbD 1 ∧ t.qry.held = s.qry.held ∧
          t.qry.current = some { sequence := s.qry.sequence, segment := seg, segmentSize := c.segmentSize, armed := s.frame64, trigger := none } ∧
          t.qry.lastSegment = some seg ∧ t.qry.sequence = nextSequence s.qry.sequence ∧ t.qry.rowsWritten = 0 ∧
          (∀ x ∈ s.qry.held, x.segment ≠ seg) ∧
          ∀ x : Nat, x < seg * c.segmentSize ∨ seg * c.segmentSize + 192 ≤ x → t.dramRead x 1 = s.dramRead x 1))) ∧
      (s.direct 0x71 r k (.quarryArm r flags) = true → 4 ≤ flags.toNat → flags.toNat < 8 →
        (∀ c x, s.qry.setup = some c → s.qry.current = some x → s.qry.state = .post → Answers (exec (.quarryArm r flags) s) (fun t =>
          t.qry.state = .stopped ∧ t.qry.held = s.qry.held ++ [x] ∧ t.qry.current = none ∧ t.qry.autoRearm = false ∧
          t.cmd = (s.withReply (replyOf r k 0x71 Status.ok .bare)).cmd)) ∧
        (∀ c x, s.qry.setup = some c → s.qry.current = some x → s.qry.state ≠ .post → Answers (exec (.quarryArm r flags) s) (fun t =>
          t = { s with qry := t.qry, regs := t.regs, cmd := (s.withReply (replyOf r k 0x71 Status.ok .bare)).cmd } ∧
          t.qry.state = .idle ∧ t.qry.held = s.qry.held ∧ t.qry.current = none ∧ t.qry.autoRearm = false)) ∧
        (s.qry.current = none → s.qry.state = .idle →
          exec (.quarryArm r flags) s = .next (s.withReply (replyOf r k 0x71 Status.alreadyDone .bare))))) ∧
    (∀ (r : Req) (k : Fin 8) (s : State), s.admits 0x72 r k = true →
      (s.qry.state = .armed → exec (.quarryForce r) s = .next (State.withReply
        { s with qry := { s.qry with forced := some { frame := s.frame64, offset := 0, source := 5, item := 0 } } }
        (replyOf r k 0x72 Status.ok (.bytes (leBytes 4 s.frame32.toNat))))) ∧
      (∀ x u, s.qry.state = .post → s.qry.current = some x → x.trigger = some u → exec (.quarryForce r) s = .next (s.withReply
        (replyOf r k 0x72 Status.alreadyDone (.bytes (leBytes 4 (u.frame.setWidth 32 : Word).toNat))))) ∧
      (s.qry.state ≠ .armed → s.qry.state ≠ .post →
        exec (.quarryForce r) s = .next (s.withReply (replyOf r k 0x72 Status.busy .bare)))) ∧
    (∀ s : State, exec .quarryInitDone s = .next { s with power := { s.power with quarryInit := false } }))

/-- A trigger of an armed record anchors it (R432 to R435): the engine is in POST at the row of the trigger's frame, the header names the
trigger, and an own trigger is published on the ring-out line. A trigger of a second node not later than a frame after the
acceptance and earlier than the one accepted takes its place; every other one is counted and ignored. The record ends after its
post-trigger rows as HELD; AUTO_REARM arms the next segment, or waits in FULL with QRY_REARM_BLOCKED until one is free (R434,
R437). -/
def Obligations.QuarryRecords : Prop :=
  (∀ (c : QuarrySetup) (x : Record) (s : State), s.qry.setup = some c → s.qry.current = some x →
    (∀ u : Trigger, s.qry.candidates = [u] → x.armed.toNat ≤ u.frame.toNat → s.qry.state = .armed →
      (s.qry.fillPre = true → c.block.pre ≤ s.qry.rowsWritten ∨ u.source = 5) → Answers (exec .quarryTrigger s) (fun t =>
        t = { s with qry := t.qry, ring := { s.ring with own := t.ring.own }, dram := t.dram, badDram := t.badDram, log := t.log } ∧
        t.qry.state = .post ∧ t.qry.current = some { x with trigger := some u } ∧ t.qry.acceptedAt = s.frame64 ∧
        t.qry.triggerRow = (u.frame - x.armed).toNat / c.block.d ∧ t.qry.candidates = [] ∧ t.qry.held = s.qry.held ∧
        (u.source ≠ 4 → c.block.ringOut ≠ 255 → t.qry.published = some (2 ^ c.block.ringOut, u.offset)) ∧
        ∀ a : Nat, a < x.segment * c.segmentSize ∨ x.segment * c.segmentSize + 192 ≤ a → t.dramRead a 1 = s.dramRead a 1)) ∧
    (∀ u : Trigger, s.qry.candidates = [u] → x.armed.toNat ≤ u.frame.toNat → s.qry.state = .post → u.source ≠ 4 →
      Answers (exec .quarryTrigger s) (fun t =>
        t = { s with qry := { s.qry with candidates := [] }, regs := t.regs, saturated := t.saturated, faults := t.faults, log := t.log } ∧
        (s.canonical = true → t.stuck 0x1210 255 5 = true))) ∧
    (s.qry.candidates = [] → exec .quarryTrigger s = .next s) ∧
    (∀ (node : Fin 8) (slot : List Byte) (line : Nat), s.ring.slots[node] = some slot → node ≠ s.ring.addr → line < 8 →
      (field 3 1 slot &&& c.block.ringIn) = 2 ^ line → s.qry.state = .armed → s.qry.fillPre = false →
      x.armed.toNat ≤ (BitVec.ofNat 64 (field 8 8 slot) - 1 : Long).toNat → Answers (exec (.ringTrigger node) s) (fun t => t.qry.state = .post ∧
        (∃ u : Trigger, t.qry.current = some { x with trigger := some u } ∧ u.frame = BitVec.ofNat 64 (field 8 8 slot) - 1 ∧
          u.offset = field 4 2 slot ∧ u.source = 4 ∧ u.item = line) ∧
        t.qry.acceptedAt = s.frame64 ∧ t.qry.published = s.qry.published)) ∧
    (∀ (node : Fin 8) (slot : List Byte), s.ring.slots[node] = some slot → field 3 1 slot &&& c.block.ringIn = 0 ∨ node = s.ring.addr →
      exec (.ringTrigger node) s = .next s) ∧
    (s.qry.state ≠ .post ∨ s.qry.rowsWritten < s.qry.triggerRow + (c.rows - c.block.pre) → exec .quarryRecordEnd s = .next s) ∧
    (s.qry.state = .post → s.qry.triggerRow + (c.rows - c.block.pre) ≤ s.qry.rowsWritten → Answers (exec .quarryRecordEnd s) (fun t =>
      t.qry.held = s.qry.held ++ [x] ∧ (s.qry.autoRearm = false → t.qry.state = .stopped ∧ t.qry.current = none) ∧
      (s.qry.autoRearm = true → (t.qry.state = .armed ∧ t.qry.sequence = nextSequence s.qry.sequence) ∨
        (t.qry.state = .full ∧ t.qry.current = none ∧ t.isActive 0x1201 255 = true)) ∧
      t.motion = s.motion ∧ t.cmd = s.cmd ∧ t.saf = s.saf))) ∧
  (∀ (c : QuarrySetup) (s : State), s.qry.setup = some c →
    (s.qry.state ≠ .full → exec .quarryRearm s = .next s) ∧
    (s.qry.state = .full → s.qry.freeSegment c = none → exec .quarryRearm s = .next s) ∧
    (∀ seg, s.qry.state = .full → s.qry.freeSegment c = some seg → Answers (exec .quarryRearm s) (fun t =>
      t = { s with qry := t.qry, regs := t.regs, dram := t.dram, badDram := t.badDram } ∧ t.qry.state = .armed ∧
      t.qry.lastSegment = some seg ∧ t.qry.sequence = nextSequence s.qry.sequence ∧ t.qry.held = s.qry.held)))

/-! ### Configuration sets, images and safety sets -/

/-- Staging (R456, R457, R461, R467, R319). CFG_STAGE, FW_STAGE and SAFETY_SET_LOAD check the slot and the staging range, are BUSY while a
flash operation or a safety check is under way, and answer the first failing check of the staged bytes; an accepted one replies
ACCEPTED_PENDING and holds its range. FLASH_OP_COMPLETE writes the set and its record into its slot and nowhere else, marks the slot
STAGED or invalid, and completes the request; SAFETY_SET_CHECK_DONE completes its request with the first failing check or accepts the
set until Service is left; EVENT_FLASH_PROGRAM leaves every entry of the log in flash. -/
def Obligations.StagingToFlash : Prop :=
  (∀ (r : Req) (k n : Fin 8) (slot : Byte) (image : Fin 2) (offset length : Word) (s : State), slot = BitVec.ofNat 8 n.val →
      length ≠ 0 → offset.toNat + length.toNat ≤ 0x800000 →
      (∀ (j : Fin 8) h, s.hp.handles[j] = some h → h.space = 1 → h.write = true → overlaps h.base h.length offset.toNat length.toNat = false) →
    (s.admits 0x80 r k = true → s.cfg.activeSlot ≠ some n → s.cfg.trial = none →
      (s.cfg.flash.isSome = true ∨ s.saf.setChecking.isSome = true →
        exec (.cfgStage r slot offset length) s = .next (s.withReply (replyOf r k 0x80 Status.busy .bare))) ∧
      (s.cfg.flash = none → s.saf.setChecking = none → ∀ bs, (s.stagedBytes offset.toNat length.toNat).1 = some bs →
        (∀ status, s.setStatus bs = some status → exec (.cfgStage r slot offset length) s = .next (s.withReply (replyOf r k 0x80 status .bare))) ∧
        (s.setStatus bs = none → exec (.cfgStage r slot offset length) s = .next (State.withReply
          { s with cfg := { s.cfg with flash := some (.configStage n bs), flashRange := some (offset.toNat, length.toNat)
                                       requester := some (0x80, some k, r.seq) } }
          (replyOf r k 0x80 Status.pending .bare))))) ∧
    (s.admits 0x84 r k = true → s.cfg.flash = none → s.saf.setChecking = none → ∀ bs, (s.stagedBytes offset.toNat length.toNat).1 = some bs →
      (headerOk image.val bs = false →
        exec (.fwStage r (BitVec.ofNat 8 image.val) offset length) s = .next (s.withReply (replyOf r k 0x84 Status.imageInvalid .bare))) ∧
      (headerOk image.val bs = true → s.imageSigned image.val bs = false →
        exec (.fwStage r (BitVec.ofNat 8 image.val) offset length) s = .next (s.withReply (replyOf r k 0x84 Status.authFail .bare))) ∧
      (headerOk image.val bs = true → s.imageSigned image.val bs = true →
        exec (.fwStage r (BitVec.ofNat 8 image.val) offset length) s = .next (State.withReply
          { s with cfg := { s.cfg with flash := some (.imageStage image (s.bootSlot image + 1) bs)
                                       flashRange := some (offset.toNat, length.toNat)
                                       requester := some (0x84, some k, r.seq) } }
          (replyOf r k 0x84 Status.pending .bare)))) ∧
    (s.admits 0x92 r k = true → s.cfg.flash = none → s.saf.setChecking = none →
      exec (.safetySetLoad r offset length) s = .next (State.withReply
        { s with saf := { s.saf with setChecking := some (offset.toNat, some k, r.seq) }
                 cfg := { s.cfg with flashRange := some (offset.toNat, length.toNat) } }
        (replyOf r k 0x92 Status.pending .bare)))) ∧
  (∀ (report : FlashReport) (s : State), (s.cfg.flash = none ∨ s.cfg.flash = some .templateSave → exec (.flashOpComplete report) s = .next s) ∧
    (∀ k bs, s.cfg.flash = some (.configStage k bs) → bs.length ≤ 258048 → Answers (exec (.flashOpComplete report) s) (fun t =>
      t = { s with flash := t.flash, badFlash := t.badFlash, faults := t.faults, log := t.log, cfg := t.cfg } ∧
      t.cfg = { s.cfg with flash := none, flashRange := none, requester := none, slots := t.cfg.slots } ∧
      (∀ j : Fin 8, j ≠ k → t.cfg.slots[j] = s.cfg.slots[j]) ∧
      t.cfg.slots[k] = { record := some (.staged, 0), version := setVersion bs, valid := report.verified } ∧
      t.isActive 0x1402 k.val = !report.verified ∧
      (∀ op slot seq, s.cfg.requester = some (op, slot, seq) → ∃ e, e ∈ t.log.fresh ∧ e.code = 0x0280 ∧ e.extra = seq.toNat ∧
        e.detail = (if report.verified then Status.ok else Status.imageInvalid)) ∧
      (s.canonical = true → t.flashRead (cfgBase k.val) bs.length = bs) ∧
      (∀ x : Nat, x < cfgBase k.val ∨ cfgBase k.val + 0x40000 ≤ x → t.flashRead x 1 = s.flashRead x 1))) ∧
    (∀ kind slot bs, s.cfg.flash = some (.imageStage kind slot bs) → Answers (exec (.flashOpComplete report) s) (fun t =>
      t.cfg.flash = none ∧ t.cfg.flashRange = none ∧ t.cfg.slots = s.cfg.slots ∧ (t.imageAt kind slot).valid = report.verified ∧
      (t.imageAt kind slot).record = some (.staged, 0) ∧ t.imageAt kind (slot + 1) = s.imageAt kind (slot + 1) ∧
      t.imageAt (kind + 1) slot = s.imageAt (kind + 1) slot ∧ t.dram = s.dram ∧ t.regs = s.regs))) ∧
  (∀ s : State, (s.saf.setChecking = none → exec .safetySetCheckDone s = .next s) ∧
    (∀ offset slot seq o length, s.saf.setChecking = some (offset, slot, seq) → s.cfg.flashRange = some (o, length) →
      (∀ bs, (s.stagedBytes offset length).1 = some bs → Answers (exec .safetySetCheckDone s) (fun t =>
        t = { s with saf := { s.saf with setChecking := none, setAccepted := t.saf.setAccepted }, cfg := { s.cfg with flashRange := none }
                     log := t.log } ∧
        ∃ e, t.log = { s.log with fresh := s.log.fresh ++ [e] } ∧ e.code = 0x0280 ∧ e.extra = seq.toNat ∧
          (∀ st, s.safetySetStatus bs = some st → e.detail = st ∧ t.saf.setAccepted = s.saf.setAccepted) ∧
          (s.safetySetStatus bs = none → e.detail = Status.ok ∧ t.saf.setAccepted = some bs))) ∧
      ((s.stagedBytes offset length).1 = none → offset + length ≤ 0x800000 → Answers (exec .safetySetCheckDone s) (fun t =>
        t.saf = { s.saf with setChecking := none } ∧ t.cfg = { s.cfg with flashRange := none } ∧ t.dram = s.dram ∧ t.flash = s.flash ∧
        ∃ e, t.log.fresh.getLast? = some e ∧ e.code = 0x0280 ∧ e.extra = seq.toNat ∧ e.detail = Status.imageInvalid)))) ∧
  (∀ s : State, Answers (exec .eventFlashProgram s) (fun t =>
    t = { s with flash := t.flash, badFlash := t.badFlash, log := t.log } ∧ t.log.fresh = s.log.fresh ∧ t.log.next = s.log.next ∧
    t.log.entries = s.log.entries.map (fun (e : Entry) => { e with flashed := true }) ∧
    (∀ x : Nat, x < 0x740000 ∨ 0x7C0000 ≤ x → t.flashRead x 1 = s.flashRead x 1)))

/-- Activation, confirmation and rollback (R462 to R468). CFG_ACTIVATE in Service waits for the end of Service and drops the waiting SVC
writes; outside it, a set that changes neither an SVC value nor the safety set takes effect at once. CFG_CONFIRM ends the trial of its
slot or confirms a running image; CFG_ROLLBACK needs a previous slot, which becomes the active one at once or, when SVC values or
the safety set change, at the first tick with every axis DISABLED; so does the end of a trial that nobody confirmed. FW_ACTIVATE
marks the staged images of its kinds ACTIVATED when their pairing is listed. -/
def Obligations.ActivationAndRollback : Prop :=
  (∀ (r : Req) (k n : Fin 8) (slot flags : Byte) (trial : Half) (seconds : Option Nat) (s : State), s.admits 0x81 r k = true →
      slot = BitVec.ofNat 8 n.val → flags.toNat < 2 →
      seconds = (if flags = 1 then some (if trial = 0 then s.devN 0x1400 else trial.toNat) else none) →
    (s.cfg.trial.isSome = true → exec (.cfgActivate r slot flags trial) s = .next (s.withReply (replyOf r k 0x81 Status.busy .bare))) ∧
    (s.cfg.trial = none → s.cfg.slots[n].record = none ∨ s.cfg.slots[n].valid = false →
      exec (.cfgActivate r slot flags trial) s = .next (s.withReply (replyOf r k 0x81 Status.imageInvalid .bare))) ∧
    (s.cfg.trial = none → s.cfg.slots[n].valid = true → s.cfg.slots[n].activatable = true →
      (s.power.mode = .service → s.storeFull (carriedKeys (s.slotSet n)) = false →
        exec (.cfgActivate r slot flags trial) s = .next (State.withReply
          { s with svcPending := [], cfg := { s.cfg with activating := some (n, seconds)
                                                         activateWaiting := s.cfg.activateWaiting ++ [(some k, r.seq)] } }
          (replyOf r k 0x81 Status.pending .bare))) ∧
      (s.power.mode ≠ .service → s.changesSvc (some n) = true ∨ s.changesSafety n = true →
        exec (.cfgActivate r slot flags trial) s = .next (s.withReply (replyOf r k 0x81 Status.wrongMode .bare))) ∧
      (s.power.mode ≠ .service → s.changesSvc (some n) = false → s.changesSafety n = false →
        Answers (exec (.cfgActivate r slot flags trial) s) (fun t =>
          t.cfg.activeSlot = some n ∧ t.cfg.trial = (if flags = 1 then some n else none) ∧
          (flags = 1 → t.cfg.trialEnd = s.tb.tickAt + 200000000 * seconds.getD 0) ∧
          (∃ g, t.cfg.slots[n].record = some (if flags = 1 then .trial else .activated, g)) ∧
          t.cmd = (s.withReply (replyOf r k 0x81 Status.ok .bare)).cmd ∧ t.svcPending = s.svcPending ∧ t.power = s.power)))) ∧
  (∀ (r : Req) (k n : Fin 8) (slot : Byte) (s : State), s.admits 0x82 r k = true → slot = BitVec.ofNat 8 n.val →
    (s.cfg.trial = some n → Answers (exec (.cfgConfirm r slot) s) (fun t =>
      t = { s with flash := t.flash, log := t.log, cfg := { s.cfg with slots := t.cfg.slots, trial := none }
                   cmd := (s.withReply (replyOf r k 0x82 Status.ok .bare)).cmd } ∧
      (∃ g, t.cfg.slots[n].record = some (.confirmed, g)) ∧ ∀ j : Fin 8, j ≠ n → t.cfg.slots[j] = s.cfg.slots[j])) ∧
    (s.cfg.trial ≠ some n → exec (.cfgConfirm r slot) s = .next (s.withReply (replyOf r k 0x82
      (if s.cfg.slots[n].confirmed then Status.alreadyDone else Status.badParameter) .bare))) ∧
    (∀ kind : Fin 2, ((s.imageAt kind (s.bootSlot kind)).confirmed = true →
        exec (.cfgConfirm r (BitVec.ofNat 8 (16 + kind.val))) s = .next (s.withReply (replyOf r k 0x82 Status.alreadyDone .bare))) ∧
      ((s.imageAt kind (s.bootSlot kind)).confirmed = false →
        Answers (exec (.cfgConfirm r (BitVec.ofNat 8 (16 + kind.val))) s) (fun t =>
          (t.imageAt kind (s.bootSlot kind)).confirmed = true ∧ t.cfg.slots = s.cfg.slots ∧
          t.cmd = (s.withReply (replyOf r k 0x82 Status.ok .bare)).cmd)))) ∧
  (∀ (r : Req) (k : Fin 8) (s : State), s.admits 0x83 r k = true →
    (s.cfg.rollbackPending = true → exec (.cfgRollback r) s = .next (s.withReply (replyOf r k 0x83 Status.alreadyDone .bare))) ∧
    (s.cfg.rollbackPending = false →
      (s.previousSlot = none → exec (.cfgRollback r) s = .next (s.withReply (replyOf r k 0x83 Status.imageInvalid .bare))) ∧
      (∀ p, s.previousSlot = some p → s.power.mode ≠ .service → s.rollsSafetyBack = true →
        exec (.cfgRollback r) s = .next (s.withReply (replyOf r k 0x83 Status.wrongMode .bare))) ∧
      (∀ p, s.previousSlot = some p → (s.power.mode = .service ∨ s.rollsSafetyBack = false) →
        Answers (exec (.cfgRollback r) s) (fun t =>
          t.cfg.trial = none ∧ (∃ g, t.cfg.slots[p].record = some (.activated, g)) ∧
          (∀ a, s.cfg.activeSlot = some a → ∃ g, t.cfg.slots[a].record = some (.rolledBack, g)) ∧
          (s.changesSvc (some p) = true ∨ s.rollsSafetyBack = true → t.cfg.rollbackPending = true ∧ t.regs = s.regs ∧
            t.cfg.rollbackBy = some (some k, r.seq) ∧
            t.cmd = (s.withReply (replyOf r k 0x83 Status.pending (.bytes ([BitVec.ofNat 8 p.val, 0, 0, 0])))).cmd) ∧
          (s.changesSvc (some p) = false → s.rollsSafetyBack = false → t.cfg.rollbackPending = false ∧ t.cfg.activeSlot = some p ∧
            t.cmd = (s.withReply (replyOf r k 0x83 Status.ok (.bytes ([BitVec.ofNat 8 p.val, 0, 0, 0])))).cmd))))) ∧
  (∀ s : State,
    (s.cfg.trial = none ∨ s.tb.tickAt < s.cfg.trialEnd → exec .trialExpiry s = .next s) ∧
    (s.cfg.trial.isSome = true → s.cfg.trialEnd ≤ s.tb.tickAt → Answers (exec .trialExpiry s) (fun t =>
      t.cfg.trial = none ∧ t.isActive 0x1401 255 = true ∧
      (∀ a, s.cfg.activeSlot = some a → (∀ p, s.previousSlot = some p → p ≠ a) → ∃ g, t.cfg.slots[a].record = some (.rolledBack, g)))) ∧
    (s.cfg.rollbackPending = false ∨ s.allDisabled = false → exec .rollbackApply s = .next s) ∧
    (s.cfg.rollbackPending = true → s.allDisabled = true → Answers (exec .rollbackApply s) (fun t =>
      t.cfg.rollbackPending = false ∧ t.cfg.activeSlot = s.previousSlot ∧
      (s.rollsSafetyBack = true → s.cfg.rollbackBy = none → s.saf.state ≠ .locked → t.saf.state = .sto ∧ t.torqueOff = true ∧ t.saf.cause = 7) ∧
      (∀ slot seq, s.cfg.rollbackBy = some (slot, seq) → t.cfg.rollbackBy = none ∧ ∃ e, e ∈ t.log.fresh ∧ e.code = 0x0280 ∧
        e.detail = Status.ok ∧ e.extra = seq.toNat)))) ∧
  (∀ (r : Req) (k : Fin 8) (kind : Fin 2) (s : State), s.admits 0x85 r k = true →
    (s.stagedSlot kind = none →
      exec (.fwActivate r (BitVec.ofNat 8 kind.val)) s = .next (s.withReply (replyOf r k 0x85 Status.imageInvalid .bare))) ∧
    (∀ p, s.stagedSlot kind = some p →
      (s.pairingListed (if kind = 0 then p else s.bootSlot 0) (if kind = 1 then p else s.bootSlot 1) = false →
        exec (.fwActivate r (BitVec.ofNat 8 kind.val)) s = .next (s.withReply (replyOf r k 0x85 Status.versionMismatch .bare))) ∧
      (s.pairingListed (if kind = 0 then p else s.bootSlot 0) (if kind = 1 then p else s.bootSlot 1) = true →
        Answers (exec (.fwActivate r (BitVec.ofNat 8 kind.val)) s) (fun t =>
          t = { s with flash := t.flash, log := t.log, cfg := t.cfg, cmd := (s.withReply (replyOf r k 0x85 Status.ok .bare)).cmd } ∧
          (t.imageAt kind p).record = some (.activated, s.nextGeneration) ∧ t.imageAt (kind + 1) p = s.imageAt (kind + 1) p ∧
          t.cfg.slots = s.cfg.slots))))

/-! ### The Bolhus link -/

/-- Items received from the ring (R47, R50, R51, R367, R368, R372, R386, R388, R389). A tick block, slot or block that fails its CRC marks its
port's frame as bad, quiet frames apart, and delivers nothing; a good tick block of the followed master from upstream gives the
phase error of the frame; one whose ring state says so tells a node that the ring is wrapped (R370), and where the master of a wrapped
ring passes one on, its correction is the time since its own tick (R374); while listening, a tick block gives the phase of the step
before JOIN (R378). A good slot is held for the next tick and returns its credits, no more than are spent; the first slot of a node
that has joined fills its credits (R389), and one that shows a new end node tells of a segment that is down (R104). The first block
of a packet begins its assembly, and a block for another node leaves by the other port where its stream goes on (R369, R388). A frame without a tick enters holdover; 8 of them lose the master, and the
node of rank r is to succeed it after 8 r: at its own next tick it is the master, with the next epoch.
Where the manual gives no window or place the model's readings stand (notes/assumptions/65 to 67). -/
def Obligations.RingItems : Prop :=
  (∀ (port : Fin 2) (block : List Byte) (count residence codeErrors : Nat) (s : State),
    (block.length ≠ 8 ∨ field 0 1 block ≠ 0x3C ∨ crc16Bytes (slice 1 5 block) ≠ slice 6 2 block → Answers (exec (.tickSymbolReceived port block count residence codeErrors) s) (fun t =>
      t = { s with ring := { s.ring with ports := t.ring.ports }, regs := t.regs, saturated := t.saturated, faults := t.faults, log := t.log } ∧
      t.ring.ports[port] = { s.ring.ports[port] with frameBad := s.ring.ports[port].frameBad || !s.ring.quiet } ∧
      t.ring.ports[1 - port] = s.ring.ports[1 - port])) ∧
    (block.length = 8 → field 0 1 block = 0x3C → crc16Bytes (slice 1 5 block) = slice 6 2 block →
      (s.ring.joined = false → Answers (exec (.tickSymbolReceived port block count residence codeErrors) s) (fun t =>
        t = { s with ring := { s.ring with heardTick := true, heardPhase := t.ring.heardPhase }, regs := t.regs, saturated := t.saturated, faults := t.faults, log := t.log } ∧
        ∀ d : Nat, s.ring.ports[port].delay = some d ∨ (s.ring.ports[port].delay = none ∧ s.ring.ports[1 - port].delay = some d) ∨
            (s.ring.ports[port].delay = none ∧ s.ring.ports[1 - port].delay = none ∧ d = 0) →
          t.ring.heardPhase = some (phaseOf count (d + 16 * field 4 2 block)))) ∧
      (s.ring.joined = true → s.isMaster = true → Answers (exec (.tickSymbolReceived port block count residence codeErrors) s) (fun t =>
        t = { s with ring := { s.ring with ports := t.ring.ports, wrapped := t.ring.wrapped, segmentDown := t.ring.segmentDown
                                           residence := t.ring.residence }, regs := t.regs, saturated := t.saturated, faults := t.faults, log := t.log } ∧
        t.ring.ports[port] = { s.ring.ports[port] with ticked := true } ∧
        t.ring.ports[1 - port] = { s.ring.ports[1 - port] with sent := t.ring.ports[1 - port].sent } ∧
        t.ring.wrapped = (s.ring.wrapped || (field 3 1 block).testBit 4) ∧
        t.ring.segmentDown = (s.ring.segmentDown || (field 3 1 block).testBit 4) ∧
        (t.ring.wrapped = false ∨ s.transmits (1 - port) = false ∨ s.ring.ports[port].endPort = true →
          t.ring.ports[1 - port].sent = s.ring.ports[1 - port].sent ∧ t.ring.residence = s.ring.residence) ∧
        (t.ring.wrapped = true → s.transmits (1 - port) = true → s.ring.ports[port].endPort = false → t.ring.residence = residence ∧
          ∃ body : List Byte, t.ring.ports[1 - port].sent = 0x3C :: body ++ crc16Bytes body ∧
          body.take 3 = slice 1 3 block ∧ body.drop 3 = leBytes 2 (rdiv (50 * (count : Int) + residence) 16).toNat))) ∧
      (∀ path d : Nat, s.delayOn port = some d → path = d + 16 * field 4 2 block → s.ring.joined = true → s.isMaster = false → s.ring.detached = false →
          field 3 1 block % 16 = s.ring.master.toNat → field 1 1 block = s.ring.epoch.toNat → (field 3 1 block).testBit 6 = true →
          s.ring.ports[1 - port].pathDelay = 0 ∨ path ≤ s.ring.ports[1 - port].pathDelay →
        Answers (exec (.tickSymbolReceived port block count residence codeErrors) s) (fun t =>
          t = { s with ring := t.ring, tb := t.tb, regs := t.regs, saturated := t.saturated, faults := t.faults, log := t.log } ∧ t.ring.master = s.ring.master ∧
          (s.tb.holdover = true ∨ (phaseOf count path - s.expectedPhase).natAbs ≤ 2 → t.tb = { s.tb with phase := some (phaseOf count path) }) ∧
          (s.tb.holdover = false → 2 < (phaseOf count path - s.expectedPhase).natAbs → t.tb = s.tb))))) ∧
  (∀ (port : Fin 2) (node : Fin 8) (slot : List Byte) (codeErrors : Nat) (s : State),
    (slot.length ≠ 194 ∨ crc16Bytes (slot.take 192) ≠ slot.drop 192 → Answers (exec (.stateSlotReceived port node slot codeErrors) s) (fun t =>
      t = { s with ring := { s.ring with ports := t.ring.ports }, regs := t.regs, saturated := t.saturated, faults := t.faults, log := t.log } ∧
      t.ring.ports[port].frameBad = (s.ring.ports[port].frameBad || !s.ring.quiet))) ∧
    (slot.length = 194 → crc16Bytes (slot.take 192) = slot.drop 192 →
      (s.ring.joined = false → Answers (exec (.stateSlotReceived port node slot codeErrors) s) (fun t =>
        t = { s with ring := { s.ring with last := s.ring.last.set node (slot.take 192) }, regs := t.regs, saturated := t.saturated, faults := t.faults, log := t.log })) ∧
      (s.ring.joined = true → s.ring.received[node] = none → Answers (exec (.stateSlotReceived port node slot codeErrors) s) (fun t =>
        t = { s with ring := t.ring, tb := t.tb, regs := t.regs, saturated := t.saturated, faults := t.faults, log := t.log } ∧
        t.ring.received = s.ring.received.set node (some (slot.take 192)) ∧ t.ring.last = s.ring.last.set node (slot.take 192) ∧
        t.ring.missing = s.ring.missing.set node 0 ∧ t.ring.slots = s.ring.slots ∧
        ((field 1 1 slot).testBit 0 = true → (field 1 1 s.ring.last[node]).testBit 0 = false →
          t.ring.credits = s.ring.credits.set node (s.devN 0x0F03) ∧ t.ring.spent = s.ring.spent.set node 0) ∧
        ((field 1 1 slot).testBit 0 = false ∨ (field 1 1 s.ring.last[node]).testBit 0 = true →
          t.ring.credits = s.ring.credits.set node
            (s.ring.credits[node] + min (field 40 4 (slot.take 192) / 16 ^ s.ring.addr.val % 16) s.ring.spent[node])) ∧
        ((field 1 1 slot).testBit 7 = true → (field 1 1 s.ring.last[node]).testBit 7 = false →
          t.ring.wrapped = true ∧ t.ring.segmentDown = true))))) ∧
  (∀ (port : Fin 2) (block : List Byte) (codeErrors count : Nat) (s : State),
    (s.ring.joined = false → Answers (exec (.asyncBlockReceived port block codeErrors count) s) (fun t =>
      t = { s with regs := t.regs, saturated := t.saturated, faults := t.faults, log := t.log })) ∧
    (s.ring.joined = true → block.length ≠ 68 ∨ leBytes 4 (crc32c (block.take 64)).toNat ≠ block.drop 64 →
      Answers (exec (.asyncBlockReceived port block codeErrors count) s) (fun t =>
        t = { s with ring := { s.ring with ports := t.ring.ports }, regs := t.regs, saturated := t.saturated, faults := t.faults, log := t.log } ∧
        t.ring.ports[port].frameBad = (s.ring.ports[port].frameBad || !s.ring.quiet))) ∧
    (s.ring.joined = true → block.length = 68 → leBytes 4 (crc32c (block.take 64)).toNat = block.drop 64 →
      (field 0 1 (block.take 64) ≠ s.ownNode → field 0 1 (block.take 64) ≠ 0xFF →
        Answers (exec (.asyncBlockReceived port block codeErrors count) s) (fun t =>
          t = { s with ring := { s.ring with ports := t.ring.ports }, regs := t.regs, saturated := t.saturated, faults := t.faults, log := t.log } ∧
          t.ring.ports[port] = s.ring.ports[port] ∧
          t.ring.ports[1 - port] = { s.ring.ports[1 - port] with
            blocks := s.ring.ports[1 - port].blocks ++ (if s.passesOn port then [wireBlock block] else []) })) ∧
      (∀ (node n flags : Nat) (src : Source), field 0 1 (block.take 64) = s.ownNode ∨ field 0 1 (block.take 64) = 0xFF →
          node = field 1 1 (block.take 64) → 1 ≤ node → node ≤ 8 → node ≠ s.ownNode → flags = field 2 1 (block.take 64) → flags.testBit 0 = true →
          flags.testBit 1 = false → n = field 3 1 (block.take 64) → 1 ≤ n → n ≤ 60 →
          src = { port := .east, node := BitVec.ofNat 8 node, host := BitVec.ofNat 8 (flags / 4 % 32) } →
        Answers (exec (.asyncBlockReceived port block codeErrors count) s) (fun t =>
          t = { s with ring := { s.ring with ports := t.ring.ports }, regs := t.regs, saturated := t.saturated, faults := t.faults, log := t.log } ∧
          t.ring.ports[port].assembling = s.ring.ports[port].assembling.filter (fun e => !(e.1 = src)) ++ [(src, slice 4 n (block.take 64))])))) ∧
  (∀ (node : Fin 8) (s : State),
    (s.ring.buffered[node] = 0 → exec (.creditReturn node) s = .next s) ∧
    (0 < s.ring.buffered[node] → exec (.creditReturn node) s = .next { s with ring := { s.ring with
      buffered := s.ring.buffered.set node (s.ring.buffered[node] - 1), returns := s.ring.returns.set node (s.ring.returns[node] + 1) } })) ∧
  (∀ s : State,
    (¬(s.follows = true ∧ s.tb.phase = none ∧ s.tb.holdover = false ∧ s.ring.quiet = false) → exec .holdover s = .next s) ∧
    (s.follows = true → s.tb.phase = none → s.tb.holdover = false → s.ring.quiet = false → Answers (exec .holdover s) (fun t =>
      t = { s with tb := { s.tb with holdover := true }, faults := t.faults, log := t.log } ∧ Raised s t 0x0104 255)) ∧
    (s.ring.joined = true → 4 ≤ s.tb.alarmRun → Answers (exec .tbPhaseAlarm s) (fun t => OnlyRaised s t 0x0105 255)) ∧
    (s.ring.joined = false ∨ s.tb.alarmRun < 4 → exec .tbPhaseAlarm s = .next s) ∧
    (s.follows = false ∨ s.ring.detached = true ∨ s.tb.missed < 8 → exec .masterLost s = .next s) ∧
    (s.follows = true → s.ring.detached = false → 8 ≤ s.tb.missed →
      (s.rank = 0 ∨ s.rank = 255 ∨ s.tb.missed < 8 * s.rank →
        Answers (exec .masterLost s) (fun t => OnlyRaised s t 0x0106 255)) ∧
      (s.rank ≠ 0 → s.rank ≠ 255 → 8 * s.rank ≤ s.tb.missed → Answers (exec .masterLost s) (fun t =>
        t = { s with tb := { s.tb with succeeds := true }, faults := t.faults, log := t.log } ∧ Raised s t 0x0106 255))) ∧
    (s.tb.succeeds = false → s.succeed = s) ∧
    (∀ t : State, t = s.succeed → s.tb.succeeds = true → s.follows = true → s.ring.detached = false →
      t = { s with ring := t.ring, tb := t.tb, regs := t.regs, saturated := t.saturated, faults := t.faults, log := t.log } ∧ t.isMaster = true ∧
      t.ring.master.toNat = s.ownNode ∧ t.ring.epoch = s.ring.epoch + 1 ∧ t.tb.holdover = false ∧ t.tb.frameLen = 10000 ∧
      t.tb.succeeds = false ∧ t.isActive 0x0F09 255 = true))

/-- Segments and membership (R365, R370 to R373, R376 to R384). RING_LINK_DOWN makes a port in service a training end port at the next
tick; TRAINING_COMPLETE brings it to STANDBY when master, epoch, check code and loop agree, and reports a foreign ring or another
configuration instead; the delay is the mean of sixteen echoes, a bypassed node's from those of its neighbours; UNWRAP and JOIN_RECEIVED put STANDBY ports into service,
RETRAIN_AT_FRAME takes its segment out; a listener that passes the checks adopts the ring's master and steps to its frame, joins in an
announced window, and a node that has heard nothing long enough for its rank starts a ring of its own. RING_RETRAIN waits for its
segments or ends with NODE_UNREACHABLE. A port that is down waits for an UNWRAP or a join of its neighbour. The
distances in frames that the manual leaves open are the model's (notes/assumptions/66). -/
def Obligations.RingLinks : Prop :=
  (∀ (p : Fin 2) (s : State),
    (s.ring.ports[p].state ≠ .inService → s.ring.ports[p].state ≠ .standby → exec (.ringLinkDown p) s = .next s) ∧
    (s.ring.ports[p].state = .inService ∨ s.ring.ports[p].state = .standby → exec (.ringLinkDown p) s = .next
      { s with ring := { s.ring with ports := s.ring.ports.set p { s.ring.ports[p] with lost := true } } }) ∧
    (s.ring.ports[p].state = .inService ∨ s.ring.ports[p].state = .standby → s.ring.ports[p].lost = true →
      s.deliverSlots.ring.ports[p].state = .training ∧ s.deliverSlots.ring.ports[p].endPort = true ∧
      s.deliverSlots.ring.ports[p].since = s.frame64 ∧ s.deliverSlots.ring.ports[p].lost = false ∧ s.deliverSlots.ring.wrapped = true ∧
      s.deliverSlots.ring.segmentDown = true ∧ s.deliverSlots.isActive 0x0F01 255 = true) ∧
    (s.ring.ports[p].state = .training → s.devN 0x0F07 ≤ (s.frame64 - s.ring.ports[p].since).toNat →
      Answers (exec (.ringTrainFail p) s) (fun t =>
        t = { s with ring := { s.ring with ports := t.ring.ports }, faults := t.faults, log := t.log } ∧ t.isActive 0x0F02 255 = true ∧
        t.ring.ports[p] = { s.ring.ports[p] with since := s.frame64, echoes := [], delay := none } ∧
        t.ring.ports[1 - p] = s.ring.ports[1 - p])) ∧
    (s.ring.ports[p].state ≠ .training ∨ (s.frame64 - s.ring.ports[p].since).toNat < s.devN 0x0F07 →
      exec (.ringTrainFail p) s = .next s) ∧
    (∀ (roundTrip : Nat) (echo : EchoReport),
      (s.ring.ports[p].state = .down ∨ (s.ring.ports[p].state = .listen ∧ p = 1) → Answers (exec (.echoExchange p roundTrip echo) s) (fun t =>
        t = { s with regs := t.regs, saturated := t.saturated, faults := t.faults, log := t.log })) ∧
      (∀ (k : Fin 8) (xy : Nat), s.ring.ports[p].state = .listen → p = 0 → k ≠ s.ring.addr → echo.node.toNat = k.val + 1 → s.ring.last[k] ≠ [] →
          xy = field 22 2 s.ring.last[k] → xy ≠ 0xFFFF → 15 ≤ s.ring.ports[p].echoes.length →
          ∀ d : Nat, d = (rdiv (sumN (((roundTrip - 16 * echo.turnaround) :: s.ring.ports[p].echoes).take 16)) 32).toNat →
        Answers (exec (.echoExchange p roundTrip echo) s) (fun t =>
          t = { s with ring := { s.ring with ports := t.ring.ports }, regs := t.regs, saturated := t.saturated, faults := t.faults, log := t.log } ∧ t.ring.ports[p].partner = echo.node ∧
          t.ring.ports[1 - p].partner.toNat = field 19 1 s.ring.last[k] ∧
          t.ring.ports[p].delay = some d ∧ t.ring.ports[1 - p].delay = some (xy - d - 1))) ∧
      (s.ring.ports[p].state = .training ∨ s.ring.ports[p].state = .standby ∨ s.ring.ports[p].state = .inService →
        ∀ l, l = ((roundTrip - 16 * echo.turnaround) :: s.ring.ports[p].echoes).take 16 →
        Answers (exec (.echoExchange p roundTrip echo) s) (fun t =>
          t = { s with ring := { s.ring with ports := t.ring.ports }, regs := t.regs, saturated := t.saturated, faults := t.faults, log := t.log } ∧ t.ring.ports[1 - p] = s.ring.ports[1 - p] ∧
          t.ring.ports[p] = { s.ring.ports[p] with
            echoes := l, delay := if l.length = 16 then some (rdiv (sumN l) 32).toNat else s.ring.ports[p].delay }))) ∧
    (∀ (train : TrainReport) (n loop : Nat), loop = (s.onPort p (fun x => { x with partner := train.node })).loopDelay s.joinedMask →
      (s.ring.ports[p].state ≠ .training → Answers (exec (.trainingComplete p train n) s) (fun t =>
        t = { s with regs := t.regs, saturated := t.saturated, faults := t.faults, log := t.log })) ∧
      (s.ring.ports[p].state = .training →
        (train.master = s.ring.master → train.epoch = s.ring.epoch → train.code = s.checkCode → s.ring.ports[p].echoes.length < 16 →
          Answers (exec (.trainingComplete p train n) s) (fun t => t = { s with regs := t.regs, saturated := t.saturated, faults := t.faults, log := t.log } ∧
            t.isActive 0x0F03 255 = false ∧ t.isActive 0x0F06 255 = false)) ∧
        (train.master = s.ring.master → train.epoch = s.ring.epoch → train.code = s.checkCode → 16 ≤ s.ring.ports[p].echoes.length →
            loopBudget < loop →
          Answers (exec (.trainingComplete p train n) s) (fun t => t = { s with regs := t.regs, saturated := t.saturated, faults := t.faults, log := t.log } ∧
            t.isActive 0x0F05 255 = true)) ∧
        (train.master = s.ring.master → train.epoch = s.ring.epoch → train.code = s.checkCode → 16 ≤ s.ring.ports[p].echoes.length →
            loop ≤ loopBudget →
          Answers (exec (.trainingComplete p train n) s) (fun t =>
            t = { s with ring := { s.ring with ports := t.ring.ports }, regs := t.regs, saturated := t.saturated, faults := t.faults, log := t.log } ∧
            t.ring.ports[p] = { s.ring.ports[p] with state := .standby, since := s.frame64, partner := train.node } ∧
            t.ring.ports[1 - p] = s.ring.ports[1 - p] ∧ t.isActive 0x0F03 255 = false ∧ t.isActive 0x0F05 255 = false ∧
            t.isActive 0x0F06 255 = false)) ∧
        (train.master ≠ s.ring.master ∨ train.epoch ≠ s.ring.epoch ∨ train.code ≠ s.checkCode →
          Answers (exec (.trainingComplete p train n) s) (fun t =>
            t = { s with regs := t.regs, saturated := t.saturated, faults := t.faults, log := t.log } ∧
            (train.code ≠ s.checkCode → t.isActive 0x0F03 255 = true) ∧
            (train.master ≠ s.ring.master ∨ train.epoch ≠ s.ring.epoch → t.isActive 0x0F06 255 = true))))) ∧
    (∀ (node : Byte) (item : JoinReport),
      (s.ring.joined = false → Answers (exec (.joinReceived p node item) s) (fun t =>
        t = { s with regs := t.regs, saturated := t.saturated, faults := t.faults, log := t.log })) ∧
      (s.ring.joined = true → item.epoch = s.ring.epoch → 1 ≤ node.toNat → node.toNat ≤ 8 → Answers (exec (.joinReceived p node item) s) (fun t =>
        t = { s with ring := t.ring, regs := t.regs, saturated := t.saturated, faults := t.faults, log := t.log } ∧ t.ring.ports[p].partner = node ∧
        (∀ k : Fin 8, t.ring.credits[k] = (if k.val + 1 = node.toNat then s.devN 0x0F03 else s.ring.credits[k])) ∧
        (s.ring.ports[p].state = .standby → t.ring.ports[p].state = .inService) ∧
        (s.ring.ports[p].state ≠ .standby → t.ring.ports[p].state = s.ring.ports[p].state))) ∧
      (s.ring.joined = true → item.epoch ≠ s.ring.epoch → Answers (exec (.joinReceived p node item) s) (fun t =>
        t = { s with regs := t.regs, saturated := t.saturated, faults := t.faults, log := t.log } ∧ t.isActive 0x0F06 255 = true))) ∧
    (s.announcement = none → exec (.retrainAtFrame p) s = .next s) ∧
    (∀ x, s.announcement = some x → x.event = 3 → x.frame ≤ s.frame64 → s.ring.joined = true → s.ring.ports[p].state = .inService →
      x.node.toNat = s.ownNode → x.ports.getLsbD p.val = true → Answers (exec (.retrainAtFrame p) s) (fun t =>
        t = { s with ring := { s.ring with ports := t.ring.ports, wrapped := true, segmentDown := true, own := t.ring.own }
                     regs := t.regs, saturated := t.saturated, faults := t.faults, log := t.log } ∧
        t.ring.ports[p].state = .training ∧ t.ring.ports[p].endPort = true ∧
        t.ring.ports[1 - p] = { s.ring.ports[1 - p] with sent := t.ring.ports[1 - p].sent }))) ∧
  (∀ s : State,
    (s.announcement = none → exec .unwrap s = .next s) ∧
    (∀ x, s.announcement = some x → x.event = 2 → x.frame ≤ s.frame64 → s.ring.joined = true → s.ring.wrapped = true →
      Answers (exec .unwrap s) (fun t => t = { s with ring := t.ring, faults := t.faults, log := t.log } ∧ t.ring.wrapped = false ∧
        t.ring.announced = none ∧ t.ring.credits = Vector.replicate 8 (s.devN 0x0F03) ∧
        ∀ p : Fin 2, (s.ring.ports[p].state = .standby → t.ring.ports[p].state = .inService ∧ t.ring.ports[p].endPort = false) ∧
          (s.ring.ports[p].state ≠ .standby → t.ring.ports[p] = { s.ring.ports[p] with sent := t.ring.ports[p].sent }))) ∧
    (∀ report : ListenReport,
      (s.ring.joined = true ∨ s.dev 0x0F00 = 0 ∨ s.power.booting = true → exec (.ringListenAcquired report) s = .next s) ∧
      (s.ring.joined = false → s.dev 0x0F00 ≠ 0 → s.power.booting = false → Answers (exec (.ringListenAcquired report) s) (fun t =>
        t = { s with ring := t.ring, regs := t.regs, saturated := t.saturated, faults := t.faults, log := t.log } ∧ t.ring.acquired = some report ∧
        t.isActive 0x0F03 255 = decide (report.code ≠ s.checkCode) ∧
        (s.listenOk report = true → s.pathKnown report = true → s.everyBayOff = true → s.ring.stepped = false → t.ring.master = report.master ∧
          t.ring.epoch = report.epoch ∧ t.ring.stepTo = some (report.frame + 1, clampI (-5000) 5000 (s.ring.heardPhase.getD 0)) ∧ t.ring.stepped = true) ∧
        (s.listenOk report = false ∨ s.pathKnown report = false ∨ s.everyBayOff = false ∨ s.ring.stepped = true → t.ring.stepTo = s.ring.stepTo ∧ t.ring.master = s.ring.master)))) ∧
    (s.ring.acquired = none → exec .join s = .next s) ∧
    (∀ x, s.ring.acquired = some x →
      (s.ring.joined = true ∨ s.listenOk x = false ∨ s.ring.stepped = false ∨ s.ring.stepTo ≠ none ∨ x.master = 0 →
        exec .join s = .next s) ∧
      (s.ring.joined = false → s.dev 0x0F00 ≠ 0 → s.listenOk x = true → s.ring.stepped = true → s.ring.stepTo = none → x.master ≠ 0 →
          (x.running = true → (∃ a, s.announcedBy x.master.toNat = some a ∧ a.event = 1 ∧ a.frame = s.frame64) ∧
            field 8 8 s.ring.last[Fin.ofNat 8 (x.master.toNat + 7)] + 1 = s.frame64.toNat) →
        Answers (exec .join s) (fun t => t = { s with ring := t.ring, tb := t.tb, faults := t.faults, log := t.log } ∧ t.ring.joined = true ∧
          t.ring.master = s.ring.master ∧ t.ring.wrapped = !x.running ∧ t.ring.credits = Vector.replicate 8 (s.devN 0x0F03) ∧
          (x.running = true → t.ring.lastWindow = s.frame64) ∧
          ∀ p : Fin 2, t.ring.ports[p].state = (if x.running then .inService else .training) ∧ t.ring.ports[p].endPort = (!x.running) ∧
            t.ring.ports[p].partner = (if x.running then s.ring.ports[p].partner else 0) ∧
            (t.ring.ports[p].guard.take 4).map BitVec.toNat = [0xF7, s.ownNode, s.ring.epoch.toNat, s.ownNode]))) ∧
    (s.ring.joined = true ∨ s.dev 0x0F00 = 0 ∨ s.power.booting = true ∨ s.ring.heardTick = true ∨ s.rank = 255 ∨
        (s.frame64 - s.ring.listenSince).toNat < (s.rank + 1) * s.devN 0x0F05 → exec .ringStart s = .next s) ∧
    (s.ring.joined = false → s.dev 0x0F00 ≠ 0 → s.power.booting = false → s.ring.heardTick = false → s.rank ≠ 255 →
        (s.rank + 1) * s.devN 0x0F05 ≤ (s.frame64 - s.ring.listenSince).toNat → Answers (exec .ringStart s) (fun t =>
      t = { s with ring := t.ring, tb := t.tb, faults := t.faults, log := t.log } ∧ t.isMaster = true ∧ t.ring.joined = true ∧
      t.ring.master.toNat = s.ownNode ∧ t.ring.epoch = (if s.ring.hadEpoch then s.ring.epoch + 1 else 1) ∧
      (s.ring.hadEpoch = true → t.isActive 0x0F09 255 = true))) ∧
    (s.ring.joined = false ∨ s.isMaster = false ∨ s.ring.announced.isSome = true → exec .insertionWindowAnnounce s = .next s) ∧
    (∀ k : Fin 8, s.ring.joined = true → s.isMaster = true → s.ring.announced = none → (s.devN 0x0F02).testBit k.val = true →
        s.joinedMask.testBit k.val = false → (s.ring.lastWindow = 0 ∨ s.devN 0x0F06 ≤ (s.frame64 + 40 - s.ring.lastWindow).toNat) →
        (∀ j : Fin 8, ∀ b, s.ring.slots[j] = some b ∨ s.ring.received[j] = some b → slotBusy b = false) →
      exec .insertionWindowAnnounce s = .next { s with ring := { s.ring with announced := some { event := 1, frame := s.frame64 + 40 } } })) ∧
  (∀ (r : Req) (k : Fin 8) (ports : Byte) (s : State), s.admits 0xA2 r k = true →
    (ports = 0 ∨ 4 ≤ ports.toNat → exec (.ringRetrain r ports) s = .next (s.withReply (replyOf r k 0xA2 Status.badParameter .bare))) ∧
    (1 ≤ ports.toNat → ports.toNat ≤ 3 →
      (s.ring.retraining.isSome = true ∨ (ports = 3 ∧ s.allDisabled = false) →
        exec (.ringRetrain r ports) s = .next (s.withReply (replyOf r k 0xA2 Status.busy .bare))) ∧
      (s.ring.retraining = none → (ports = 3 → s.allDisabled = true) → exec (.ringRetrain r ports) s = .next (State.withReply
        { s with ring := { s.ring with retraining := some (ports, s.frame64, some k, r.seq), retrainRequest := if ports = 3 then 0 else ports } }
        (replyOf r k 0xA2 Status.pending .bare))))) ∧
  (∀ s : State, (s.ring.retraining = none → exec .retrainTimeout s = .next s) ∧
    (∀ ports since slot seq, s.ring.retraining = some (ports, since, slot, seq) →
      ((s.frame64 - since).toNat < s.devN 0x0F07 → exec .retrainTimeout s = .next s) ∧
      (s.devN 0x0F07 ≤ (s.frame64 - since).toNat → Answers (exec .retrainTimeout s) (fun t =>
        t = { s with ring := { s.ring with retraining := none, retrainRequest := 0 }, log := t.log } ∧
        ∃ e, t.log = { s.log with fresh := s.log.fresh ++ [e] } ∧ e.code = 0x0280 ∧ e.detail = Status.nodeUnreachable ∧ e.extra = seq.toNat))))

/-! ### Modes, power and boot -/

/-- MODE_SET (R444, Table 19.2): the mode in force is ALREADY_DONE; one that the table does not allow from it is WRONG_MODE; a transition
under way, an axis that is not DISABLED on a descent from Run or Limp, and a flash operation before Dormant or Keep are BUSY; an
expired test grace refuses Run and Limp with SAFETY_INHIBIT. Entering Limp ends every TEACH (R344). An accepted request is due at the next tick, or two ticks on for Run and
Limp from Ready. The change that is due then happens, checked again, and its request completes. LATENCY_SET stores the latency and names
the target mode (R445); the idle descent, Dormant, Keep and waking follow R447 to R449. -/
def Obligations.ModeChanges : Prop :=
  (∀ (r : Req) (k : Fin 8) (mode : Byte) (m : Mode) (s : State), s.admits 0xB0 r k = true → modeOf mode = some m →
      s.lanes.redundancyLost = false →
    (m = s.power.mode → exec (.modeSet r mode) s = .next (s.withReply (replyOf r k 0xB0 Status.alreadyDone (modeField m)))) ∧
    (m ≠ s.power.mode → s.allows m = false →
      exec (.modeSet r mode) s = .next (s.withReply (replyOf r k 0xB0 Status.wrongMode (modeField s.power.mode)))) ∧
    (m ≠ s.power.mode → s.allows m = true → s.power.pending.isSome = true →
      exec (.modeSet r mode) s = .next (s.withReply (replyOf r k 0xB0 Status.busy (modeField s.power.mode)))) ∧
    (m ≠ s.power.mode → s.allows m = true → s.power.pending = none → m = .run ∨ m = .limp → s.saf.graceExpired = true →
      exec (.modeSet r mode) s = .next (s.withReply (replyOf r k 0xB0 Status.safetyInhibit .bare))) ∧
    ((s.power.mode = .run ∨ s.power.mode = .limp) → (m = .ready ∨ m = .service ∨ m = .dormant ∨ m = .keep) → s.power.pending = none →
      s.allDisabled = false → exec (.modeSet r mode) s = .next (s.withReply (replyOf r k 0xB0 Status.busy (modeField s.power.mode)))) ∧
    (s.power.mode = .ready → s.power.pending = none → (m = .run ∨ m = .limp) → s.runBarred = false → s.saf.graceExpired = false →
      exec (.modeSet r mode) s = .next (State.withReply
        { s with power := { s.power with pending := some m, dueAt := s.frame64 + 2, requester := some (some k, r.seq) } }
        (replyOf r k 0xB0 Status.pending (modeField .ready)))) ∧
    (s.power.mode = .ready → s.power.pending = none → (m = .service ∨ (m = .dormant ∧ s.cfg.flash = none)) →
      exec (.modeSet r mode) s = .next (State.withReply
        { s with power := { s.power with pending := some m, dueAt := s.frame64 + 1, requester := none } }
        (replyOf r k 0xB0 Status.ok (modeField m)))) ∧
    ((s.power.mode = .run ∨ s.power.mode = .limp) → m = .ready → s.power.pending = none → s.allDisabled = true →
      exec (.modeSet r mode) s = .next (State.withReply
        { s with power := { s.power with pending := some m, dueAt := s.frame64 + 1, requester := none } }
        (replyOf r k 0xB0 Status.ok (modeField m))))) ∧
  (∀ s : State,
    (s.power.pending = none → exec .modeTransitionComplete s = .next s) ∧
    (∀ m, s.power.pending = some m → s.frame64 < s.power.dueAt → exec .modeTransitionComplete s = .next s) ∧
    (∀ m, s.power.pending = some m → s.power.dueAt ≤ s.frame64 → s.power.mode = .ready → (m = .run ∨ m = .limp) → s.runRefusal = none →
        s.lanes.redundancyLost = false → Answers (exec .modeTransitionComplete s) (fun t =>
      t = { s with power := { s.power with mode := m, idleFrames := 0, pending := none, requester := none }, log := t.log
                   motion := t.motion } ∧ (m = .run → t.motion = s.motion) ∧ (m = .limp → ∀ a : Fin 16, (t.ax a).template.teach = none) ∧
      ∀ slot seq, s.power.requester = some (slot, seq) → ∃ e, e ∈ t.log.fresh ∧ e.code = 0x0280 ∧ e.detail = Status.ok ∧
        e.extra = seq.toNat)) ∧
    (s.power.pending = some .service → s.power.dueAt ≤ s.frame64 → s.power.mode = .ready → Answers (exec .modeTransitionComplete s) (fun t =>
      t = { s with power := { s.power with mode := .service, idleFrames := 0, pending := none, requester := none }, log := t.log })) ∧
    (∀ m, s.power.pending = some m → s.power.dueAt ≤ s.frame64 → (s.power.mode = .run ∨ s.power.mode = .limp) → m ≠ .run →
      (s.allDisabled = true → Answers (exec .modeTransitionComplete s) (fun t => t.power.mode = .ready ∧
        (m = .ready → t.power.pending = none) ∧ (m ≠ .ready → t.power.pending = some m ∧ t.power.dueAt = s.frame64 + 1) ∧
        t = { s with power := t.power, log := t.log })) ∧
      (s.allDisabled = false → Answers (exec .modeTransitionComplete s) (fun t =>
        t = { s with power := { s.power with pending := none, requester := none }, log := t.log })))) ∧
  (∀ (r : Req) (k : Fin 8) (latency : Word) (s : State), s.admits 0xB1 r k = true → s.canonical = true →
    Answers (exec (.latencySet r latency) s) (fun t => t.devN 0x1300 = latency.toNat ∧
      t = { s with regs := t.regs
                   cmd := (s.withReply (replyOf r k 0xB1 Status.ok (modeField
                     (if 60000 ≤ latency.toNat then .keep else if 400 ≤ latency.toNat then .dormant else .ready)))).cmd })) ∧
  (∀ s : State,
    (s.idle = false ∨ s.power.pending.isSome = true ∨ s.power.idleFrames < s.devN 0x1301 ∨ s.targetMode = .ready → exec .idleDescent s = .next s) ∧
    (s.idle = true → s.power.pending = none → s.devN 0x1301 ≤ s.power.idleFrames → s.targetMode = .dormant ∨ s.targetMode = .keep →
      exec .idleDescent s = .next { s with power := { s.power with pending := some s.targetMode, dueAt := s.frame64 } }) ∧
    (s.descends .dormant = false → exec .dormantEntry s = .next s) ∧
    (s.descends .dormant = true → Answers (exec .dormantEntry s) (fun t => t.power.mode = .dormant ∧ t.tb.running = false ∧ t.torqueOff = true ∧
      t.ring.joined = false ∧ (∀ h : Fin 48, (t.hb h).release = .untilEnable) ∧ t.frame64 = s.frame64 ∧ t.dbg.scope = 0 ∧
      t.power.pending = none)) ∧
    (s.descends .keep = false → exec .keepEntry s = .next s) ∧
    (s.descends .keep = true → s.power.wakeLatched = false → Answers (exec .keepEntry s) (fun t => t.power.mode = .keep ∧
      t.power.pwrEn = false ∧ t.tb.running = false ∧ (∀ k : Fin 8, t.session k = none) ∧ t.qry = {} ∧ t.torqueOff = true ∧
      (∀ a ∈ keystoneKeys, Sparse.read regDefault t.regs a = Sparse.read regDefault s.regs a))) ∧
    (∀ w : WakeSource,
      ((s.devN 0x1302).testBit (wakeBit w) = false → exec (.wake w) s = .next s) ∧
      ((s.devN 0x1302).testBit (wakeBit w) = true → (w = .timer → s.devN 0x1305 ≠ 0) → (w = .di → s.devN 0x1303 ≠ 0) →
        (s.power.mode = .dormant → Answers (exec (.wake w) s) (fun t => t.power.mode = .ready ∧ t.tb.running = true ∧
          t.power.wakeCause = wakeBit w + 1 ∧ t.frame64 = s.frame64 ∧ t.motion = s.motion)) ∧
        (s.power.mode = .keep → wakeBit w ≤ 2 → Answers (exec (.wake w) s) (fun t => t.power.booting = true ∧ t.power.pwrEn = true ∧
          t.power.wakeCause = wakeBit w + 1 ∧ t.frame64 = 0 ∧ t.dev 0x0010 = 1)) ∧
        (s.power.mode = .keep → 2 < wakeBit w → exec (.wake w) s = .next s))))

/-- Resets and boot (R450 to R453, Tables 19.3a and 19.4). A reset keeps flash, the keys and the slots' records, leaves everything else at its
reset value with both safety switches open, and notes its cause; the brake choppers keep acting, and TEST high holds the device in reset (R482). BOOT ends in Service after a failed step or with an unlisted
pairing, in Run where the target says so and nothing refuses it, and else in Ready. A failed start is tried again twice and then leaves the
device in Keep; PWR_VBAT_LOW is raised below 2.0 V. Loss of the clock turns every COMPLEMENTARY half-bridge that is not released to SHORT
and every other one off (R122), and its device-scope SHORT ends the motion of every enabled axis (Table 2.5). An error counter stops at its top, and its first saturation shows in QRY.STATUS (R7, R25; its place there is the model's,
notes/assumptions/96). -/
def Obligations.ResetsAndBoot : Prop :=
  (∀ (cause : ResetReport) (s : State), Answers (exec (.reset cause) s) (fun t =>
    t.power.booting = true ∧ t.power.test = cause.test ∧ t.pwm.dies.map Die.brakeOn = s.pwm.dies.map Die.brakeOn ∧ t.frame64 = 0 ∧ t.flash = s.flash ∧ t.cfg.slots = s.cfg.slots ∧ t.cfg.keys = s.cfg.keys ∧
    t.cfg.safetySets = s.cfg.safetySets ∧ t.torqueOff = true ∧ t.saf.state = .boot ∧ t.faults = [] ∧ t.cmd = {} ∧ t.motion.axes = State.reset.motion.axes ∧
    t.dram = [] ∧ t.pending = s.pending ∧ t.pwm.overVoltage = s.pwm.overVoltage ∧ t.cfg.activeSlot = none ∧
    (s.canonical = true → t.dev 0x0010 = resetCode cause.event))) ∧
  (∀ s : State, exec (.supplyReset .vbat) s = exec (.reset ⟨.vbatPowerOn, s.power.test⟩) s ∧
    ∀ supply, supply ≠ .vbat → exec (.supplyReset supply) s = exec (.reset ⟨.supervisor, s.power.test⟩) s) ∧
  (∀ (report : BootReport) (s : State), (s.power.booting = false ∨ s.power.test = true → exec (.boot report) s = .next s) ∧
    (s.power.booting = true → s.power.test = false → Answers (exec (.boot report) s) (fun t =>
      t.power.booting = false ∧ t.ring.addr = report.addr ∧ t.ring.masterSel = report.masterSel ∧ t.frame64 = s.frame64 ∧
      (bootStepFails report = true → t.power.mode = .service ∧ t.isActive 0x0001 255 = true) ∧
      (t.power.mode = .service → t.isActive 0x0001 255 = true ∨ t.isActive 0x1403 255 = true) ∧
      (t.power.mode = .run ∨ t.power.mode = .limp → t.dev 0x0000 = 3 ∧ t.runRefusal = none) ∧
      (t.power.mode = .service ∨ t.power.mode = .ready ∨ t.power.mode = .run ∨ t.power.mode = .limp)))) ∧
  (∀ s : State, (s.power.booting = false → exec .pwrStartRetry s = .next s) ∧
    (s.power.booting = true → s.power.startTries < 2 → exec .pwrStartRetry s = .next { s with power := { s.power with
      startTries := s.power.startTries + 1, startRetried := true } }) ∧
    (s.power.booting = true → 2 ≤ s.power.startTries → exec .pwrStartRetry s = .next { s with
      power := { s.power with mode := .keep, booting := false, pwrEn := false, startTries := 0, startRetried := true }
      tb := { s.tb with running := false } }) ∧
    (∀ mv : Nat, mv ≤ 4000 →
      (2000 ≤ mv → Answers (exec (.pwrVbatLow mv) s) (fun t => t = { s with regs := t.regs } ∧ (s.canonical = true → t.dev 0x1311 = mv))) ∧
      (mv < 2000 → Answers (exec (.pwrVbatLow mv) s) (fun t => Raised s t 0x1302 255 ∧
        t = { s with regs := t.regs, faults := t.faults, log := t.log, power := { s.power with vbatLow := true } }))) ∧
    (s.tb.clockLost = true → exec .tbClockLoss s = .next s) ∧
    (s.tb.clockLost = false → Answers (exec .tbClockLoss s) (fun t => t.tb.clockLost = true ∧ t.isActive 0x0101 255 = true ∧
      t.pwm.backupClock = true ∧ t.frame64 = s.frame64 ∧ t.motion = { s.motion with axes := t.motion.axes } ∧ t.saf = s.saf ∧
      (∀ (b : Fin 16) (x : Fin 3), s.stepperAt b = false →
        (bitsOf 14 2 (s.hb (hbOf b x)).active.toNat = 0 → (s.hb (hbOf b x)).release = .no → 6 ∈ (t.hb (hbOf b x)).short) ∧
        (bitsOf 14 2 (s.hb (hbOf b x)).active.toNat ≠ 0 ∨ (s.hb (hbOf b x)).release ≠ .no → (t.hb (hbOf b x)).active = 0x4000)) ∧
      ((∀ f ∈ s.faults, f.code ≠ 0x0101) → ∀ a : Fin 16,
        (a ∈ s.presentAxes → (s.ax a).state.enabled = true → (s.ax a).reaction < 5 →
          (t.ax a).state = .shorted ∧ (t.ax a).reaction = 5 ∧ (t.ax a).queue = [] ∧ (t.ax a).demand = (s.ax a).demand) ∧
        (a ∉ s.presentAxes ∨ (s.ax a).state.enabled = false → t.ax a = s.ax a))))) ∧
  (∀ (m : MemoryKind) (address : Nat) (s : State), exec (.scrubRead m address 0) s = .next s ∧
    (m ≠ .flash → s.corrected[memoryIndex m] ≠ 4294967294 →
      exec (.scrubRead m address 1) s = .next { s with corrected := upd s.corrected (memoryIndex m) (saturating 1) }) ∧
    (m = .laneA ∨ m = .laneB → s.uncorrectable[memoryIndex m] ≠ 4294967294 → exec (.scrubRead m address 2) s =
      .next { s with
        uncorrectable := upd s.uncorrectable (memoryIndex m) (saturating 1)
        lanes := { s.lanes with sramBad :=
          if m = .laneA then s.lanes.sramBad.set (0 : Fin 2) true else s.lanes.sramBad.set (1 : Fin 2) true } }) ∧
    (s.canonical = true → s.corrected[memoryIndex m] = 4294967294 →
      Answers (exec (.scrubRead m address 1) s) (fun t => t.corrected[memoryIndex m] = 4294967295 ∧ t.stuck 0x1210 255 7 = true)) ∧
    Answers (exec (.scrubRead m address 1) s) (fun t => t.corrected = upd s.corrected (memoryIndex m) (saturating 1) ∧ t.flash = s.flash) ∧
    Answers (exec (.scrubRead m address 2) s) (fun t => t.uncorrectable = upd s.uncorrectable (memoryIndex m) (saturating 1)))
/-! ### The tick and the compute slots -/

/-- The tick (R36, R37, R39, Table 4.1). A stopped timebase does nothing; the first tick makes FRAME64 0, and every later one adds 1 or
takes the number a ring master sets. The snapshot latched is the one of the frame that ends, the one before is kept, the output word
computed in that frame is driven (R399), a loaded set has passed on (R112), and the switch-over decided in that frame comes into force
(R337). A compute slot (R167) offers the entries of its own bays to the arbiter and writes the state of its own axis; it changes no shadow
register (R23), no entry in force and no forcing latch, and an axis whose loops do not run keeps its demand at the measured state (R237). -/
def Obligations.TickAndSlots : Prop :=
  (∀ s : State, (s.tb.running = false → exec .tick s = .next s) ∧
    (s.tb.running = true → s.power.booting = true →
      (s.tb.started = false → exec .tick s = .next { s with frame64 := 0, tb := { s.tb with started := true } }) ∧
      (s.tb.started = true → s.ring.stepTo = none → s.frame32 ≠ 0xFFFFFFFF → exec .tick s =
        .next { s with frame64 := s.frame64 + 1, tb := { s.tb with tickAt := s.tb.tickAt + s.tb.frameLen } })) ∧
    (s.tb.running = true → s.power.booting = false → Answers (exec .tick s) (fun t =>
      t.frame64 = (if s.tb.started then (match s.ring.stepTo with | some (f, _) => f | none => s.frame64 + 1) else 0) ∧
      t.tb.started = true ∧ t.mtr.now.frame = s.frame64 ∧ t.mtr.before = s.mtr.now ∧
      (s.tb.started = true → s.ring.stepTo = none → t.tb.tickAt = s.tb.tickAt + s.tb.frameLen) ∧
      t.pwm.loadAll = false ∧ t.fio.driveSet = s.fio.nextSet ∧ t.fio.driveEnable = s.fio.nextEnable ∧
      t.fio.levels = s.fio.levels ∧ t.lanes.swapAtTick = false ∧
      t.lanes.activeB = (s.lanes.activeB ^^ s.lanes.swapAtTick) ∧ t.pending = s.pending))) ∧
  (∀ (axis : Fin 16) (fb : BitVec 3) (edges : Word) (s : State),
    (s.axisExists axis = false → exec (.axisComputeSlot axis fb edges) s = .next s) ∧
    (s.axisExists axis = true → Answers (exec (.axisComputeSlot axis fb edges) s) (fun t =>
      t = { s with motion := t.motion, pwm := t.pwm, faults := t.faults, log := t.log, regs := t.regs, saturated := t.saturated } ∧
      (∀ b : Fin 16, b ≠ axis → t.ax b = s.ax b) ∧
      (∀ h : Fin 48, t.hb h = { s.hb h with offered := (t.hb h).offered }) ∧
      (∀ b : Fin 16, s.axisOfBay b ≠ axis → t.bay b = s.bay b ∧ ∀ x : Fin 3, t.hb (hbOf b x) = s.hb (hbOf b x)) ∧
      (s.stepperAt axis = false → (s.ax axis).held = false → (s.ax axis).loops.running = false →
        (t.ax axis).demand = { p := (t.ax axis).measured * Q, v := (t.ax axis).speed * Q, a := 0 } ∧
        ((s.ax axis).state = .disabled → (s.ax axis).enabling = none → (s.ax axis).identify = none →
          ∀ x : Fin 3, (t.hb (hbOf axis x)).offered = 0x4000)))))

/-! ### The twin lanes -/

/-- The decision of Table 14.2 at the lane deadline (R23, R112, R327 to R332): the set accepted stands in the shadow registers from then on,
and no other does. With a healthy active lane the set loads, and a standby that differs,
or is unhealthy while it is compared, leaves comparison at the next tick and raises LANE_DIVERGED; a bay that differs takes no new set,
and the transfer gives it the entries in force then (row 2). An unhealthy active lane hands over to a standby that is compared and healthy, whose set loads only when it equals a
complete one (rows 4 and 5). With neither, the device raises LANE_ACTIVE_LOST and the outputs take their failstate (row 6). A deadline
without a complete set raises TB_OVERRUN, and TB_OVERRUN_REPEAT the second time (R43). -/
def Obligations.LaneDecision : Prop :=
  ∀ (a b : LaneReport) (cmp : Comparison) (slack : Nat) (s : State) (act stb : LaneReport),
    (act, stb) = (if s.lanes.activeB then (s.laneReport 1 b, s.laneReport 0 a) else (s.laneReport 0 a, s.laneReport 1 b)) →
    Answers (exec (.laneDeadline a b cmp slack) s) (fun t =>
      t = { s with regs := t.regs, saturated := t.saturated, tb := { s.tb with overran := t.tb.overran }, faults := t.faults, log := t.log
                   lanes := t.lanes, pwm := t.pwm, fio := t.fio } ∧
      t.lanes.activeB = s.lanes.activeB ∧
      t.tb.overran = (!act.complete && !(decide (s.lanes.standby = .comparing) && stb.complete)) ∧
      (t.tb.overran = true → t.isActive 0x0102 255 = true ∧ (s.tb.overran = true → t.isActive 0x0103 255 = true)) ∧
      (∀ h : Fin 48, t.hb h = { s.hb h with shadow := (t.hb h).shadow }) ∧
      (s.lanes.swapping = none → s.lanes.standby = .comparing →
        (laneUnhealthy act = false → laneUnhealthy stb = false → cmp.bays = 0 → cmp.signatureEqual = true → cmp.scanEqual = true →
          t.lanes = { s.lanes with row := 1, sramBad := Vector.replicate 2 false } ∧ t.pwm.loadAll = true ∧ t.pwm.loadHold = 0 ∧ (∀ h : Fin 48, (t.hb h).shadow = (s.hb h).offered) ∧ t.fio = s.fio) ∧
        (laneUnhealthy act = false → laneUnhealthy stb = false → cmp.bays ≠ 0 →
          t.lanes.row = 2 ∧ t.pwm.loadAll = true ∧ t.lanes.copyAtTick = true ∧ t.lanes.lastCause = 1 ∧ t.lanes.lastBays = cmp.bays ∧
          t.lanes.swapAtTick = s.lanes.swapAtTick ∧ t.isActive 0x0D01 (1 - s.activeLane) = true ∧
          t.pwm.loadHold = cmp.bays ∧
          ∀ (y : Fin 16) (x : Fin 3),
            (cmp.bays.getLsb y = false → (t.hb (hbOf y x)).shadow = (s.hb (hbOf y x)).offered) ∧
            (cmp.bays.getLsb y = true → (t.hb (hbOf y x)).shadow = (s.hb (hbOf y x)).shadow ∧
              ((t.transferBay y).hb (hbOf y x)).shadow = (s.hb (hbOf y x)).active)) ∧
        (laneUnhealthy act = false → laneUnhealthy stb = true →
          t.lanes.row = 3 ∧ t.pwm.loadAll = true ∧ (∀ h : Fin 48, (t.hb h).shadow = (s.hb h).offered) ∧ t.lanes.copyAtTick = true ∧ t.lanes.lastCause = 4 ∧
          t.isActive 0x0D01 (1 - s.activeLane) = true) ∧
        (laneUnhealthy act = true → laneUnhealthy stb = false →
          t.lanes.swapAtTick = true ∧ t.lanes.copyAtTick = true ∧ t.isActive 0x0D02 s.activeLane = true ∧
          (cmp.bays = 0 ∧ act.complete = true → t.pwm.loadAll = true ∧ ∀ h : Fin 48, (t.hb h).shadow = (s.hb h).offered) ∧
          (cmp.bays ≠ 0 ∨ act.complete = false → t.lanes.row = 5 ∧ t.pwm = s.pwm) ∧
          (cmp.bays = 0 ∧ act.complete = true ∧ cmp.signatureEqual = true ∧ cmp.scanEqual = true → t.lanes.row = 4))) ∧
      (laneUnhealthy act = true → s.lanes.standby ≠ .comparing ∨ laneUnhealthy stb = true →
        t.lanes = { s.lanes with row := 6, lost := true, sramBad := Vector.replicate 2 false } ∧ t.pwm = s.pwm ∧
        (s.lanes.lost = false → t.isActive 0x0D06 255 = true ∧ t.fio.failed = true)))

/-- LANE_SWAP and the proof swap (R338, R339), and the state copy (R333 to R335). A request waits for the dwell or for the next tick, and
one that waits already completes with BUSY (notes/assumptions/128); a
swap exchanges the roles, ends after 16 clean frames with the age at 0, and fails with LANE_SWAP_FAIL otherwise. A copy releases the
standby into comparison after its final phase, with nothing of its own left; one that takes LANE.COPY_MAX frames or more fails with a divergence of its lane. -/
def Obligations.LaneSwapsAndCopies : Prop :=
  (∀ (r : Req) (k : Fin 8) (flags : Byte) (s : State), s.admits 0xC1 r k = true →
    (2 ≤ flags.toNat → exec (.laneSwap r flags) s = .next (s.withReply (replyOf r k 0xC1 Status.badParameter .bare))) ∧
    (flags.toNat ≤ 1 → s.power.mode = .limp →
      exec (.laneSwap r flags) s = .next (s.withReply (replyOf r k 0xC1 Status.wrongMode .bare))) ∧
    (flags.toNat ≤ 1 → s.power.mode ≠ .limp → s.lanes.standby ≠ .comparing ∨ s.lanes.redundancyLost = true →
      exec (.laneSwap r flags) s = .next (s.withReply (replyOf r k 0xC1 Status.faultLatched .bare))) ∧
    (s.power.mode ≠ .limp → s.lanes.standby = .comparing → s.lanes.redundancyLost = false →
      (flags = 0 → s.swapConditions = false →
        exec (.laneSwap r flags) s = .next (s.withReply (replyOf r k 0xC1 Status.busy .bare))) ∧
      (∀ waits ∈ [s.lanes.swapNow, s.lanes.swapWaiting], ∀ slot seq, waits = some (slot, seq) →
          (flags = 0 ∧ s.swapConditions = true) ∨ flags = 1 → Answers (exec (.laneSwap r flags) s) (fun t =>
        t = { s with lanes := { s.lanes with swapNow := t.lanes.swapNow, swapWaiting := t.lanes.swapWaiting }, log := t.log
                     cmd := (s.withReply (replyOf r k 0xC1 Status.pending .bare)).cmd } ∧
        ∃ e, e ∈ t.log.fresh ∧ e.code = 0x0280 ∧ e.detail = Status.busy ∧ e.extra = seq.toNat)) ∧
      (s.lanes.swapWaiting = none → s.lanes.swapNow = none →
        (flags = 0 → s.swapConditions = true → exec (.laneSwap r flags) s = .next (State.withReply
          { s with lanes := { s.lanes with swapNow := some (some k, r.seq) } } (replyOf r k 0xC1 Status.pending .bare))) ∧
        (flags = 1 → exec (.laneSwap r flags) s = .next (State.withReply
          { s with lanes := { s.lanes with swapWaiting := some (some k, r.seq) } } (replyOf r k 0xC1 Status.pending .bare)))))) ∧
  (∀ s : State,
    (∀ ok : Bool, s.lanes.swapping.isSome = true ∨ ((s.lanes.swapNow = none ∨ s.swapConditions = false ∨ s.power.mode = .limp) ∧ s.swapAutomatic = false) →
      exec (.proofSwap ok) s = .next s) ∧
    (s.lanes.swapping = none → (s.lanes.swapNow.isSome = true ∧ s.swapConditions = true ∧ s.power.mode ≠ .limp) ∨ s.swapAutomatic = true →
      Answers (exec (.proofSwap true) s) (fun t => t = { s with lanes := { s.lanes with
          activeB := !s.lanes.activeB, swapping := t.lanes.swapping, dwellRun := 0, swapNow := none, swapWaiting := t.lanes.swapWaiting } } ∧
        t.lanes.swapping = some (s.frame64, if s.lanes.swapNow.isSome then s.lanes.swapNow else s.lanes.swapWaiting)) ∧
      Answers (exec (.proofSwap false) s) (fun t => t.lanes.activeB = !s.lanes.activeB ∧ t.lanes.swapping = none ∧
        t.lanes.swapAtTick = true ∧ t.lanes.lastCause = 6 ∧ t.isActive 0x0D07 (1 - s.activeLane) = true ∧ t.motion = s.motion ∧
        t.pwm = s.pwm)) ∧
    (∀ clean : Bool, s.lanes.swapping = none → exec (.proofSwapResult clean) s = .next s) ∧
    (∀ f req, s.lanes.swapping = some (f, req) →
      ((s.frame64 - f).toNat < 16 → exec (.proofSwapResult true) s = .next s) ∧
      (16 ≤ (s.frame64 - f).toNat → Answers (exec (.proofSwapResult true) s) (fun t =>
        t = { s with lanes := { s.lanes with swapping := none }, regs := t.regs, faults := t.faults, log := t.log } ∧
        (s.canonical = true → t.devN 0x0D11 = 0) ∧ t.isActive 0x0D08 255 = false ∧
        ∀ slot seq, req = some (slot, seq) → ∃ e, e ∈ t.log.fresh ∧ e.code = 0x0280 ∧ e.detail = Status.ok ∧ e.extra = seq.toNat)) ∧
      Answers (exec (.proofSwapResult false) s) (fun t => t.lanes.swapping = none ∧ t.lanes.swapAtTick = true ∧ t.lanes.lastCause = 6 ∧
        t.lanes.lastLane = s.activeLane ∧ t.isActive 0x0D07 s.activeLane = true ∧ t.lanes.activeB = s.lanes.activeB)) ∧
    (s.devN 0x0D11 ≤ 2 * s.devN 0x0D01 → exec .laneSwapOverdue s = .next s) ∧
    (2 * s.devN 0x0D01 < s.devN 0x0D11 → Answers (exec .laneSwapOverdue s) (fun t => OnlyRaised s t 0x0D08 255)) ∧
    (∀ dirty : Nat,
      (s.lanes.standby ≠ .copying ∨ s.lanes.finalPhase = true → exec (.copyFinalPhase dirty) s = .next s) ∧
      (s.lanes.standby = .copying → s.lanes.finalPhase = false → exec (.copyFinalPhase dirty) s =
        .next { s with lanes := { s.lanes with finalPhase := decide (dirty ≤ 16), dirty := dirty } })) ∧
    (s.lanes.standby ≠ .copying ∨ s.lanes.finalPhase = false → exec .copyRelease s = .next s) ∧
    (s.lanes.standby = .copying → s.lanes.finalPhase = true → Answers (exec .copyRelease s) (fun t =>
      t = { s with lanes := { s.lanes with standby := .comparing, finalPhase := false, dirty := 0, apart := none }, regs := t.regs
                   saturated := t.saturated, faults := t.faults, log := t.log
                   dbg := { s.dbg with sram := s.dbg.sram.set (Fin.ofNat 2 s.standbyLane) [] } })) ∧
    (s.lanes.standby ≠ .copying ∨ s.lanes.finalPhase = true ∨ (s.frame64 - s.lanes.copySince).toNat < s.devN 0x0D04 →
      exec .laneCopyFail s = .next s) ∧
    (s.lanes.standby = .copying → s.lanes.finalPhase = false → s.devN 0x0D04 ≤ (s.frame64 - s.lanes.copySince).toNat →
      Answers (exec .laneCopyFail s) (fun t => t.lanes.lastCause = 5 ∧ t.lanes.lastLane = s.standbyLane ∧
        t.isActive 0x0D03 s.standbyLane = true ∧ t.lanes.copySince = s.frame64 ∧
        (t.lanes.standby = .copying ∨ t.lanes.standby = .faulty) ∧
        ((s.divergences s.standbyLane).length < 2 → s.lanes.redundancyLost = false → t.lanes.standby = .copying) ∧
        t = { s with lanes := t.lanes, regs := t.regs, saturated := t.saturated, faults := t.faults, log := t.log })))

/-! ### The PWM generator, the sense array and the driver dies -/

/-- Carrier periods, the chopper and the sense array (R41, R115, R117, R156 to R165, R209 to R212). The first period takes the pending
entries, period and words, the second, which a 40 kHz bay alone has, keeps the entries in force; bay b starts b × 625 counts after the tick, and its second
period where the first ends (R40); nothing starts after clock loss. A chopper trip counts in a servo bay; in a stepper bay it ends the on-time once the blanking is over. A trigger stores its raw code, a calibration conversion adds
to its sum, and a sample record stores the corrected samples with the die's readings, of an axis that is enabled or, the model's reading
(notes/assumptions/133), under identification. The runs of missing, saturated and chopped frames raise
their faults at their limits. A failed transfer of a bay's record makes its samples missing; a die that has one in two frames in a row
raises GD_DIE_LINK. That chops after the window count toward the next record is the model's reading (notes/assumptions/95). -/
def Obligations.CarriersAndSamples : Prop :=
  (∀ (b : Fin 16) (second : Bool) (s : State),
    (s.tb.clockLost = true ∨ (second = true ∧ (s.bay b).period ≠ 5000) → exec (.carrierPeriodStart b second) s = .next s) ∧
    (s.tb.clockLost = false → (second = true → (s.bay b).period = 5000) → Answers (exec (.carrierPeriodStart b second) s) (fun t =>
      t = { s with pwm := t.pwm, free := t.free } ∧ (t.bay b).startedAt =
          (if second then (((s.bay b).startedAt : Int) + (s.bay b).period + (s.bay b).stretch).toNat else s.tb.tickAt + 625 * b.val) ∧ (∀ c : Fin 16, c ≠ b → t.bay c = s.bay c) ∧
      (∀ h : Fin 48, bayOfHb h ≠ b → t.hb h = s.hb h) ∧
      (∀ x : Fin 3, (t.hb (hbOf b x)).active = (if second then (s.hb (hbOf b x)).active else (s.hb (hbOf b x)).pending) ∧
        (t.hb (hbOf b x)).coast = (s.hb (hbOf b x)).coast ∧ (t.hb (hbOf b x)).short = (s.hb (hbOf b x)).short) ∧
      (second = false → (t.bay b).period = (s.bay b).periodPending ∧ (t.bay b).trigActive = (s.bay b).trigPending ∧
        (t.bay b).chopActive = (s.bay b).chopPending ∧ (t.bay b).raw0 = none ∧ (t.bay b).raw1 = none ∧ (t.bay b).firstTrip = none) ∧
      (second = true → (t.bay b).period = (s.bay b).period ∧ (t.bay b).raw0 = (s.bay b).raw0)))) ∧
  (∀ (b : Fin 16) (count : Nat) (s : State),
    (s.stepperAt b = true → (s.bay b).chopper.phase ≠ .onTime ∨ (count : Int) < (s.bay b).chopper.blankTo →
      exec (.chopTrip b count) s = .next s) ∧
    (s.stepperAt b = true → (s.bay b).chopper.phase = .onTime → (s.bay b).chopper.blankTo ≤ (count : Int) →
      Answers (exec (.chopTrip b count) s) (fun t => t = { s with pwm := t.pwm } ∧ t.pwm.hbs = s.pwm.hbs ∧
        (∀ c : Fin 16, c ≠ b → t.bay c = s.bay c) ∧ (t.bay b).chops = min 255 ((s.bay b).chops + 1) ∧
        (t.bay b).chopper.phase = .offTime ∧ (t.bay b).chopper.since = count ∧
        (2 * count < (s.bay b).period → (t.bay b).firstTrip = some ((s.bay b).firstTrip.getD count) ∧
          (t.bay b).trips = min 255 ((s.bay b).trips + 1)) ∧
        ((s.bay b).period ≤ 2 * count → (t.bay b).firstTrip = (s.bay b).firstTrip ∧ (t.bay b).trips = (s.bay b).trips))) ∧
    (s.stepperAt b = false → Answers (exec (.chopTrip b count) s) (fun t => t = { s with pwm := t.pwm, regs := t.regs } ∧
      t.pwm.hbs = s.pwm.hbs ∧ (∀ c : Fin 16, c ≠ b → t.bay c = s.bay c) ∧
      t.bay b = { s.bay b with chops := min 255 ((s.bay b).chops + 1), chopped := true } ∧
      (s.canonical = true → t.stuck 0x0511 b.val 5 = true))) ∧
    ((s.bay b).chopper.phase ≠ .offTime → exec (.chopOffTimeEnd b) s = .next s) ∧
    ((s.bay b).chopper.phase = .offTime → Answers (exec (.chopOffTimeEnd b) s) (fun t => t = { s with pwm := t.pwm } ∧
      t.pwm.hbs = s.pwm.hbs ∧ (t.bay b).chopper.phase = .onTime ∧ ∀ c : Fin 16, c ≠ b → t.bay c = s.bay c))) ∧
  (∀ (b : Fin 16) (which : Fin 2) (raw : BitVec 12) (s : State),
    (s.tb.clockLost = true → exec (.adcTrigger b which raw) s = .next s) ∧
    (s.tb.clockLost = false → (s.bay b).calibrating = false →
      (s.triggerAt b which = none → exec (.adcTrigger b which raw) s = .next s) ∧
      (∀ c, s.triggerAt b which = some c → Answers (exec (.adcTrigger b which raw) s) (fun t => t = { s with pwm := t.pwm } ∧
        t.bay b = { s.bay b with raw0 := if which = 0 then some raw.toNat else (s.bay b).raw0
                                 raw1 := if which = 0 then (s.bay b).raw1 else some raw.toNat
                                 forcedInAperture := (s.bay b).forcedInAperture || s.bayForced b }))) ∧
    (s.tb.clockLost = false → (s.bay b).calibrating = true → s.bayForced b = false →
      (s.bay b).conversions < 31 → Answers (exec (.adcTrigger b which raw) s) (fun t => t = { s with pwm := t.pwm } ∧
        (t.bay b).conversions = (s.bay b).conversions + 1 ∧
        (t.bay b).internalSum + (t.bay b).shuntSum = (s.bay b).internalSum + (s.bay b).shuntSum + raw.toNat ∧
        ((s.bay b).conversions < 16 → (t.bay b).shuntSum = (s.bay b).shuntSum)))) ∧
  (∀ (b : Fin 16) (report : DieReport) (s : State), Answers (exec (.sampleRecord b report) s) (fun t =>
    t = { s with pwm := t.pwm, regs := t.regs, saturated := t.saturated, faults := t.faults, log := t.log } ∧
    (t.die (dieOf b)).vbus = report.vbus ∧ (t.die (dieOf b)).temp = report.temp ∧ t.pwm.hbs = s.pwm.hbs ∧
    (∀ c : Fin 16, c ≠ b → t.bay c = s.bay c) ∧
    ((s.ax (s.axisOfBay b)).state.enabled = true ∨ (s.ax (s.axisOfBay b)).identify.isSome = true → (s.bay b).calibrating = false →
      (∀ raw, (s.bay b).raw0 = some raw → (t.bay b).sample0 = s.correct b raw ∧ t.isActive 0x0503 (s.axisOfBay b).val = false) ∧
      (∀ raw, (s.bay b).raw1 = some raw → (t.bay b).sample1 = s.correct b raw) ∧
      ((s.bay b).raw0 = none → (t.bay b).sample0 = 0)) ∧
    ((s.ax (s.axisOfBay b)).state.enabled = false → (s.ax (s.axisOfBay b)).identify = none → (t.bay b).sample0 = 0 ∧ (t.bay b).sample1 = 0 ∧ (t.bay b).missRun = 0 ∧
      (t.bay b).satRun = 0))) ∧
  (∀ (b : Fin 16) (s : State),
    ((s.bay b).missRun < s.parN 0x0507 b.val → exec (.snsMissing b) s = .next s) ∧
    (s.parN 0x0507 b.val ≤ (s.bay b).missRun → Answers (exec (.snsMissing b) s) (fun t => OnlyRaised s t 0x0503 (s.axisOfBay b).val)) ∧
    ((s.bay b).satRun < s.parN 0x0506 b.val → exec (.snsRange b) s = .next s) ∧
    (s.parN 0x0506 b.val ≤ (s.bay b).satRun → Answers (exec (.snsRange b) s) (fun t => OnlyRaised s t 0x0502 b.val)) ∧
    (s.parN 0x0509 b.val = 0 ∨ (s.bay b).peakRun < s.parN 0x0509 b.val ∨ s.stepperAt b = true → exec (.snsPeak b) s = .next s) ∧
    (s.parN 0x0509 b.val ≠ 0 → s.parN 0x0509 b.val ≤ (s.bay b).peakRun → s.stepperAt b = false →
      Answers (exec (.snsPeak b) s) (fun t => OnlyRaised s t 0x0504 b.val))) ∧
  (∀ (b : Fin 16) (d : Fin 2) (s : State), dieOf b = d → Answers (exec (.dieLinkCrcFail b) s) (fun t =>
    t = { s with pwm := t.pwm, regs := t.regs, faults := t.faults, log := t.log } ∧ (t.die d).linkFailed = true ∧
    (t.die d).vbus = (s.die d).vbus ∧ (t.die d).temp = (s.die d).temp ∧ t.pwm.hbs = s.pwm.hbs ∧
    (t.bay b).sample0 = 0 ∧ (t.bay b).sample1 = 0 ∧ (t.bay b).recordFlags = 3 ∧ (t.bay b).satRun = 0 ∧
    (∀ c : Fin 16, c ≠ b → t.bay c = s.bay c) ∧
    ((s.ax (s.axisOfBay b)).state.enabled = true → s.canonical = true → t.stuck 0x0511 b.val 4 = true) ∧
    ((s.die d).linkFailedBefore = true → t.isActive 0x040E (dieInst d) = true) ∧
    ((s.die d).linkFailedBefore = false → t.faults = s.faults)))

/-- The protection of the power stage (R126 to R152): a shorted output and a shoot-through hold every half-bridge of the bay in COAST, and of
both bays of a stepper pair (R30), a
low bootstrap holds its half-bridge once a high-side pulse has gone before, and low VGD holds every bay of the die; a retry at the tick its wait
ends releases them, a half-bridge to OFF until its next period starts (R147 to R149;
that its command stands before that TICK is the model's reading, notes/assumptions/93).
The first over-voltage level turns the brake chopper on, whose frames on count afresh once it is off (R138), the second forces winding short on every bay at once (R137, R140); a declared failure of a brake
chopper, low VBUS and a mismatch of the dies (each after its number of frames) and their temperatures raise their faults, and a halted core raises
PWM_DEBUG_HALT while an axis is enabled (R121). -/
def Obligations.PowerStage : Prop :=
  (∀ (b : Fin 16) (lowOn : BitVec 3) (s : State), Answers (exec (.shortComparatorTrip b lowOn) s) (fun t =>
    t.isActive 0x0401 b.val = true ∧ (t.bay b).tripped = true ∧ t.frame64 = s.frame64 ∧
    (∀ c ∈ s.baysWith b, ∀ x : Fin 3, 1 ∈ (t.hb (hbOf c x)).coast) ∧
    (∀ x : Fin 3, lowOn.getLsb x = true → (t.hb (hbOf b x)).lowClean = false) ∧
    (∀ h : Fin 48, bayOfHb h ∉ s.baysWith b → (s.bay b).calibrating = false → t.hb h = s.hb h) ∧
    ((s.bay b).calibrating = false → t.motion = s.motion ∧
      (t.bay b).retry.waitEnd = (if (s.bay b).retry.exhausted then none else some (s.waitEnd (s.parN 0x0408 b.val)))))) ∧
  (∀ (h : Fin 48) (s : State),
    ((s.hb h).highPulsed = false → Answers (exec (.bootUv h) s) (fun t => t = { s with pwm := t.pwm } ∧
      t.hb h = { s.hb h with bootUv := true } ∧ ∀ g : Fin 48, g ≠ h → t.hb g = s.hb g)) ∧
    ((s.hb h).highPulsed = true → Answers (exec (.bootUv h) s) (fun t => 2 ∈ (t.hb h).coast ∧ (t.hb h).bootUv = true ∧
      t.isActive 0x0402 h.val = true)) ∧
    Answers (exec (.shootThroughInterlock h) s) (fun t => (∀ c ∈ s.baysWith (bayOfHb h), ∀ x : Fin 3, 9 ∈ (t.hb (hbOf c x)).coast) ∧
      (∀ g : Fin 48, bayOfHb g ∉ s.baysWith (bayOfHb h) → t.hb g = s.hb g) ∧
      Raised s t 0x0404 (bayOfHb h).val ∧ t = { s with pwm := t.pwm, regs := t.regs, faults := t.faults, log := t.log })) ∧
  (∀ (d : Fin 2) (s : State),
    Answers (exec (.vgdLockout d) s) (fun t => t = { s with pwm := t.pwm, faults := t.faults, log := t.log } ∧
      (t.die d).vgdLocked = true ∧ Raised s t 0x0405 (dieInst d) ∧
      ∀ b : Fin 16, (dieOf b = d → ∀ x : Fin 3, 3 ∈ (t.hb (hbOf b x)).coast) ∧
        (dieOf b ≠ d → ∀ x : Fin 3, t.hb (hbOf b x) = s.hb (hbOf b x))) ∧
    Answers (exec (.vgdLockoutRelease d) s) (fun t => (t.die d).vgdLocked = false ∧ t.isActive 0x0405 (dieInst d) = false ∧
      (∀ b : Fin 16, dieOf b = d → ∀ x : Fin 3, 3 ∉ (t.hb (hbOf b x)).coast) ∧ (s.saf.state ≠ .boot → t.saf = s.saf)) ∧
    Answers (exec (.gdVgdHigh d) s) (fun t => OnlyRaised s t 0x0406 (dieInst d)) ∧
    ((s.die d).idleRun < 5 → exec (.gdBrakeFail d) s = .next s) ∧
    ((s.die d).brakeRun < s.devN 0x0404 → exec (.gdBrakeOverload d) s = .next s) ∧
    (∀ c code, (c = Instr.vgdBrkLow d ∧ code = 0x0409) ∨ (c = Instr.gdBrakeFail d ∧ code = 0x0409 ∧ 5 ≤ (s.die d).idleRun) ∨
        (c = Instr.gdBrakeOverload d ∧ code = 0x040A ∧ s.devN 0x0404 ≤ (s.die d).brakeRun) → Answers (exec c s) (fun t =>
      t = { s with pwm := t.pwm, faults := t.faults, log := t.log } ∧ Raised s t code (dieInst d) ∧
      t.die d = { s.die d with brakeFailed := true } ∧ t.pwm.hbs = s.pwm.hbs ∧ t.pwm.bays = s.pwm.bays)) ∧
    ((s.die d).shortRun < 5 → exec (.gdBrakeShorted d) s = .next s) ∧
    (5 ≤ (s.die d).shortRun → Answers (exec (.gdBrakeShorted d) s) (fun t => OnlyRaised s t 0x040B 255)) ∧
    Answers (exec (.ov1Assert d) s) (fun t => t = { s with pwm := t.pwm, faults := t.faults, log := t.log } ∧
      t.die d = { s.die d with ov1 := true, brakeOn := true, brakeSeen := true } ∧ Raised s t 0x0407 (dieInst d)) ∧
    Answers (exec (.brakeOff d) s) (fun t => t = { s with pwm := t.pwm } ∧
      t.die d = { s.die d with ov1 := false, brakeOn := false, brakeBroken := true, brakeRun := 0, idleRun := 0 } ∧ t.pwm.hbs = s.pwm.hbs) ∧
    Answers (exec (.ov2Assert d) s) (fun t => t.pwm.overVoltage = true ∧ t.isActive 0x0408 255 = true ∧ (t.die d).ov2 = true ∧
      ∀ h : Fin 48, t.lowUsable h = true → t.level h = (if t.freeW h then .off else .windingShort)) ∧
    Answers (exec .ov2Release s) (fun t => t = { s with pwm := t.pwm } ∧ t.pwm.overVoltage = false ∧ t.pwm.hbs = s.pwm.hbs ∧
      ∀ e : Fin 2, t.die e = { s.die e with ov2 := false }) ∧
    ((s.die d).uvRun < 4 → exec (.gdVbusUv d) s = .next s) ∧
    (4 ≤ (s.die d).uvRun →
      Answers (exec (.gdVbusUv d) s) (fun t => OnlyRaised s t 0x040C (dieInst d))) ∧
    (s.pwm.mismatchRun < 4 → exec .gdVbusMismatch s = .next s) ∧
    (4 ≤ s.pwm.mismatchRun → Answers (exec .gdVbusMismatch s) (fun t => Raised s t 0x040D 255 ∧
      t = { s with regs := t.regs, faults := t.faults, log := t.log })) ∧
    (∀ temp : Int,
      (temp < 1300 → Answers (exec (.gdDieHot d temp) s) (fun t => t = { s with pwm := t.pwm } ∧ t.die d = { s.die d with temp := temp })) ∧
      (1300 ≤ temp → Answers (exec (.gdDieHot d temp) s) (fun t => Raised s t 0x040F (dieInst d) ∧ (t.die d).temp = temp)) ∧
      (temp < 1500 → Answers (exec (.gdDieOvertemp d temp) s) (fun t => t = { s with pwm := t.pwm } ∧
        t.die d = { s.die d with temp := temp })) ∧
      (1500 ≤ temp → Answers (exec (.gdDieOvertemp d temp) s) (fun t => Raised s t 0x0410 (dieInst d) ∧ (t.die d).temp = temp)))) ∧
  (∀ s : State, (s.dbg.laneHalted (if s.lanes.activeB then 1 else 0) = false ∨ s.anyEnabled = false →
      exec .pwmDebugHalt s = .next s) ∧
    (s.dbg.laneHalted (if s.lanes.activeB then 1 else 0) = true → s.anyEnabled = true →
      Answers (exec .pwmDebugHalt s) (fun t => OnlyRaised s t 0x0304 255))) ∧
  (∀ (b : Fin 16) (active : Bool) (s : State),
    ((s.bay b).retry.waitEnd = none ∨ (∃ w, (s.bay b).retry.waitEnd = some w ∧ s.frame64 + 1 < w) ∨
        (s.power.mode ≠ .run ∧ s.power.mode ≠ .limp) ∨ (s.bay b).retry.exhausted = true →
      exec (.autoRetryTry (.short b) active) s = .next s) ∧
    (∀ w, (s.bay b).retry.waitEnd = some w → w ≤ s.frame64 + 1 → s.power.mode = .run ∨ s.power.mode = .limp → (s.bay b).retry.exhausted = false →
      ((s.recentTries (s.bay b).retry).length < s.parN 0x0409 b.val →
        (active = true → Answers (exec (.autoRetryTry (.short b) true) s) (fun t => t = { s with pwm := t.pwm } ∧
          (t.bay b).retry.waitEnd = some (s.frame64 + 1 + BitVec.ofNat 64 (200 * s.parN 0x0408 b.val)))) ∧
        (active = false → Answers (exec (.autoRetryTry (.short b) false) s) (fun t => t.isActive 0x0401 b.val = false ∧
          ((∀ c ∈ s.baysWith b, c ≠ b → s.isActive 0x0401 c.val = false) →
            ∀ c ∈ s.baysWith b, ∀ x : Fin 3, 1 ∉ (t.hb (hbOf c x)).coast) ∧ (t.bay b).retry.waitEnd = none ∧
          (t.bay b).retry.tries = (s.frame64 + 1) :: s.recentTries (s.bay b).retry))) ∧
      (s.parN 0x0409 b.val ≤ (s.recentTries (s.bay b).retry).length →
        Answers (exec (.autoRetryTry (.short b) active) s) (fun t => Raised s t 0x0403 b.val ∧ (t.bay b).retry.exhausted = true ∧
          (t.bay b).retry.waitEnd = none ∧ t.pwm.hbs = s.pwm.hbs)))) ∧
  (∀ (h : Fin 48) (active : Bool) (s : State) (w : Long), s.pwm.boot[h].waitEnd = some w →
    (s.frame64 + 1 < w ∨ (s.power.mode ≠ .run ∧ s.power.mode ≠ .limp) → exec (.autoRetryTry (.boot h) active) s = .next s) ∧
    (w ≤ s.frame64 + 1 → s.power.mode = .run ∨ s.power.mode = .limp → s.pwm.boot[h].exhausted = false →
      ((s.recentTries s.pwm.boot[h]).length < s.parN 0x040B (bayOfHb h).val →
        (active = true → Answers (exec (.autoRetryTry (.boot h) true) s) (fun t => t = { s with pwm := t.pwm } ∧ t.pwm.hbs = s.pwm.hbs ∧
          t.pwm.boot[h].waitEnd = some (s.frame64 + 1 + BitVec.ofNat 64 (200 * s.parN 0x040A (bayOfHb h).val)))) ∧
        (active = false → Answers (exec (.autoRetryTry (.boot h) false) s) (fun t =>
          t = { s with pwm := t.pwm, faults := t.faults, log := t.log } ∧ t.isActive 0x0402 h.val = false ∧
          t.hb h = { s.hb h with coast := removeSource 2 (s.hb h).coast, short := removeSource 2 (s.hb h).short, bootUv := false
                                 release := (t.hb h).release } ∧
          (2 ∈ (s.hb h).coast → (t.hb h).coast = [] → (t.hb h).short = [] → (t.hb h).release = .untilStart) ∧ ∀ g : Fin 48, g ≠ h → t.hb g = s.hb g))) ∧
      (s.parN 0x040B (bayOfHb h).val ≤ (s.recentTries s.pwm.boot[h]).length →
        Answers (exec (.autoRetryTry (.boot h) active) s) (fun t => t.isActive 0x0403 (bayOfHb h).val = true ∧
          t.pwm.boot[h].exhausted = true ∧
          ∀ c ∈ s.baysWith (bayOfHb h), ∀ x : Fin 3, 8 ∈ (t.hb (hbOf c x)).short))))

/-! ### Field inputs, counters and outputs -/

/-- Field I/O (R393 to R406). An edge to another level changes its input's level and is stamped while the timebase runs; a counter counts an edge
of its mode modulo 2^32 and logs its first wrap (R397); a gate, once it has lasted FIO.FREQ_GATE frames, gives the frequency of the edges in it (R398). Low or high VFIELD, and an overload or
temperature latch, hold their outputs OFF and raise their faults; recovery releases them at the next tick; a mismatch or an open load sets
its diagnostic. Each event of a channel below DO12 that only DO12 to DO15 have changes nothing. -/
def Obligations.FieldInputsAndOutputs : Prop :=
  (∀ (i : Fin 32) (level : Bool) (count : Nat) (s : State),
    (s.fio.levels.getLsb i = level → exec (.diEdge i level count) s = .next s) ∧
    (s.fio.levels.getLsb i ≠ level → Answers (exec (.diEdge i level count) s) (fun t =>
    t = { s with fio := t.fio } ∧ t.fio.levels.getLsb i = level ∧
    (∀ j : Fin 32, j ≠ i → t.fio.levels.getLsb j = s.fio.levels.getLsb j) ∧
    (s.tb.running = false → t.fio = { s.fio with levels := t.fio.levels }) ∧
    (s.tb.running = true → (level ^^ (BitVec.ofNat 32 (s.devN 0x1001)).getLsb i) = true →
      t.fio.rising[i] = some (s.frame32, BitVec.ofNat 16 count) ∧ t.fio.falling = s.fio.falling) ∧
    (s.tb.running = true → (level ^^ (BitVec.ofNat 32 (s.devN 0x1001)).getLsb i) = false →
      t.fio.falling[i] = some (s.frame32, BitVec.ofNat 16 count) ∧ t.fio.rising = s.fio.rising)))) ∧
  (∀ (c : Fin 8) (up : Bool) (s : State),
    (s.fio.counters[c].mode = 0 ∨ s.tb.running = false → exec (.counterEdge c up) s = .next s) ∧
    (s.fio.counters[c].mode ≠ 0 → s.tb.running = true → Answers (exec (.counterEdge c up) s) (fun t =>
      t = { s with fio := t.fio, regs := t.regs, faults := t.faults, log := t.log } ∧
      t.fio.levels = s.fio.levels ∧
      (s.fio.counters[c].mode = 1 ∨ (s.fio.counters[c].mode = 2 ∧ s.inputs.getLsbD (c.val + 8) = false) ∨
          (2 < s.fio.counters[c].mode ∧ up = true) → t.fio.counters[c].count = s.fio.counters[c].count + 1 ∧
        (s.fio.counters[c].count ≠ 0xFFFFFFFF → t.regs = s.regs ∧ t.faults = s.faults) ∧
        (s.fio.counters[c].count = 0xFFFFFFFF → t.fio.counters[c].wrapped = true ∧
          (s.fio.counters[c].wrapped = false → t.isActive 0x1009 255 = true) ∧
          (s.fio.counters[c].wrapped = true → t.faults = s.faults ∧ t.log = s.log))) ∧
      ((s.fio.counters[c].mode = 2 ∧ s.inputs.getLsbD (c.val + 8) = true) ∨ (2 < s.fio.counters[c].mode ∧ up = false) →
        t.fio.counters[c].count = s.fio.counters[c].count - 1 ∧
        (s.fio.counters[c].count ≠ 0 → t.regs = s.regs ∧ t.faults = s.faults)) ∧
      ∀ d : Fin 8, d ≠ c → t.fio.counters[d] = s.fio.counters[d])) ∧
    (∀ edges span : Nat,
      (s.fio.counters[c].mode = 0 ∨ s.fio.counters[c].gate < s.parN 0x1005 c.val → exec (.freqGateEnd c edges span) s = .next s) ∧
      (s.fio.counters[c].mode ≠ 0 → s.parN 0x1005 c.val ≤ s.fio.counters[c].gate → edges = 0 →
        exec (.freqGateEnd c edges span) s = .next
          { s with fio := { s.fio with counters := upd s.fio.counters c (fun x => { x with gate := 0 }) } }) ∧
      (s.fio.counters[c].mode ≠ 0 → s.parN 0x1005 c.val ≤ s.fio.counters[c].gate → 0 < edges →
        Answers (exec (.freqGateEnd c edges span) s) (fun t =>
        t = { s with fio := { s.fio with counters := t.fio.counters }, regs := t.regs } ∧ (∀ d : Fin 8, d ≠ c → t.fio.counters[d] = s.fio.counters[d]) ∧
        t.fio.counters[c] = { s.fio.counters[c] with last := some s.tb.tickAt, idle := 0, gate := 0 } ∧
        (s.fio.counters[c].last = none → edges = 1 → t.regs = s.regs) ∧
        (s.canonical = true → s.fio.counters[c].last.isSome = true → 0 < span →
          t.par 0x1032 c.val = min (rdiv ((edges : Int) * 200000000000) span) 200000000))))) ∧
  (∀ (g : Fin 4) (mv : Nat) (s : State),
    (s.devN 0x1015 ≤ mv → Answers (exec (.vfieldUv g mv) s) (fun t => t = { s with regs := t.regs } ∧
      (s.canonical = true → t.par 0x1033 g.val = min (mv : Int) 40000))) ∧
    (mv < s.devN 0x1015 → Answers (exec (.vfieldUv g mv) s) (fun t => Raised s t 0x1001 g.val ∧
      t = { s with regs := t.regs, fio := { s.fio with underVoltage := t.fio.underVoltage }, faults := t.faults, log := t.log } ∧
      ∀ k : Fin 4, t.fio.underVoltage.getLsb k = (decide (k = g) || s.fio.underVoltage.getLsb k))) ∧
    (mv ≤ 35000 → Answers (exec (.vfieldOv g mv) s) (fun t => t = { s with regs := t.regs })) ∧
    (35000 < mv → Answers (exec (.vfieldOv g mv) s) (fun t => Raised s t 0x1002 g.val ∧
      t = { s with regs := t.regs, fio := { s.fio with overVoltage := t.fio.overVoltage }, faults := t.faults, log := t.log } ∧
      ∀ k : Fin 4, t.fio.overVoltage.getLsb k = (decide (k = g) || s.fio.overVoltage.getLsb k))) ∧
    (mv ≤ s.devN 0x1015 + 1000 ∨ s.fio.underVoltage.getLsb g = false → 34000 ≤ mv ∨ s.fio.overVoltage.getLsb g = false →
      Answers (exec (.vfieldRecover g mv) s) (fun t => t = { s with regs := t.regs })) ∧
    (s.devN 0x1015 + 1000 < mv → s.fio.underVoltage.getLsb g = true → Answers (exec (.vfieldRecover g mv) s) (fun t =>
      t.fio.underVoltage.getLsb g = false ∧ t.isActive 0x1001 g.val = false ∧
      ∀ k : Fin 16, k.val / 4 = g.val → t.fio.returning.getLsb k = true)) ∧
    (mv < 34000 → s.fio.overVoltage.getLsb g = true → Answers (exec (.vfieldRecover g mv) s) (fun t =>
      t.fio.overVoltage.getLsb g = false ∧ t.isActive 0x1002 g.val = false ∧
      ∀ k : Fin 16, k.val / 4 = g.val → t.fio.returning.getLsb k = true))) ∧
  (∀ (g : Fin 4) (s : State),
    (g = 3 ∨ s.fio.groupLatch.getLsb g = true → exec (.fioDoGroupOverload g) s = .next s) ∧
    (g ≠ 3 → s.fio.groupLatch.getLsb g = false → Answers (exec (.fioDoGroupOverload g) s) (fun t =>
      t = { s with regs := t.regs, fio := { s.fio with groupLatch := t.fio.groupLatch }, faults := t.faults, log := t.log
                   saturated := t.saturated } ∧
      t.isActive 0x1003 (4 * g.val) = true ∧ t.fio.groupLatch.getLsb g = true ∧
      ∀ k : Fin 16, k.val / 4 = g.val → t.outputEnable.getLsb k = false)) ∧
    (s.fio.thermalLatch.getLsb g = true → exec (.fioDoThermal g) s = .next s) ∧
    (s.fio.thermalLatch.getLsb g = false → Answers (exec (.fioDoThermal g) s) (fun t =>
      t = { s with regs := t.regs, fio := { s.fio with thermalLatch := t.fio.thermalLatch }, faults := t.faults, log := t.log
                   saturated := t.saturated } ∧
      t.isActive 0x1005 (4 * g.val) = true ∧ ∀ k : Fin 16, k.val / 4 = g.val → t.outputEnable.getLsb k = false))) ∧
  (∀ (k : Fin 16) (toVfield : Bool) (s : State),
    (k.val < 12 → exec (.fioDoOverload k toVfield) s = .next s ∧ exec (.fioDoMismatch k) s = .next s ∧ exec (.fioDoOpen k) s = .next s) ∧
    (12 ≤ k.val →
      (s.fio.channelLatch.getLsbD (k.val - 12) = true → exec (.fioDoOverload k toVfield) s = .next s) ∧
      (s.fio.channelLatch.getLsbD (k.val - 12) = false → Answers (exec (.fioDoOverload k toVfield) s) (fun t =>
        t.isActive 0x1004 k.val = true ∧ t.outputEnable.getLsb k = false ∧ t.fio.channelCause.getLsbD (k.val - 12) = toVfield ∧
        t = { s with regs := t.regs, fio := { s.fio with channelLatch := t.fio.channelLatch, channelCause := t.fio.channelCause }
                     faults := t.faults, log := t.log, saturated := t.saturated })) ∧
      Answers (exec (.fioDoMismatch k) s) (fun t => Raised s t 0x1007 k.val ∧ t.fio.mismatch.getLsbD (k.val - 12) = true ∧
        t = { s with regs := t.regs, fio := { s.fio with mismatch := t.fio.mismatch }, faults := t.faults, log := t.log }) ∧
      ((s.devN 0x1014).testBit (k.val - 12) = false ∨ s.outputLevel.getLsb k = false → exec (.fioDoOpen k) s = .next s) ∧
      ((s.devN 0x1014).testBit (k.val - 12) = true → s.outputLevel.getLsb k = true → Answers (exec (.fioDoOpen k) s) (fun t =>
        Raised s t 0x1006 k.val ∧ t.fio.openLoad.getLsbD (k.val - 12) = true ∧
        t = { s with regs := t.regs, fio := { s.fio with openLoad := t.fio.openLoad }, faults := t.faults, log := t.log }))))

/-! ### CAN -/

/-- The CAN controllers (R409, R412 to R421). A frame that no filter stores changes nothing, and one that is stored joins its receive queue or is
counted as dropped when 16 wait; a segment without a packet in progress is discarded, as is a packet whose next segment does not come in
time. A transmission sends the front segment of a buffer, the status frame is filled when its period has passed (R420), and the error states follow
R421: bus-off empties the buffers and the packets in progress, and recovery returns to error-active with both counters at 0. -/
def Obligations.CanControllers : Prop :=
  ∀ (c : Fin 2) (s : State),
    (∀ (frame : CanFrame) (arrived : Nat),
      (s.can[c].onBus = false ∨ frame.remote = true ∨ (frame.fd = true ∧ s.canPar c 0x01 = 0) →
        exec (.canFrameReceived c frame arrived) s = .next s) ∧
      (s.can[c].onBus = true → frame.remote = false → frame.fd = false →
        (∀ f ∈ s.filters c, f.matches_ frame.extended (frame.ident.toNat % (if frame.extended then 2 ^ 29 else 2 ^ 11)) = false) →
        exec (.canFrameReceived c frame arrived) s = .next s) ∧
      (∀ f, s.can[c].onBus = true → frame.remote = false → frame.fd = false →
        (s.filters c).find? (fun f => f.matches_ frame.extended (frame.ident.toNat % (if frame.extended then 2 ^ 29 else 2 ^ 11))) = some f →
        (f.stores = false → exec (.canFrameReceived c frame arrived) s = .next s) ∧
        (f.stores = true → f.action = 1 → s.can[c].queue0.length < 16 → Answers (exec (.canFrameReceived c frame arrived) s) (fun t =>
          t = { s with can := t.can } ∧ t.can[c] = { s.can[c] with
            queue0 := s.can[c].queue0 ++ [{ frame := frame, host := f.host, time := arrived }] } ∧
          ∀ d : Fin 2, d ≠ c → t.can[d] = s.can[d])) ∧
        (f.stores = true → f.action = 2 → s.can[c].queue1.length < 16 → Answers (exec (.canFrameReceived c frame arrived) s) (fun t =>
          t = { s with can := t.can } ∧ t.can[c] = { s.can[c] with
            queue1 := s.can[c].queue1 ++ [{ frame := frame, host := f.host, time := arrived }] })) ∧
        (f.stores = true → f.action = 1 → 16 ≤ s.can[c].queue0.length → Answers (exec (.canFrameReceived c frame arrived) s) (fun t =>
          t = { s with regs := t.regs, faults := t.faults, log := t.log, saturated := t.saturated })))) ∧
    (s.can[c].queue0 = [] → s.can[c].queue1 = [] → exec (.canSegment c) s = .next s) ∧
    (∀ e rest, s.can[c].queue0 = e :: rest → s.can[c].waits e = true → exec (.canSegment c) s = .next s) ∧
    (∀ e rest, s.can[c].queue0 = e :: rest → field 0 1 e.frame.data / 64 = 2 → s.can[c].packetOf e.host = none →
      Answers (exec (.canSegment c) s) (fun t =>
        t = { s with can := t.can, regs := t.regs, faults := t.faults, log := t.log, saturated := t.saturated } ∧
        t.can[c] = { s.can[c] with queue0 := rest } ∧
        t.isActive 0x1105 c.val = true)) ∧
    (∀ e rest, s.can[c].queue0 = e :: rest → field 0 1 e.frame.data = 0x40 → s.can[c].packetOf e.host = none →
      s.can[c].assembling.length < 4 → e.frame.data.length = 8 → 16 ≤ field 1 2 e.frame.data → field 1 2 e.frame.data ≤ 1040 →
      Answers (exec (.canSegment c) s) (fun t => t = { s with can := t.can } ∧ t.can[c] = { s.can[c] with
        queue0 := rest
        assembling := s.can[c].assembling ++ [{ host := e.host, length := field 1 2 e.frame.data, bytes := e.frame.data.drop 3, index := 1 }] })) ∧
    (∀ h : Fin 8,
      (s.can[c].packetOf h = none → exec (.canSegmentTimeout c h) s = .next s) ∧
      (∀ p, s.can[c].packetOf h = some p →
        (p.frames < s.canPar c 0x10 → exec (.canSegmentTimeout c h) s = .next s) ∧
        (s.canPar c 0x10 ≤ p.frames → Answers (exec (.canSegmentTimeout c h) s) (fun t =>
          t = { s with can := t.can, regs := t.regs, faults := t.faults, log := t.log, saturated := t.saturated } ∧
          t.can[c].packetOf h = none ∧
          t.can[c].queue0 = s.can[c].queue0 ∧ t.isActive 0x1105 c.val = true)))) ∧
    (s.can[c].onBus = false → exec (.canTransmit c) s = .next s) ∧
    (s.can[c].onBus = true → s.cmd.out[canQueue c] = [] → s.can[c].tx[(1 : Fin 2)] = none → s.can[c].status = none →
      (s.can[c].tx[(0 : Fin 2)] = none → exec (.canTransmit c) s = .next s) ∧
      (∀ y d rest, s.can[c].tx[(0 : Fin 2)] = some y → y.segments = d :: rest →
        Answers (exec (.canTransmit c) s) (fun t => t.can[c].sent = some (y.ident, d) ∧ t.can[c].sentFd = y.fd ∧
          t.can[c].sentBrs = (y.fd && decide (s.canPar c 0x02 = 1)) ∧
          t.can[c].tx[(0 : Fin 2)] = (if rest = [] then none else some { y with segments := rest }) ∧
          (rest ≠ [] → t = { s with can := t.can })))) ∧
    (s.can[c].onBus = false ∨ s.canPar c 0x12 = 0 ∨ s.canPar c 0x11 = noIdent ∨ s.can[c].statusAge < s.canPar c 0x12 →
      exec (.canStatusFrame c) s = .next s) ∧
    (s.can[c].onBus = true → s.canPar c 0x12 ≠ 0 → s.canPar c 0x11 ≠ noIdent → s.canPar c 0x12 ≤ s.can[c].statusAge →
      Answers (exec (.canStatusFrame c) s) (fun t => t = { s with can := t.can } ∧ t.can[c] = { s.can[c] with
        status := some (s.statusFrame (decide (s.canPar c 0x01 = 1))), statusAge := 0 })) ∧
    (∀ transmit receive : Nat,
      (s.can[c].state ≠ .active → exec (.canErrorPassive c transmit receive) s = .next s) ∧
      (s.can[c].state = .active → Answers (exec (.canErrorPassive c transmit receive) s) (fun t => Raised s t 0x1102 c.val ∧
        t.can[c] = { s.can[c] with state := .passive } ∧ t = { s with can := t.can, regs := t.regs, faults := t.faults, log := t.log }))) ∧
    (s.can[c].onBus = false → exec (.canBusOff c) s = .next s) ∧
    (s.can[c].onBus = true → Answers (exec (.canBusOff c) s) (fun t => t.can[c].state = .busOff ∧
      t.can[c].tx = Vector.replicate 2 none ∧ t.can[c].status = none ∧ t.can[c].assembling = [] ∧ t.isActive 0x1103 c.val = true ∧
      t.isActive 0x1102 c.val = false ∧ t.can[c].recovering = decide (s.canPar c 0x0F = 1) ∧
      t = { s with can := t.can, regs := t.regs, faults := t.faults, log := t.log, saturated := t.saturated })) ∧
    (s.can[c].state ≠ .busOff ∨ s.can[c].recovering = false → exec (.canBusOffRecovered c) s = .next s) ∧
    (s.can[c].state = .busOff → s.can[c].recovering = true → Answers (exec (.canBusOffRecovered c) s) (fun t =>
      t.can[c] = { s.can[c] with state := .active, recovering := false } ∧ t.isActive 0x1103 c.val = false ∧
      t = { s with can := t.can, regs := t.regs, faults := t.faults, log := t.log } ∧
      (s.canonical = true → t.par (canIndex c 0x21) 255 = 0)))

/-! ### The debug port -/

/-- The debug port (R492 to R494). The port answers in every mode but Keep, its status and identity without a token; UNLOCK starts a check
of a token while fewer than three have failed, and the check raises DBG_UNLOCKED with the token's scope, or counts a failure. A locked port
reaches no core, no memory and no reset; an unlocked one halts the cores of the lanes in its scope one by one, reads back what it wrote
into a halted core, reads
DRAM and flash but not the key store and the records of the safety sets (R459, R460), and resets the device. -/
def Obligations.DebugPort : Prop :=
  ∀ s : State,
    (s.power.mode = .keep → exec .idcode s = .next s ∧ exec .challenge s = .next s ∧ exec .dbgStatus s = .next s ∧ exec .bypass s = .next s ∧
      (∀ token, exec (.unlock token) s = .next s) ∧ ∀ bit, exec (.debugReset bit) s = .next s) ∧
    (s.power.mode ≠ .keep →
      exec .idcode s = .next { s with dbg := { s.dbg with selected := 1, dr := leBytes 4 idcodeWord } } ∧
      exec .challenge s = .next { s with dbg := { s.dbg with selected := 8, dr := serialNumber ++ s.nonce } } ∧
      exec .dbgStatus s = .next { s with dbg := { s.dbg with selected := 0xA, dr := leBytes 1 s.debugState } } ∧
      exec .bypass s = .next { s with dbg := { s.dbg with selected := 0xF, dr := [] } } ∧
      (∀ token : List Byte,
        (s.dbg.failures < 3 → exec (.unlock token) s =
          .next { s with dbg := { s.dbg with selected := 9, dr := [], token := some (slice 0 108 token) } }) ∧
        (3 ≤ s.dbg.failures → exec (.unlock token) s = .next { s with dbg := { s.dbg with selected := 9, dr := [] } }))) ∧
    (s.dbg.token = none → exec .tokenCheckDone s = .next s) ∧
    (∀ b, s.dbg.token = some b →
      (s.tokenOk b = true → Answers (exec .tokenCheckDone s) (fun t => Raised s t 0x0002 255 ∧ t.unlocked = true ∧
        t = { s with dbg := { s.dbg with token := none, scope := field 36 4 b }, faults := t.faults, log := t.log })) ∧
      (s.tokenOk b = false → Answers (exec .tokenCheckDone s) (fun t => Raised s t 0x0003 255 ∧
        t = { s with dbg := { s.dbg with token := none, failures := s.dbg.failures + 1 }, faults := t.faults, log := t.log }))) ∧
    (s.unlocked = false → (∀ lane op, exec (.coreAccess lane op) s = .next s) ∧ ∀ bit, exec (.debugReset bit) s = .next s) ∧
    (s.unlocked = true → s.power.mode ≠ .keep →
      (∀ lane : Fin 2, s.dbg.scope.testBit lane.val = true →
        ∀ core : Fin 2,
        Answers (exec (.coreAccess lane (.halt core)) s) (fun t => t = { s with dbg := t.dbg } ∧ t.dbg.scope = s.dbg.scope ∧
          t.dbg.halted = s.dbg.halted.set (coreNumber lane core) true ∧ t.dbg.laneHalted lane = true) ∧
        Answers (exec (.coreAccess lane (.resume core)) s) (fun t => t = { s with dbg := t.dbg } ∧
          t.dbg.halted = s.dbg.halted.set (coreNumber lane core) false)) ∧
      (∀ (lane : Fin 2) (op : CoreOp), s.dbg.scope.testBit lane.val = false → s.dbg.scope.testBit 2 = false →
        Answers (exec (.coreAccess lane op) s) (fun t => t = { s with dbg := t.dbg } ∧ t.dbg.halted = s.dbg.halted ∧
          t.dbg.dr = s.dbg.dr)) ∧
      (∀ (lane core : Fin 2) (n v : Nat), s.dbg.scope.testBit lane.val = true → s.dbg.halted[coreNumber lane core] = true →
        Answers (exec (.coreAccess lane (.registerWrite core n v)) s) (fun t => t = { s with dbg := t.dbg } ∧
          Answers (exec (.coreAccess lane (.registerRead core n)) t) (fun u => u.dbg.dr = leBytes 4 v))) ∧
      (∀ (lane : Fin 2) (a n : Nat), s.dbg.scope.testBit 2 = true →
        Answers (exec (.coreAccess lane (.memoryRead .dram a n)) s) (fun t =>
          (s.badDram.filter (touchedWord a n) = [] → t = { s with dbg := t.dbg, free := t.free } ∧ t.dbg.dr = s.dramRead a n)) ∧
        (meetsKeys a n = true → Answers (exec (.coreAccess lane (.memoryRead .flash a n)) s) (fun t => t = { s with dbg := t.dbg } ∧
          t.dbg.dr = s.dbg.dr)) ∧
        (meetsKeys a n = false → Answers (exec (.coreAccess lane (.memoryRead .flash a n)) s) (fun t =>
          (s.badFlash.filter (touchedWord a n) = [] → t = { s with dbg := t.dbg, free := t.free } ∧ t.dbg.dr = s.flashRead a n)))) ∧
      exec (.debugReset false) s = .next { s with dbg := { s.dbg with selected := 0xD, dr := [] } } ∧
      Answers (exec (.debugReset true) s) (fun t => t.power.booting = true ∧ t.frame64 = 0 ∧ t.flash = s.flash ∧ t.torqueOff = true ∧
        t.dbg.scope = 0 ∧ t.dbg.nonces = s.dbg.nonces + 1 ∧ t.dev 0x0010 = 5))
end

