-- ==== Sys2Proof/Laws/Requests.lean ====
section
/-! SUPPORT. What the shared operations on requests do: admission, the first failing check, one axis byte, staging with TAG 0,
and replies. A proof about a request cites these in place of unfolding the operations. -/

namespace Sys2Proof.Machine

/-- The three facts that an admitted request gives. -/
theorem State.admits_facts {s : State} {code : Nat} {r : Req} {k : Fin 8} (h : s.admits code r k = true) :
    s.slotOf r.src = some k ∧ ∃ op x, opRow code = some op ∧ s.session k = some x ∧ s.admission op r x.role = none := by
  unfold State.admits at h
  simp only [Bool.and_eq_true, decide_eq_true_eq] at h
  refine ⟨h.1, ?_⟩
  split at h
  · rename_i op x ho hx
    exact ⟨op, x, ho, hx, by simpa using h.2⟩
  · exact absurd h.2 (by simp)

theorem State.slotOf_of_admits {s : State} {code : Nat} {r : Req} {k : Fin 8} (h : s.admits code r k = true) :
    s.slotOf r.src = some k := (State.admits_facts h).1

/-- A row that the table gives for a code carries that code. -/
theorem opRow_code {code : Nat} {op : OpRow} (h : opRow code = some op) : code = op.code := by
  simpa [eq_comm] using List.find?_some h

/-- An admitted request runs its meaning. -/
theorem State.request_of_admits {s : State} {code : Nat} {r : Req} {k : Fin 8} (h : s.admits code r k = true)
    (act : Fin 8 → State → State) : s.request code r act = act k s := by
  obtain ⟨hs, op, x, ho, hx, ha⟩ := State.admits_facts h
  simp only [State.request, State.requestRow, ho, hs, hx, ha]

/-- A request that check 8, check 9, the hold or the TAG rule refuses is answered with that status alone. -/
theorem State.request_of_refused {s : State} {code status : Nat} {r : Req} {k : Fin 8} {op : OpRow} {x : Session}
    (hs : s.slotOf r.src = some k) (ho : opRow code = some op) (hx : s.session k = some x)
    (ha : s.admission op r x.role = some status) (act : Fin 8 → State → State) :
    s.request code r act = s.refuse r code status := by
  obtain rfl := opRow_code ho
  simp only [State.request, State.requestRow, ho, hs, hx, ha]

/-- A request from a source without a session is refused with NO_SESSION. -/
theorem State.request_of_no_session {s : State} {code : Nat} {r : Req} (hs : s.slotOf r.src = none)
    (act : Fin 8 → State → State) : s.request code r act = s.refuse r code Status.noSession := by
  unfold State.request
  split
  · rename_i op h
    obtain rfl := opRow_code h
    simp only [State.requestRow, hs]
  · rfl

theorem State.checked_nil (s : State) (r : Req) (code : Nat) (act : State → State) : s.checked r code [] act = act s := rfl

theorem State.checked_pass {s : State} {r : Req} {code : Nat} {l : List (Bool × Nat)} (h : firstFail l = none)
    (act : State → State) : s.checked r code l act = act s := by
  simp only [State.checked, h]

theorem State.checked_fail {s : State} {r : Req} {code status : Nat} {l : List (Bool × Nat)} (h : firstFail l = some status)
    (act : State → State) : s.checked r code l act = s.refuse r code status := by
  simp only [State.checked, h]

@[simp] theorem firstFail_nil : firstFail [] = none := rfl
@[simp] theorem firstFail_false (status : Nat) (l : List (Bool × Nat)) : firstFail ((false, status) :: l) = firstFail l := rfl
@[simp] theorem firstFail_true (status : Nat) (l : List (Bool × Nat)) : firstFail ((true, status) :: l) = some status := rfl

theorem State.onAxis_some {s : State} {r : Req} {code : Nat} {axis : Byte} {a : Fin 16} (h : s.axisArg axis = some a)
    (act : Fin 16 → State → State) : s.onAxis r code axis act = act a s := by
  simp only [State.onAxis, h]

theorem State.onAxis_none {s : State} {r : Req} {code : Nat} {axis : Byte} (h : s.axisArg axis = none)
    (act : Fin 16 → State → State) : s.onAxis r code axis act = s.refuse r code Status.badParameter := by
  simp only [State.onAxis, h]

/-- With TAG 0 and no claim on its resources by a transaction in VOTING or COMMITTING, a request executes directly. -/
theorem State.stageOr_direct {s : State} {k : Fin 8} {r : Req} {code : Nat} {cmd : Instr} {prepared : List (Fin 16 × Move)}
    {accept : State → State} {status : Nat} {body : State → Body} {direct : State → State} (ht : r.tag = 0)
    (hc : s.claimed none (fun t => t.state = .voting || t.state = .committing) (s.claims cmd) = false) :
    s.stageOr k r code cmd prepared accept status body direct = direct s := by
  simp only [State.stageOr, ht, hc, if_true, Bool.false_eq_true, if_false]

/-- A reply of a session waits for the next snapshot; nothing else changes. -/
theorem State.answer_eq_withReply {s : State} {r : Req} {k : Fin 8} (h : s.slotOf r.src = some k) (code status : Nat) (body : Body) :
    s.answer r code status body = s.withReply (replyOf r k code status body) := by
  simp only [State.answer, State.withReply, replyOf, h]

theorem State.refuse_eq_withReply {s : State} {r : Req} {k : Fin 8} (h : s.slotOf r.src = some k) (code status : Nat) :
    s.refuse r code status = s.withReply (replyOf r k code status .bare) := State.answer_eq_withReply h code status .bare

/-- Sessions decide the slot of a source. -/
theorem State.slotOf_congr {s t : State} (h : t.cmd.sessions = s.cmd.sessions) (src : Source) : t.slotOf src = s.slotOf src := by
  simp only [State.slotOf, h]

@[simp] theorem State.withReply_sessions (s : State) (x : Awaiting) : (s.withReply x).cmd.sessions = s.cmd.sessions := rfl
@[simp] theorem State.answer_sessions (s : State) (r : Req) (code status : Nat) (body : Body) :
    (s.answer r code status body).cmd.sessions = s.cmd.sessions := rfl

end Sys2Proof.Machine
end

