-- ==== Sys2Proof/Laws/Sparse.lean ====
section
/-! SUPPORT. The laws of sparse lists and memories: read after write, and that every operation keeps the canonical form. -/

namespace Sys2Proof.Machine

variable {α : Type} [DecidableEq α] {dflt : Nat → α}

/-! ### The canonical form -/

theorem Sparse.okFrom_mono {m : List (Nat × α)} {k l : Nat} (h : Sparse.okFrom dflt (some l) m = true) (hk : k ≤ l) :
    Sparse.okFrom dflt (some k) m = true := by
  cases m with
  | nil => rfl
  | cons x rest =>
    obtain ⟨j, v⟩ := x
    simp only [Sparse.okFrom, Bool.and_eq_true, decide_eq_true_eq] at h ⊢
    exact ⟨⟨by omega, h.1.2⟩, h.2⟩

theorem Sparse.okFrom_none {m : List (Nat × α)} {l : Nat} (h : Sparse.okFrom dflt (some l) m = true) :
    Sparse.okFrom dflt none m = true := by
  cases m with
  | nil => rfl
  | cons x rest =>
    obtain ⟨j, v⟩ := x
    simp only [Sparse.okFrom, Bool.and_eq_true, decide_eq_true_eq] at h ⊢
    exact ⟨⟨trivial, h.1.2⟩, h.2⟩

/-- A bound below a key stays below after the list has been taken up to that key. -/
theorem Sparse.okFrom_tail {m : List (Nat × α)} {lo : Option Nat} {j : Nat}
    (h : Sparse.okFrom dflt (some j) m = true) (hl : ∀ l, lo = some l → l < j) : Sparse.okFrom dflt lo m = true := by
  cases lo with
  | none => exact Sparse.okFrom_none h
  | some l => exact Sparse.okFrom_mono h (Nat.le_of_lt (hl l rfl))

theorem Sparse.okFrom_insert {k : Nat} {v : α} (hv : v ≠ dflt k) {m : List (Nat × α)} {lo : Option Nat}
    (h : Sparse.okFrom dflt lo m = true) (hl : ∀ l, lo = some l → l < k) :
    Sparse.okFrom dflt lo (Sparse.insert k v m) = true := by
  induction m generalizing lo with
  | nil => cases lo <;> simp_all [Sparse.insert, Sparse.okFrom]
  | cons x rest ih =>
    obtain ⟨j, w⟩ := x
    simp only [Sparse.okFrom, Bool.and_eq_true, decide_eq_true_eq] at h
    simp only [Sparse.insert]
    split
    · rename_i hkj
      cases lo <;> simp_all [Sparse.okFrom]
    · split
      · rename_i hkj
        subst hkj
        cases lo <;> simp_all [Sparse.okFrom]
      · have hjk : j < k := by omega
        have := ih h.2 (by intro l hl'; cases hl'; exact hjk)
        simp only [Sparse.okFrom, Bool.and_eq_true, decide_eq_true_eq]
        exact ⟨h.1, this⟩

theorem Sparse.okFrom_erase {k : Nat} {m : List (Nat × α)} {lo : Option Nat} (h : Sparse.okFrom dflt lo m = true) :
    Sparse.okFrom dflt lo (Sparse.erase k m) = true := by
  induction m generalizing lo with
  | nil => rfl
  | cons x rest ih =>
    obtain ⟨j, w⟩ := x
    simp only [Sparse.okFrom, Bool.and_eq_true, decide_eq_true_eq] at h
    simp only [Sparse.erase]
    split
    · refine Sparse.okFrom_tail h.2 ?_
      intro l hl
      subst hl
      simpa using h.1.1
    · simp only [Sparse.okFrom, Bool.and_eq_true, decide_eq_true_eq]
      exact ⟨h.1, ih h.2⟩

/-- A write keeps the canonical form. -/
theorem Sparse.wf_write {m : List (Nat × α)} (h : Sparse.wf dflt m = true) (k : Nat) (v : α) :
    Sparse.wf dflt (Sparse.write dflt m k v) = true := by
  unfold Sparse.wf Sparse.write at *
  split
  · exact Sparse.okFrom_erase h
  · rename_i hv
    exact Sparse.okFrom_insert hv h (by intro l hl; cases hl)

theorem Memory.wf_writeBytes {d : Nat → Byte} {m : Memory} (h : Memory.wf d m = true) (a : Nat) (bs : List Byte) :
    Memory.wf d (Memory.writeBytes d m a bs) = true := by
  induction bs generalizing m a with
  | nil => exact h
  | cons b bs ih => exact ih (Sparse.wf_write h a b) (a + 1)

/-! ### Read after write -/

omit [DecidableEq α] in
theorem Sparse.read_insert (k j : Nat) (v : α) (m : List (Nat × α)) :
    Sparse.read dflt (Sparse.insert k v m) j = if j = k then v else Sparse.read dflt m j := by
  induction m with
  | nil => simp only [Sparse.insert, Sparse.read, eq_comm]
  | cons x rest ih =>
    obtain ⟨i, w⟩ := x
    simp only [Sparse.insert]
    split
    · simp only [Sparse.read, eq_comm]
    · split
      · rename_i hk
        subst hk
        by_cases h : k = j <;> simp [Sparse.read, h, eq_comm]
      · rename_i hk hne
        simp only [Sparse.read, ih]
        by_cases h : i = j
        · subst h
          have : ¬ i = k := fun h => hne h.symm
          simp [this]
        · simp [h]

theorem Sparse.read_below {m : List (Nat × α)} {l : Nat} (h : Sparse.okFrom dflt (some l) m = true) {k : Nat} (hk : k ≤ l) :
    Sparse.read dflt m k = dflt k := by
  induction m generalizing l with
  | nil => rfl
  | cons x rest ih =>
    obtain ⟨j, v⟩ := x
    simp only [Sparse.okFrom, Bool.and_eq_true, decide_eq_true_eq] at h
    have hj : ¬ j = k := by omega
    simp only [Sparse.read, hj, if_false]
    exact ih h.2 (by omega)

theorem Sparse.read_erase {m : List (Nat × α)} {lo : Option Nat} (h : Sparse.okFrom dflt lo m = true) (k j : Nat) :
    Sparse.read dflt (Sparse.erase k m) j = if j = k then dflt j else Sparse.read dflt m j := by
  induction m generalizing lo with
  | nil => simp [Sparse.erase, Sparse.read]
  | cons x rest ih =>
    obtain ⟨i, w⟩ := x
    simp only [Sparse.okFrom, Bool.and_eq_true, decide_eq_true_eq] at h
    simp only [Sparse.erase]
    split
    · rename_i hik
      subst hik
      by_cases hj : j = i
      · subst hj
        simp only [if_true]
        exact Sparse.read_below h.2 (Nat.le_refl _)
      · have : ¬ i = j := fun h => hj h.symm
        simp [Sparse.read, hj, this]
    · rename_i hik
      simp only [Sparse.read, ih h.2]
      by_cases hij : i = j
      · subst hij
        simp [hik]
      · simp [hij]

/-- A read after a write to the same key gives the value written; every other key reads as before. -/
theorem Sparse.read_write {m : List (Nat × α)} (h : Sparse.wf dflt m = true) (k j : Nat) (v : α) :
    Sparse.read dflt (Sparse.write dflt m k v) j = if j = k then v else Sparse.read dflt m j := by
  unfold Sparse.write
  split
  · rename_i hv
    rw [Sparse.read_erase h, hv]
    by_cases hj : j = k
    · simp [hj]
    · simp [hj]
  · exact Sparse.read_insert k j v m

/-- Every byte outside the stored range reads as before. -/
theorem Memory.read_writeBytes_of_outside {d : Nat → Byte} {m : Memory} (h : Memory.wf d m = true) (a : Nat) (bs : List Byte)
    {j : Nat} (hj : j < a ∨ a + bs.length ≤ j) : Sparse.read d (Memory.writeBytes d m a bs) j = Sparse.read d m j := by
  induction bs generalizing m a with
  | nil => rfl
  | cons b bs ih =>
    simp only [List.length_cons] at hj
    have hne : ¬ j = a := by omega
    show Sparse.read d (Memory.writeBytes d (Sparse.write d m a b) (a + 1) bs) j = _
    rw [ih (Sparse.wf_write h a b) (a + 1) (by omega), Sparse.read_write h]
    simp [hne]

/-- The bytes stored are the bytes read. -/
theorem Memory.read_writeBytes_inside {d : Nat → Byte} {m : Memory} (h : Memory.wf d m = true) (a : Nat) (bs : List Byte) {k : Nat}
    (hk : k < bs.length) : Sparse.read d (Memory.writeBytes d m a bs) (a + k) = bs[k] := by
  induction bs generalizing m a k with
  | nil => exact absurd hk (Nat.not_lt_zero _)
  | cons b bs ih =>
    show Sparse.read d (Memory.writeBytes d (Sparse.write d m a b) (a + 1) bs) (a + k) = _
    cases k with
    | zero =>
      rw [Memory.read_writeBytes_of_outside (Sparse.wf_write h a b) _ _ (by omega), Sparse.read_write h]
      simp
    | succ k =>
      have := ih (Sparse.wf_write h a b) (a + 1) (k := k) (by simpa using hk)
      have e : a + (k + 1) = a + 1 + k := by omega
      rw [e, this]
      rfl

end Sys2Proof.Machine
end

