-- ==== Sys2Proof/Laws/Params.lean ====
section
/-! SUPPORT. What a parameter write does: the values a write is checked against keep the mode, and an admitted direct write of one
entry either is answered with the first failing check or takes its effect. -/

namespace Sys2Proof.Machine

theorem State.setPar_mode (s : State) (i k : Nat) (x : Int) : (s.setPar i k x).power = s.power := rfl

/-- The pending values change registers alone. -/
theorem State.pendingView_power (s : State) : s.pendingView.power = s.power := by
  unfold State.pendingView State.each
  generalize s.svcPending = l
  induction l generalizing s with
  | nil => rfl
  | cons x l ih => exact (ih _).trans rfl

/-- A direct request's three facts. -/
theorem State.direct_facts {s : State} {code : Nat} {r : Req} {k : Fin 8} {c : Instr} (h : s.direct code r k c = true) :
    s.admits code r k = true ∧ r.tag = 0 ∧ s.unclaimed c = true := by
  simp only [State.direct, Bool.and_eq_true, decide_eq_true_eq] at h
  exact ⟨h.1.1, h.1.2, h.2⟩

theorem State.claimed_of_unclaimed {s : State} {c : Instr} (h : s.unclaimed c = true) :
    s.claimed none (fun t => t.state = .voting || t.state = .committing) (s.claims c) = false := by
  simpa [State.unclaimed] using h

/-- The refusal of a one-entry write. -/
theorem State.entriesRefusal_single (s v : State) (staged : Bool) (e : WriteEntry) :
    s.entriesRefusal v staged 0 [] [e] = (s.writeRefusal v staged e).map (fun st => (st, 0)) := by
  have hn : (carrierIn (pairBay e.sub.toNat) []).isSome = false := rfl
  simp only [State.entriesRefusal, hn, Bool.and_false, Bool.false_and, Bool.false_eq_true, if_false]
  cases s.writeRefusal v staged e <;> rfl

/-- An admitted one-entry write that a check refuses. -/
theorem State.writeRequest_refused {s : State} {r : Req} {k : Fin 8} {cmd : Instr} {e : WriteEntry} {status : Nat}
    (h : s.admits 0x11 r k = true) (hf : s.writeRefusal s.pendingView (decide (r.tag ≠ 0)) e = some status) :
    s.writeRequest false r cmd [e] =
      (s.overrideBlocked [e] (if status = Status.badParameter ∧ r.tag = 0 then 0 else 1)).answer r 0x11 status .bare := by
  simp only [State.writeRequest, State.request_of_admits h, Bool.false_eq_true, false_and, if_false, State.entriesRefusal_single, hf,
    Option.map_some, List.length_singleton]

/-- A direct one-entry write that passes its checks. -/
theorem State.writeRequest_direct {s : State} {r : Req} {k : Fin 8} {cmd : Instr} {e : WriteEntry}
    (h : s.direct 0x11 r k cmd = true) (hf : s.writeRefusal s.pendingView false e = none) :
    s.writeRequest false r cmd [e] =
      (if writeCommit e = .svc then
        State.answer { s.applyEntry e with svcWaiting := (s.applyEntry e).svcWaiting ++ [(some k, r.seq, 0x11)] } r 0x11 Status.pending
          (.bytes (leBytes 4 0xFFFFFFFF))
      else if s.power.mode = .dormant ∧ writeCommit e = .frm then
        State.answer { s with frmPending := s.frmPending ++ [(regKey e.index.toNat e.sub.toNat, writeValue e)],
                              frmWaiting := s.frmWaiting ++ [(some k, r.seq, 0x11)] } r 0x11 Status.pending
          (.bytes (leBytes 4 0xFFFFFFFF))
      else (s.applyEntry e).answer r 0x11 Status.ok (.bytes (leBytes 4 s.frame32.toNat))) := by
  obtain ⟨ha, ht, hu⟩ := State.direct_facts h
  simp only [State.writeRequest, State.request_of_admits ha, State.entriesRefusal_single, ht, ne_eq, not_true_eq_false, decide_false, hf,
    Option.map_none, Bool.false_eq_true, false_and, if_false, State.stageOr_direct ht (State.claimed_of_unclaimed hu)]
  by_cases h1 : writeCommit e = .svc
  · simp [h1, State.applyEntries, State.each, writeFields]
  · by_cases h2 : s.power.mode = .dormant ∧ writeCommit e = .frm
    · simp [h2, State.applyEntries, State.each, writeFields]
    · have h3 : ¬(s.power.mode = .dormant ∧ ([e].any fun e => decide (writeCommit e = Commit.frm)) = true) := by simpa using h2
      simp only [h1, h2, h3, if_false]
      simp [h1, State.applyEntries, State.each, writeFields]

end Sys2Proof.Machine
end

