-- ==== Sys2Proof/Laws/State.lean ====
section
/-! SUPPORT. The laws of the updates of State: what each reads back, and that it changes nothing else, so that no proof
unfolds a record update; and what the operations on faults can do. -/

namespace Sys2Proof.Machine

/-! ### A vector with one place changed -/

@[simp] theorem upd_same {α : Type} {n : Nat} (v : Vector α n) (i : Fin n) (f : α → α) : (upd v i f)[i] = f v[i] := by
  simp [upd]

theorem upd_other {α : Type} {n : Nat} (v : Vector α n) {i j : Fin n} (f : α → α) (h : j ≠ i) : (upd v i f)[j] = v[j] := by
  have hv : i.val ≠ j.val := fun e => h (Fin.ext e.symm)
  simpa [upd] using Vector.getElem_set_ne i.isLt j.isLt hv

/-! ### What an update reads back -/

@[simp] theorem State.onAx_ax (s : State) (a : Fin 16) (f : Axis → Axis) : (s.onAx a f).ax a = f (s.ax a) := upd_same ..
theorem State.onAx_ax_of_ne (s : State) {a b : Fin 16} (f : Axis → Axis) (h : b ≠ a) : (s.onAx a f).ax b = s.ax b := upd_other _ f h
@[simp] theorem State.onBay_bay (s : State) (b : Fin 16) (f : Bay → Bay) : (s.onBay b f).bay b = f (s.bay b) := upd_same ..
theorem State.onBay_bay_of_ne (s : State) {b c : Fin 16} (f : Bay → Bay) (h : c ≠ b) : (s.onBay b f).bay c = s.bay c := upd_other _ f h
@[simp] theorem State.onHb_hb (s : State) (x : Fin 48) (f : HalfBridge → HalfBridge) : (s.onHb x f).hb x = f (s.hb x) := upd_same ..
theorem State.onHb_hb_of_ne (s : State) {x y : Fin 48} (f : HalfBridge → HalfBridge) (h : y ≠ x) : (s.onHb x f).hb y = s.hb y := upd_other _ f h
@[simp] theorem State.onDie_die (s : State) (d : Fin 2) (f : Die → Die) : (s.onDie d f).die d = f (s.die d) := upd_same ..
theorem State.onDie_die_of_ne (s : State) {d e : Fin 2} (f : Die → Die) (h : e ≠ d) : (s.onDie d f).die e = s.die e := upd_other _ f h
@[simp] theorem State.onRing_ring (s : State) (f : Ring → Ring) : (s.onRing f).ring = f s.ring := rfl
@[simp] theorem State.onTb_tb (s : State) (f : Timebase → Timebase) : (s.onTb f).tb = f s.tb := rfl
@[simp] theorem State.onSaf_saf (s : State) (f : Safety → Safety) : (s.onSaf f).saf = f s.saf := rfl
@[simp] theorem State.onLanes_lanes (s : State) (f : Lanes → Lanes) : (s.onLanes f).lanes = f s.lanes := rfl
@[simp] theorem State.onPower_power (s : State) (f : Power → Power) : (s.onPower f).power = f s.power := rfl
@[simp] theorem State.onFio_fio (s : State) (f : FieldIo → FieldIo) : (s.onFio f).fio = f s.fio := rfl
@[simp] theorem State.onQry_qry (s : State) (f : Quarry → Quarry) : (s.onQry f).qry = f s.qry := rfl
@[simp] theorem State.onDbg_dbg (s : State) (f : Debug → Debug) : (s.onDbg f).dbg = f s.dbg := rfl

/-! ### onAx keeps the rest -/

@[simp] theorem State.onAx_frame64 (s : State) (a : Fin 16) (f : Axis → Axis) : (s.onAx a f).frame64 = s.frame64 := rfl
@[simp] theorem State.onAx_tb (s : State) (a : Fin 16) (f : Axis → Axis) : (s.onAx a f).tb = s.tb := rfl
@[simp] theorem State.onAx_regs (s : State) (a : Fin 16) (f : Axis → Axis) : (s.onAx a f).regs = s.regs := rfl
@[simp] theorem State.onAx_svcPending (s : State) (a : Fin 16) (f : Axis → Axis) : (s.onAx a f).svcPending = s.svcPending := rfl
@[simp] theorem State.onAx_frmPending (s : State) (a : Fin 16) (f : Axis → Axis) : (s.onAx a f).frmPending = s.frmPending := rfl
@[simp] theorem State.onAx_svcWaiting (s : State) (a : Fin 16) (f : Axis → Axis) : (s.onAx a f).svcWaiting = s.svcWaiting := rfl
@[simp] theorem State.onAx_frmWaiting (s : State) (a : Fin 16) (f : Axis → Axis) : (s.onAx a f).frmWaiting = s.frmWaiting := rfl
@[simp] theorem State.onAx_faults (s : State) (a : Fin 16) (f : Axis → Axis) : (s.onAx a f).faults = s.faults := rfl
@[simp] theorem State.onAx_saturated (s : State) (a : Fin 16) (f : Axis → Axis) : (s.onAx a f).saturated = s.saturated := rfl
@[simp] theorem State.onAx_log (s : State) (a : Fin 16) (f : Axis → Axis) : (s.onAx a f).log = s.log := rfl
@[simp] theorem State.onAx_cmd (s : State) (a : Fin 16) (f : Axis → Axis) : (s.onAx a f).cmd = s.cmd := rfl
@[simp] theorem State.onAx_mtr (s : State) (a : Fin 16) (f : Axis → Axis) : (s.onAx a f).mtr = s.mtr := rfl
@[simp] theorem State.onAx_pwm (s : State) (a : Fin 16) (f : Axis → Axis) : (s.onAx a f).pwm = s.pwm := rfl
@[simp] theorem State.onAx_saf (s : State) (a : Fin 16) (f : Axis → Axis) : (s.onAx a f).saf = s.saf := rfl
@[simp] theorem State.onAx_lanes (s : State) (a : Fin 16) (f : Axis → Axis) : (s.onAx a f).lanes = s.lanes := rfl
@[simp] theorem State.onAx_power (s : State) (a : Fin 16) (f : Axis → Axis) : (s.onAx a f).power = s.power := rfl
@[simp] theorem State.onAx_cfg (s : State) (a : Fin 16) (f : Axis → Axis) : (s.onAx a f).cfg = s.cfg := rfl
@[simp] theorem State.onAx_hp (s : State) (a : Fin 16) (f : Axis → Axis) : (s.onAx a f).hp = s.hp := rfl
@[simp] theorem State.onAx_ring (s : State) (a : Fin 16) (f : Axis → Axis) : (s.onAx a f).ring = s.ring := rfl
@[simp] theorem State.onAx_fio (s : State) (a : Fin 16) (f : Axis → Axis) : (s.onAx a f).fio = s.fio := rfl
@[simp] theorem State.onAx_can (s : State) (a : Fin 16) (f : Axis → Axis) : (s.onAx a f).can = s.can := rfl
@[simp] theorem State.onAx_qry (s : State) (a : Fin 16) (f : Axis → Axis) : (s.onAx a f).qry = s.qry := rfl
@[simp] theorem State.onAx_dbg (s : State) (a : Fin 16) (f : Axis → Axis) : (s.onAx a f).dbg = s.dbg := rfl
@[simp] theorem State.onAx_dram (s : State) (a : Fin 16) (f : Axis → Axis) : (s.onAx a f).dram = s.dram := rfl
@[simp] theorem State.onAx_flash (s : State) (a : Fin 16) (f : Axis → Axis) : (s.onAx a f).flash = s.flash := rfl
@[simp] theorem State.onAx_badDram (s : State) (a : Fin 16) (f : Axis → Axis) : (s.onAx a f).badDram = s.badDram := rfl
@[simp] theorem State.onAx_badFlash (s : State) (a : Fin 16) (f : Axis → Axis) : (s.onAx a f).badFlash = s.badFlash := rfl
@[simp] theorem State.onAx_corrected (s : State) (a : Fin 16) (f : Axis → Axis) : (s.onAx a f).corrected = s.corrected := rfl
@[simp] theorem State.onAx_uncorrectable (s : State) (a : Fin 16) (f : Axis → Axis) : (s.onAx a f).uncorrectable = s.uncorrectable := rfl
@[simp] theorem State.onAx_free (s : State) (a : Fin 16) (f : Axis → Axis) : (s.onAx a f).free = s.free := rfl
@[simp] theorem State.onAx_pending (s : State) (a : Fin 16) (f : Axis → Axis) : (s.onAx a f).pending = s.pending := rfl
@[simp] theorem State.onAx_motion_groups (s : State) (a : Fin 16) (f : Axis → Axis) : (s.onAx a f).motion.groups = s.motion.groups := rfl
@[simp] theorem State.onAx_motion_nextGroupId (s : State) (a : Fin 16) (f : Axis → Axis) : (s.onAx a f).motion.nextGroupId = s.motion.nextGroupId := rfl
@[simp] theorem State.onAx_motion_groupStops (s : State) (a : Fin 16) (f : Axis → Axis) : (s.onAx a f).motion.groupStops = s.motion.groupStops := rfl
@[simp] theorem State.onAx_motion_stopping (s : State) (a : Fin 16) (f : Axis → Axis) : (s.onAx a f).motion.stopping = s.motion.stopping := rfl
@[simp] theorem State.onAx_motion_bins (s : State) (a : Fin 16) (f : Axis → Axis) : (s.onAx a f).motion.bins = s.motion.bins := rfl
@[simp] theorem State.onAx_motion_binsLast (s : State) (a : Fin 16) (f : Axis → Axis) : (s.onAx a f).motion.binsLast = s.motion.binsLast := rfl
@[simp] theorem State.onAx_motion_saving (s : State) (a : Fin 16) (f : Axis → Axis) : (s.onAx a f).motion.saving = s.motion.saving := rfl
@[simp] theorem State.onAx_motion_saveGeneration (s : State) (a : Fin 16) (f : Axis → Axis) : (s.onAx a f).motion.saveGeneration = s.motion.saveGeneration := rfl
@[simp] theorem State.onAx_motion_badSlot (s : State) (a : Fin 16) (f : Axis → Axis) : (s.onAx a f).motion.badSlot = s.motion.badSlot := rfl
@[simp] theorem State.onAx_bay (s : State) (a : Fin 16) (f : Axis → Axis) (i : Fin 16) : (s.onAx a f).bay i = s.bay i := rfl
@[simp] theorem State.onAx_hb (s : State) (a : Fin 16) (f : Axis → Axis) (i : Fin 48) : (s.onAx a f).hb i = s.hb i := rfl
@[simp] theorem State.onAx_die (s : State) (a : Fin 16) (f : Axis → Axis) (i : Fin 2) : (s.onAx a f).die i = s.die i := rfl

/-! ### onBay keeps the rest -/

@[simp] theorem State.onBay_frame64 (s : State) (b : Fin 16) (f : Bay → Bay) : (s.onBay b f).frame64 = s.frame64 := rfl
@[simp] theorem State.onBay_tb (s : State) (b : Fin 16) (f : Bay → Bay) : (s.onBay b f).tb = s.tb := rfl
@[simp] theorem State.onBay_regs (s : State) (b : Fin 16) (f : Bay → Bay) : (s.onBay b f).regs = s.regs := rfl
@[simp] theorem State.onBay_svcPending (s : State) (b : Fin 16) (f : Bay → Bay) : (s.onBay b f).svcPending = s.svcPending := rfl
@[simp] theorem State.onBay_frmPending (s : State) (b : Fin 16) (f : Bay → Bay) : (s.onBay b f).frmPending = s.frmPending := rfl
@[simp] theorem State.onBay_svcWaiting (s : State) (b : Fin 16) (f : Bay → Bay) : (s.onBay b f).svcWaiting = s.svcWaiting := rfl
@[simp] theorem State.onBay_frmWaiting (s : State) (b : Fin 16) (f : Bay → Bay) : (s.onBay b f).frmWaiting = s.frmWaiting := rfl
@[simp] theorem State.onBay_faults (s : State) (b : Fin 16) (f : Bay → Bay) : (s.onBay b f).faults = s.faults := rfl
@[simp] theorem State.onBay_saturated (s : State) (b : Fin 16) (f : Bay → Bay) : (s.onBay b f).saturated = s.saturated := rfl
@[simp] theorem State.onBay_log (s : State) (b : Fin 16) (f : Bay → Bay) : (s.onBay b f).log = s.log := rfl
@[simp] theorem State.onBay_cmd (s : State) (b : Fin 16) (f : Bay → Bay) : (s.onBay b f).cmd = s.cmd := rfl
@[simp] theorem State.onBay_mtr (s : State) (b : Fin 16) (f : Bay → Bay) : (s.onBay b f).mtr = s.mtr := rfl
@[simp] theorem State.onBay_motion (s : State) (b : Fin 16) (f : Bay → Bay) : (s.onBay b f).motion = s.motion := rfl
@[simp] theorem State.onBay_saf (s : State) (b : Fin 16) (f : Bay → Bay) : (s.onBay b f).saf = s.saf := rfl
@[simp] theorem State.onBay_lanes (s : State) (b : Fin 16) (f : Bay → Bay) : (s.onBay b f).lanes = s.lanes := rfl
@[simp] theorem State.onBay_power (s : State) (b : Fin 16) (f : Bay → Bay) : (s.onBay b f).power = s.power := rfl
@[simp] theorem State.onBay_cfg (s : State) (b : Fin 16) (f : Bay → Bay) : (s.onBay b f).cfg = s.cfg := rfl
@[simp] theorem State.onBay_hp (s : State) (b : Fin 16) (f : Bay → Bay) : (s.onBay b f).hp = s.hp := rfl
@[simp] theorem State.onBay_ring (s : State) (b : Fin 16) (f : Bay → Bay) : (s.onBay b f).ring = s.ring := rfl
@[simp] theorem State.onBay_fio (s : State) (b : Fin 16) (f : Bay → Bay) : (s.onBay b f).fio = s.fio := rfl
@[simp] theorem State.onBay_can (s : State) (b : Fin 16) (f : Bay → Bay) : (s.onBay b f).can = s.can := rfl
@[simp] theorem State.onBay_qry (s : State) (b : Fin 16) (f : Bay → Bay) : (s.onBay b f).qry = s.qry := rfl
@[simp] theorem State.onBay_dbg (s : State) (b : Fin 16) (f : Bay → Bay) : (s.onBay b f).dbg = s.dbg := rfl
@[simp] theorem State.onBay_dram (s : State) (b : Fin 16) (f : Bay → Bay) : (s.onBay b f).dram = s.dram := rfl
@[simp] theorem State.onBay_flash (s : State) (b : Fin 16) (f : Bay → Bay) : (s.onBay b f).flash = s.flash := rfl
@[simp] theorem State.onBay_badDram (s : State) (b : Fin 16) (f : Bay → Bay) : (s.onBay b f).badDram = s.badDram := rfl
@[simp] theorem State.onBay_badFlash (s : State) (b : Fin 16) (f : Bay → Bay) : (s.onBay b f).badFlash = s.badFlash := rfl
@[simp] theorem State.onBay_corrected (s : State) (b : Fin 16) (f : Bay → Bay) : (s.onBay b f).corrected = s.corrected := rfl
@[simp] theorem State.onBay_uncorrectable (s : State) (b : Fin 16) (f : Bay → Bay) : (s.onBay b f).uncorrectable = s.uncorrectable := rfl
@[simp] theorem State.onBay_free (s : State) (b : Fin 16) (f : Bay → Bay) : (s.onBay b f).free = s.free := rfl
@[simp] theorem State.onBay_pending (s : State) (b : Fin 16) (f : Bay → Bay) : (s.onBay b f).pending = s.pending := rfl
@[simp] theorem State.onBay_pwm_hbs (s : State) (b : Fin 16) (f : Bay → Bay) : (s.onBay b f).pwm.hbs = s.pwm.hbs := rfl
@[simp] theorem State.onBay_pwm_boot (s : State) (b : Fin 16) (f : Bay → Bay) : (s.onBay b f).pwm.boot = s.pwm.boot := rfl
@[simp] theorem State.onBay_pwm_dies (s : State) (b : Fin 16) (f : Bay → Bay) : (s.onBay b f).pwm.dies = s.pwm.dies := rfl
@[simp] theorem State.onBay_pwm_loadAll (s : State) (b : Fin 16) (f : Bay → Bay) : (s.onBay b f).pwm.loadAll = s.pwm.loadAll := rfl
@[simp] theorem State.onBay_pwm_loadHold (s : State) (b : Fin 16) (f : Bay → Bay) : (s.onBay b f).pwm.loadHold = s.pwm.loadHold := rfl
@[simp] theorem State.onBay_pwm_overVoltage (s : State) (b : Fin 16) (f : Bay → Bay) : (s.onBay b f).pwm.overVoltage = s.pwm.overVoltage := rfl
@[simp] theorem State.onBay_pwm_backupClock (s : State) (b : Fin 16) (f : Bay → Bay) : (s.onBay b f).pwm.backupClock = s.pwm.backupClock := rfl
@[simp] theorem State.onBay_pwm_mismatchRun (s : State) (b : Fin 16) (f : Bay → Bay) : (s.onBay b f).pwm.mismatchRun = s.pwm.mismatchRun := rfl
@[simp] theorem State.onBay_ax (s : State) (b : Fin 16) (f : Bay → Bay) (i : Fin 16) : (s.onBay b f).ax i = s.ax i := rfl
@[simp] theorem State.onBay_hb (s : State) (b : Fin 16) (f : Bay → Bay) (i : Fin 48) : (s.onBay b f).hb i = s.hb i := rfl
@[simp] theorem State.onBay_die (s : State) (b : Fin 16) (f : Bay → Bay) (i : Fin 2) : (s.onBay b f).die i = s.die i := rfl

/-! ### onHb keeps the rest -/

@[simp] theorem State.onHb_frame64 (s : State) (h : Fin 48) (f : HalfBridge → HalfBridge) : (s.onHb h f).frame64 = s.frame64 := rfl
@[simp] theorem State.onHb_tb (s : State) (h : Fin 48) (f : HalfBridge → HalfBridge) : (s.onHb h f).tb = s.tb := rfl
@[simp] theorem State.onHb_regs (s : State) (h : Fin 48) (f : HalfBridge → HalfBridge) : (s.onHb h f).regs = s.regs := rfl
@[simp] theorem State.onHb_svcPending (s : State) (h : Fin 48) (f : HalfBridge → HalfBridge) : (s.onHb h f).svcPending = s.svcPending := rfl
@[simp] theorem State.onHb_frmPending (s : State) (h : Fin 48) (f : HalfBridge → HalfBridge) : (s.onHb h f).frmPending = s.frmPending := rfl
@[simp] theorem State.onHb_svcWaiting (s : State) (h : Fin 48) (f : HalfBridge → HalfBridge) : (s.onHb h f).svcWaiting = s.svcWaiting := rfl
@[simp] theorem State.onHb_frmWaiting (s : State) (h : Fin 48) (f : HalfBridge → HalfBridge) : (s.onHb h f).frmWaiting = s.frmWaiting := rfl
@[simp] theorem State.onHb_faults (s : State) (h : Fin 48) (f : HalfBridge → HalfBridge) : (s.onHb h f).faults = s.faults := rfl
@[simp] theorem State.onHb_saturated (s : State) (h : Fin 48) (f : HalfBridge → HalfBridge) : (s.onHb h f).saturated = s.saturated := rfl
@[simp] theorem State.onHb_log (s : State) (h : Fin 48) (f : HalfBridge → HalfBridge) : (s.onHb h f).log = s.log := rfl
@[simp] theorem State.onHb_cmd (s : State) (h : Fin 48) (f : HalfBridge → HalfBridge) : (s.onHb h f).cmd = s.cmd := rfl
@[simp] theorem State.onHb_mtr (s : State) (h : Fin 48) (f : HalfBridge → HalfBridge) : (s.onHb h f).mtr = s.mtr := rfl
@[simp] theorem State.onHb_motion (s : State) (h : Fin 48) (f : HalfBridge → HalfBridge) : (s.onHb h f).motion = s.motion := rfl
@[simp] theorem State.onHb_saf (s : State) (h : Fin 48) (f : HalfBridge → HalfBridge) : (s.onHb h f).saf = s.saf := rfl
@[simp] theorem State.onHb_lanes (s : State) (h : Fin 48) (f : HalfBridge → HalfBridge) : (s.onHb h f).lanes = s.lanes := rfl
@[simp] theorem State.onHb_power (s : State) (h : Fin 48) (f : HalfBridge → HalfBridge) : (s.onHb h f).power = s.power := rfl
@[simp] theorem State.onHb_cfg (s : State) (h : Fin 48) (f : HalfBridge → HalfBridge) : (s.onHb h f).cfg = s.cfg := rfl
@[simp] theorem State.onHb_hp (s : State) (h : Fin 48) (f : HalfBridge → HalfBridge) : (s.onHb h f).hp = s.hp := rfl
@[simp] theorem State.onHb_ring (s : State) (h : Fin 48) (f : HalfBridge → HalfBridge) : (s.onHb h f).ring = s.ring := rfl
@[simp] theorem State.onHb_fio (s : State) (h : Fin 48) (f : HalfBridge → HalfBridge) : (s.onHb h f).fio = s.fio := rfl
@[simp] theorem State.onHb_can (s : State) (h : Fin 48) (f : HalfBridge → HalfBridge) : (s.onHb h f).can = s.can := rfl
@[simp] theorem State.onHb_qry (s : State) (h : Fin 48) (f : HalfBridge → HalfBridge) : (s.onHb h f).qry = s.qry := rfl
@[simp] theorem State.onHb_dbg (s : State) (h : Fin 48) (f : HalfBridge → HalfBridge) : (s.onHb h f).dbg = s.dbg := rfl
@[simp] theorem State.onHb_dram (s : State) (h : Fin 48) (f : HalfBridge → HalfBridge) : (s.onHb h f).dram = s.dram := rfl
@[simp] theorem State.onHb_flash (s : State) (h : Fin 48) (f : HalfBridge → HalfBridge) : (s.onHb h f).flash = s.flash := rfl
@[simp] theorem State.onHb_badDram (s : State) (h : Fin 48) (f : HalfBridge → HalfBridge) : (s.onHb h f).badDram = s.badDram := rfl
@[simp] theorem State.onHb_badFlash (s : State) (h : Fin 48) (f : HalfBridge → HalfBridge) : (s.onHb h f).badFlash = s.badFlash := rfl
@[simp] theorem State.onHb_corrected (s : State) (h : Fin 48) (f : HalfBridge → HalfBridge) : (s.onHb h f).corrected = s.corrected := rfl
@[simp] theorem State.onHb_uncorrectable (s : State) (h : Fin 48) (f : HalfBridge → HalfBridge) : (s.onHb h f).uncorrectable = s.uncorrectable := rfl
@[simp] theorem State.onHb_free (s : State) (h : Fin 48) (f : HalfBridge → HalfBridge) : (s.onHb h f).free = s.free := rfl
@[simp] theorem State.onHb_pending (s : State) (h : Fin 48) (f : HalfBridge → HalfBridge) : (s.onHb h f).pending = s.pending := rfl
@[simp] theorem State.onHb_pwm_bays (s : State) (h : Fin 48) (f : HalfBridge → HalfBridge) : (s.onHb h f).pwm.bays = s.pwm.bays := rfl
@[simp] theorem State.onHb_pwm_boot (s : State) (h : Fin 48) (f : HalfBridge → HalfBridge) : (s.onHb h f).pwm.boot = s.pwm.boot := rfl
@[simp] theorem State.onHb_pwm_dies (s : State) (h : Fin 48) (f : HalfBridge → HalfBridge) : (s.onHb h f).pwm.dies = s.pwm.dies := rfl
@[simp] theorem State.onHb_pwm_loadAll (s : State) (h : Fin 48) (f : HalfBridge → HalfBridge) : (s.onHb h f).pwm.loadAll = s.pwm.loadAll := rfl
@[simp] theorem State.onHb_pwm_loadHold (s : State) (h : Fin 48) (f : HalfBridge → HalfBridge) : (s.onHb h f).pwm.loadHold = s.pwm.loadHold := rfl
@[simp] theorem State.onHb_pwm_overVoltage (s : State) (h : Fin 48) (f : HalfBridge → HalfBridge) : (s.onHb h f).pwm.overVoltage = s.pwm.overVoltage := rfl
@[simp] theorem State.onHb_pwm_backupClock (s : State) (h : Fin 48) (f : HalfBridge → HalfBridge) : (s.onHb h f).pwm.backupClock = s.pwm.backupClock := rfl
@[simp] theorem State.onHb_pwm_mismatchRun (s : State) (h : Fin 48) (f : HalfBridge → HalfBridge) : (s.onHb h f).pwm.mismatchRun = s.pwm.mismatchRun := rfl
@[simp] theorem State.onHb_ax (s : State) (h : Fin 48) (f : HalfBridge → HalfBridge) (i : Fin 16) : (s.onHb h f).ax i = s.ax i := rfl
@[simp] theorem State.onHb_bay (s : State) (h : Fin 48) (f : HalfBridge → HalfBridge) (i : Fin 16) : (s.onHb h f).bay i = s.bay i := rfl
@[simp] theorem State.onHb_die (s : State) (h : Fin 48) (f : HalfBridge → HalfBridge) (i : Fin 2) : (s.onHb h f).die i = s.die i := rfl

/-! ### onDie keeps the rest -/

@[simp] theorem State.onDie_frame64 (s : State) (d : Fin 2) (f : Die → Die) : (s.onDie d f).frame64 = s.frame64 := rfl
@[simp] theorem State.onDie_tb (s : State) (d : Fin 2) (f : Die → Die) : (s.onDie d f).tb = s.tb := rfl
@[simp] theorem State.onDie_regs (s : State) (d : Fin 2) (f : Die → Die) : (s.onDie d f).regs = s.regs := rfl
@[simp] theorem State.onDie_svcPending (s : State) (d : Fin 2) (f : Die → Die) : (s.onDie d f).svcPending = s.svcPending := rfl
@[simp] theorem State.onDie_frmPending (s : State) (d : Fin 2) (f : Die → Die) : (s.onDie d f).frmPending = s.frmPending := rfl
@[simp] theorem State.onDie_svcWaiting (s : State) (d : Fin 2) (f : Die → Die) : (s.onDie d f).svcWaiting = s.svcWaiting := rfl
@[simp] theorem State.onDie_frmWaiting (s : State) (d : Fin 2) (f : Die → Die) : (s.onDie d f).frmWaiting = s.frmWaiting := rfl
@[simp] theorem State.onDie_faults (s : State) (d : Fin 2) (f : Die → Die) : (s.onDie d f).faults = s.faults := rfl
@[simp] theorem State.onDie_saturated (s : State) (d : Fin 2) (f : Die → Die) : (s.onDie d f).saturated = s.saturated := rfl
@[simp] theorem State.onDie_log (s : State) (d : Fin 2) (f : Die → Die) : (s.onDie d f).log = s.log := rfl
@[simp] theorem State.onDie_cmd (s : State) (d : Fin 2) (f : Die → Die) : (s.onDie d f).cmd = s.cmd := rfl
@[simp] theorem State.onDie_mtr (s : State) (d : Fin 2) (f : Die → Die) : (s.onDie d f).mtr = s.mtr := rfl
@[simp] theorem State.onDie_motion (s : State) (d : Fin 2) (f : Die → Die) : (s.onDie d f).motion = s.motion := rfl
@[simp] theorem State.onDie_saf (s : State) (d : Fin 2) (f : Die → Die) : (s.onDie d f).saf = s.saf := rfl
@[simp] theorem State.onDie_lanes (s : State) (d : Fin 2) (f : Die → Die) : (s.onDie d f).lanes = s.lanes := rfl
@[simp] theorem State.onDie_power (s : State) (d : Fin 2) (f : Die → Die) : (s.onDie d f).power = s.power := rfl
@[simp] theorem State.onDie_cfg (s : State) (d : Fin 2) (f : Die → Die) : (s.onDie d f).cfg = s.cfg := rfl
@[simp] theorem State.onDie_hp (s : State) (d : Fin 2) (f : Die → Die) : (s.onDie d f).hp = s.hp := rfl
@[simp] theorem State.onDie_ring (s : State) (d : Fin 2) (f : Die → Die) : (s.onDie d f).ring = s.ring := rfl
@[simp] theorem State.onDie_fio (s : State) (d : Fin 2) (f : Die → Die) : (s.onDie d f).fio = s.fio := rfl
@[simp] theorem State.onDie_can (s : State) (d : Fin 2) (f : Die → Die) : (s.onDie d f).can = s.can := rfl
@[simp] theorem State.onDie_qry (s : State) (d : Fin 2) (f : Die → Die) : (s.onDie d f).qry = s.qry := rfl
@[simp] theorem State.onDie_dbg (s : State) (d : Fin 2) (f : Die → Die) : (s.onDie d f).dbg = s.dbg := rfl
@[simp] theorem State.onDie_dram (s : State) (d : Fin 2) (f : Die → Die) : (s.onDie d f).dram = s.dram := rfl
@[simp] theorem State.onDie_flash (s : State) (d : Fin 2) (f : Die → Die) : (s.onDie d f).flash = s.flash := rfl
@[simp] theorem State.onDie_badDram (s : State) (d : Fin 2) (f : Die → Die) : (s.onDie d f).badDram = s.badDram := rfl
@[simp] theorem State.onDie_badFlash (s : State) (d : Fin 2) (f : Die → Die) : (s.onDie d f).badFlash = s.badFlash := rfl
@[simp] theorem State.onDie_corrected (s : State) (d : Fin 2) (f : Die → Die) : (s.onDie d f).corrected = s.corrected := rfl
@[simp] theorem State.onDie_uncorrectable (s : State) (d : Fin 2) (f : Die → Die) : (s.onDie d f).uncorrectable = s.uncorrectable := rfl
@[simp] theorem State.onDie_free (s : State) (d : Fin 2) (f : Die → Die) : (s.onDie d f).free = s.free := rfl
@[simp] theorem State.onDie_pending (s : State) (d : Fin 2) (f : Die → Die) : (s.onDie d f).pending = s.pending := rfl
@[simp] theorem State.onDie_pwm_hbs (s : State) (d : Fin 2) (f : Die → Die) : (s.onDie d f).pwm.hbs = s.pwm.hbs := rfl
@[simp] theorem State.onDie_pwm_bays (s : State) (d : Fin 2) (f : Die → Die) : (s.onDie d f).pwm.bays = s.pwm.bays := rfl
@[simp] theorem State.onDie_pwm_boot (s : State) (d : Fin 2) (f : Die → Die) : (s.onDie d f).pwm.boot = s.pwm.boot := rfl
@[simp] theorem State.onDie_pwm_loadAll (s : State) (d : Fin 2) (f : Die → Die) : (s.onDie d f).pwm.loadAll = s.pwm.loadAll := rfl
@[simp] theorem State.onDie_pwm_loadHold (s : State) (d : Fin 2) (f : Die → Die) : (s.onDie d f).pwm.loadHold = s.pwm.loadHold := rfl
@[simp] theorem State.onDie_pwm_overVoltage (s : State) (d : Fin 2) (f : Die → Die) : (s.onDie d f).pwm.overVoltage = s.pwm.overVoltage := rfl
@[simp] theorem State.onDie_pwm_backupClock (s : State) (d : Fin 2) (f : Die → Die) : (s.onDie d f).pwm.backupClock = s.pwm.backupClock := rfl
@[simp] theorem State.onDie_pwm_mismatchRun (s : State) (d : Fin 2) (f : Die → Die) : (s.onDie d f).pwm.mismatchRun = s.pwm.mismatchRun := rfl
@[simp] theorem State.onDie_ax (s : State) (d : Fin 2) (f : Die → Die) (i : Fin 16) : (s.onDie d f).ax i = s.ax i := rfl
@[simp] theorem State.onDie_bay (s : State) (d : Fin 2) (f : Die → Die) (i : Fin 16) : (s.onDie d f).bay i = s.bay i := rfl
@[simp] theorem State.onDie_hb (s : State) (d : Fin 2) (f : Die → Die) (i : Fin 48) : (s.onDie d f).hb i = s.hb i := rfl

/-! ### onSession keeps the rest -/

@[simp] theorem State.onSession_frame64 (s : State) (k : Fin 8) (f : Session → Session) : (s.onSession k f).frame64 = s.frame64 := rfl
@[simp] theorem State.onSession_tb (s : State) (k : Fin 8) (f : Session → Session) : (s.onSession k f).tb = s.tb := rfl
@[simp] theorem State.onSession_regs (s : State) (k : Fin 8) (f : Session → Session) : (s.onSession k f).regs = s.regs := rfl
@[simp] theorem State.onSession_svcPending (s : State) (k : Fin 8) (f : Session → Session) : (s.onSession k f).svcPending = s.svcPending := rfl
@[simp] theorem State.onSession_frmPending (s : State) (k : Fin 8) (f : Session → Session) : (s.onSession k f).frmPending = s.frmPending := rfl
@[simp] theorem State.onSession_svcWaiting (s : State) (k : Fin 8) (f : Session → Session) : (s.onSession k f).svcWaiting = s.svcWaiting := rfl
@[simp] theorem State.onSession_frmWaiting (s : State) (k : Fin 8) (f : Session → Session) : (s.onSession k f).frmWaiting = s.frmWaiting := rfl
@[simp] theorem State.onSession_faults (s : State) (k : Fin 8) (f : Session → Session) : (s.onSession k f).faults = s.faults := rfl
@[simp] theorem State.onSession_saturated (s : State) (k : Fin 8) (f : Session → Session) : (s.onSession k f).saturated = s.saturated := rfl
@[simp] theorem State.onSession_log (s : State) (k : Fin 8) (f : Session → Session) : (s.onSession k f).log = s.log := rfl
@[simp] theorem State.onSession_mtr (s : State) (k : Fin 8) (f : Session → Session) : (s.onSession k f).mtr = s.mtr := rfl
@[simp] theorem State.onSession_pwm (s : State) (k : Fin 8) (f : Session → Session) : (s.onSession k f).pwm = s.pwm := rfl
@[simp] theorem State.onSession_motion (s : State) (k : Fin 8) (f : Session → Session) : (s.onSession k f).motion = s.motion := rfl
@[simp] theorem State.onSession_saf (s : State) (k : Fin 8) (f : Session → Session) : (s.onSession k f).saf = s.saf := rfl
@[simp] theorem State.onSession_lanes (s : State) (k : Fin 8) (f : Session → Session) : (s.onSession k f).lanes = s.lanes := rfl
@[simp] theorem State.onSession_power (s : State) (k : Fin 8) (f : Session → Session) : (s.onSession k f).power = s.power := rfl
@[simp] theorem State.onSession_cfg (s : State) (k : Fin 8) (f : Session → Session) : (s.onSession k f).cfg = s.cfg := rfl
@[simp] theorem State.onSession_hp (s : State) (k : Fin 8) (f : Session → Session) : (s.onSession k f).hp = s.hp := rfl
@[simp] theorem State.onSession_ring (s : State) (k : Fin 8) (f : Session → Session) : (s.onSession k f).ring = s.ring := rfl
@[simp] theorem State.onSession_fio (s : State) (k : Fin 8) (f : Session → Session) : (s.onSession k f).fio = s.fio := rfl
@[simp] theorem State.onSession_can (s : State) (k : Fin 8) (f : Session → Session) : (s.onSession k f).can = s.can := rfl
@[simp] theorem State.onSession_qry (s : State) (k : Fin 8) (f : Session → Session) : (s.onSession k f).qry = s.qry := rfl
@[simp] theorem State.onSession_dbg (s : State) (k : Fin 8) (f : Session → Session) : (s.onSession k f).dbg = s.dbg := rfl
@[simp] theorem State.onSession_dram (s : State) (k : Fin 8) (f : Session → Session) : (s.onSession k f).dram = s.dram := rfl
@[simp] theorem State.onSession_flash (s : State) (k : Fin 8) (f : Session → Session) : (s.onSession k f).flash = s.flash := rfl
@[simp] theorem State.onSession_badDram (s : State) (k : Fin 8) (f : Session → Session) : (s.onSession k f).badDram = s.badDram := rfl
@[simp] theorem State.onSession_badFlash (s : State) (k : Fin 8) (f : Session → Session) : (s.onSession k f).badFlash = s.badFlash := rfl
@[simp] theorem State.onSession_corrected (s : State) (k : Fin 8) (f : Session → Session) : (s.onSession k f).corrected = s.corrected := rfl
@[simp] theorem State.onSession_uncorrectable (s : State) (k : Fin 8) (f : Session → Session) : (s.onSession k f).uncorrectable = s.uncorrectable := rfl
@[simp] theorem State.onSession_free (s : State) (k : Fin 8) (f : Session → Session) : (s.onSession k f).free = s.free := rfl
@[simp] theorem State.onSession_pending (s : State) (k : Fin 8) (f : Session → Session) : (s.onSession k f).pending = s.pending := rfl
@[simp] theorem State.onSession_cmd_arrivals (s : State) (k : Fin 8) (f : Session → Session) : (s.onSession k f).cmd.arrivals = s.cmd.arrivals := rfl
@[simp] theorem State.onSession_cmd_awaiting (s : State) (k : Fin 8) (f : Session → Session) : (s.onSession k f).cmd.awaiting = s.cmd.awaiting := rfl
@[simp] theorem State.onSession_cmd_out (s : State) (k : Fin 8) (f : Session → Session) : (s.onSession k f).cmd.out = s.cmd.out := rfl
@[simp] theorem State.onSession_cmd_late (s : State) (k : Fin 8) (f : Session → Session) : (s.onSession k f).cmd.late = s.cmd.late := rfl
@[simp] theorem State.onSession_cmd_lastRead (s : State) (k : Fin 8) (f : Session → Session) : (s.onSession k f).cmd.lastRead = s.cmd.lastRead := rfl
@[simp] theorem State.onSession_cmd_unread (s : State) (k : Fin 8) (f : Session → Session) : (s.onSession k f).cmd.unread = s.cmd.unread := rfl
@[simp] theorem State.onSession_ax (s : State) (k : Fin 8) (f : Session → Session) (i : Fin 16) : (s.onSession k f).ax i = s.ax i := rfl
@[simp] theorem State.onSession_bay (s : State) (k : Fin 8) (f : Session → Session) (i : Fin 16) : (s.onSession k f).bay i = s.bay i := rfl
@[simp] theorem State.onSession_hb (s : State) (k : Fin 8) (f : Session → Session) (i : Fin 48) : (s.onSession k f).hb i = s.hb i := rfl
@[simp] theorem State.onSession_die (s : State) (k : Fin 8) (f : Session → Session) (i : Fin 2) : (s.onSession k f).die i = s.die i := rfl

/-! ### onCan keeps the rest -/

@[simp] theorem State.onCan_frame64 (s : State) (c : Fin 2) (f : Can → Can) : (s.onCan c f).frame64 = s.frame64 := rfl
@[simp] theorem State.onCan_tb (s : State) (c : Fin 2) (f : Can → Can) : (s.onCan c f).tb = s.tb := rfl
@[simp] theorem State.onCan_regs (s : State) (c : Fin 2) (f : Can → Can) : (s.onCan c f).regs = s.regs := rfl
@[simp] theorem State.onCan_svcPending (s : State) (c : Fin 2) (f : Can → Can) : (s.onCan c f).svcPending = s.svcPending := rfl
@[simp] theorem State.onCan_frmPending (s : State) (c : Fin 2) (f : Can → Can) : (s.onCan c f).frmPending = s.frmPending := rfl
@[simp] theorem State.onCan_svcWaiting (s : State) (c : Fin 2) (f : Can → Can) : (s.onCan c f).svcWaiting = s.svcWaiting := rfl
@[simp] theorem State.onCan_frmWaiting (s : State) (c : Fin 2) (f : Can → Can) : (s.onCan c f).frmWaiting = s.frmWaiting := rfl
@[simp] theorem State.onCan_faults (s : State) (c : Fin 2) (f : Can → Can) : (s.onCan c f).faults = s.faults := rfl
@[simp] theorem State.onCan_saturated (s : State) (c : Fin 2) (f : Can → Can) : (s.onCan c f).saturated = s.saturated := rfl
@[simp] theorem State.onCan_log (s : State) (c : Fin 2) (f : Can → Can) : (s.onCan c f).log = s.log := rfl
@[simp] theorem State.onCan_cmd (s : State) (c : Fin 2) (f : Can → Can) : (s.onCan c f).cmd = s.cmd := rfl
@[simp] theorem State.onCan_mtr (s : State) (c : Fin 2) (f : Can → Can) : (s.onCan c f).mtr = s.mtr := rfl
@[simp] theorem State.onCan_pwm (s : State) (c : Fin 2) (f : Can → Can) : (s.onCan c f).pwm = s.pwm := rfl
@[simp] theorem State.onCan_motion (s : State) (c : Fin 2) (f : Can → Can) : (s.onCan c f).motion = s.motion := rfl
@[simp] theorem State.onCan_saf (s : State) (c : Fin 2) (f : Can → Can) : (s.onCan c f).saf = s.saf := rfl
@[simp] theorem State.onCan_lanes (s : State) (c : Fin 2) (f : Can → Can) : (s.onCan c f).lanes = s.lanes := rfl
@[simp] theorem State.onCan_power (s : State) (c : Fin 2) (f : Can → Can) : (s.onCan c f).power = s.power := rfl
@[simp] theorem State.onCan_cfg (s : State) (c : Fin 2) (f : Can → Can) : (s.onCan c f).cfg = s.cfg := rfl
@[simp] theorem State.onCan_hp (s : State) (c : Fin 2) (f : Can → Can) : (s.onCan c f).hp = s.hp := rfl
@[simp] theorem State.onCan_ring (s : State) (c : Fin 2) (f : Can → Can) : (s.onCan c f).ring = s.ring := rfl
@[simp] theorem State.onCan_fio (s : State) (c : Fin 2) (f : Can → Can) : (s.onCan c f).fio = s.fio := rfl
@[simp] theorem State.onCan_qry (s : State) (c : Fin 2) (f : Can → Can) : (s.onCan c f).qry = s.qry := rfl
@[simp] theorem State.onCan_dbg (s : State) (c : Fin 2) (f : Can → Can) : (s.onCan c f).dbg = s.dbg := rfl
@[simp] theorem State.onCan_dram (s : State) (c : Fin 2) (f : Can → Can) : (s.onCan c f).dram = s.dram := rfl
@[simp] theorem State.onCan_flash (s : State) (c : Fin 2) (f : Can → Can) : (s.onCan c f).flash = s.flash := rfl
@[simp] theorem State.onCan_badDram (s : State) (c : Fin 2) (f : Can → Can) : (s.onCan c f).badDram = s.badDram := rfl
@[simp] theorem State.onCan_badFlash (s : State) (c : Fin 2) (f : Can → Can) : (s.onCan c f).badFlash = s.badFlash := rfl
@[simp] theorem State.onCan_corrected (s : State) (c : Fin 2) (f : Can → Can) : (s.onCan c f).corrected = s.corrected := rfl
@[simp] theorem State.onCan_uncorrectable (s : State) (c : Fin 2) (f : Can → Can) : (s.onCan c f).uncorrectable = s.uncorrectable := rfl
@[simp] theorem State.onCan_free (s : State) (c : Fin 2) (f : Can → Can) : (s.onCan c f).free = s.free := rfl
@[simp] theorem State.onCan_pending (s : State) (c : Fin 2) (f : Can → Can) : (s.onCan c f).pending = s.pending := rfl

/-! ### onRing keeps the rest -/

@[simp] theorem State.onRing_frame64 (s : State) (f : Ring → Ring) : (s.onRing f).frame64 = s.frame64 := rfl
@[simp] theorem State.onRing_tb (s : State) (f : Ring → Ring) : (s.onRing f).tb = s.tb := rfl
@[simp] theorem State.onRing_regs (s : State) (f : Ring → Ring) : (s.onRing f).regs = s.regs := rfl
@[simp] theorem State.onRing_svcPending (s : State) (f : Ring → Ring) : (s.onRing f).svcPending = s.svcPending := rfl
@[simp] theorem State.onRing_frmPending (s : State) (f : Ring → Ring) : (s.onRing f).frmPending = s.frmPending := rfl
@[simp] theorem State.onRing_svcWaiting (s : State) (f : Ring → Ring) : (s.onRing f).svcWaiting = s.svcWaiting := rfl
@[simp] theorem State.onRing_frmWaiting (s : State) (f : Ring → Ring) : (s.onRing f).frmWaiting = s.frmWaiting := rfl
@[simp] theorem State.onRing_faults (s : State) (f : Ring → Ring) : (s.onRing f).faults = s.faults := rfl
@[simp] theorem State.onRing_saturated (s : State) (f : Ring → Ring) : (s.onRing f).saturated = s.saturated := rfl
@[simp] theorem State.onRing_log (s : State) (f : Ring → Ring) : (s.onRing f).log = s.log := rfl
@[simp] theorem State.onRing_cmd (s : State) (f : Ring → Ring) : (s.onRing f).cmd = s.cmd := rfl
@[simp] theorem State.onRing_mtr (s : State) (f : Ring → Ring) : (s.onRing f).mtr = s.mtr := rfl
@[simp] theorem State.onRing_pwm (s : State) (f : Ring → Ring) : (s.onRing f).pwm = s.pwm := rfl
@[simp] theorem State.onRing_motion (s : State) (f : Ring → Ring) : (s.onRing f).motion = s.motion := rfl
@[simp] theorem State.onRing_saf (s : State) (f : Ring → Ring) : (s.onRing f).saf = s.saf := rfl
@[simp] theorem State.onRing_lanes (s : State) (f : Ring → Ring) : (s.onRing f).lanes = s.lanes := rfl
@[simp] theorem State.onRing_power (s : State) (f : Ring → Ring) : (s.onRing f).power = s.power := rfl
@[simp] theorem State.onRing_cfg (s : State) (f : Ring → Ring) : (s.onRing f).cfg = s.cfg := rfl
@[simp] theorem State.onRing_hp (s : State) (f : Ring → Ring) : (s.onRing f).hp = s.hp := rfl
@[simp] theorem State.onRing_fio (s : State) (f : Ring → Ring) : (s.onRing f).fio = s.fio := rfl
@[simp] theorem State.onRing_can (s : State) (f : Ring → Ring) : (s.onRing f).can = s.can := rfl
@[simp] theorem State.onRing_qry (s : State) (f : Ring → Ring) : (s.onRing f).qry = s.qry := rfl
@[simp] theorem State.onRing_dbg (s : State) (f : Ring → Ring) : (s.onRing f).dbg = s.dbg := rfl
@[simp] theorem State.onRing_dram (s : State) (f : Ring → Ring) : (s.onRing f).dram = s.dram := rfl
@[simp] theorem State.onRing_flash (s : State) (f : Ring → Ring) : (s.onRing f).flash = s.flash := rfl
@[simp] theorem State.onRing_badDram (s : State) (f : Ring → Ring) : (s.onRing f).badDram = s.badDram := rfl
@[simp] theorem State.onRing_badFlash (s : State) (f : Ring → Ring) : (s.onRing f).badFlash = s.badFlash := rfl
@[simp] theorem State.onRing_corrected (s : State) (f : Ring → Ring) : (s.onRing f).corrected = s.corrected := rfl
@[simp] theorem State.onRing_uncorrectable (s : State) (f : Ring → Ring) : (s.onRing f).uncorrectable = s.uncorrectable := rfl
@[simp] theorem State.onRing_free (s : State) (f : Ring → Ring) : (s.onRing f).free = s.free := rfl
@[simp] theorem State.onRing_pending (s : State) (f : Ring → Ring) : (s.onRing f).pending = s.pending := rfl

/-! ### onTb keeps the rest -/

@[simp] theorem State.onTb_frame64 (s : State) (f : Timebase → Timebase) : (s.onTb f).frame64 = s.frame64 := rfl
@[simp] theorem State.onTb_regs (s : State) (f : Timebase → Timebase) : (s.onTb f).regs = s.regs := rfl
@[simp] theorem State.onTb_svcPending (s : State) (f : Timebase → Timebase) : (s.onTb f).svcPending = s.svcPending := rfl
@[simp] theorem State.onTb_frmPending (s : State) (f : Timebase → Timebase) : (s.onTb f).frmPending = s.frmPending := rfl
@[simp] theorem State.onTb_svcWaiting (s : State) (f : Timebase → Timebase) : (s.onTb f).svcWaiting = s.svcWaiting := rfl
@[simp] theorem State.onTb_frmWaiting (s : State) (f : Timebase → Timebase) : (s.onTb f).frmWaiting = s.frmWaiting := rfl
@[simp] theorem State.onTb_faults (s : State) (f : Timebase → Timebase) : (s.onTb f).faults = s.faults := rfl
@[simp] theorem State.onTb_saturated (s : State) (f : Timebase → Timebase) : (s.onTb f).saturated = s.saturated := rfl
@[simp] theorem State.onTb_log (s : State) (f : Timebase → Timebase) : (s.onTb f).log = s.log := rfl
@[simp] theorem State.onTb_cmd (s : State) (f : Timebase → Timebase) : (s.onTb f).cmd = s.cmd := rfl
@[simp] theorem State.onTb_mtr (s : State) (f : Timebase → Timebase) : (s.onTb f).mtr = s.mtr := rfl
@[simp] theorem State.onTb_pwm (s : State) (f : Timebase → Timebase) : (s.onTb f).pwm = s.pwm := rfl
@[simp] theorem State.onTb_motion (s : State) (f : Timebase → Timebase) : (s.onTb f).motion = s.motion := rfl
@[simp] theorem State.onTb_saf (s : State) (f : Timebase → Timebase) : (s.onTb f).saf = s.saf := rfl
@[simp] theorem State.onTb_lanes (s : State) (f : Timebase → Timebase) : (s.onTb f).lanes = s.lanes := rfl
@[simp] theorem State.onTb_power (s : State) (f : Timebase → Timebase) : (s.onTb f).power = s.power := rfl
@[simp] theorem State.onTb_cfg (s : State) (f : Timebase → Timebase) : (s.onTb f).cfg = s.cfg := rfl
@[simp] theorem State.onTb_hp (s : State) (f : Timebase → Timebase) : (s.onTb f).hp = s.hp := rfl
@[simp] theorem State.onTb_ring (s : State) (f : Timebase → Timebase) : (s.onTb f).ring = s.ring := rfl
@[simp] theorem State.onTb_fio (s : State) (f : Timebase → Timebase) : (s.onTb f).fio = s.fio := rfl
@[simp] theorem State.onTb_can (s : State) (f : Timebase → Timebase) : (s.onTb f).can = s.can := rfl
@[simp] theorem State.onTb_qry (s : State) (f : Timebase → Timebase) : (s.onTb f).qry = s.qry := rfl
@[simp] theorem State.onTb_dbg (s : State) (f : Timebase → Timebase) : (s.onTb f).dbg = s.dbg := rfl
@[simp] theorem State.onTb_dram (s : State) (f : Timebase → Timebase) : (s.onTb f).dram = s.dram := rfl
@[simp] theorem State.onTb_flash (s : State) (f : Timebase → Timebase) : (s.onTb f).flash = s.flash := rfl
@[simp] theorem State.onTb_badDram (s : State) (f : Timebase → Timebase) : (s.onTb f).badDram = s.badDram := rfl
@[simp] theorem State.onTb_badFlash (s : State) (f : Timebase → Timebase) : (s.onTb f).badFlash = s.badFlash := rfl
@[simp] theorem State.onTb_corrected (s : State) (f : Timebase → Timebase) : (s.onTb f).corrected = s.corrected := rfl
@[simp] theorem State.onTb_uncorrectable (s : State) (f : Timebase → Timebase) : (s.onTb f).uncorrectable = s.uncorrectable := rfl
@[simp] theorem State.onTb_free (s : State) (f : Timebase → Timebase) : (s.onTb f).free = s.free := rfl
@[simp] theorem State.onTb_pending (s : State) (f : Timebase → Timebase) : (s.onTb f).pending = s.pending := rfl

/-! ### onSaf keeps the rest -/

@[simp] theorem State.onSaf_frame64 (s : State) (f : Safety → Safety) : (s.onSaf f).frame64 = s.frame64 := rfl
@[simp] theorem State.onSaf_tb (s : State) (f : Safety → Safety) : (s.onSaf f).tb = s.tb := rfl
@[simp] theorem State.onSaf_regs (s : State) (f : Safety → Safety) : (s.onSaf f).regs = s.regs := rfl
@[simp] theorem State.onSaf_svcPending (s : State) (f : Safety → Safety) : (s.onSaf f).svcPending = s.svcPending := rfl
@[simp] theorem State.onSaf_frmPending (s : State) (f : Safety → Safety) : (s.onSaf f).frmPending = s.frmPending := rfl
@[simp] theorem State.onSaf_svcWaiting (s : State) (f : Safety → Safety) : (s.onSaf f).svcWaiting = s.svcWaiting := rfl
@[simp] theorem State.onSaf_frmWaiting (s : State) (f : Safety → Safety) : (s.onSaf f).frmWaiting = s.frmWaiting := rfl
@[simp] theorem State.onSaf_faults (s : State) (f : Safety → Safety) : (s.onSaf f).faults = s.faults := rfl
@[simp] theorem State.onSaf_saturated (s : State) (f : Safety → Safety) : (s.onSaf f).saturated = s.saturated := rfl
@[simp] theorem State.onSaf_log (s : State) (f : Safety → Safety) : (s.onSaf f).log = s.log := rfl
@[simp] theorem State.onSaf_cmd (s : State) (f : Safety → Safety) : (s.onSaf f).cmd = s.cmd := rfl
@[simp] theorem State.onSaf_mtr (s : State) (f : Safety → Safety) : (s.onSaf f).mtr = s.mtr := rfl
@[simp] theorem State.onSaf_pwm (s : State) (f : Safety → Safety) : (s.onSaf f).pwm = s.pwm := rfl
@[simp] theorem State.onSaf_motion (s : State) (f : Safety → Safety) : (s.onSaf f).motion = s.motion := rfl
@[simp] theorem State.onSaf_lanes (s : State) (f : Safety → Safety) : (s.onSaf f).lanes = s.lanes := rfl
@[simp] theorem State.onSaf_power (s : State) (f : Safety → Safety) : (s.onSaf f).power = s.power := rfl
@[simp] theorem State.onSaf_cfg (s : State) (f : Safety → Safety) : (s.onSaf f).cfg = s.cfg := rfl
@[simp] theorem State.onSaf_hp (s : State) (f : Safety → Safety) : (s.onSaf f).hp = s.hp := rfl
@[simp] theorem State.onSaf_ring (s : State) (f : Safety → Safety) : (s.onSaf f).ring = s.ring := rfl
@[simp] theorem State.onSaf_fio (s : State) (f : Safety → Safety) : (s.onSaf f).fio = s.fio := rfl
@[simp] theorem State.onSaf_can (s : State) (f : Safety → Safety) : (s.onSaf f).can = s.can := rfl
@[simp] theorem State.onSaf_qry (s : State) (f : Safety → Safety) : (s.onSaf f).qry = s.qry := rfl
@[simp] theorem State.onSaf_dbg (s : State) (f : Safety → Safety) : (s.onSaf f).dbg = s.dbg := rfl
@[simp] theorem State.onSaf_dram (s : State) (f : Safety → Safety) : (s.onSaf f).dram = s.dram := rfl
@[simp] theorem State.onSaf_flash (s : State) (f : Safety → Safety) : (s.onSaf f).flash = s.flash := rfl
@[simp] theorem State.onSaf_badDram (s : State) (f : Safety → Safety) : (s.onSaf f).badDram = s.badDram := rfl
@[simp] theorem State.onSaf_badFlash (s : State) (f : Safety → Safety) : (s.onSaf f).badFlash = s.badFlash := rfl
@[simp] theorem State.onSaf_corrected (s : State) (f : Safety → Safety) : (s.onSaf f).corrected = s.corrected := rfl
@[simp] theorem State.onSaf_uncorrectable (s : State) (f : Safety → Safety) : (s.onSaf f).uncorrectable = s.uncorrectable := rfl
@[simp] theorem State.onSaf_free (s : State) (f : Safety → Safety) : (s.onSaf f).free = s.free := rfl
@[simp] theorem State.onSaf_pending (s : State) (f : Safety → Safety) : (s.onSaf f).pending = s.pending := rfl

/-! ### onLanes keeps the rest -/

@[simp] theorem State.onLanes_frame64 (s : State) (f : Lanes → Lanes) : (s.onLanes f).frame64 = s.frame64 := rfl
@[simp] theorem State.onLanes_tb (s : State) (f : Lanes → Lanes) : (s.onLanes f).tb = s.tb := rfl
@[simp] theorem State.onLanes_regs (s : State) (f : Lanes → Lanes) : (s.onLanes f).regs = s.regs := rfl
@[simp] theorem State.onLanes_svcPending (s : State) (f : Lanes → Lanes) : (s.onLanes f).svcPending = s.svcPending := rfl
@[simp] theorem State.onLanes_frmPending (s : State) (f : Lanes → Lanes) : (s.onLanes f).frmPending = s.frmPending := rfl
@[simp] theorem State.onLanes_svcWaiting (s : State) (f : Lanes → Lanes) : (s.onLanes f).svcWaiting = s.svcWaiting := rfl
@[simp] theorem State.onLanes_frmWaiting (s : State) (f : Lanes → Lanes) : (s.onLanes f).frmWaiting = s.frmWaiting := rfl
@[simp] theorem State.onLanes_faults (s : State) (f : Lanes → Lanes) : (s.onLanes f).faults = s.faults := rfl
@[simp] theorem State.onLanes_saturated (s : State) (f : Lanes → Lanes) : (s.onLanes f).saturated = s.saturated := rfl
@[simp] theorem State.onLanes_log (s : State) (f : Lanes → Lanes) : (s.onLanes f).log = s.log := rfl
@[simp] theorem State.onLanes_cmd (s : State) (f : Lanes → Lanes) : (s.onLanes f).cmd = s.cmd := rfl
@[simp] theorem State.onLanes_mtr (s : State) (f : Lanes → Lanes) : (s.onLanes f).mtr = s.mtr := rfl
@[simp] theorem State.onLanes_pwm (s : State) (f : Lanes → Lanes) : (s.onLanes f).pwm = s.pwm := rfl
@[simp] theorem State.onLanes_motion (s : State) (f : Lanes → Lanes) : (s.onLanes f).motion = s.motion := rfl
@[simp] theorem State.onLanes_saf (s : State) (f : Lanes → Lanes) : (s.onLanes f).saf = s.saf := rfl
@[simp] theorem State.onLanes_power (s : State) (f : Lanes → Lanes) : (s.onLanes f).power = s.power := rfl
@[simp] theorem State.onLanes_cfg (s : State) (f : Lanes → Lanes) : (s.onLanes f).cfg = s.cfg := rfl
@[simp] theorem State.onLanes_hp (s : State) (f : Lanes → Lanes) : (s.onLanes f).hp = s.hp := rfl
@[simp] theorem State.onLanes_ring (s : State) (f : Lanes → Lanes) : (s.onLanes f).ring = s.ring := rfl
@[simp] theorem State.onLanes_fio (s : State) (f : Lanes → Lanes) : (s.onLanes f).fio = s.fio := rfl
@[simp] theorem State.onLanes_can (s : State) (f : Lanes → Lanes) : (s.onLanes f).can = s.can := rfl
@[simp] theorem State.onLanes_qry (s : State) (f : Lanes → Lanes) : (s.onLanes f).qry = s.qry := rfl
@[simp] theorem State.onLanes_dbg (s : State) (f : Lanes → Lanes) : (s.onLanes f).dbg = s.dbg := rfl
@[simp] theorem State.onLanes_dram (s : State) (f : Lanes → Lanes) : (s.onLanes f).dram = s.dram := rfl
@[simp] theorem State.onLanes_flash (s : State) (f : Lanes → Lanes) : (s.onLanes f).flash = s.flash := rfl
@[simp] theorem State.onLanes_badDram (s : State) (f : Lanes → Lanes) : (s.onLanes f).badDram = s.badDram := rfl
@[simp] theorem State.onLanes_badFlash (s : State) (f : Lanes → Lanes) : (s.onLanes f).badFlash = s.badFlash := rfl
@[simp] theorem State.onLanes_corrected (s : State) (f : Lanes → Lanes) : (s.onLanes f).corrected = s.corrected := rfl
@[simp] theorem State.onLanes_uncorrectable (s : State) (f : Lanes → Lanes) : (s.onLanes f).uncorrectable = s.uncorrectable := rfl
@[simp] theorem State.onLanes_free (s : State) (f : Lanes → Lanes) : (s.onLanes f).free = s.free := rfl
@[simp] theorem State.onLanes_pending (s : State) (f : Lanes → Lanes) : (s.onLanes f).pending = s.pending := rfl

/-! ### onPower keeps the rest -/

@[simp] theorem State.onPower_frame64 (s : State) (f : Power → Power) : (s.onPower f).frame64 = s.frame64 := rfl
@[simp] theorem State.onPower_tb (s : State) (f : Power → Power) : (s.onPower f).tb = s.tb := rfl
@[simp] theorem State.onPower_regs (s : State) (f : Power → Power) : (s.onPower f).regs = s.regs := rfl
@[simp] theorem State.onPower_svcPending (s : State) (f : Power → Power) : (s.onPower f).svcPending = s.svcPending := rfl
@[simp] theorem State.onPower_frmPending (s : State) (f : Power → Power) : (s.onPower f).frmPending = s.frmPending := rfl
@[simp] theorem State.onPower_svcWaiting (s : State) (f : Power → Power) : (s.onPower f).svcWaiting = s.svcWaiting := rfl
@[simp] theorem State.onPower_frmWaiting (s : State) (f : Power → Power) : (s.onPower f).frmWaiting = s.frmWaiting := rfl
@[simp] theorem State.onPower_faults (s : State) (f : Power → Power) : (s.onPower f).faults = s.faults := rfl
@[simp] theorem State.onPower_saturated (s : State) (f : Power → Power) : (s.onPower f).saturated = s.saturated := rfl
@[simp] theorem State.onPower_log (s : State) (f : Power → Power) : (s.onPower f).log = s.log := rfl
@[simp] theorem State.onPower_cmd (s : State) (f : Power → Power) : (s.onPower f).cmd = s.cmd := rfl
@[simp] theorem State.onPower_mtr (s : State) (f : Power → Power) : (s.onPower f).mtr = s.mtr := rfl
@[simp] theorem State.onPower_pwm (s : State) (f : Power → Power) : (s.onPower f).pwm = s.pwm := rfl
@[simp] theorem State.onPower_motion (s : State) (f : Power → Power) : (s.onPower f).motion = s.motion := rfl
@[simp] theorem State.onPower_saf (s : State) (f : Power → Power) : (s.onPower f).saf = s.saf := rfl
@[simp] theorem State.onPower_lanes (s : State) (f : Power → Power) : (s.onPower f).lanes = s.lanes := rfl
@[simp] theorem State.onPower_cfg (s : State) (f : Power → Power) : (s.onPower f).cfg = s.cfg := rfl
@[simp] theorem State.onPower_hp (s : State) (f : Power → Power) : (s.onPower f).hp = s.hp := rfl
@[simp] theorem State.onPower_ring (s : State) (f : Power → Power) : (s.onPower f).ring = s.ring := rfl
@[simp] theorem State.onPower_fio (s : State) (f : Power → Power) : (s.onPower f).fio = s.fio := rfl
@[simp] theorem State.onPower_can (s : State) (f : Power → Power) : (s.onPower f).can = s.can := rfl
@[simp] theorem State.onPower_qry (s : State) (f : Power → Power) : (s.onPower f).qry = s.qry := rfl
@[simp] theorem State.onPower_dbg (s : State) (f : Power → Power) : (s.onPower f).dbg = s.dbg := rfl
@[simp] theorem State.onPower_dram (s : State) (f : Power → Power) : (s.onPower f).dram = s.dram := rfl
@[simp] theorem State.onPower_flash (s : State) (f : Power → Power) : (s.onPower f).flash = s.flash := rfl
@[simp] theorem State.onPower_badDram (s : State) (f : Power → Power) : (s.onPower f).badDram = s.badDram := rfl
@[simp] theorem State.onPower_badFlash (s : State) (f : Power → Power) : (s.onPower f).badFlash = s.badFlash := rfl
@[simp] theorem State.onPower_corrected (s : State) (f : Power → Power) : (s.onPower f).corrected = s.corrected := rfl
@[simp] theorem State.onPower_uncorrectable (s : State) (f : Power → Power) : (s.onPower f).uncorrectable = s.uncorrectable := rfl
@[simp] theorem State.onPower_free (s : State) (f : Power → Power) : (s.onPower f).free = s.free := rfl
@[simp] theorem State.onPower_pending (s : State) (f : Power → Power) : (s.onPower f).pending = s.pending := rfl

/-! ### onFio keeps the rest -/

@[simp] theorem State.onFio_frame64 (s : State) (f : FieldIo → FieldIo) : (s.onFio f).frame64 = s.frame64 := rfl
@[simp] theorem State.onFio_tb (s : State) (f : FieldIo → FieldIo) : (s.onFio f).tb = s.tb := rfl
@[simp] theorem State.onFio_regs (s : State) (f : FieldIo → FieldIo) : (s.onFio f).regs = s.regs := rfl
@[simp] theorem State.onFio_svcPending (s : State) (f : FieldIo → FieldIo) : (s.onFio f).svcPending = s.svcPending := rfl
@[simp] theorem State.onFio_frmPending (s : State) (f : FieldIo → FieldIo) : (s.onFio f).frmPending = s.frmPending := rfl
@[simp] theorem State.onFio_svcWaiting (s : State) (f : FieldIo → FieldIo) : (s.onFio f).svcWaiting = s.svcWaiting := rfl
@[simp] theorem State.onFio_frmWaiting (s : State) (f : FieldIo → FieldIo) : (s.onFio f).frmWaiting = s.frmWaiting := rfl
@[simp] theorem State.onFio_faults (s : State) (f : FieldIo → FieldIo) : (s.onFio f).faults = s.faults := rfl
@[simp] theorem State.onFio_saturated (s : State) (f : FieldIo → FieldIo) : (s.onFio f).saturated = s.saturated := rfl
@[simp] theorem State.onFio_log (s : State) (f : FieldIo → FieldIo) : (s.onFio f).log = s.log := rfl
@[simp] theorem State.onFio_cmd (s : State) (f : FieldIo → FieldIo) : (s.onFio f).cmd = s.cmd := rfl
@[simp] theorem State.onFio_mtr (s : State) (f : FieldIo → FieldIo) : (s.onFio f).mtr = s.mtr := rfl
@[simp] theorem State.onFio_pwm (s : State) (f : FieldIo → FieldIo) : (s.onFio f).pwm = s.pwm := rfl
@[simp] theorem State.onFio_motion (s : State) (f : FieldIo → FieldIo) : (s.onFio f).motion = s.motion := rfl
@[simp] theorem State.onFio_saf (s : State) (f : FieldIo → FieldIo) : (s.onFio f).saf = s.saf := rfl
@[simp] theorem State.onFio_lanes (s : State) (f : FieldIo → FieldIo) : (s.onFio f).lanes = s.lanes := rfl
@[simp] theorem State.onFio_power (s : State) (f : FieldIo → FieldIo) : (s.onFio f).power = s.power := rfl
@[simp] theorem State.onFio_cfg (s : State) (f : FieldIo → FieldIo) : (s.onFio f).cfg = s.cfg := rfl
@[simp] theorem State.onFio_hp (s : State) (f : FieldIo → FieldIo) : (s.onFio f).hp = s.hp := rfl
@[simp] theorem State.onFio_ring (s : State) (f : FieldIo → FieldIo) : (s.onFio f).ring = s.ring := rfl
@[simp] theorem State.onFio_can (s : State) (f : FieldIo → FieldIo) : (s.onFio f).can = s.can := rfl
@[simp] theorem State.onFio_qry (s : State) (f : FieldIo → FieldIo) : (s.onFio f).qry = s.qry := rfl
@[simp] theorem State.onFio_dbg (s : State) (f : FieldIo → FieldIo) : (s.onFio f).dbg = s.dbg := rfl
@[simp] theorem State.onFio_dram (s : State) (f : FieldIo → FieldIo) : (s.onFio f).dram = s.dram := rfl
@[simp] theorem State.onFio_flash (s : State) (f : FieldIo → FieldIo) : (s.onFio f).flash = s.flash := rfl
@[simp] theorem State.onFio_badDram (s : State) (f : FieldIo → FieldIo) : (s.onFio f).badDram = s.badDram := rfl
@[simp] theorem State.onFio_badFlash (s : State) (f : FieldIo → FieldIo) : (s.onFio f).badFlash = s.badFlash := rfl
@[simp] theorem State.onFio_corrected (s : State) (f : FieldIo → FieldIo) : (s.onFio f).corrected = s.corrected := rfl
@[simp] theorem State.onFio_uncorrectable (s : State) (f : FieldIo → FieldIo) : (s.onFio f).uncorrectable = s.uncorrectable := rfl
@[simp] theorem State.onFio_free (s : State) (f : FieldIo → FieldIo) : (s.onFio f).free = s.free := rfl
@[simp] theorem State.onFio_pending (s : State) (f : FieldIo → FieldIo) : (s.onFio f).pending = s.pending := rfl

/-! ### onQry keeps the rest -/

@[simp] theorem State.onQry_frame64 (s : State) (f : Quarry → Quarry) : (s.onQry f).frame64 = s.frame64 := rfl
@[simp] theorem State.onQry_tb (s : State) (f : Quarry → Quarry) : (s.onQry f).tb = s.tb := rfl
@[simp] theorem State.onQry_regs (s : State) (f : Quarry → Quarry) : (s.onQry f).regs = s.regs := rfl
@[simp] theorem State.onQry_svcPending (s : State) (f : Quarry → Quarry) : (s.onQry f).svcPending = s.svcPending := rfl
@[simp] theorem State.onQry_frmPending (s : State) (f : Quarry → Quarry) : (s.onQry f).frmPending = s.frmPending := rfl
@[simp] theorem State.onQry_svcWaiting (s : State) (f : Quarry → Quarry) : (s.onQry f).svcWaiting = s.svcWaiting := rfl
@[simp] theorem State.onQry_frmWaiting (s : State) (f : Quarry → Quarry) : (s.onQry f).frmWaiting = s.frmWaiting := rfl
@[simp] theorem State.onQry_faults (s : State) (f : Quarry → Quarry) : (s.onQry f).faults = s.faults := rfl
@[simp] theorem State.onQry_saturated (s : State) (f : Quarry → Quarry) : (s.onQry f).saturated = s.saturated := rfl
@[simp] theorem State.onQry_log (s : State) (f : Quarry → Quarry) : (s.onQry f).log = s.log := rfl
@[simp] theorem State.onQry_cmd (s : State) (f : Quarry → Quarry) : (s.onQry f).cmd = s.cmd := rfl
@[simp] theorem State.onQry_mtr (s : State) (f : Quarry → Quarry) : (s.onQry f).mtr = s.mtr := rfl
@[simp] theorem State.onQry_pwm (s : State) (f : Quarry → Quarry) : (s.onQry f).pwm = s.pwm := rfl
@[simp] theorem State.onQry_motion (s : State) (f : Quarry → Quarry) : (s.onQry f).motion = s.motion := rfl
@[simp] theorem State.onQry_saf (s : State) (f : Quarry → Quarry) : (s.onQry f).saf = s.saf := rfl
@[simp] theorem State.onQry_lanes (s : State) (f : Quarry → Quarry) : (s.onQry f).lanes = s.lanes := rfl
@[simp] theorem State.onQry_power (s : State) (f : Quarry → Quarry) : (s.onQry f).power = s.power := rfl
@[simp] theorem State.onQry_cfg (s : State) (f : Quarry → Quarry) : (s.onQry f).cfg = s.cfg := rfl
@[simp] theorem State.onQry_hp (s : State) (f : Quarry → Quarry) : (s.onQry f).hp = s.hp := rfl
@[simp] theorem State.onQry_ring (s : State) (f : Quarry → Quarry) : (s.onQry f).ring = s.ring := rfl
@[simp] theorem State.onQry_fio (s : State) (f : Quarry → Quarry) : (s.onQry f).fio = s.fio := rfl
@[simp] theorem State.onQry_can (s : State) (f : Quarry → Quarry) : (s.onQry f).can = s.can := rfl
@[simp] theorem State.onQry_dbg (s : State) (f : Quarry → Quarry) : (s.onQry f).dbg = s.dbg := rfl
@[simp] theorem State.onQry_dram (s : State) (f : Quarry → Quarry) : (s.onQry f).dram = s.dram := rfl
@[simp] theorem State.onQry_flash (s : State) (f : Quarry → Quarry) : (s.onQry f).flash = s.flash := rfl
@[simp] theorem State.onQry_badDram (s : State) (f : Quarry → Quarry) : (s.onQry f).badDram = s.badDram := rfl
@[simp] theorem State.onQry_badFlash (s : State) (f : Quarry → Quarry) : (s.onQry f).badFlash = s.badFlash := rfl
@[simp] theorem State.onQry_corrected (s : State) (f : Quarry → Quarry) : (s.onQry f).corrected = s.corrected := rfl
@[simp] theorem State.onQry_uncorrectable (s : State) (f : Quarry → Quarry) : (s.onQry f).uncorrectable = s.uncorrectable := rfl
@[simp] theorem State.onQry_free (s : State) (f : Quarry → Quarry) : (s.onQry f).free = s.free := rfl
@[simp] theorem State.onQry_pending (s : State) (f : Quarry → Quarry) : (s.onQry f).pending = s.pending := rfl

/-! ### onDbg keeps the rest -/

@[simp] theorem State.onDbg_frame64 (s : State) (f : Debug → Debug) : (s.onDbg f).frame64 = s.frame64 := rfl
@[simp] theorem State.onDbg_tb (s : State) (f : Debug → Debug) : (s.onDbg f).tb = s.tb := rfl
@[simp] theorem State.onDbg_regs (s : State) (f : Debug → Debug) : (s.onDbg f).regs = s.regs := rfl
@[simp] theorem State.onDbg_svcPending (s : State) (f : Debug → Debug) : (s.onDbg f).svcPending = s.svcPending := rfl
@[simp] theorem State.onDbg_frmPending (s : State) (f : Debug → Debug) : (s.onDbg f).frmPending = s.frmPending := rfl
@[simp] theorem State.onDbg_svcWaiting (s : State) (f : Debug → Debug) : (s.onDbg f).svcWaiting = s.svcWaiting := rfl
@[simp] theorem State.onDbg_frmWaiting (s : State) (f : Debug → Debug) : (s.onDbg f).frmWaiting = s.frmWaiting := rfl
@[simp] theorem State.onDbg_faults (s : State) (f : Debug → Debug) : (s.onDbg f).faults = s.faults := rfl
@[simp] theorem State.onDbg_saturated (s : State) (f : Debug → Debug) : (s.onDbg f).saturated = s.saturated := rfl
@[simp] theorem State.onDbg_log (s : State) (f : Debug → Debug) : (s.onDbg f).log = s.log := rfl
@[simp] theorem State.onDbg_cmd (s : State) (f : Debug → Debug) : (s.onDbg f).cmd = s.cmd := rfl
@[simp] theorem State.onDbg_mtr (s : State) (f : Debug → Debug) : (s.onDbg f).mtr = s.mtr := rfl
@[simp] theorem State.onDbg_pwm (s : State) (f : Debug → Debug) : (s.onDbg f).pwm = s.pwm := rfl
@[simp] theorem State.onDbg_motion (s : State) (f : Debug → Debug) : (s.onDbg f).motion = s.motion := rfl
@[simp] theorem State.onDbg_saf (s : State) (f : Debug → Debug) : (s.onDbg f).saf = s.saf := rfl
@[simp] theorem State.onDbg_lanes (s : State) (f : Debug → Debug) : (s.onDbg f).lanes = s.lanes := rfl
@[simp] theorem State.onDbg_power (s : State) (f : Debug → Debug) : (s.onDbg f).power = s.power := rfl
@[simp] theorem State.onDbg_cfg (s : State) (f : Debug → Debug) : (s.onDbg f).cfg = s.cfg := rfl
@[simp] theorem State.onDbg_hp (s : State) (f : Debug → Debug) : (s.onDbg f).hp = s.hp := rfl
@[simp] theorem State.onDbg_ring (s : State) (f : Debug → Debug) : (s.onDbg f).ring = s.ring := rfl
@[simp] theorem State.onDbg_fio (s : State) (f : Debug → Debug) : (s.onDbg f).fio = s.fio := rfl
@[simp] theorem State.onDbg_can (s : State) (f : Debug → Debug) : (s.onDbg f).can = s.can := rfl
@[simp] theorem State.onDbg_qry (s : State) (f : Debug → Debug) : (s.onDbg f).qry = s.qry := rfl
@[simp] theorem State.onDbg_dram (s : State) (f : Debug → Debug) : (s.onDbg f).dram = s.dram := rfl
@[simp] theorem State.onDbg_flash (s : State) (f : Debug → Debug) : (s.onDbg f).flash = s.flash := rfl
@[simp] theorem State.onDbg_badDram (s : State) (f : Debug → Debug) : (s.onDbg f).badDram = s.badDram := rfl
@[simp] theorem State.onDbg_badFlash (s : State) (f : Debug → Debug) : (s.onDbg f).badFlash = s.badFlash := rfl
@[simp] theorem State.onDbg_corrected (s : State) (f : Debug → Debug) : (s.onDbg f).corrected = s.corrected := rfl
@[simp] theorem State.onDbg_uncorrectable (s : State) (f : Debug → Debug) : (s.onDbg f).uncorrectable = s.uncorrectable := rfl
@[simp] theorem State.onDbg_free (s : State) (f : Debug → Debug) : (s.onDbg f).free = s.free := rfl
@[simp] theorem State.onDbg_pending (s : State) (f : Debug → Debug) : (s.onDbg f).pending = s.pending := rfl

/-! ### setPar keeps the rest -/

@[simp] theorem State.setPar_frame64 (s : State) (i k : Nat) (v : Int) : (s.setPar i k v).frame64 = s.frame64 := rfl
@[simp] theorem State.setPar_tb (s : State) (i k : Nat) (v : Int) : (s.setPar i k v).tb = s.tb := rfl
@[simp] theorem State.setPar_svcPending (s : State) (i k : Nat) (v : Int) : (s.setPar i k v).svcPending = s.svcPending := rfl
@[simp] theorem State.setPar_frmPending (s : State) (i k : Nat) (v : Int) : (s.setPar i k v).frmPending = s.frmPending := rfl
@[simp] theorem State.setPar_svcWaiting (s : State) (i k : Nat) (v : Int) : (s.setPar i k v).svcWaiting = s.svcWaiting := rfl
@[simp] theorem State.setPar_frmWaiting (s : State) (i k : Nat) (v : Int) : (s.setPar i k v).frmWaiting = s.frmWaiting := rfl
@[simp] theorem State.setPar_faults (s : State) (i k : Nat) (v : Int) : (s.setPar i k v).faults = s.faults := rfl
@[simp] theorem State.setPar_saturated (s : State) (i k : Nat) (v : Int) : (s.setPar i k v).saturated = s.saturated := rfl
@[simp] theorem State.setPar_log (s : State) (i k : Nat) (v : Int) : (s.setPar i k v).log = s.log := rfl
@[simp] theorem State.setPar_cmd (s : State) (i k : Nat) (v : Int) : (s.setPar i k v).cmd = s.cmd := rfl
@[simp] theorem State.setPar_mtr (s : State) (i k : Nat) (v : Int) : (s.setPar i k v).mtr = s.mtr := rfl
@[simp] theorem State.setPar_pwm (s : State) (i k : Nat) (v : Int) : (s.setPar i k v).pwm = s.pwm := rfl
@[simp] theorem State.setPar_motion (s : State) (i k : Nat) (v : Int) : (s.setPar i k v).motion = s.motion := rfl
@[simp] theorem State.setPar_saf (s : State) (i k : Nat) (v : Int) : (s.setPar i k v).saf = s.saf := rfl
@[simp] theorem State.setPar_lanes (s : State) (i k : Nat) (v : Int) : (s.setPar i k v).lanes = s.lanes := rfl
@[simp] theorem State.setPar_power (s : State) (i k : Nat) (v : Int) : (s.setPar i k v).power = s.power := rfl
@[simp] theorem State.setPar_cfg (s : State) (i k : Nat) (v : Int) : (s.setPar i k v).cfg = s.cfg := rfl
@[simp] theorem State.setPar_hp (s : State) (i k : Nat) (v : Int) : (s.setPar i k v).hp = s.hp := rfl
@[simp] theorem State.setPar_ring (s : State) (i k : Nat) (v : Int) : (s.setPar i k v).ring = s.ring := rfl
@[simp] theorem State.setPar_fio (s : State) (i k : Nat) (v : Int) : (s.setPar i k v).fio = s.fio := rfl
@[simp] theorem State.setPar_can (s : State) (i k : Nat) (v : Int) : (s.setPar i k v).can = s.can := rfl
@[simp] theorem State.setPar_qry (s : State) (i k : Nat) (v : Int) : (s.setPar i k v).qry = s.qry := rfl
@[simp] theorem State.setPar_dbg (s : State) (i k : Nat) (v : Int) : (s.setPar i k v).dbg = s.dbg := rfl
@[simp] theorem State.setPar_dram (s : State) (i k : Nat) (v : Int) : (s.setPar i k v).dram = s.dram := rfl
@[simp] theorem State.setPar_flash (s : State) (i k : Nat) (v : Int) : (s.setPar i k v).flash = s.flash := rfl
@[simp] theorem State.setPar_badDram (s : State) (i k : Nat) (v : Int) : (s.setPar i k v).badDram = s.badDram := rfl
@[simp] theorem State.setPar_badFlash (s : State) (i k : Nat) (v : Int) : (s.setPar i k v).badFlash = s.badFlash := rfl
@[simp] theorem State.setPar_corrected (s : State) (i k : Nat) (v : Int) : (s.setPar i k v).corrected = s.corrected := rfl
@[simp] theorem State.setPar_uncorrectable (s : State) (i k : Nat) (v : Int) : (s.setPar i k v).uncorrectable = s.uncorrectable := rfl
@[simp] theorem State.setPar_free (s : State) (i k : Nat) (v : Int) : (s.setPar i k v).free = s.free := rfl
@[simp] theorem State.setPar_pending (s : State) (i k : Nat) (v : Int) : (s.setPar i k v).pending = s.pending := rfl

/-! ### The operations on faults -/

/-- Raising a fault changes the active faults and the log, and nothing else. -/
theorem State.raise_frame (s : State) (code inst : Nat) :
    s.raise code inst = { s with faults := (s.raise code inst).faults, log := (s.raise code inst).log } := by
  unfold State.raise State.raiseWith
  repeat' (first | rfl | split)

/-- Clearing a fault does the same. -/
theorem State.clearFault_frame (s : State) (code inst : Nat) :
    s.clearFault code inst = { s with faults := (s.clearFault code inst).faults, log := (s.clearFault code inst).log } := by
  unfold State.clearFault
  repeat' (first | rfl | split)

/-- A sticky bit lies in the stored parameters. -/
theorem State.stick_frame (s : State) (index sub bit : Nat) : s.stick index sub bit = { s with regs := (s.stick index sub bit).regs } := rfl

end Sys2Proof.Machine
end

