-- ==== Sys2Proof/Tests/Slice0.lean ====
section
/-! SUPPORT. The model's own tests: an ill-formed command for each check of WellFormed, for each statement a state and operands that
meet the hypotheses of its clauses, and single steps whose results are worked out from the manual by hand. -/

namespace Sys2Proof.Tests
set_option Elab.async false
open Sys2Proof.Machine

/-! ### The states of the tests -/

/-- The SPI host, and a request from it. -/
def spi : Source := { port := .spi }
def rq (seq : Half := 5) (tag : Half := 0) : Req := { src := spi, seq := seq, tag := tag, arrived := 0 }
def host (role : Role) (x : Source) : Session := { src := x, role := role, client := 7, keepalive := 20000, lastSeq := 1, refreshed := 0 }

/-- A device in Run with torque permitted, and a CONTROL session of the SPI host in slot 0. -/
def up : State :=
  { State.reset with
    frame64 := 100000
    tb := { State.reset.tb with started := true, tickAt := 1000000000 }
    power := { State.reset.power with mode := .run, booting := false }
    saf := { State.reset.saf with state := .runPermitted, word := .runPermitted, cause := 0, a := true, b := true, hs := true, ls := true
                                  railA := .present, railB := .present }
    lanes := { State.reset.lanes with standby := .comparing }
    cmd := { State.reset.cmd with sessions := Vector.ofFn (fun k : Fin 8 => if k = 0 then some (host .control spi) else none) } }

/-- The same device in another mode, with one value of a parameter, one axis, one bay, or one of its other parts changed. -/
def inMode (m : Mode) : State := { up with power := { up.power with mode := m } }
def wr (s : State) (i sub v : Nat) : State := { s with regs := Sparse.write regDefault s.regs (regKey i sub) v }
def ax0 (f : Axis → Axis) (s : State := up) : State := s.onAx 0 f
def bay0 (f : Bay → Bay) (s : State := up) : State := s.onBay 0 f
def withTb (f : Timebase → Timebase) (s : State := up) : State := { s with tb := f s.tb }
def withSaf (f : Safety → Safety) (s : State := up) : State := { s with saf := f s.saf }
def withCfg (f : Machine.Config → Machine.Config) (s : State := up) : State := { s with cfg := f s.cfg }
def withRing (f : Ring → Ring) (s : State := up) : State := { s with ring := f s.ring }
def withTxn (t : Txn) (s : State := up) : State := { s with mtr := { s.mtr with txns := s.mtr.txns ++ [t] } }
def withSession (f : Session → Session) (s : State := up) : State :=
  { s with cmd := { s.cmd with sessions := s.cmd.sessions.set 0 (some (f (host .control spi))) } }

/-- The next state of an outcome. -/
def nextOf (o : Host.Outcome State Fault Refusal) : Option State := match o with | .next t => some t | .fault _ => none | .refused _ => none

/-! ### WellFormed refuses -/

theorem test_wf_spi_source_names_no_node : (Instr.identify { src := { port := .spi, node := 1 }, seq := 1, tag := 0, arrived := 0 }).wf = false := by decide
theorem test_wf_ring_source_needs_a_node : (Instr.identify { src := { port := .east }, seq := 1, tag := 0, arrived := 0 }).wf = false := by decide
theorem test_wf_can_source_below_8 : (Instr.identify { src := { port := .can0, host := 8 }, seq := 1, tag := 0, arrived := 0 }).wf = false := by decide
theorem test_wf_ping_too_long : (Instr.ping rq (List.replicate 1021 0)).wf = false := by decide +kernel
theorem test_wf_read_multi_too_long : (Instr.paramReadMulti rq (List.replicate 256 (0, 0))).wf = false := by decide +kernel
theorem test_wf_write_multi_too_long : (Instr.paramWriteMulti rq (List.replicate 86 ⟨0, 0, 0, 0⟩)).wf = false := by decide +kernel
theorem test_wf_group_too_long : (Instr.moveGroup rq 0 0 0 ⟨0, 0, 0, 0⟩ (List.replicate 126 ⟨0, 0⟩)).wf = false := by decide +kernel
theorem test_wf_data_write_empty : (Instr.dataWrite rq 0 []).wf = false := by decide
theorem test_wf_remote_identifier_too_wide : (Instr.canFrameReceived 0 ⟨2048, false, false, false, []⟩ 0).wf = false := by decide
theorem test_wf_classic_frame_too_long : (Instr.canFrameReceived 0 ⟨5, false, false, false, List.replicate 9 0⟩ 0).wf = false := by decide
theorem test_wf_fd_frame_length : (Instr.canFrameReceived 0 ⟨5, false, true, false, List.replicate 9 0⟩ 0).wf = false := by decide
theorem test_wf_tick_block_length : (Instr.tickSymbolReceived 0 [0] 0 0 0).wf = false := by decide
theorem test_wf_slot_length : (Instr.stateSlotReceived 0 0 [0] 0).wf = false := by decide
theorem test_wf_async_block_length : (Instr.asyncBlockReceived 0 [0] 0 0).wf = false := by decide
theorem test_wf_slack_beyond_frame : (Instr.laneDeadline ⟨true, false, false, true, false, true⟩ ⟨true, false, false, true, false, true⟩ ⟨0, true, true⟩ 50001).wf = false := by decide
theorem test_wf_dirty_beyond_table : (Instr.copyFinalPhase 1025).wf = false := by decide
theorem test_wf_results_beyond_step : (Instr.identifyStepDone 0 0 [1, 2, 3, 4]).wf = false := by decide
theorem test_wf_vbat_beyond_range : (Instr.pwrVbatLow 4001).wf = false := by decide
theorem test_wf_scrub_beyond_two : (Instr.scrubRead .flash 0 3).wf = false := by decide
theorem test_wf_token_length : (Instr.unlock [0]).wf = false := by decide
theorem test_wf_quarry_channels : (QuarryBlock.wf ({ d := 0, decimation := 1, count := 1, segments := 1, pre := 0, source := 0, kind := 0, item := 0, ringOut := 0, level := 0, hysteresis := 0, ringIn := 0, channels := [] } : QuarryBlock)) = false := by decide

/-! ### Requests, sessions and parameters -/

def observing : State := { up with cmd := { up.cmd with sessions := up.cmd.sessions.set 0 (some (host .observer spi)) } }
def alone : State := { up with cmd := {} }
def corrupted : State := { up with mtr := { up.mtr with now := { up.mtr.now with corrupt := true } } }

theorem witness_requestDecodes : (Instr.moveAbs rq 0 1 0 5 ⟨0, 0, 0, 0⟩).wf = true ∧
    requestOf (.moveAbs rq 0 1 0 5 ⟨0, 0, 0, 0⟩) = some (0x30, rq) := by decide
theorem witness_everyStepKeepsCanonicalForm : up.canonical = true ∧ nextOf (step { up with pending := [.holdover] }) = some up := by decide +kernel
theorem witness_queueOnlyShrinks : up.pending = [] ∧ nextOf (exec .holdover up) = some up := by decide +kernel
theorem witness_refusedRequests : observing.slotOf spi = some 0 ∧ observing.session 0 = some (host .observer spi) ∧
    ((opRow 0x11).bind (fun row => observing.admission row rq .observer)) = some Status.notOwner ∧
    alone.slotOf spi = none ∧ ((opRow 0x11).map OpRow.role) = some RoleCol.control := by decide +kernel
theorem witness_reads : (∀ c ∈ [0x10, 0x12, 0x50, 0x51, 0x52, 0x73, 0x90, 0xA0, 0xA1, 0xB2], up.admits c rq 0 = true) ∧
    (up.accessible 0x0100 255).isSome = true ∧ up.accessible 0xFFFF 0 = none ∧ (up.maskArg 1).isSome = true ∧
    up.maskArg 0x10000 = none := by decide +kernel
theorem witness_txnStatus : (withTxn { slot := 0, tag := 3, client := 7, ring := false, state := .open_, deadline := 9 }).admits 0x23 (rq 5 3) 0 = true := by
  decide +kernel
theorem witness_ping : up.mtr.now.corrupt = false ∧ corrupted.mtr.now.corrupt = true := by decide +kernel
theorem witness_sessionOpen : alone.slotOf spi = none ∧ alone.controlSlot = none ∧ alone.session 0 = none ∧
    (∀ j : Fin 8, j < 0 → (alone.session j).isSome = true) ∧ (rq).tag = 0 := by decide +kernel
theorem witness_sessionEnds : up.admits 0x04 rq 0 = true ∧ up.admits 0x53 rq 0 = true ∧ (up.maskArg 1).isSome = true ∧
    up.session 0 = some (host .control spi) ∧
    (withTb (fun t => { t with tickAt := 199999999 })).tb.tickAt < 0 + 10000 * 20000 ∧
    0 + 10000 * 20000 ≤ (withTb (fun t => { t with tickAt := 200000000 })).tb.tickAt ∧
    ((withSession (fun x => { x with period := 5, sinceStatus := 5 })).session 0).map (fun x => decide (0 < x.period ∧ x.period ≤ x.sinceStatus)) = some true := by
  decide +kernel
theorem witness_directWrites : up.direct 0x11 rq 0 (.paramWrite rq ⟨0x0102, 255, 2, 25⟩) = true ∧
    up.writeRefusal up.pendingView false ⟨0x0102, 255, 2, 25⟩ = none ∧
    ((ParamTable.find 0x0102).map (fun row => (row.access, row.commit, row.type.decode 25))) = some (.rw, .frm, some 25) ∧
    up.direct 0x11 rq 0 (.bankSwap rq 0 1) = true ∧ up.writeRefusal up.pendingView false ⟨0x0A0D, 0, 10, 1⟩ = none ∧
    (inMode .service).direct 0x11 rq 0 (.gateOverride rq 0 1) = true := by decide +kernel
theorem witness_directWrites_later : (inMode .dormant).writeRefusal (inMode .dormant).pendingView false ⟨0x0102, 255, 2, 25⟩ = none ∧
    (inMode .dormant).direct 0x11 rq 0 (.paramWrite rq ⟨0x0102, 255, 2, 25⟩) = true ∧
    (inMode .service).writeRefusal (inMode .service).pendingView false ⟨0x0900, 1, 3, 100⟩ = none ∧
    (inMode .service).direct 0x11 rq 0 (.paramWrite rq ⟨0x0900, 1, 3, 100⟩) = true := by decide +kernel
theorem witness_actingWrites : up.direct 0x11 rq 0 (.cntPreset rq 0 5) = true ∧ up.writeRefusal up.pendingView false ⟨0x1004, 0, 3, 5⟩ = none ∧
    up.direct 0x11 rq 0 (.carrierWrite rq 3 1) = true ∧ up.writeRefusal up.pendingView false ⟨0x0300, 3, 10, 1⟩ = none ∧
    up.direct 0x11 rq 0 (.qryRelease rq 2) = true ∧ up.writeRefusal up.pendingView false ⟨0x1201, 255, 3, 2⟩ = none ∧
    up.direct 0x11 rq 0 (.tplSave rq 1) = true ∧ up.writeRefusal up.pendingView false ⟨0x0B18, 255, 1, 1⟩ = none ∧
    up.direct 0x11 rq 0 (.paramWrite rq ⟨0x0110, 255, 3, 8⟩) = true ∧
    ((up.accessible 0x0110 255).map (fun row => (row.commit, row.type, match row.access with | .status _ => true | _ => false))) =
      some (.imm, .u32, true) := by decide +kernel
theorem witness_writeChecks : up.admits 0x11 rq 0 = true ∧ up.accessible 0xFFFF 255 = none ∧
    ((up.accessible 0x0102 255).map (fun row => (row.type.code, row.access, row.commit))) = some (2, .rw, .frm) ∧
    ((up.accessible 0x0102 255).map (fun row => (row.type.decode 0x10019, row.type.decode 1001, row.accepts 1001))) = some (none, some 1001, false) ∧
    (inMode .service).admits 0x11 rq 0 = true := by decide +kernel
theorem witness_classOutsideService : ((up.accessible 0x0900 1).map (fun row => (row.type.code, row.access, row.commit))) = some (3, .rw, .svc) ∧
    up.admits 0x11 rq 0 = true ∧ up.admits 0x13 rq 0 = true ∧
    up.entriesRefusal up.pendingView false 0 [] [⟨0x0102, 255, 2, 25⟩] = none := by decide +kernel
theorem witness_multipleWrites : up.direct 0x13 rq 0 (.paramWriteMulti rq [⟨0x0102, 255, 2, 25⟩, ⟨0x0A0D, 1, 10, 1⟩]) = true ∧
    up.entriesRefusal up.pendingView false 0 [] [⟨0x0102, 255, 2, 25⟩, ⟨0x0A0D, 1, 10, 1⟩] = none ∧
    writeCommit ⟨0x0102, 255, 2, 25⟩ ≠ .svc ∧
    up.entriesRefusal up.pendingView false 0 [] [⟨0x0102, 255, 2, 25⟩, ⟨0x0102, 255, 2, 1⟩] = some (Status.outOfRange, 1) := by decide +kernel

/-! ### Transactions -/

def openTxn : Txn := { slot := 0, tag := 3, client := 7, ring := false, state := .open_, deadline := 1000000000 }
def joined : State := withRing (fun r => { r with joined := true, master := 1, epoch := 4, addr := 0, lockedOnce := true, credits := Vector.replicate 8 5,
                                                  ports := Vector.replicate 2 { state := .inService, partner := 2, delay := some 300 } })
def txnUp (f : Txn → Txn := id) (s : State := up) : State := withTxn (f openTxn) s
/-- A Mortar field of a type, for the transaction of client 7 and TAG 3. -/
def mortarField (kind commit flag : Nat) : List Byte :=
  leBytes 1 kind ++ leBytes 1 2 ++ leBytes 2 3 ++ leBytes 4 7 ++ leBytes 4 commit ++ leBytes 1 flag ++ List.replicate 19 0
def slotWith (f : List Byte) : List Byte := List.replicate 48 0 ++ f ++ List.replicate 112 0
def heard (f : List Byte) (s : State := joined) : State :=
  { s with ring := { s.ring with slots := s.ring.slots.set 1 (some (slotWith f)), received := s.ring.received.set 1 (some (slotWith f)) } }
def ringTxn (f : Txn → Txn := id) (s : State := joined) : State := txnUp (fun t => f { t with ring := true }) s

theorem witness_txnBegins : up.admits 0x20 (rq 5 3) 0 = true ∧ up.session 0 = some (host .control spi) ∧
    up.findTxn 0 3 = none ∧ up.liveTxns = 0 ∧ ((txnUp).findTxn 0 3).map (fun y => y.state.final) = some false ∧
    8 ≤ ((List.range 8).foldl (fun s n => withTxn { openTxn with slot := 1, tag := BitVec.ofNat 16 n } s) up).liveTxns := by decide +kernel
theorem witness_txnAbort : (txnUp).admits 0x22 (rq 5 3) 0 = true ∧ (txnUp).findTxn 0 3 = some openTxn ∧
    ((txnUp (fun t => { t with state := .voting, ring := true, coordinator := true })).findTxn 0 3).map Txn.coordinator = some true ∧
    ((txnUp (fun t => { t with state := .committed, doneAt := some 100000 })).findTxn 0 3).map Txn.doneAt = some (some (txnUp).frame64) := by decide +kernel
theorem witness_txnTimeout : (withTb (fun t => { t with tickAt := 999999999 }) (txnUp)).tb.tickAt < openTxn.deadline ∧
    openTxn.deadline ≤ (txnUp).tb.tickAt ∧ (txnUp).devN 0x0223 = 20000 ∧
    ((txnUp (fun t => { t with state := .aborted, finalAt := 80000 })).frame64 - 80000).toNat = 20000 := by decide +kernel
theorem witness_txnCommitAt : (txnUp).admits 0x21 (rq 5 3) 0 = true ∧ (txnUp).findTxn 0 3 = some openTxn ∧
    (100001 - (txnUp).frame32).toNat = 1 ∧ (ringTxn).admits 0x21 (rq 5 3) 0 = true ∧ (ringTxn).announcement = none ∧ (ringTxn).ringTxns = 0 := by
  decide +kernel
theorem witness_prepare : (ringTxn id (heard (mortarField 1 100006 0))).fieldFrom 1 0 = some (mortarField 1 100006 0) ∧
    field 0 1 (mortarField 1 100006 0) = 1 ∧ ((ringTxn id (heard (mortarField 1 100006 0))).ringTxn 7 3).map Txn.state = some .open_ ∧
    (heard (mortarField 1 100006 0)).ringTxn 7 3 = none ∧ joined.frameNear 100006 = 100006 ∧ joined.fieldFrom 1 0 = none := by decide +kernel
theorem witness_decision : (ringTxn (fun t => { t with state := .voting, coordNode := 2, commit := some 100006 })
      (heard (mortarField 3 100006 1))).fieldFrom 1 0 = some (mortarField 3 100006 1) ∧
    ((ringTxn (fun t => { t with state := .voting, coordinator := true, begunAt := 99999, participants := 1 }) joined).mtr.txns.find?
      (fun t => t.slot = 0 && t.tag = 3 && t.coordinator && t.state = .voting)).map Txn.begunAt = some 99999 := by decide +kernel
theorem witness_staging : (txnUp).admits 0x38 (rq 5 3) 0 = true ∧ (txnUp).admits 0x71 (rq 5 3) 0 = true ∧ (txnUp).admits 0x37 (rq 5 3) 0 = true ∧
    (txnUp).admits 0x34 (rq 5 3) 0 = true ∧ ((txnUp).axisArg 0).isSome = true ∧
    (txnUp).claimed (some openTxn) (fun _ => true) ((txnUp).claims (.latchArm (rq 5 3) 0 0 0)) = false ∧
    (withTxn { openTxn with slot := 1, staged := [{ cmd := .latchArm (rq 5 3) 0 0 0, opcode := 0x38 }] } (txnUp)).claimed (some openTxn) (fun _ => true)
      ((txnUp).claims (.latchArm (rq 5 3) 0 0 0)) = true := by decide +kernel

/-! ### Motion requests -/

def lim0 : Limits := ⟨0, 0, 0, 0⟩
def still : State := (ax0 (fun x => { x with state := .standstill, homed := true })).onAx 2 (fun x => { x with state := .standstill, homed := true })
def stepping : State := wr (ax0 (fun x => { x with state := .standstill, homed := true })) 0x0800 255 1

theorem witness_moves : still.axisArg 0 = some 0 ∧ still.mayMove 0 = true ∧ still.queueBad 0 false = false ∧
    still.direct 0x30 rq 0 (.moveAbs rq 0 0 0 1000 lim0) = true ∧ still.limitBad 0 (still.askedV 0 lim0) lim0 = false ∧
    still.entryBad 0 { positionMove .abs 0 0 lim0 with target := some (resolve32 (still.ax 0).demand.counts 1000), id := (still.ax 0).nextId } = false ∧
    still.direct 0x31 rq 0 (.moveRel rq 0 0 0 50 lim0) = true ∧
    still.direct 0x32 rq 0 (.moveVel rq 0 0 0 1000 0 0 0) = true ∧ still.beyondSide 0 * 1000 ≤ 0 := by decide +kernel
theorem witness_moveChecks : up.admits 0x30 rq 0 = true ∧ up.axisArg 99 = none ∧ (up.ax 0).state = .disabled ∧
    (still.ax 0).state = .standstill ∧ still.stopFault 0 = false ∧
    (ax0 (fun x => { x with gear := some { master := 2, ratio := 65536, offset := 0 } }) still).stopFault 0 = false ∧
    still.limitBad 0 4000000000 { lim0 with vmax := 4000000000 } = true := by decide +kernel
theorem witness_groups : still.direct 0x33 rq 0 (.moveGroup rq 0 0 0 lim0 [⟨0, 1000⟩, ⟨2, 500⟩]) = true ∧
    ([⟨0, 1000⟩, ⟨2, 500⟩] : List GroupTarget).map (fun m => still.axisArg m.axis) = [some 0, some 2] ∧
    (∀ a ∈ [(0 : Fin 16), 2], still.mayMove a = true) ∧ still.motion.groups[(0 : Fin 8)] = none ∧
    (∀ e ∈ still.groupEntries 0 0 lim0 [⟨0, 1000⟩, ⟨2, 500⟩], still.memberBad 0 lim0 [] e.1 e.2 = false) ∧
    still.direct 0x34 rq 0 (.queueFlush rq 0xFF) = true ∧ (still.axesArg 0xFF).isSome = true := by decide +kernel
theorem witness_axisAbort : still.admits 0x35 rq 0 = true ∧ still.axesArg 0 = some [0] ∧ still.justDone 0 = false ∧
    (ax0 (fun x => { x with completedAt := some 100000 }) still).justDone 0 = true := by decide +kernel
theorem witness_gearing : still.direct 0x36 rq 0 (.gearEngage rq 0 2 0 65536 0) = true ∧ still.axisArg 2 = some 2 ∧
    (∀ b : Fin 16, (still.ax b).gear = none) ∧ (still.ax 2).queue = [] ∧ (still.ax 2).homing = none ∧ (still.ax 2).follow = none ∧
    still.direct 0x37 rq 0 (.gearRelease rq 2) = true ∧ still.direct 0x38 rq 0 (.latchArm rq 0 0x40 2) = true := by decide +kernel
theorem witness_stepFollow : stepping.direct 0x39 rq 0 (.stepFollow rq 0x80 0 0 65536) = true ∧ stepping.axisArg 0x80 = some 0 ∧
    ((stepping.axisChecks 0).take 2).all (fun c => !c.1) = true := by decide +kernel

/-! ### Enabling, homing, clearing -/

def saf (st : SafetyState) (f : Safety → Safety := id) (s : State := up) : State := withSaf (fun x => f { x with state := st, word := st }) s
def raised (code inst : Nat) (s : State := up) : State := s.raise code inst

theorem witness_enable : (wr up 0x0405 255 0).direct 0x40 rq 0 (.axisEnable rq 0) = true ∧ up.axisArg 0 = some 0 ∧ (up.ax 0).state.running = false ∧
    (saf .sto).saf.word ≠ .runPermitted ∧ (raised 0x0401 0).stopFault 0 = true ∧
    up.stopFault 0 = false ∧ (up.baysOfAxis 0).any up.bayForced = false ∧ up.isActive 0x0505 255 = false ∧ up.saliencyBad 0 = false ∧
    (wr up 0x0405 255 0).vbusLow 0 = false ∧ (still.ax 0).state.running = true := by decide +kernel
theorem witness_disable : still.axesArg 0 = some [0] ∧ still.admits 0x41 rq 0 = true ∧ still.admits 0x42 rq 0 = true ∧
    [(0 : Fin 16)].all (fun a => (still.ax a).state = .disabled) = false ∧ [(0 : Fin 16)].all (fun a => (up.ax a).state = .disabled) = true ∧
    [(0 : Fin 16)].all (fun a => ((ax0 (fun x => { x with state := .shorted })).ax a).state = .shorted) = true := by decide +kernel
def homing (m quiet captured : Nat) (since : Long := 90000) : State :=
  ax0 (fun x => { x with homing := some { method := m, velocity := 5, force := 10, backoff := true, since := since, still := quiet,
                                          captured := some (captured : Int), slot := some 0, seq := 5 } }) still
theorem witness_homing : still.admits 0x43 rq 0 = true ∧ still.queueBad 0 false = false ∧ (still.ax 0).homing = none ∧
    signI (BitVec.toInt (-5 : Word)) = still.closeSign 0 ∧ (5 : Int) ≤ still.par 0x090E 0 ∧ still.par 0x090E 0 < 4000000 ∧
    (((homing 1 0 77).ax 0).homing.map Homing.captured) = some (some 77) ∧ still.parN 0x0913 0 ≤ 2000 ∧
    (wr (homing 1 0 77 99000) 0x0915 0 1000).parN 0x0915 0 ≤ (up.frame64 - 99000).toNat := by decide +kernel
theorem witness_faultClear : up.admits 0x44 rq 0 = true ∧ FaultTable.find 0xFFFF = none ∧
    ((FaultTable.find 0x0210).map (fun row => (up.carries row 255, up.carries row 3, row.clear))) = some (true, false, .faultClear) ∧
    ((raised 0x0210 255).faults.filter (fun f => f.code = 0x0210 && f.inst = 255)).length = 1 ∧ (raised 0x0210 255).clearable 0x0210 255 = true ∧
    ({ up with dbg := { up.dbg with halted := up.dbg.halted.set 0 true } } : State).clearable 0x0304 255 = false ∧
    ((FaultTable.find 0x0104).map (fun row => (up.carries row 255, decide (row.clear = .faultClear)))) = some (true, false) ∧
    (saf .sto).saf.state = .sto ∧ (saf .sto).saf.a = true ∧ (saf .sto).safetyLatched = false := by decide +kernel

/-! ### The safety channel -/

theorem witness_torqueDenied : (saf .sto (fun x => { x with hs := false, ls := false })).torqueDenied = true ∧
    (saf .sto (fun x => { x with hs := false, ls := false })).torqueOff = true ∧ requestOf (.safetyStatus rq) = some (0x90, rq) ∧
    (nextOf (exec (.safetyStatus rq) (saf .sto (fun x => { x with hs := false, ls := false })))).isSome = true := by decide +kernel
theorem witness_safetyDemand : up.saf.state = .runPermitted ∧ up.dev 0x0C00 = 1 ∧ (wr up 0x0C00 255 0).dev 0x0C00 ≠ 1 ∧
    up.admits 0x91 rq 0 = true ∧ (saf .ss1).saf.state = .ss1 := by decide +kernel
theorem witness_stopOne : (saf .ss1 (fun x => { x with plumbTimer := true })).saf.plumbTimer = true ∧ up.saf.plumbTimer = false ∧
    (saf .ss1).saf.state = .ss1 ∧ ({ die := 0, crcOk := true, phases := List.replicate 24 0, vbus := 0, time := 5 } : ScanReport).crcOk = true := by decide +kernel
theorem witness_safetyFaults : (withSaf (fun x => { x with a := false })).saf.a ≠ (withSaf (fun x => { x with a := false })).saf.b ∧
    (up.saf.state = .locked → up.torqueOff = true) ∧ (saf .testing).inTest = true ∧ up.inTest = false ∧
    ¬((saf .sto (fun x => { x with hs := false })).saf.hs = true ∧ (saf .sto).saf.ls = true) ∧
    (withSaf (fun x => { x with supplyLost := true })).saf.supplyLost = true := by decide +kernel
theorem witness_release : (saf .sto (fun x => { x with cause := 1 })).saf.a = true ∧ (saf .sto).safetyLatched = false ∧ (wr up 0x0C02 255 0).dev 0x0C02 = 0 ∧
    (saf .sto (fun x => { x with acknowledged := true, cause := 2 })).saf.acknowledged = true ∧
    (saf .sto (fun x => { x with releasing := true })).saf.releasing = true := by decide +kernel
theorem witness_plumb : (withSaf (fun x => { x with stoReqAt := some 99980 })).saf.stoReqAt = some 99980 ∧ (up.frame64 - 99980).toNat = 20 ∧
    (wr up 0x0C33 255 4000000000).testDue = true ∧ (wr up 0x0C22 255 0).dwell = true ∧ (saf .testing (fun x => { x with testStep := 7 })).inTest = true ∧
    up.devN 0x0C33 ≤ up.devN 0x0C08 ∧ (wr up 0x0C33 255 4000000000).devN 0x0C08 + (wr up 0x0C33 255 4000000000).devN 0x0C09 < (wr up 0x0C33 255 4000000000).devN 0x0C33 ∧
    up.admits 0xC0 rq 0 = true ∧ up.allDisabled = true ∧ up.anyEnabled = false ∧ up.power.selftests = none ∧ up.saf.testByHost = none := by decide +kernel

/-! ### The enable sequence -/

def enab (st : EnableStep) (since : Nat := 90000) (f : Commutation → Commutation := id) (fails : Nat := 0) (tries : Nat := 0) (s : State := up) : State :=
  ax0 (fun x => { x with state := .enabling, com := f x.com
                         enabling := some { step := st, since := BitVec.ofNat 64 since, failures := fails, attempts := tries } }) s
def stepping1 (s : State) : State := wr s 0x0800 255 1
def sampled (v : Int) (s : State) : State := bay0 (fun b => { b with sample0 := v, sample1 := 0, offsetInternal := false }) s
def acquired (e : Int) : State :=
  wr (wr (enab .acquire 90000 (fun c => { c with emf := [(e, 0), (e, 0)] })) 0x0605 0 1000) 0x0602 0 0
def pulses (p n : Int) (tries : Nat := 0) : State := enab .polarity 99988 (fun c => { c with posPulse := p, negPulse := n }) 0 tries

theorem witness_diodeTest : ((enab .diode 99998).ax 0).enabling = some { step := .diode, since := 99998 } ∧
    ((enab .diode 99998).frame64 - 99998).toNat = 2 ∧
    (∀ b ∈ (sampled 0 (enab .diode 99998)).baysOfAxis 0, ((sampled 0 (enab .diode)).bay b).offsetInternal = false ∧
      (((sampled 0 (enab .diode)).microamps b ((sampled 0 (enab .diode)).bay b).sample0).natAbs : Int) ≤ ((sampled 0 (enab .diode)).diodeLimits 0).1 * 1000) ∧
    (∃ b ∈ (sampled 30000 (enab .diode)).baysOfAxis 0,
      ((sampled 30000 (enab .diode)).diodeLimits 0).1 * 1000 < (((sampled 30000 (enab .diode)).microamps b ((sampled 30000 (enab .diode)).bay b).sample0).natAbs : Int)) := by
  decide +kernel
theorem witness_brakeEnd : (0 : Nat) < ((enab .brake).diodeLimits 0).2.2 ∧ (enab .brake).feedback 0 = 0 ∧ (wr (enab .brake) 0x0600 0 1).feedback 0 = 1 ∧
    ((enab .brake).diodeLimits 0).2.1 ≤ (up.frame64 - 90000).toNat ∧
    300 * emfOf ((enab .brake).ax 0).com.omega ((enab .brake).par 0x0605 0 * 1000) ^ 2 <
      49 * (((enab .brake).onDie 0 (fun d => { d with vbusAt := 24000 })).vbusOf 0) ^ 2 ∧
    (stepping1 (enab .brake)).stepperAt 0 = true := by decide +kernel
theorem witness_injectionEnds : ((enab .injection 99600 (fun c => { c with convergeRun := 20 })).ax 0).com.convergeRun = 20 ∧
    (up.frame64 - 99600).toNat = 400 ∧ ((enab .injection 99600 (fun c => { c with convergeRun := 19 })).ax 0).com.convergeRun < 20 ∧
    (nextOf (exec (.comInjConverge 0) (enab .injection 99600 (fun c => { c with convergeRun := 19 })))).map (fun t => (t.ax 0).state) = some .disabled := by
  decide +kernel
theorem witness_polarityEnds : (up.frame64 - 99988).toNat = 12 ∧ (pulses 5000 100).par 0x0626 0 = up.par 0x0626 0 ∧
    ((100 : Int) * (1000 + up.par 0x0626 0) < 5000 * 1000) ∧ ((7 : Int) * 1000 ≤ 7 * (1000 + up.par 0x0626 0)) ∧
    ((pulses 7 7 2).ax 0).enabling.map Enabling.attempts = some 2 ∧
    (nextOf (exec (.polarityTestEnd 0) (pulses 7 7 2))).map (fun t => t.isActive 0x0606 0) = some true := by decide +kernel
theorem witness_alignAndEnergise : (up.frame64 - 99600).toNat = 400 ∧
    (nextOf (exec (.dcAlignEnd 0) (enab .align 99600))).map (fun t => ((t.ax 0).state, (t.ax 0).com.aligned)) = some (.standstill, true) ∧
    slotOfStepper 0 = 0 ∧ (nextOf (exec (.stepperEnergise 0) (stepping1 (enab .acquire)))).map (fun t => (t.ax 0).stepper.energised) = some true := by
  decide +kernel
theorem witness_acquisition : ((acquired 0).feedback 0 = 0 ∧ (acquired 0).parN 0x0651 0 ≤ (up.frame64 - 90000).toNat) ∧
    isqrtI (((acquired 1000000).backEmf 0).1 * ((acquired 1000000).backEmf 0).1) ≥ (acquired 1000000).voltageLimit 0 ∧
    ((nextOf (exec (.acquisitionDecision 0) (acquired 1000000))).bind (fun t => (t.ax 0).enabling)).map Enabling.step = some .brake ∧
    ((nextOf (exec (.acquisitionDecision 0) ((acquired 0).onDie 0 (fun d => { d with vbusAt := 24000 })))).bind (fun t => (t.ax 0).enabling)).map Enabling.step =
      some .injection ∧
    (wr (enab .acquire) 0x0600 0 2).feedback 0 = 2 ∧ ((enab .acquire).ax 0).com.aligned = false ∧
    (nextOf (exec (.acquisitionDecision 0) (wr (enab .acquire) 0x0600 0 1))).map (fun t => (t.ax 0).com.source) = some 2 := by decide +kernel

/-! ### Faults of motors and loops -/

def comAt (f : Commutation → Commutation) : State := ax0 (fun x => { x with state := .standstill, com := f x.com }) still
def stpAt (f : Stepper → Stepper) : State := ax0 (fun x => { x with stepper := f x.stepper }) stepping
def loopsAt (f : Loops → Loops) : State := ax0 (fun x => { x with loops := f x.loops }) still

theorem witness_motorFaults : up.parN 0x0662 0 ≤ 100000 ∧ (0 : Nat) < 100000 ∧
    (nextOf (exec (.comLos 0) (comAt (fun c => { c with losRun := 100000 })))).map (fun t => t.isActive 0x0601 0) = some true ∧
    (nextOf (exec (.comPlausibility 0) (comAt (fun c => { c with plausRun := 100000 })))).map (fun t => t.isActive 0x0602 0) = some true ∧
    (nextOf (exec (.comOverspeed 0) (comAt (fun c => { c with overRun := 4 })))).map (fun t => t.isActive 0x0603 0) = some true ∧
    (nextOf (exec (.comHallInvalid 0) (comAt (fun c => { c with hallBad := 100000 })))).map (fun t => t.isActive 0x0604 0) = some true := by decide +kernel
theorem witness_stepperFaults : stepping.stepperAt 0 = true ∧ (stepping.ax 0).demand.v = 0 ∧
    (stpAt (fun x => { x with stillFor := 100000 })).parN 0x0804 0 ≤ 100000 ∧
    (nextOf (exec (.stpCatchFail 0) (enab .brake 90000 id 100 0 stepping))).map (fun t => t.isActive 0x0805 0) = some true ∧
    (nextOf (exec (.stpStall 0) (stpAt (fun x => { x with stallRun := 100000 })))).map (fun t => t.isActive 0x0801 0) = some true ∧
    (nextOf (exec (.stpStallBlind 0) (stpAt (fun x => { x with blindRun := 64 })))).map (fun t => t.isActive 0x0806 0) = some true ∧
    (nextOf (exec (.stpNoRegulation 0) (stpAt (fun x => { x with noTripB := 100000 })))).map (fun t => t.isActive 0x0802 0) = some true ∧
    (nextOf (exec (.stpOpenCoil 0) (stpAt (fun x => { x with openA := 100000 })))).map (fun t => t.isActive 0x0803 0) = some true := by decide +kernel
theorem witness_loopFaults :
    (nextOf (exec (.lpFollowErr 0) (loopsAt (fun x => { x with followRun := 100000 })))).map (fun t => t.isActive 0x0A01 0) = some true ∧
    (nextOf (exec (.lpEnvelopeExceeded 0) (loopsAt (fun x => { x with envRun := 100000 })))).map (fun t => t.isActive 0x0A02 0) = some true ∧
    (nextOf (exec (.lpCurrentLimit 0) (loopsAt (fun x => { x with limitRun := 100000 })))).map (fun t => t.isActive 0x0A03 0) = some true ∧
    ((loopsAt (fun x => { x with rampLeft := 1 })).ax 0).loops.rampLeft ≤ 1 ∧
    (nextOf (exec (.prfEotExceeded 0) (ax0 (fun x => { x with measured := 100000000000 }) (wr (wr still 0x090B 0 1) 0x090A 0 1000)))).map (fun t => t.isActive 0x0902 0) =
      some (wr still 0x090B 0 1 |>.eot 0) := by decide +kernel
def identifying (steps done : Nat) (since : Long := 0) (s : State := up) : State :=
  ax0 (fun x => { x with identify := some { steps := steps, since := since, slot := some 0, seq := 5 }
                         com := { x.com with idDone := done, idHigh := (1000, 1000000), idLow := (500, 0), driveOmega := 854000 } }) s
theorem witness_identify : (inMode .service).admits 0x45 rq 0 = true ∧ up.axisArg 0 = some 0 ∧ up.stepperAt 0 = false ∧ (up.ax 0).state = .disabled ∧ (up.ax 0).identify = none ∧
    (saf .testing).saf.state = .testing ∧ up.saf.state ≠ .testing ∧
    ((nextOf (exec (.motorIdentify rq 0 15) (inMode .service))).bind (fun t => (t.ax 0).identify)).map Identify.steps = some 15 ∧
    (nextOf (exec (.identifyStepDone 0 100000 []) (identifying 15 0))).map (fun t => t.isActive 0x0609 0) = some true ∧
    (nextOf (exec (.identifyStepDone 0 0 []) (identifying 1 0))).map (fun t => ((t.ax 0).com.idDone, (t.ax 0).identify, t.par 0x0710 0)) = some (1, none, 500000) ∧
    (nextOf (exec (.identifyStepDone 0 0 [70000, 70000]) (identifying 6 0 99990))).map (fun t => (t.ax 0).com.idDone) = some 0 := by
  decide +kernel
theorem witness_identify_values : (∀ x ∈ (identifyTargets 0).zip ((identifying 1 0).identifyValues 0 0 []), inRange x.1.2 x.2 = true) ∧
    (∀ x ∈ (identifyTargets 3).zip ((identifying 8 0).identifyValues 0 3 []), inRange x.1.2 x.2 = true) ∧
    (∃ x ∈ (identifyTargets 1).zip ((identifying 6 0).identifyValues 0 1 [-1, 5]), inRange x.1.2 x.2 = false) ∧
    (∀ x ∈ (identifyTargets 2).zip ((identifying 4 0).identifyValues 0 2 [1, 1, 1000]), inRange x.1.2 x.2 = true) ∧
    identifyFrames 0 ≤ (up.frame64 - 0).toNat := by decide +kernel
theorem witness_index : ((comAt (fun c => { c with aligned := true })).ax 0).com.zCount = none ∧
    ((4000 : Word) - 10).toInt.natAbs > up.parN 0x0643 0 ∧ ((10 : Word) - 10).toInt.natAbs ≤ up.parN 0x0643 0 ∧
    (nextOf (exec (.comEncIndex 0 4000) (comAt (fun c => { c with aligned := true, zCount := some 10 })))).map (fun t => t.isActive 0x0605 0) = some true := by
  decide +kernel

/-! ### Captures and groups -/

def armed (e : Byte) : State := ax0 (fun x => { x with latch := some { source := 0x40, edge := e }, measured := 10, measuredBefore := 0 }) still
def grp0 (started : Bool) (f : Group → Group := id) (s : State := still) : State :=
  { s with motion := { s.motion with groups := s.motion.groups.set 0 (some (f { id := 0, members := [0, 2], started := started })) } }
def groupMove (t : Int) : Move := { kind := .group, target := some t, v := 1000, a := 1000, d := 1000, j := 100000, group := some 0 }
def grpQueued (t : Int) : State :=
  grp0 false id ((still.onAx 0 (fun x => { x with queue := [groupMove t] })).onAx 2 (fun x => { x with queue := [groupMove 500] }))

theorem witness_capture :
    ((nextOf (exec (.latchCapture 0 0x40 true 5000) (armed 2))).bind (fun t => (t.ax 0).latchTaken)) = some (5, (armed 2).frame32) ∧
    (nextOf (exec (.latchCapture 0 0x40 false 5000) (armed 0))) = some (armed 0) ∧
    ((homing 1 0 77).ax 0).latch = none ∧ ((still.ax 0).homing = none ∧ (still.ax 0).latch = none) := by decide +kernel
theorem witness_synchronised :
    (((nextOf (exec (.gearSynchronised 0) (ax0 (fun x => { x with gear := some { master := 2, ratio := 65536, offset := 0 } }) still))).bind
      (fun t => (t.ax 0).gear)).map Gear.synced) = some true := by decide +kernel
theorem witness_reversal : ((ax0 (fun x => { x with reversing := true }) still).ax 0).reversing = true ∧ (still.ax 0).planned = none ∧
    ((nextOf (exec (.reversalRequest 0) (ax0 (fun x => { x with reversing := true }) still))).map (fun t => t.isActive 0x0908 0)) = some true := by decide +kernel
def grpAt0 : State := grp0 false (fun g => { g with fixedTime := some 40 }) ((still.onAx 0 (fun x => { x with queue := [groupMove 0] })).onAx 2 (fun x => { x with queue := [groupMove 0] }))

theorem witness_groupStart : (∀ a ∈ [(0 : Fin 16), 2], (grpQueued 1000).memberReady 0 a = true) ∧ ([0, 2] : List (Fin 16)).Nodup ∧
    ((grpQueued 1000).ax 0).queue.head?.map Move.target = some (some 1000) ∧
    (wr (wr (wr (grpQueued 1000) 0x090B 0 1) 0x0909 0 0) 0x090A 0 999).outside 0 1000 = true ∧ (grpQueued 1000).outside 0 1000 = false ∧
    (still.motion.groups[(0 : Fin 8)]) = none := by decide +kernel
theorem witness_groupFrames : (∀ a ∈ [(0 : Fin 16), 2], ∀ m ∈ (grpAt0.ax a).queue.head?.toList,
    grpAt0.outside a 0 = false ∧ duration (grpAt0.ax a).demand 0 (grpAt0.moveLimits a m) ≤ 40) := by decide +kernel
theorem witness_groupStop : ((3 : Nat) ≤ ((ax0 (fun x => { x with reaction := 3 }) (grp0 true)).ax 0).reaction) ∧
    ((nextOf (exec (.prfGroupStop 0 0) (ax0 (fun x => { x with reaction := 3 }) (grp0 true)))).map (fun t => t.isActive 0x0907 2)) = some true ∧
    (field 2 1 ([0, 0, 1] ++ List.replicate 189 0)).testBit 0 = true ∧
    ((nextOf (exec (.ringGroupStop 0) (grp0 true (fun g => { g with ringCoupled := true })
      { still with ring := { still.ring with slots := still.ring.slots.set 1 (some ([0, 0, 1] ++ List.replicate 189 0)) } }))).map
      (fun t => t.motion.groups[(0 : Fin 8)])) = some none := by decide +kernel

/-! ### Template, packets and the data port -/

def learning (f : Template → Template := id) : State := ax0 (fun x => { x with homed := true, template := f x.template }) still
def saving : State := withCfg (fun c => { c with flash := some .templateSave })
def frame0 : SpiFrame := { fell := 1000, headed := 1050, rose := 2000, quad := false, timingOk := true, complete := true, count := 16 }
def portOn : State := { up with hp := { up.hp with pins := { up.hp.pins with fell := 0, rose := 10, readyAt := none } } }
def anOut (push : Bool) : OutPacket := { bytes := List.replicate 20 7, push := push, events := [3] }
def withOut (x : OutPacket) (s : State := portOn) : State := { s with cmd := { s.cmd with out := s.cmd.out.set 0 [x] } }
def withHandle (h : Handle) (s : State := portOn) : State := { s with hp := { s.hp with handles := s.hp.handles.set 0 (some h) } }
def staging : Handle := { owner := 0, space := 1, write := true, base := 8, length := 100, moved := 4 }
def bursting : State := { withHandle staging with hp := { (withHandle staging).hp with pins := { fell := 0, rose := 2000000000, burst := some 0 } } }

theorem witness_template : up.admits 0xC2 rq 0 = true ∧ (inMode .service).admits 0xC4 rq 0 = true ∧ up.axisArg 0 = some 0 ∧
    (learning.ax 0).homed = true ∧ (learning.ax 0).template.frozen = false ∧ (learning.ax 0).template.teach = none ∧
    ((learning (fun x => { x with teach := some (5, 5) })).ax 0).template.teach.isSome = true ∧
    learning.direct 0xC3 rq 0 (.templateFreeze rq 0 1) = true ∧ (1 : Nat) < (2 : Byte).toNat ∧
    (nextOf (exec (.templateLearn rq 0 1 1000) learning)).isSome = true ∧ (up.cfg.flash ≠ some .templateSave) := by decide +kernel
theorem witness_templateSave : saving.cfg.flash = some .templateSave ∧ ({ verified := true } : FlashReport).verified = true ∧
    (nextOf (exec (.templateSaveComplete { verified := false }) saving)).map (fun t => t.isActive 0x0B04 255) = some true := by decide +kernel
theorem witness_packetWrite : (Instr.moveAbs rq 0 1 0 5 ⟨0, 0, 0, 0⟩).wf = true ∧ (opRow 0x30).map OpRow.role = some .control ∧
    portOn.slotOf rq.src = some 0 ∧ (host .control spi).cache.find? (fun y => y.seq = rq.seq) = none ∧ (rq.seq - 1).toNat = 4 ∧
    portOn.power.mode ≠ .dormant ∧ portOn.portUp = true ∧ portOn.rdy 1000 = true ∧ portOn.outqFull = false ∧
    (nextOf (exec (.packetWrite frame0 0 (requestPacket rq 0x30 0 (payloadOf (.moveAbs rq 0 1 0 5 ⟨0, 0, 0, 0⟩)))) portOn)).map
      (fun t => t.cmd.arrivals.length) = some 1 ∧
    { up with power := { up.power with booting := true } }.portUp = false ∧ ([] : List Byte).length < 16 := by decide +kernel
theorem witness_packetRead : (withOut (anOut false)).spiReplies.head? = some (anOut false) ∧ (withOut (anOut true)).spiReplies = [] ∧
    (withOut (anOut true)).spiPushes.head? = some (anOut true) ∧ portOn.cmd.out[(0 : Fin 5)] = [] ∧
    (nextOf (exec (.packetRead frame0) (withOut (anOut false)))).map (fun t => (t.cmd.lastRead.length, t.spiReplies)) = some (20, []) := by decide +kernel
theorem witness_dataHandles : portOn.handle 0 1 = none ∧ portOn.admits 0x60 rq 0 = true ∧ portOn.admits 0x61 rq 0 = true ∧ portOn.admits 0x62 rq 0 = true ∧
    portOn.admits 0x63 rq 0 = true ∧ portOn.spaceSize 1 = some 0x800000 ∧ portOn.cfg.flashRange = none ∧
    (nextOf (exec (.dataOpen rq 1 1 0 4) portOn)).bind (fun t => t.hp.handles[(0 : Fin 8)]) =
      some { owner := 0, space := 1, write := true, base := 0, length := 4 } := by decide +kernel
theorem witness_dataMoves : (withHandle staging).handle 0 1 = some (0, staging) ∧ (withHandle staging).bursting 0 = false ∧ bursting.bursting 0 = true ∧
    (withHandle staging).spaceBad staging staging.at_ 4 = [] ∧ staging.left = 96 ∧ (withHandle staging).slotOf { port := .spi } = some 0 ∧
    crc32c ([1, 0, 0, 0] ++ leBytes 4 2 ++ [5, 6]) ≠ 0 ∧
    (nextOf (exec (.rawWrite frame0 1 2 [5, 6] (crc32c ([1, 0, 0, 0] ++ leBytes 4 2 ++ [5, 6]))) (withHandle staging))).map
      (fun t => t.dramRead (0x6000000 + staging.at_) 2) = some [5, 6] := by decide +kernel

/-! ### Quarry -/

def channel0 : Nat := 0x0001
def block0 (f : QuarryBlock → QuarryBlock := id) : QuarryBlock :=
  f { d := 1, decimation := 0, count := 1, segments := 2, pre := 4, source := 0, kind := 0, item := 0, ringOut := 3, level := 0, hysteresis := 0,
      ringIn := 1, channels := [channel0] }
def record0 (trigger : Option Trigger := none) : Record := { sequence := 1, segment := 0, segmentSize := 4096, armed := 99000, trigger := trigger }
def trig (source : Nat) (frame : Long := 99999) : Trigger := { frame := frame, offset := 0, source := source, item := 0 }
def setup0 : QuarrySetup := up.quarrySizes block0
def quarryIn (st : QuarryState) (cur : Option Record) (f : Quarry → Quarry := id) : State :=
  { up with power := { up.power with quarryInit := false }
            qry := f { up.qry with state := st, setup := some setup0, current := cur, rowsWritten := 1000 } }
def ringWith (b : List Byte) (s : State) : State := { s with ring := { s.ring with slots := s.ring.slots.set 1 (some b) } }

theorem witness_quarrySetup : up.admits 0x70 rq 0 = true ∧ (∀ d ∈ (block0).channels, up.signalOk d = true) ∧ up.signalOk 0xFFFFFFFF = false ∧
    16 ≤ (up.quarrySizes block0).rows ∧ (block0).pre + 4 ≤ (up.quarrySizes block0).rows ∧ up.qry.state ≠ .armed ∧ up.qry.held = [] ∧
    (nextOf (exec (.quarrySetup rq block0) up)).map (fun t => t.qry.setup.isSome) = some true ∧
    (up.quarrySizes (block0 (fun b => { b with pre := 4000000000 }))).rows - 4 < 4000000000 ∧ (quarryIn .armed none).qry.state = .armed := by decide +kernel
theorem witness_quarryArm : up.admits 0x71 rq 0 = true ∧ (quarryIn .idle none).direct 0x71 rq 0 (.quarryArm rq 3) = true ∧
    (quarryIn .idle none).qry.freeSegment setup0 = some 0 ∧ (quarryIn .post (some record0)).qry.state = .post ∧
    (quarryIn .post (some (record0 (some (trig 1))))).qry.current.bind (·.trigger) = some (trig 1) ∧ up.admits 0x72 rq 0 = true ∧
    (nextOf (exec (.quarryArm rq 1) (quarryIn .idle none))).map (fun t => (t.qry.state, t.qry.autoRearm)) = some (.armed, true) ∧
    (nextOf (exec (.quarryArm rq 4) (quarryIn .post (some record0)))).map (fun t => t.qry.state) = some .stopped := by decide +kernel
theorem witness_quarryTrigger :
    (quarryIn .armed (some record0) (fun q => { q with candidates := [trig 1], fillPre := true })).qry.candidates = [trig 1] ∧
    (record0).armed.toNat ≤ (trig 1).frame.toNat ∧ setup0.block.pre ≤ 1000 ∧
    (nextOf (exec .quarryTrigger (quarryIn .armed (some record0) (fun q => { q with candidates := [trig 1] })))).map (fun t => t.qry.state) = some .post ∧
    (field 3 1 (List.replicate 3 (0 : Byte) ++ [1] ++ List.replicate 188 0) &&& setup0.block.ringIn) = 2 ^ 0 ∧
    (nextOf (exec (.ringTrigger 1) (ringWith (List.replicate 3 0 ++ [1] ++ List.replicate 4 0 ++ leBytes 8 100000 ++ List.replicate 176 0)
      (quarryIn .armed (some record0))))).map (fun t => t.qry.state) = some .post ∧
    (quarryIn .post (some record0)).qry.triggerRow + (setup0.rows - setup0.block.pre) ≥ 1000 := by decide +kernel
theorem witness_quarryEnd : (nextOf (exec .quarryRecordEnd (quarryIn .post (some record0) (fun q => { q with rowsWritten := 100000000 })))).map
      (fun t => (t.qry.state, t.qry.held.length)) = some (.stopped, 1) ∧
    (quarryIn .full none).qry.state = .full ∧ (quarryIn .full none).qry.freeSegment setup0 = some 0 ∧
    (quarryIn .full none (fun q => { q with held := [record0, { record0 with segment := 1 }] })).qry.freeSegment setup0 = none ∧
    (nextOf (exec .quarryRearm (quarryIn .full none))).map (fun t => t.qry.state) = some .armed := by decide +kernel

/-! ### Staging, activation and rollback -/

/-- A configuration set without entries, signed by key 7; a store that holds that key; and a state whose staging area holds the set. -/
def setBytes (key : Nat := 7) : List Byte :=
  leBytes 4 1 ++ leBytes 2 0 ++ leBytes 2 0 ++ leBytes 4 5 ++ leBytes 4 0 ++ leBytes 4 128 ++ leBytes 4 0 ++ leBytes 4 0 ++ leBytes 4 0 ++ leBytes 4 key ++
    List.replicate 92 0
def cellsFrom (a : Nat) (bs : List Byte) (hole : Byte) : List (Nat × Byte) := (bs.zipIdx.map (fun x => (a + x.2, x.1))).filter (fun c => c.2 ≠ hole)
def staged (bs : List Byte) (s : State := up) : State := { s with dram := cellsFrom 0x6000000 bs 0 }
def slotIs (k : Fin 8) (x : Slot) (s : State := up) : State :=
  { s with flash := cellsFrom (cfgBase k.val) (setBytes) 0xFF, cfg := { s.cfg with slots := s.cfg.slots.set k x } }
def slotOf' (kind : RecordKind) : Slot := { record := some (kind, 1), version := 5 }
def rolling (f : Machine.Config → Machine.Config := id) : State :=
  withCfg (fun c => f { c with activeSlot := some 2, rollbackPending := true, rollbackBy := some (some 0, 9) }) (slotIs 1 (slotOf' .confirmed) (slotIs 2 (slotOf' .activated)))

theorem witness_staging_flash : up.admits 0x80 rq 0 = true ∧ (inMode .service).admits 0x84 rq 0 = true ∧ (inMode .service).admits 0x92 rq 0 = true ∧
    up.cfg.activeSlot ≠ some 1 ∧ up.cfg.trial = none ∧ up.cfg.flash = none ∧ up.saf.setChecking = none ∧
    ((staged setBytes).stagedBytes 0 128).1 = some setBytes ∧ setFormatOk setBytes = true ∧ headerOk 0 setBytes = false ∧
    up.setStatus [] = some Status.imageInvalid := by decide +kernel
theorem witness_flashOp :
    (nextOf (exec (.flashOpComplete { verified := true }) (withCfg (fun c => { c with flash := some (.configStage 1 [1, 2, 3]), requester := some (0x80, some 0, 9) })))).map
      (fun t => (t.cfg.slots[(1 : Fin 8)].valid, t.flashRead (cfgBase 1) 3)) = some (true, [1, 2, 3]) ∧
    (nextOf (exec (.flashOpComplete { verified := true }) (withCfg (fun c => { c with flash := some (.imageStage 0 1 [1]) })))).map (fun t => t.cfg.flash) = some none ∧
    (withSaf (fun x => { x with setChecking := some (0, some 0, 9) }) (withCfg (fun c => { c with flashRange := some (0, 128) }))).saf.setChecking = some (0, some 0, 9) ∧
    up.saf.setChecking = none ∧ (withCfg (fun c => { c with flash := some .templateSave })).cfg.flash = some .templateSave := by decide +kernel
theorem witness_activate : up.admits 0x81 rq 0 = true ∧ ((slotOf' .staged).activatable) = true ∧ (slotIs 1 (slotOf' .staged)).cfg.slots[(1 : Fin 8)] = slotOf' .staged ∧
    (slotIs 1 (slotOf' .staged)).changesSvc (some 1) = false ∧ (slotIs 1 (slotOf' .staged)).changesSafety 1 = false ∧
    (inMode .service).admits 0x81 rq 0 = true ∧ up.cfg.slots[(3 : Fin 8)].record = none ∧
    (withCfg (fun c => { c with trial := some 1 })).cfg.trial.isSome = true := by decide +kernel
theorem witness_confirmRollback : up.admits 0x82 rq 0 = true ∧ up.admits 0x83 rq 0 = true ∧ (withCfg (fun c => { c with trial := some 1 })).cfg.trial = some 1 ∧
    (up.imageAt 0 (up.bootSlot 0)).confirmed = up.cfg.lane[up.bootSlot 0].confirmed ∧ rolling.cfg.rollbackPending = true ∧ up.cfg.rollbackPending = false ∧
    up.previousSlot = none ∧ (rolling (fun c => { c with rollbackPending := false })).previousSlot = some 1 ∧ rolling.allDisabled = true ∧ rolling.rollsSafetyBack = false ∧
    (withCfg (fun c => { c with trial := some 2, trialEnd := 1000000000 })).cfg.trialEnd ≤ up.tb.tickAt ∧ (inMode .service).admits 0x85 rq 0 = true ∧
    up.stagedSlot 0 = none ∧ (withCfg (fun c => { c with lane := c.lane.set 1 (slotOf' .staged) })).stagedSlot 0 = some 1 := by decide +kernel

/-- The free signature check and the device's free versions decide whether the staged set is accepted. -/
theorem witness_setSigned (h : (staged setBytes).setSigned setBytes = true)
    (c : (staged setBytes).setCompatible setBytes = true) : (staged setBytes).setStatus setBytes = none := by
  have f : setFormatOk setBytes = true := by decide +kernel
  have v : (staged setBytes).setValuesStatus setBytes = none := by decide +kernel
  simp only [State.setStatus, f, h, c, v, Bool.not_true, Bool.false_eq_true, if_false]
theorem witness_setUnsigned (h : (staged setBytes).setSigned setBytes = false) : (staged setBytes).setStatus setBytes = some Status.authFail := by
  have f : setFormatOk setBytes = true := by decide +kernel
  simp only [State.setStatus, f, h, Bool.not_true, Bool.not_false, Bool.false_eq_true, if_false, if_true]

/-! ### The Bolhus link -/

def tickBlock (epoch status sum : Nat) : List Byte :=
  let b : List Byte := leBytes 1 epoch ++ leBytes 1 64 ++ leBytes 1 status ++ leBytes 2 sum
  0x3C :: b ++ crc16Bytes b
def goodSlot (f : List Byte → List Byte := id) : List Byte := f (List.replicate 192 0) ++ crc16Bytes (f (List.replicate 192 0))
def goodBlock (dest flags n : Nat) : List Byte :=
  let b := leBytes 1 dest ++ leBytes 1 2 ++ leBytes 1 flags ++ leBytes 1 n ++ List.replicate 60 7
  b ++ leBytes 4 (crc32c b).toNat
def follower (f : Timebase → Timebase := id) : State := withTb f (withRing (fun r => { r with master := 2 }) joined)
def portIn (st : PortState) (f : RingPort → RingPort := id) (s : State := joined) : State :=
  withRing (fun r => { r with ports := r.ports.set 0 (f { r.ports[0] with state := st }) }) s
def announcing (event : Nat) (frame : Long := 100000) (s : State := joined) : State :=
  withRing (fun r => { r with announced := some { event := event, frame := frame, node := 1, ports := 1 } }) s
def listening (f : Ring → Ring := id) : State := withRing (fun r => f { r with joined := false, addr := 0 }) (wr up 0x0F00 255 1)
def report0 (f : ListenReport → ListenReport := id) : ListenReport :=
  f { running := false, master := 2, epoch := 4, frame := 5000, joined := 2, code := listening.checkCode, residence := 300 }

theorem witness_tickSymbol : (tickBlock 4 0x42 9).length = 8 ∧ crc16Bytes (slice 1 5 (tickBlock 4 0x42 9)) = slice 6 2 (tickBlock 4 0x42 9) ∧
    ([] : List Byte).length ≠ 8 ∧ up.ring.joined = false ∧ joined.isMaster = true ∧ follower.isMaster = false ∧ follower.ring.detached = false ∧
    field 3 1 (tickBlock 4 0x42 9) % 16 = follower.ring.master.toNat ∧ field 1 1 (tickBlock 4 0x42 9) = follower.ring.epoch.toNat ∧
    (field 3 1 (tickBlock 4 0x42 9)).testBit 6 = true ∧ follower.ring.ports[(1 : Fin 2)].pathDelay = 0 ∧
    (withRing (fun r => { r with wrapped := true }) joined).transmits 1 = true := by decide +kernel
theorem witness_slot : (goodSlot).length = 194 ∧ crc16Bytes ((goodSlot).take 192) = (goodSlot).drop 192 :=
  ⟨by decide +kernel, by rw [goodSlot, id_eq, List.take_left' List.length_replicate, List.drop_left' List.length_replicate]⟩
theorem witness_block : (goodBlock 1 1 60).length = 68 ∧ leBytes 4 (crc32c ((goodBlock 1 1 60).take 64)).toNat = (goodBlock 1 1 60).drop 64 := by
  decide +kernel
theorem witness_blockFields : joined.ring.received[(1 : Fin 8)] = none ∧
    field 0 1 ((goodBlock 1 1 60).take 64) = joined.ownNode ∧ field 0 1 ((goodBlock 3 1 60).take 64) ≠ joined.ownNode ∧
    (field 2 1 ((goodBlock 1 1 60).take 64)).testBit 0 = true ∧
    (withRing (fun r => { r with buffered := Vector.replicate 8 1 }) joined).ring.buffered[(0 : Fin 8)] = 1 := by decide +kernel
theorem witness_holdover : follower.follows = true ∧ follower.tb.phase = none ∧ follower.tb.holdover = false ∧ follower.ring.quiet = false ∧
    (follower (fun t => { t with missed := 8 })).tb.missed = 8 ∧ (follower.rank = 0 ∨ follower.rank = 255) ∧
    (nextOf (exec .tbPhaseAlarm (follower (fun t => { t with alarmRun := 4 })))).map (fun t => t.isActive 0x0105 255) = some true ∧
    (wr (follower (fun t => { t with missed := 8, succeeds := true })) 0x0F01 255 0x21).rank = 1 ∧
    ((follower (fun t => { t with succeeds := true })).succeed).isMaster = true := by decide +kernel
theorem witness_ringPorts : joined.ring.ports[(0 : Fin 2)].state = .inService ∧ (portIn .training).ring.ports[(0 : Fin 2)].state = .training ∧
    (portIn .training (fun p => { p with since := 0 })).devN 0x0F07 ≤ ((portIn .training).frame64 - 0).toNat ∧
    (portIn .training (fun p => { p with echoes := List.replicate 16 600 })).ring.ports[(0 : Fin 2)].echoes.length = 16 ∧ (1000 : Nat) ≤ loopBudget ∧
    (nextOf (exec (.trainingComplete 0 { node := 2, epoch := 4, master := 1, code := joined.checkCode } 0)
      (portIn .training (fun p => { p with echoes := List.replicate 16 600 })))).map (fun t => t.ring.ports[(0 : Fin 2)].state) = some .standby ∧
    (portIn .standby).ring.ports[(0 : Fin 2)].state = .standby ∧ (portIn .down).ring.ports[(0 : Fin 2)].state = .down ∧ joined.ring.epoch = 4 := by decide +kernel
theorem witness_announcements : joined.announcement = none ∧ ((announcing 3).announcement.map (fun x => (x.event, x.frame, x.node, x.ports))) = some (3, 100000, 1, 1) ∧
    joined.ownNode = 1 ∧ (announcing 2 100000 (withRing (fun r => { r with wrapped := true }) (portIn .standby))).ring.wrapped = true ∧
    (nextOf (exec .unwrap (announcing 2 100000 (withRing (fun r => { r with wrapped := true }) (portIn .standby))))).map (fun t => t.ring.ports[(0 : Fin 2)].state) =
      some .inService ∧
    (nextOf (exec .insertionWindowAnnounce (wr joined 0x0F02 255 0x82))).map (fun t => t.ring.announced.isSome) = some true := by decide +kernel
theorem witness_listen : listening.ring.joined = false ∧ listening.dev 0x0F00 ≠ 0 ∧ listening.power.booting = false ∧ listening.everyBayOff = true ∧
    listening.listenOk report0 = true ∧ listening.ring.stepped = false ∧ listening.ring.acquired = none ∧
    (nextOf (exec .join (listening (fun r => { r with acquired := some report0, stepped := true, master := 2 })))).map (fun t => t.ring.joined) = some true ∧
    listening.ring.heardTick = false ∧ (wr listening 0x0F01 255 0x21).rank ≠ 255 ∧
    (nextOf (exec .ringStart (wr listening 0x0F01 255 0x21))).map (fun t => t.isMaster) = some true := by decide +kernel
theorem witness_retrain : joined.admits 0xA2 rq 0 = true ∧ joined.ring.retraining = none ∧ joined.allDisabled = true ∧ still.allDisabled = false ∧
    (withRing (fun r => { r with retraining := some (1, 0, some 0, 9) }) joined).devN 0x0F07 ≤ ((100000 : Long) - 0).toNat ∧
    (nextOf (exec .retrainTimeout (withRing (fun r => { r with retraining := some (1, 0, some 0, 9) }) joined))).map (fun t => t.ring.retraining) = some none := by
  decide +kernel

/-! ### Modes, reset and boot -/

def powered (f : Power → Power) (s : State := up) : State := { s with power := f s.power }
def due (from_ to_ : Mode) (s : State := up) : State := powered (fun p => { p with mode := from_, pending := some to_, dueAt := 100000, requester := some (some 0, 9) }) s

theorem witness_modeSet : up.admits 0xB0 rq 0 = true ∧ modeOf 2 = some .ready ∧ up.lanes.redundancyLost = false ∧ up.allows .ready = true ∧ up.allows .keep = true ∧
    (due .run .ready).power.pending.isSome = true ∧ (inMode .ready).allows .limp = true ∧ (inMode .ready).runBarred = false ∧ up.saf.graceExpired = false ∧
    (withSaf (fun x => { x with graceExpired := true }) (inMode .ready)).saf.graceExpired = true ∧ up.allows .limp = false ∧
    still.allDisabled = false ∧ up.allDisabled = true := by decide +kernel
theorem witness_modeDue : (due .ready .run).runRefusal = none ∧ (due .ready .run).power.dueAt ≤ up.frame64 ∧
    (powered (fun p => { p with dueAt := 100001 }) (due .ready .run)).frame64 < 100001 ∧
    (nextOf (exec .modeTransitionComplete (due .ready .service))).map (fun t => t.power.mode) = some .service ∧
    (nextOf (exec .modeTransitionComplete (due .run .keep))).map (fun t => (t.power.mode, t.power.pending)) = some (.ready, some .keep) := by decide +kernel
theorem witness_descent : up.admits 0xB1 rq 0 = true ∧ up.canonical = true ∧ up.idle = false ∧ (inMode .ready).idle = true ∧ (inMode .ready).targetMode = .ready ∧
    (wr (inMode .ready) 0x1300 255 60000).targetMode = .keep ∧ (powered (fun p => { p with idleFrames := 100000000 })).devN 0x1301 ≤ 100000000 ∧
    (due .ready .dormant).descends .dormant = true ∧ (due .ready .keep).descends .keep = true ∧ (due .ready .keep).power.wakeLatched = false ∧
    (wr (inMode .dormant) 0x1302 255 1).devN 0x1302 = 1 ∧ wakeBit .wakeA = 0 ∧
    (nextOf (exec (.wake .wakeA) (wr (inMode .dormant) 0x1302 255 1))).map (fun t => t.power.mode) = some .ready ∧
    (wr (inMode .keep) 0x1302 255 63).devN 0x1302 = 63 ∧ 2 < wakeBit .di := by decide +kernel
theorem witness_boot : State.reset.power.booting = true ∧ State.reset.power.test = false ∧ up.power.booting = false ∧ up.canonical = true ∧
    (powered (fun p => { p with booting := true, startTries := 2 })).power.startTries = 2 ∧ up.tb.clockLost = false ∧
    ({ up with tb := { up.tb with clockLost := true } } : State).tb.clockLost = true ∧ up.stepperAt 0 = false ∧ up.corrected[memoryIndex .dram] = 0 ∧
    ({ up with corrected := Vector.replicate 4 4294967294 } : State).corrected[memoryIndex .dram] = 4294967294 := by decide +kernel

/-! ### The tick and the lanes -/

def healthy : LaneReport := { complete := true, sramFault := false, coreFault := false, inputCrcOk := true, halted := false, imageOk := true }
def sick : LaneReport := { healthy with coreFault := true }
def same : Comparison := { bays := 0, signatureEqual := true, scanEqual := true }
def lanesIn (f : Lanes → Lanes) (s : State := up) : State := { s with lanes := f s.lanes }

theorem witness_tick : up.tb.running = true ∧ up.power.booting = false ∧ up.tb.started = true ∧ up.ring.stepTo = none ∧ State.reset.tb.running = true ∧
    State.reset.power.booting = true ∧ State.reset.tb.started = false ∧ up.frame32 ≠ 0xFFFFFFFF ∧
    (withTb (fun t => { t with running := false })).tb.running = false := by decide +kernel
theorem witness_slotOfAxis : up.axisExists 0 = true ∧ (wr up 0x0800 255 1).axisExists 1 = false ∧ up.stepperAt 0 = false ∧ (up.ax 0).held = false ∧
    (up.ax 0).loops.running = false ∧ (up.ax 0).identify = none := by decide +kernel
theorem witness_laneDecision : laneUnhealthy healthy = false ∧ laneUnhealthy sick = true ∧ up.lanes.swapping = none ∧ up.lanes.standby = .comparing ∧
    up.laneReport 0 healthy = healthy ∧ up.lanes.activeB = false ∧ laneUnhealthy { healthy with complete := false } = true ∧
    (nextOf (exec (.laneDeadline healthy healthy same 5) up)).map (fun t => t.lanes.row) = some 1 ∧
    (nextOf (exec (.laneDeadline healthy healthy { same with bays := 3 } 5) up)).map (fun t => t.lanes.row) = some 2 ∧
    (nextOf (exec (.laneDeadline sick healthy same 5) up)).map (fun t => t.lanes.row) = some 4 ∧
    (nextOf (exec (.laneDeadline sick sick same 5) up)).map (fun t => t.lanes.row) = some 6 := by decide +kernel
theorem witness_swaps : up.admits 0xC1 rq 0 = true ∧ (inMode .limp).admits 0xC1 rq 0 = true ∧ up.lanes.redundancyLost = false ∧
    (lanesIn (fun l => { l with standby := .copying })).lanes.standby = .copying ∧ (lanesIn (fun l => { l with row := 1 })).swapConditions = true ∧
    (lanesIn (fun l => { l with row := 2 })).swapConditions = false ∧ up.lanes.swapWaiting = none ∧
    (lanesIn (fun l => { l with row := 1, swapNow := some (some 0, 5) })).lanes.swapNow.isSome = true ∧
    (lanesIn (fun l => { l with swapping := some (99984, none) })).lanes.swapping = some (99984, none) ∧ ((100000 : Long) - 99984).toNat = 16 ∧
    up.swapAutomatic = false := by decide +kernel
theorem witness_copies : 2 * up.devN 0x0D01 < (wr up 0x0D11 255 4000000000).devN 0x0D11 ∧ (wr up 0x0D11 255 0).devN 0x0D11 ≤ 2 * up.devN 0x0D01 ∧
    (nextOf (exec (.copyFinalPhase 16) (lanesIn (fun l => { l with standby := .copying })))).map (fun t => t.lanes.finalPhase) = some true ∧
    (nextOf (exec .copyRelease (lanesIn (fun l => { l with standby := .copying, finalPhase := true })))).map (fun t => t.lanes.standby) = some .comparing ∧
    (lanesIn (fun l => { l with standby := .copying, copySince := 0 })).devN 0x0D04 ≤ ((100000 : Long) - 0).toNat ∧
    (nextOf (exec .laneCopyFail (lanesIn (fun l => { l with standby := .copying, copySince := 0 })))).map (fun t => t.isActive 0x0D03 1) = some true := by
  decide +kernel

/-! ### The power stage -/

def chopping (ph : ChopPhase) : State := bay0 (fun b => { b with chopper := { b.chopper with phase := ph, blankTo := 400 } }) (wr up 0x0800 255 1)
def enabled0 (f : Bay → Bay := id) : State := bay0 f (ax0 (fun x => { x with state := .standstill }))
def die0 (f : Die → Die) (s : State := up) : State := s.onDie 0 f
def waiting (w : Long := 100001) (tries : List Long := []) : State := bay0 (fun b => { b with retry := { waitEnd := some w, tries := tries } }) (wr up 0x0409 0 3)
def bootWait (w : Long := 100001) (tries : List Long := []) : State :=
  { up with pwm := { up.pwm with boot := up.pwm.boot.set 0 { waitEnd := some w, tries := tries } } }

theorem witness_carrier : up.tb.clockLost = false ∧ (up.bay 0).period = 10000 ∧ (bay0 (fun b => { b with period := 5000 })).tb.clockLost = false ∧
    ((bay0 (fun b => { b with period := 5000 })).bay 0).period = 5000 ∧ ({ up with tb := { up.tb with clockLost := true } } : State).tb.clockLost = true ∧
    (nextOf (exec (.carrierPeriodStart 3 false) up)).map (fun t => (t.bay 3).startedAt) = some (1000000000 + 1875) := by decide +kernel
theorem witness_chop : (chopping .onTime).stepperAt 0 = true ∧ ((chopping .onTime).bay 0).chopper.phase = .onTime ∧
    ((chopping .onTime).bay 0).chopper.blankTo = 400 ∧ ((chopping .offTime).bay 0).chopper.phase = .offTime ∧ up.stepperAt 0 = false ∧
    (nextOf (exec (.chopTrip 0 400) (chopping .onTime))).map (fun t => (t.bay 0).firstTrip) = some (some 400) := by decide +kernel
theorem witness_samples : (enabled0 (fun b => { b with raw0 := some 2000, raw1 := some 5 })).stepperAt 0 = false ∧
    ((enabled0).ax ((enabled0).axisOfBay 0)).state.enabled = true ∧ (up.ax (up.axisOfBay 0)).state.enabled = false ∧
    (enabled0).triggerAt 0 0 = none ∧ ((bay0 (fun b => { b with trigActive := 0x40C84064 })).triggerAt 0 0).isSome = true ∧
    ((enabled0 (fun b => { b with calibrating := true })).bay 0).calibrating = true ∧ (enabled0).bayForced 0 = false ∧
    dieOf 0 = 0 ∧ (die0 (fun d => { d with linkFailedBefore := true })).die 0 = { up.die 0 with linkFailedBefore := true } := by decide +kernel
theorem witness_sampleRuns : (bay0 (fun b => { b with missRun := 100, satRun := 100, peakRun := 100 })).parN 0x0507 0 ≤ 100 ∧ up.parN 0x0506 0 ≤ 100 ∧
    up.parN 0x0509 0 ≤ 100 ∧ (0 : Nat) < up.parN 0x0507 0 ∧ (0 : Nat) < up.parN 0x0506 0 ∧ (wr up 0x0509 0 0).parN 0x0509 0 = 0 ∧
    (wr up 0x0509 0 5).parN 0x0509 0 = 5 := by decide +kernel
theorem witness_trips : (up.bay 0).calibrating = false ∧ (up.hb 0).highPulsed = false ∧ ((up.onHb 0 (fun h => { h with highPulsed := true })).hb 0).highPulsed = true ∧
    (0 : Fin 16) ∈ up.baysWith 0 ∧ (wr up 0x0800 255 1).baysWith 0 = [0, 1] ∧ (up.bay 0).retry.exhausted = false := by decide +kernel
theorem witness_dies : ((die0 (fun d => { d with idleRun := 5, brakeRun := 100000000, shortRun := 5, uvRun := 4 })).die 0).idleRun = 5 ∧
    (up.devN 0x0404 ≤ 100000000) ∧ (0 : Nat) < up.devN 0x0404 ∧ (up.die 0).idleRun < 5 ∧ (up.die 0).uvRun < 4 ∧ up.pwm.mismatchRun < 4 ∧
    (nextOf (exec .gdVbusMismatch { up with pwm := { up.pwm with mismatchRun := 4 } })).map (fun t => t.isActive 0x040D 255) = some true ∧
    (nextOf (exec (.ov2Assert 0) up)).map (fun t => t.lowUsable 0) = some true ∧ (1300 : Int) ≤ 1300 ∧
    ({ still with dbg := { still.dbg with halted := still.dbg.halted.set 0 true } } : State).anyEnabled = true := by decide +kernel
theorem witness_retries : (up.bay 0).retry.waitEnd = none ∧ ((waiting 100002).frame64 + 1 < 100002) ∧ ((waiting).bay 0).retry.waitEnd = some 100001 ∧
    ((waiting).recentTries ((waiting).bay 0).retry).length < (waiting).parN 0x0409 0 ∧
    (waiting).parN 0x0409 0 ≤ ((waiting 100001 (List.replicate 30 99999)).recentTries ((waiting 100001 (List.replicate 30 99999)).bay 0).retry).length ∧
    (bootWait).pwm.boot[(0 : Fin 48)].waitEnd = some 100001 ∧ ((bootWait).recentTries (bootWait).pwm.boot[(0 : Fin 48)]).length < (bootWait).parN 0x040B 0 ∧
    (bootWait).parN 0x040B 0 ≤ ((bootWait 100001 (List.replicate 30 99999)).recentTries (bootWait 100001 (List.replicate 30 99999)).pwm.boot[(0 : Fin 48)]).length := by
  decide +kernel

/-! ### Field I/O, CAN and the debug port -/

def counting (f : Counter → Counter) : State := { up with fio := { up.fio with counters := up.fio.counters.set 0 (f up.fio.counters[(0 : Fin 8)]) } }
def fieldIo (f : FieldIo → FieldIo) (s : State := up) : State := { s with fio := f s.fio }
def canOn (f : Can → Can := id) (s : State := up) : State := { s with can := s.can.set 0 (f { s.can[(0 : Fin 2)] with state := .active }) }
def filtered (action : Nat) : State := wr (wr (wr (canOn) 0x1114 0 5) 0x1115 0 0x7FF) 0x1116 0 (action + 8)
def entry0 (d : List Byte) : CanEntry := { frame := ⟨5, false, false, false, d⟩, host := 1, time := 44 }
def packet0 (frames : Nat := 0) : CanPacket := { host := 1, length := 20, bytes := [1, 2], index := 1, frames := frames }
def tx0 : CanTx := { host := 2, ident := 77, segments := [[1, 2], [3]], events := [], fd := false }
def unlockedDbg (scope : Nat) (f : Debug → Debug := id) : State := State.raise { up with dbg := f { up.dbg with scope := scope } } 0x0002 255

theorem witness_inputs : up.fio.levels.getLsb (0 : Fin 32) = false ∧ up.tb.running = true ∧ (true ^^ (BitVec.ofNat 32 (up.devN 0x1001)).getLsb (0 : Fin 32)) = true ∧
    (true ^^ (BitVec.ofNat 32 ((wr up 0x1001 255 1).devN 0x1001)).getLsb (0 : Fin 32)) = false ∧
    (counting (fun c => { c with mode := 1, count := 0xFFFFFFFF })).fio.counters[(0 : Fin 8)].mode = 1 ∧ up.fio.counters[(0 : Fin 8)].mode = 0 ∧
    (counting (fun c => { c with mode := 1, gate := 100000, last := some 5 })).parN 0x1005 0 ≤ 100000 ∧
    (nextOf (exec (.freqGateEnd 0 2 400000) (counting (fun c => { c with mode := 1, gate := 100000, last := some 5 })))).map (fun t => t.par 0x1032 0) = some 1000000 := by
  decide +kernel
theorem witness_outputs : up.devN 0x1015 ≤ 40000 ∧ (0 : Nat) < up.devN 0x1015 ∧ (fieldIo (fun f => { f with underVoltage := 1, overVoltage := 1 })).fio.underVoltage.getLsb (0 : Fin 4) = true ∧
    up.fio.groupLatch.getLsb (0 : Fin 4) = false ∧ (fieldIo (fun f => { f with groupLatch := 15, thermalLatch := 15, channelLatch := 15 })).fio.thermalLatch.getLsb (0 : Fin 4) = true ∧
    up.fio.channelLatch.getLsbD 0 = false ∧ (wr up 0x1014 255 15).devN 0x1014 = 15 ∧ up.outputLevel.getLsb (12 : Fin 16) = false ∧
    (fieldIo (fun f => { f with driveSet := 0xF000, driveEnable := 0xF000 })).outputLevel.getLsb (12 : Fin 16) = true := by decide +kernel
theorem witness_canFrames : up.can[(0 : Fin 2)].onBus = false ∧ (canOn).can[(0 : Fin 2)].onBus = true ∧
    ((filtered 1).filters 0).find? (fun f => f.matches_ false (5 % 2 ^ 11)) = some ((filtered 1).filter 0 0) ∧
    ((filtered 1).filter 0 0).stores = true ∧ ((filtered 2).filter 0 0).action = 2 ∧ ((filtered 0).filter 0 0).stores = false ∧
    (∀ f ∈ (filtered 1).filters 0, f.matches_ false (6 % 2 ^ 11) = false) ∧
    (nextOf (exec (.canFrameReceived 0 ⟨5, false, false, false, [1]⟩ 44) (filtered 1))).map (fun t => t.can[(0 : Fin 2)].queue0.length) = some 1 := by decide +kernel
theorem witness_canPackets : (canOn (fun x => { x with queue0 := [entry0 [0x81, 2]] })).can[(0 : Fin 2)].packetOf 1 = none ∧
    field 0 1 ([0x81, 2] : List Byte) / 64 = 2 ∧ field 0 1 ([0x40, 16, 0, 1, 2, 3, 4, 5] : List Byte) = 0x40 ∧
    field 1 2 ([0x40, 16, 0, 1, 2, 3, 4, 5] : List Byte) = 16 ∧ (canOn (fun x => { x with assembling := [packet0 100000] })).canPar 0 0x10 ≤ 100000 ∧
    ((canOn (fun x => { x with assembling := [packet0] })).can[(0 : Fin 2)].packetOf 1) = some packet0 ∧
    ((canOn (fun x => { x with queue0 := [entry0 [0x40, 16, 0, 1, 2, 3, 4, 5]], assembling := List.replicate 4 { packet0 with host := 2 } })).can[(0 : Fin 2)].waits
      (entry0 [0x40, 16, 0, 1, 2, 3, 4, 5])) = true ∧
    (canOn (fun x => { x with tx := x.tx.set 0 (some tx0) })).cmd.out[canQueue 0] = [] ∧
    (nextOf (exec (.canTransmit 0) (canOn (fun x => { x with tx := x.tx.set 0 (some tx0) })))).map (fun t => t.can[(0 : Fin 2)].sent) = some (some (77, [1, 2])) := by decide +kernel
theorem witness_canStates : (wr (wr (canOn (fun x => { x with statusAge := 10 })) 0x1111 255 33) 0x1112 255 10).canPar 0 0x12 = 10 ∧
    (nextOf (exec (.canStatusFrame 0) (wr (wr (canOn (fun x => { x with statusAge := 10 })) 0x1111 255 33) 0x1112 255 10))).map (fun t => t.can[(0 : Fin 2)].status.isSome) =
      some true ∧
    (nextOf (exec (.canErrorPassive 0 128 3) (canOn))).map (fun t => t.can[(0 : Fin 2)].state) = some .passive ∧
    (nextOf (exec (.canBusOff 0) (canOn))).map (fun t => t.can[(0 : Fin 2)].state) = some .busOff ∧
    (nextOf (exec (.canBusOffRecovered 0) (canOn (fun x => { x with state := .busOff, recovering := true })))).map (fun t => t.can[(0 : Fin 2)].state) = some .active := by
  decide +kernel
theorem witness_debug : (inMode .keep).power.mode = .keep ∧ up.dbg.failures < 3 ∧ up.unlocked = false ∧ (unlockedDbg 7).unlocked = true ∧ up.dbg.token = none ∧
    (3 : Nat).testBit 1 = true ∧ (1 : Nat).testBit 1 = false ∧ up.tokenOk [] = false ∧ meetsKeys 0 4 = false ∧
    (nextOf (exec (.coreAccess 0 (.halt 1)) (unlockedDbg 1))).map (fun t => t.dbg.halted) = some #v[false, true, false, false] ∧
    (nextOf (exec .tokenCheckDone { up with dbg := { up.dbg with token := some [] } })).map (fun t => t.dbg.failures) = some 1 := by decide +kernel

/-! ### The manual's worked examples and published check values -/

def ascii9 : List Byte := [0x31, 0x32, 0x33, 0x34, 0x35, 0x36, 0x37, 0x38, 0x39]

/-- The check value that the CRC catalogue gives CRC-32C for "123456789". -/
theorem test_crc32c : crc32c ascii9 = 0xE3069283 := by decide +kernel
/-- The check value of the polynomial 0x1021 from all ones, for "123456789". -/
theorem test_crc16 : crc16 ascii9 = 0x29B1 := by decide +kernel

/-- 00_scope.md, worked example of R6: 32 frames later. -/
theorem test_frameDifference : ((0x00000010 : Word) - 0xFFFFFFF0).toNat = 32 := by decide
/-- 03_command_packets.md, worked example of R73: the 24 bytes under the CRC. -/
theorem test_paramWritePacket : (requestPacket (rq 7) 0x11 0 (payloadOf (.paramWrite (rq 7) ⟨0x0102, 0xFF, 2, 200⟩))).take 24 =
    [0x10, 0x11, 7, 0, 0, 0, 0x0C, 0, 0, 0, 0, 0, 2, 1, 0xFF, 2, 0xC8, 0, 0, 0, 0, 0, 0, 0] := by decide +kernel
theorem test_paramWriteEffect : (nextOf (exec (.paramWrite (rq 7) ⟨0x0102, 0xFF, 2, 200⟩) up)).map (fun t => t.devN 0x0102) = some 200 := by decide +kernel

/-- 05_pwm_generator.md, worked example of R114: U is clamped to 9,880; V keeps its shift of 1,800. -/
def example5 : State := wr (wr up 0x0301 5 500) 0x0302 5 100
theorem test_clampedDuty : example5.checkEntry 5 10000 (entryWord 0 10200 0) = some (entryWord 0 9880 0, true) := by decide +kernel
theorem test_keptShift : example5.checkEntry 5 10000 (entryWord 0 3000 1800) = some (entryWord 0 3000 1800, false) := by decide +kernel

/-- 07_sense_array.md, worked example of R157: 640 codes at gain 10 and 5 mΩ are 7,812 mA. -/
theorem test_sampleCurrent : (wr (wr up 0x0500 3 1) 0x0501 3 5000).microamps 3 640 / 1000 = 7812 := by decide +kernel
/-- 08_commutation_engine.md, worked example of R177: v_α and v_β, and the phase voltages. -/
theorem test_unpark : unpark 5000 0 1820 = (4924, 868) := by decide +kernel
theorem test_phases : phases 4924 868 = { u := 4924, v := -1710, w := -3214 } := by decide +kernel
/-- 09_stepper_engine.md, worked example of R219: the two amplitudes, and the back-EMF of two coils. -/
theorem test_coilSine : (coilSine 96, coilSine 352) = (36409, 54490) := by decide +kernel
theorem test_coilEmf : isqrtI (30680521 + 13704804) = 6662 := by decide +kernel
/-- 11_loop_engine.md, worked example of R270: the speed of the nose. -/
theorem test_noseSpeed : isqrtI 525000000 = 22912 := by decide +kernel

/-- 17_field_io_and_can.md, worked example of R398: 1,233,997 mHz. -/
theorem test_frequency : (nextOf (exec (.freqGateEnd 0 1 162075) (counting (fun c => { c with mode := 1, gate := 20, last := some 5 })))).map
    (fun t => t.par 0x1032 0) = some 1233997 := by decide +kernel
/-- Worked example of R419: a packet of 120 bytes is a FIRST and a NEXT of 64 bytes in CAN FD, and 18 segments in classical CAN. -/
theorem test_fdSegments : (segmentsOf true (List.replicate 120 7)).map List.length = [64, 64] := by decide +kernel
theorem test_classicSegments : (segmentsOf false (List.replicate 120 7)).length = 18 ∧ (segmentsOf false (List.replicate 120 7)).getLast?.map List.length = some 4 := by
  decide +kernel

/-- 18_quarry_acquisition.md, worked example of R426: the row, the segment and the rows of it. -/
def channels18 : List Nat := (List.range 4).flatMap (fun a => [0x00010001 + 256 * a, 5 + 256 * a, 11 + 256 * a]) ++ [0x00010040]
def example18 : QuarrySetup := (wr up 0x1200 255 96).quarrySizes (block0 (fun b => { b with segments := 48, channels := channels18 }))
theorem test_quarrySizes : (example18.rowSize, example18.segmentSize, example18.rows) = (48, 2097152, 43686) := by decide +kernel
/-- 19_modes_startup_power.md, worked example of R449: 100,000 µs names Keep. -/
theorem test_latency : (nextOf (exec (.latencySet rq 100000) up)).map State.targetMode = some .keep := by decide +kernel
/-- Every axis that AXIS_ENABLE starts waits for its calibration (Table 8.5). -/
theorem test_enableBegins : ((nextOf (exec (.axisEnable rq 0) (wr up 0x0405 255 0))).bind (fun t => (t.ax 0).enabling)).map Enabling.step = some .calibrate := by
  decide +kernel
/-- The step takes the command at the front of the queue, and an empty queue idles. -/
theorem test_stepTakesFront : (nextOf (step { up with pending := [.holdover, .join] })).map State.pending = some [.join] := by decide +kernel
theorem test_stepIdles : nextOf (step up) = some up := by decide +kernel

/-! ### Further clauses of the statements -/

def testing : State := saf .testing
def inTestAt (n : Nat) (f : Safety → Safety := id) : State := saf .testing (fun x => f { x with testStep := n })
def lockedByTest : State := { (saf .locked (fun x => { x with hs := false, ls := false })) with faults := ((up.raise 0x0C06 255).faults) }
def islandLost (sets : Vector (Option (Nat × List Byte)) 2 := Vector.replicate 2 none) : State :=
  withCfg (fun c => { c with safetySets := sets }) (saf .boot (fun x => { x with supplyLost := true, hs := false, ls := false, a := false, b := false }))

theorem witness_testingIsBusy : testing.direct 0x40 rq 0 (.axisEnable rq 0) = true ∧ testing.saf.word = .testing ∧
    testing.ring.joined = false ∧ (withSaf (fun x => { x with word := .runPermitted }) testing).saf.state = .testing ∧
    testing.admits 0x42 rq 0 = true ∧ testing.axesArg 0 = some [0] ∧ [(0 : Fin 16)].all (fun a => (testing.ax a).state = .shorted) = false ∧
    ((nextOf (exec (.axisShortBrake rq 0) testing)).map (fun t => (t.ax 0).state)) = some .disabled := by decide +kernel
theorem witness_released : ((ax0 (fun x => { x with gear := some { master := 2, ratio := 65536, offset := 0 } }) still).ax 0).gear.isSome = true ∧
    ((nextOf (exec (.axisDisable rq 2) (ax0 (fun x => { x with gear := some { master := 2, ratio := 65536, offset := 0 } }) still))).map
      (fun t => ((t.ax 0).gear, (t.ax 0).releasedAt))) = some (none, some 100000) ∧
    (stepping.axisArg 0x80 = some 0 ∧ (stepping.ax 0).follow = none ∧ ((stepping.axisChecks 0).take 2).all (fun c => !c.1) = true) ∧
    stepping.direct 0x39 rq 0 (.stepFollow rq 0x80 3 0 5) = true ∧
    (nextOf (exec (.stepFollow rq 0x80 3 0 5) stepping)).map (fun t => (t.ax 0).follow.isSome) = some true ∧
    ((nextOf (exec (.stepFollow rq 0x80 3 0 5) stepping)).bind (fun t => nextOf (exec (.stepFollow rq 0x80 3 2 5) t))).map
      (fun t => ((t.ax 0).follow, (t.ax 0).stop)) = some (none, some .profile) := by decide +kernel
theorem witness_uncoupledGroup : (grp0 true).motion.groups[(0 : Fin 8)].map Group.ringCoupled = some false ∧
    nextOf (exec (.ringGroupStop 0) (grp0 true)) = some (grp0 true) := by decide +kernel
theorem witness_island : islandLost.saf.supplyLost = true ∧ islandLost.activeSafety = none ∧ islandLost.vgdPresent = true ∧
    (nextOf (exec (.islandSupplyRestored true) islandLost)).map (fun t => (t.saf.state, t.saf.ls, t.saf.hs, t.saf.testStep)) = some (.boot, true, true, 0) ∧
    (nextOf (exec (.islandSupplyRestored false) islandLost)).map (fun t => t.saf.state) = some .locked ∧
    (islandLost #v[some (1, [1, 2]), none]).activeSafety = some (0, 1, [1, 2]) ∧ (islandLost.safetySetStatus [1, 2]).isSome = true ∧
    (nextOf (exec (.islandSupplyRestored true) (islandLost #v[some (1, [1, 2]), none]))).map (fun t => (t.saf.state, t.isActive 0x0C11 255)) = some (.locked, true) := by
  decide +kernel
theorem witness_switchTest : (inTestAt 0).inTest = true ∧
    (nextOf (exec (.switchTestStep 9000 9500 true) (inTestAt 0))).map (fun t => (t.saf.testStep, t.saf.ls)) = some (1, false) ∧
    (nextOf (exec (.switchTestStep 5000 0 true) (inTestAt 1))).map (fun t => (t.saf.testStep, t.saf.ls)) = some (3, true) ∧
    (nextOf (exec (.switchTestStep 9000 9000 true) (inTestAt 3))).map (fun t => (t.saf.testStep, t.saf.hs)) = some (5, false) ∧
    (nextOf (exec (.switchTestStep 9000 9000 true) (inTestAt 3 (fun x => { x with a := false })))).map (fun t => (t.saf.state, t.torqueOff)) = some (.sto, true) ∧
    (nextOf (exec (.switchTestStep 100 5000 true) (inTestAt 5 (fun x => { x with hs := false })))).map (fun t => (t.saf.testStep, t.saf.hs)) = some (7, true) ∧
    (nextOf (exec (.switchTestStep 9000 9000 true) (inTestAt 7))).map (fun t => (t.saf.state, t.dev 0x0C33)) = some (.runPermitted, 0) ∧
    (nextOf (exec (.switchTestStep 9000 5001 false) (inTestAt 7))).map (fun t => t.saf.state) = some .locked ∧
    (inTestAt 7).canonical = true ∧ (nextOf (exec (.switchTestStep 9000 9000 true) { inTestAt 7 with faults := (up.raise 0x0C04 255).faults })).map
      (fun t => t.saf.state) = some .locked := by decide +kernel
theorem witness_lockedTest : lockedByTest.admits 0xC0 rq 0 = true ∧ lockedByTest.isActive 0x0C06 255 = true ∧
    (∀ a ∈ lockedByTest.presentAxes, (lockedByTest.ax a).state = .disabled ∨ (lockedByTest.ax a).state = .sto) ∧
    (∀ f ∈ lockedByTest.faults, f.code / 256 = 0x0C → f.rank = 7 → f.code = 0x0C06) ∧
    (nextOf (exec (.diagSelftest rq 1) lockedByTest)).map (fun t => t.saf.state) = some .testing := by decide +kernel
theorem witness_heartbeat : (withSaf (fun x => { x with stoReqAt := some 99980, hs := false })).saf.stoReqAt = some 99980 ∧
    (nextOf (exec (.heartbeat ⟨true, 1, ⟨true, true⟩, true⟩) (withSaf (fun x => { x with stoReqAt := some 99980, hs := false })))).map
      (fun t => (t.saf.hs, t.saf.stoReqAt)) = some (true, none) ∧
    (nextOf (exec (.heartbeat ⟨true, 1, ⟨true, true⟩, true⟩) (withSaf (fun x => { x with stoReqAt := some 99981, hs := false })))).map
      (fun t => (t.saf.hs, t.saf.stoReqAt)) = some (false, some 99981) ∧
    (nextOf (exec (.railPresent 9000 9000) (saf .sto (fun x => { x with releasing := true, stoReqAt := none })))).map (fun t => t.saf.state) = some .runPermitted ∧
    (nextOf (exec (.safeRailAbsent 8999 9000) (saf .sto (fun x => { x with releasing := true })))).map (fun t => t.torqueOff) = some true ∧
    (nextOf (exec (.safeRailAbsent 8999 9000) up)).map (fun t => (t.saf.railA, t.saf.railB, t.isActive 0x0C05 255)) = some (.indeterminate, .present, true) := by
  decide +kernel
def scan0 : ScanReport := { die := 0, crcOk := true, phases := List.replicate 24 0, vbus := 0, time := 5 }
theorem witness_scanInStopOne : (15 : Fin 16) ∈ (saf .ss1).monitored ∧
    (nextOf (exec (.safetyScan scan0) (saf .ss1))).map (fun t => t.saf.state) = some .sto ∧
    (nextOf (exec (.safetyScan scan0) (saf .ss1 (fun x => { x with est := x.est.set 15 { x.est[15] with overLimit := true } })))).map (fun t => t.saf.state) = some .locked ∧
    (nextOf (exec (.safetyScan scan0) (saf .ss1 (fun x => { x with est := x.est.set 15 { x.est[15] with speed := 900000, start := 900000 } })))).map
      (fun t => t.saf.state) = some .ss1 := by
  decide +kernel

/-! #### The ring -/

def nodeSlot (node xy : Nat) : List Byte := List.replicate 18 0 ++ leBytes 1 node ++ leBytes 1 node ++ leBytes 2 0xFFFF ++ leBytes 2 xy ++ List.replicate 168 0
def listenPort (s : State := listening) : State :=
  withRing (fun r => { r with last := r.last.set 1 (nodeSlot 3 700)
                              ports := r.ports.set 0 { r.ports[0] with state := .listen, echoes := List.replicate 15 600 } }) s
def reached (running : Bool := true) : State :=
  withRing (fun r => { r with ports := Vector.replicate 2 { state := .listen, partner := 2, delay := some 300 }, heardPhase := some 12
                              acquired := some (report0 (fun x => { x with running := running })), stepped := true, master := 2, epoch := 4
                              last := r.last.set 1 (List.replicate 8 0 ++ leBytes 8 99999 ++ List.replicate 12 0 ++ leBytes 4 100000 ++ [1] ++ List.replicate 159 0) })
    listening
def lostPort : State := portIn .inService (fun p => { p with lost := true })
def wrappedMaster : State := withRing (fun r => { r with wrapped := true }) joined

theorem witness_tickPaths : (follower).delayOn 1 = some 300 ∧ (follower).ring.ports[(0 : Fin 2)].pathDelay = 0 ∧
    (nextOf (exec (.tickSymbolReceived 1 (tickBlock 4 0x42 9) 0 0 0) (follower))).isSome = true ∧
    (nextOf (exec (.tickSymbolReceived 1 (tickBlock 4 0x51 9) 10 160 0) joined)).map (fun t => (t.ring.wrapped, t.ring.segmentDown, t.ring.ports[(1 : Fin 2)].ticked)) =
      some (true, true, true) ∧
    (nextOf (exec (.tickSymbolReceived 1 (tickBlock 4 0x51 9) 10 160 0) wrappedMaster)).map (fun t => (t.ring.residence, t.ring.ports[(0 : Fin 2)].sent.take 6)) =
      some (160, 0x3C :: slice 1 3 (tickBlock 4 0x51 9) ++ leBytes 2 41) ∧
    (nextOf (exec (.tickSymbolReceived 1 (tickBlock 4 0x42 9) 0 0 0) listening)).map (fun t => t.ring.heardPhase) = some (some (phaseOf 0 (0 + 16 * 9))) := by
  decide +kernel
theorem witness_newEnd : (field 1 1 (goodSlot (fun b => 0 :: 0x80 :: b.drop 2))).testBit 7 = true ∧ (field 1 1 joined.ring.last[(1 : Fin 8)]).testBit 7 = false ∧
    (field 1 1 (goodSlot (fun b => 0 :: 0x01 :: b.drop 2))).testBit 0 = true ∧
    (nextOf (exec (.asyncBlockReceived 0 (goodBlock 3 1 60) 0 0) joined)).map (fun t => t.ring.ports[(1 : Fin 2)].blocks.length) =
      some (if joined.passesOn 0 then 1 else 0) := by decide +kernel
theorem witness_lostPort : lostPort.ring.ports[(0 : Fin 2)].lost = true ∧ lostPort.deliverSlots.ring.ports[(0 : Fin 2)].state = .training ∧
    (nextOf (exec (.ringLinkDown 0) joined)).map (fun t => t.ring.ports[(0 : Fin 2)].lost) = some true := by decide +kernel
theorem witness_listenEcho : listenPort.ring.ports[(0 : Fin 2)].state = .listen ∧ (1 : Fin 8) ≠ listenPort.ring.addr ∧ listenPort.ring.last[(1 : Fin 8)] ≠ [] ∧
    field 22 2 listenPort.ring.last[(1 : Fin 8)] = 700 ∧ 15 ≤ listenPort.ring.ports[(0 : Fin 2)].echoes.length ∧
    (nextOf (exec (.echoExchange 0 680 ⟨2, 5, 0⟩) listenPort)).map (fun t => (t.ring.ports[(0 : Fin 2)].delay, t.ring.ports[(1 : Fin 2)].delay, t.ring.ports[(1 : Fin 2)].partner)) =
      some (some 300, some 399, 3) := by decide +kernel
theorem witness_listenStep : reached.pathKnown (report0 (fun x => { x with running := true })) = true ∧ reached.everyBayOff = true ∧
    (nextOf (exec (.ringListenAcquired (report0 (fun x => { x with running := true }))) (withRing (fun r => { r with stepped := false, stepTo := none }) reached))).map
      (fun t => t.ring.stepTo) = some (some (5001, 12)) ∧
    listening.pathKnown (report0 (fun x => { x with running := true })) = false := by decide +kernel
theorem witness_joinAtWindow : ((reached.announcedBy 2).map (fun a => (a.event, a.frame))) = some (1, 100000) ∧
    field 8 8 reached.ring.last[Fin.ofNat 8 ((2 : Byte).toNat + 7)] + 1 = reached.frame64.toNat ∧
    (nextOf (exec .join reached)).map (fun t => (t.ring.joined, t.ring.wrapped, t.ring.ports[(0 : Fin 2)].state, t.ring.ports[(0 : Fin 2)].partner)) =
      some (true, false, .inService, 2) ∧
    (nextOf (exec .join (reached false))).map (fun t => (t.ring.joined, t.ring.wrapped, t.ring.ports[(0 : Fin 2)].state, t.ring.ports[(0 : Fin 2)].partner)) =
      some (true, true, .training, 0) := by decide +kernel
theorem witness_joinReceived : (nextOf (exec (.joinReceived 0 3 ⟨4, 0⟩) (portIn .standby))).map (fun t => (t.ring.ports[(0 : Fin 2)].state, t.ring.ports[(0 : Fin 2)].partner)) =
      some (.inService, 3) ∧
    (nextOf (exec (.joinReceived 0 3 ⟨5, 0⟩) joined)).map (fun t => t.isActive 0x0F06 255) = some true := by decide +kernel

/-! #### Lanes, clock, memory and dies -/

theorem witness_heldBay : (nextOf (exec (.laneDeadline healthy healthy { same with bays := 1 } 5)
      (up.onHb 0 (fun h => { h with offered := 0x11, shadow := 0x22, active := 0x33 })))).map
        (fun t => (t.pwm.loadHold, (t.hb 0).shadow, ((t.transferBay 0).hb 0).shadow)) = some (1, 0x22, 0x33) ∧
    (nextOf (exec (.laneSwap rq 1) (lanesIn (fun l => { l with swapWaiting := some (some 0, 9) })))).bind
      (fun t => t.log.fresh.getLast?.map (fun e => (e.code, e.detail, e.extra))) = some (0x0280, Status.busy, 9) ∧
    (nextOf (exec (.proofSwap true) (lanesIn (fun l => { l with row := 1, swapNow := some (some 0, 5) }) (inMode .limp)))).map (fun t => t.lanes.activeB) = some false := by
  decide +kernel
theorem witness_clockLoss : (0 : Fin 16) ∈ still.presentAxes ∧ (still.ax 0).state.enabled = true ∧ (still.ax 0).reaction < 5 ∧ still.isActive 0x0101 255 = false ∧
    (nextOf (exec .tbClockLoss still)).map (fun t => ((t.ax 0).state, (t.ax 0).reaction, (t.ax 1).state)) = some (.shorted, 5, .disabled) ∧
    (nextOf (exec .tbClockLoss (still.onHb 0 (fun h => { h with active := 0, release := .untilEnable })))).map (fun t => (t.hb 0).active) = some 0x4000 := by
  decide +kernel
theorem witness_scrub : (nextOf (exec (.scrubRead .laneA 0 2) up)).map (fun t => t.lanes.sramBad) = some #v[true, false] ∧
    ({ State.reset with power := { State.reset.power with test := true } } : State).power.test = true ∧
    (nextOf (exec (.reset ⟨.supervisor, true⟩) up)).map (fun t => (t.power.booting, t.power.test)) = some (true, true) := by decide +kernel
theorem witness_secondPeriod : (nextOf (exec (.carrierPeriodStart 9 true) (up.onBay 9 (fun b => { b with period := 5000, startedAt := 7000, stretch := -3 })))).map
      (fun t => (t.bay 9).startedAt) = some 11997 ∧
    ((identifying 1 0).ax ((identifying 1 0).axisOfBay 0)).identify.isSome = true ∧
    (nextOf (exec (.brakeOff 0) (die0 (fun d => { d with ov1 := true, brakeOn := true, brakeRun := 3, idleRun := 2 })))).map
      (fun t => ((t.die 0).brakeRun, (t.die 0).idleRun, (t.die 0).brakeBroken)) = some (0, 0, true) := by decide +kernel
theorem witness_coreRegisters : (unlockedDbg 1 (fun d => { d with halted := d.halted.set 0 true })).dbg.halted[coreNumber 0 0] = true ∧
    ((nextOf (exec (.coreAccess 0 (.registerWrite 0 7 99)) (unlockedDbg 1 (fun d => { d with halted := d.halted.set 0 true })))).bind
      (fun t => nextOf (exec (.coreAccess 0 (.registerRead 0 7)) t))).map (fun t => t.dbg.dr) = some [99, 0, 0, 0] ∧
    (nextOf (exec (.coreAccess 0 (.resume 1)) (unlockedDbg 1 (fun d => { d with halted := d.halted.set 1 true })))).map (fun t => t.dbg.laneHalted 0) = some false := by
  decide +kernel
theorem witness_setCheck : ((staged setBytes).stagedBytes 0 128).1.isSome = true ∧ (({ up with badDram := [0xC00000] } : State).stagedBytes 0 128).1 = none ∧
    up.setStatus [1, 2] = some Status.imageInvalid ∧ (inMode .service).safetySetStatus [1, 2] = some Status.imageInvalid := by decide +kernel
def withLate : State := { portOn with cmd := { portOn.cmd with out := portOn.cmd.out.set 0 (List.replicate 32 (anOut false)), late := [anOut false] } }
theorem witness_lateReply : withLate.spiReplies.length ≤ 32 ∧ (anOut false).push = false ∧
    (nextOf (exec (.packetRead frame0) withLate)).map (fun t => (t.spiReplies.length, t.cmd.late.length)) = some (32, 0) ∧
    (nextOf (exec (.packetWrite { frame0 with otherType := true } 0 []) portOn)).map (fun t => (t.stuck 0x0E10 255 0, t.cmd.arrivals.length)) = some (true, 0) := by
  decide +kernel

end Sys2Proof.Tests
end

section
/-! PROOF. The statements on the manual's scope: the order of frames (R6) and the class of a write (R9). -/

namespace Sys2Proof.Proofs
open Sys2Proof.Machine

/-! ### Frame order (R6) -/

/-- The difference of two frames on 32 bits, as R6 writes it. -/
theorem toNat_frame_sub (a b : Word) : (a - b).toNat = (a.toNat + (2 ^ 32 - b.toNat)) % 2 ^ 32 := by
  rw [BitVec.toNat_sub, Nat.add_comm]

/-- `later` reads the difference alone: at least 1, and short of the far past. -/
theorem later_iff (a b : Word) : later a b = true ↔ 1 ≤ (a - b).toNat ∧ (a - b).toNat < 2 ^ 31 := by
  simp only [later, Bool.and_eq_true, decide_eq_true_eq, Nat.reducePow]

/-- Settles O6: both orders come down to the difference, and b − a is 2^32 less a − b. -/
theorem frameOrder : Obligations.FrameOrder := by
  intro a b
  have ha := a.isLt
  have hb := b.isLt
  refine ⟨?_, fun hfar => ?_, fun hpast => ?_⟩
  · rw [later_iff, toNat_frame_sub]
    omega
  · rw [Bool.eq_false_iff, ne_eq, later_iff, toNat_frame_sub]
    omega
  · rw [later_iff, toNat_frame_sub]
    omega

/-! ### The class of a write outside Service (R9)

R107 refuses a PARAM_WRITE_MULTI that gives the two bays of a stepper pair different carriers, and the model finds the clash at the
second bay's first entry, on the values that the whole list gives (notes/assumptions/147). Entries can therefore pass
when they are checked alone and clash once an entry behind the SVC entry changes one of the two carriers. -/

/-- A PARAM_WRITE_MULTI of a permitted length that fails at an entry whose refusal raises nothing is answered with that entry's
status and position, and changes nothing else. -/
theorem exec_paramWriteMulti_refused {r : Req} {k : Fin 8} {s : State} {es : List WriteEntry} {status n : Nat}
    (hadm : s.admits 0x13 r k = true) (hlen : ¬(es.length < 1 ∨ 64 < es.length))
    (href : s.entriesRefusal s.pendingView (decide (r.tag ≠ 0)) 0 [] es = some (status, n))
    (hover : ∀ m, s.overrideBlocked es m = s) :
    exec (.paramWriteMulti r es) s =
      .next (s.withReply (replyOf r k 0x13 status (.bytes (leBytes 4 0xFFFFFFFF ++ leBytes 1 n ++ [0, 0, 0])))) := by
  have hrun : s.writeRequest true r (.paramWriteMulti r es) es =
      s.answer r 0x13 status (.bytes (writeFields true 0xFFFFFFFF n)) := by
    simp only [State.writeRequest, if_true, State.request_of_admits hadm, true_and, hlen, if_false, href, hover]
  rw [State.answer_eq_withReply (State.slotOf_of_admits hadm)] at hrun
  exact congrArg Host.Outcome.next hrun

/-- Outside Service no refused write is a blocked PWM.GATE_OVERRIDE (R123). -/
theorem overrideBlocked_outside_service {s : State} (h : s.power.mode ≠ .service) (es : List WriteEntry) (n : Nat) :
    s.overrideBlocked es n = s := by
  unfold State.overrideBlocked
  split
  · rw [if_neg fun ⟨_, _, hmode, _⟩ => h hmode]
  · rfl

/-- A reply tells its status. -/
theorem status_eq_of_withReply_eq {s : State} {r : Req} {k : Fin 8} {code st st' : Nat} {b b' : Body}
    (h : s.withReply (replyOf r k code st b) = s.withReply (replyOf r k code st' b')) :
    BitVec.ofNat 8 st = BitVec.ofNat 8 st' := by
  have hlast : replyOf r k code st b = replyOf r k code st' b' := by
    simpa [State.withReply] using congrArg (fun t => t.cmd.awaiting) h
  exact congrArg Awaiting.status hlast

/-- A direct request of the SPI host. -/
def spiRequest : Req := { src := { port := .spi }, seq := 5, tag := 0, arrived := 0 }

/-- A device in Run whose pair 0 is a stepper pair (STP.PAIR_MASK, 0x0800), with a CONTROL session of the SPI host in slot 0. -/
def stepperPairInRun : State :=
  { State.reset.setPar 0x0800 0xFF 1 with
    power := { State.reset.power with mode := .run, booting := false }
    cmd := { State.reset.cmd with
      sessions := State.reset.cmd.sessions.set 0
        (some { src := { port := .spi }, role := .control, client := 7, keepalive := 20000, lastSeq := 1, refreshed := 0 }) } }

/-- PWM.CARRIER (0x0300) of a bay: 0 is 20 kHz, 1 is 40 kHz. -/
def carrierEntry (bay : Byte) (carrier : Long) : WriteEntry := ⟨0x0300, bay, 10, carrier⟩

/-- TB.SLEW_MAX (0x0100), of class SVC. -/
def slewEntry : WriteEntry := ⟨0x0100, 0xFF, 1, 2⟩

/-- Both bays of pair 0 take the 20 kHz carrier. -/
def equalCarriers : List WriteEntry := [carrierEntry 0 0, carrierEntry 1 0]

/-- The same entries, the SVC entry behind them, and then 40 kHz for bay 0. -/
def laterClash : List WriteEntry := equalCarriers ++ slewEntry :: [carrierEntry 0 1]

theorem stepperPairInRun_mode : stepperPairInRun.power.mode ≠ .service := by decide

theorem stepperPairInRun_admits : stepperPairInRun.admits 0x13 spiRequest 0 = true := by decide +kernel

theorem slewEntry_is_svc : ∃ row, stepperPairInRun.accessible 0x0100 0xFF = some row ∧ row.type.code = 1 ∧ row.access = .rw ∧
    row.commit = .svc :=
  ⟨_, by rfl, by decide⟩

/-- Checked alone, the entries before the SVC entry pass. -/
theorem equalCarriers_pass :
    stepperPairInRun.entriesRefusal stepperPairInRun.pendingView false 0 [] equalCarriers = none := by decide +kernel

/-- In the whole list bay 1's entry, at position 1, clashes with the later value of bay 0. -/
theorem laterClash_refused :
    stepperPairInRun.entriesRefusal stepperPairInRun.pendingView false 0 [] laterClash = some (Status.badParameter, 1) := by
  decide +kernel

/-- Refutes O16: the entries before the SVC entry pass when they are checked alone, but the entry behind it makes the carriers of a
stepper pair clash, so the request is refused with BAD_PARAMETER at position 1 and not with WRONG_MODE at position 2. -/
theorem not_classOutsideService : ¬ Obligations.ClassOutsideService := by
  intro h
  obtain ⟨row, hrow, htype, haccess, hcommit⟩ := slewEntry_is_svc
  have hclaimed := (h spiRequest slewEntry row 0 stepperPairInRun stepperPairInRun_mode hrow htype.symm haccess (.inl hcommit)).2
    equalCarriers [carrierEntry 0 1] stepperPairInRun_admits (by decide) equalCarriers_pass
  have hactual := exec_paramWriteMulti_refused stepperPairInRun_admits (by decide) laterClash_refused
    (overrideBlocked_outside_service stepperPairInRun_mode laterClash)
  have hstatus := status_eq_of_withReply_eq (Host.Outcome.next.inj (hclaimed.symm.trans hactual))
  exact absurd hstatus (by decide)

end Sys2Proof.Proofs
end

section
/-! PROOF. The statement on the keepalive of SESSION_OPEN (R80). -/

namespace Sys2Proof.Proofs
open Sys2Proof.Machine

/-! ### A session opened while the SPI output queue is full (R80, R352)

The statement puts the reply of SESSION_OPEN in the output queue of its host. R352 gives the queue of the SPI host 32 places, and a reply
that becomes ready while all are taken waits outside it, so a session that the SPI host opens then adds nothing to that queue. -/

/-- A reply that becomes ready while the SPI output queue is full enters no output queue (R352). -/
theorem send_out_of_full {s : State} {p : OutPacket} (hport : s.outPort p.host = 0) (hreply : p.push = false)
    (hfull : s.outqFull = true) : (s.send p).cmd.out = s.cmd.out := by
  simp only [State.send, hport, hreply, hfull, Bool.not_false, and_self, if_true]

/-- SESSION_OPEN of an SPI host that holds no session, while nobody holds CONTROL, leaves every output queue as it was when the SPI
queue is full, whatever its answer. -/
theorem exec_sessionOpen_out_of_full {s t : State} {r : Req} {role flags : Byte} {keepalive : Half} {client : Word}
    (hspi : r.src.port = .spi) (hslot : s.slotOf r.src = none) (hcontrol : s.controlSlot = none) (hfull : s.outqFull = true)
    (hexec : exec (.sessionOpen r role flags keepalive client) s = .next t) : t.cmd.out = s.cmd.out := by
  have hport : ∀ u : State, u.outPort r.src = 0 := fun u => by simp only [State.outPort, hspi]
  have hrefused : ∀ status, (s.sendNow r 0x03 status []).cmd.out = s.cmd.out :=
    fun _ => send_out_of_full (hport s) rfl hfull
  obtain rfl : s.openSession (openerBytes r role flags keepalive client) r role flags keepalive client = t :=
    Host.Outcome.next.inj hexec
  simp only [State.openSession, hslot, hcontrol, Option.filter_none]
  split
  · exact hrefused _
  · split
    · exact hrefused _
    · exact send_out_of_full (hport _) rfl hfull

/-- A SESSION_OPEN of the SPI host with the keepalive 199, which R80 refuses. -/
def shortKeepaliveOpen : Instr := .sessionOpen spiRequest 0 0 199 7

/-- A device in Run without sessions whose SPI host has left the replies to 32 refused SESSION_OPENs unread. -/
def unreadRefusals : State :=
  (List.replicate 32 shortKeepaliveOpen).foldl (fun s cmd => ranNext (exec cmd s) s)
    { State.reset with power := { State.reset.power with mode := .run, booting := false } }

theorem unreadRefusals_outqFull : unreadRefusals.outqFull = true := by decide +kernel

theorem unreadRefusals_slotOf : unreadRefusals.slotOf spiRequest.src = none := by decide +kernel

theorem unreadRefusals_controlSlot : unreadRefusals.controlSlot = none := by decide +kernel

theorem unreadRefusals_session : unreadRefusals.session 0 = none := by decide +kernel

/-- Refutes O10: the SPI output queue already holds 32 unread replies, so the reply of the SESSION_OPEN that succeeds waits outside it
(R352) and the queue does not grow by that reply. -/
theorem not_sessionOpenKeepalive : ¬ Obligations.SessionOpenKeepalive := by
  intro h
  obtain ⟨t, hexec, -, -, x, -, -, -, -, -, -, -, hout⟩ :=
    (h spiRequest 0 0 0 7 0 unreadRefusals unreadRefusals_slotOf (by decide) (by decide) rfl (by decide) unreadRefusals_session
      (fun j hj => absurd hj j.not_lt_zero)).1 (.inl rfl)
  have hsame := exec_sessionOpen_out_of_full rfl unreadRefusals_slotOf unreadRefusals_controlSlot unreadRefusals_outqFull hexec
  rw [hsame] at hout
  exact List.cons_ne_nil _ _ (List.self_eq_append_right.mp hout)

end Sys2Proof.Proofs
end

section
/-! PROOF. The statements on the step, the state after reset, and the requests that read or are refused. -/

namespace Sys2Proof.Proofs
open Sys2Proof.Machine

/-! ### The step and the state after reset -/

/-- Settles O1: a step is defined on the front of the queue. -/
theorem stepRunsFrontCommand : Obligations.StepRunsFrontCommand := fun _ _ _ => rfl

/-- Every axis of the reset state is the default axis slot. -/
theorem reset_ax (a : Fin 16) : State.reset.ax a = {} := Vector.getElem_replicate a.isLt

/-- Every half-bridge of the reset state is the default one. -/
theorem reset_hb (h : Fin 48) : State.reset.hb h = {} := Vector.getElem_replicate h.isLt

/-- No session stands in a slot after reset. -/
theorem reset_session (k : Fin 8) : State.reset.session k = none := Vector.getElem_replicate k.isLt

/-- Without a parameter that stands in the list no half-bridge is forced after reset: PWM.GATE_OVERRIDE has its default 0. -/
theorem reset_level (h : Fin 48) : State.reset.level h = .entry := by
  revert h
  decide +kernel

/-- Settles O3: the reset state is the structure of its fields' defaults. -/
theorem resetState : Obligations.ResetState := by
  refine ⟨⟨rfl, rfl, rfl, fun a => ?_, fun h => ⟨?_, reset_level h⟩, by decide +kernel, rfl, rfl, reset_session, rfl, fun i => ?_, rfl, rfl,
    fun _ _ => rfl, rfl⟩, by decide +kernel⟩
  · rw [reset_ax]
    exact ⟨rfl, rfl, rfl⟩
  · rw [reset_hb]
  · exact Vector.getElem_replicate i.isLt

/-! ### Requests that read -/

/-- A request that passes its list of checks is answered, and one that fails is refused: the reply waits, nothing else changes. -/
theorem answer_of_admits {s : State} {code : Nat} {r : Req} {k : Fin 8} (h : s.admits code r k = true) (op status : Nat) (body : Body) :
    s.answer r op status body = s.withReply (replyOf r k op status body) :=
  State.answer_eq_withReply (State.slotOf_of_admits h) op status body

/-- A reading request whose one check passes is answered OK with its body. -/
theorem checked_read_ok {s : State} {code : Nat} {r : Req} {k : Fin 8} {bad : Bool} {status : Nat} {body : Body}
    (h : s.admits code r k = true) (hok : bad = false) :
    s.request code r (fun _ s => s.checked r code [(bad, status)] (fun s => s.answer r code Status.ok body)) =
      s.withReply (replyOf r k code Status.ok body) := by
  subst hok
  rw [State.request_of_admits h, State.checked_pass (by rfl), answer_of_admits h]

/-- A reading request whose one check fails is refused with the check's status. -/
theorem checked_read_refused {s : State} {code : Nat} {r : Req} {k : Fin 8} {bad : Bool} {status : Nat} {body : Body}
    (h : s.admits code r k = true) (hbad : bad = true) :
    s.request code r (fun _ s => s.checked r code [(bad, status)] (fun s => s.answer r code Status.ok body)) =
      s.withReply (replyOf r k code status .bare) := by
  subst hbad
  rw [State.request_of_admits h, State.checked_fail (by rfl), State.refuse, answer_of_admits h]

/-- A status request answers OK with its block. -/
theorem status_read {s : State} {code : Nat} {r : Req} {k : Fin 8} {body : Fin 8 → Body} (h : s.admits code r k = true) :
    s.request code r (fun k s => s.answer r code Status.ok (body k)) = s.withReply (replyOf r k code Status.ok (body k)) := by
  rw [State.request_of_admits h, answer_of_admits h]

/-- PARAM_READ answers the parameter, or refuses one that cannot be read (R69). -/
theorem exec_paramRead {r : Req} {i : Half} {k : Byte} {n : Fin 8} {s : State} (h : s.admits 0x10 r n = true) :
    exec (.paramRead r i k) s = .next (s.withReply (if (s.accessible i.toNat k.toNat).isNone then replyOf r n 0x10 Status.badParameter .bare
      else replyOf r n 0x10 Status.ok (.param i.toNat k.toNat))) := by
  refine congrArg Host.Outcome.next ?_
  rw [State.request_of_admits h, State.refuse, answer_of_admits h, answer_of_admits h]
  split <;> rfl

/-- PARAM_READ_MULTI of 1 to 64 entries answers them, and any other number is out of range (R69). -/
theorem exec_paramReadMulti {r : Req} {es : List (Half × Byte)} {n : Fin 8} {s : State} (h : s.admits 0x12 r n = true) :
    exec (.paramReadMulti r es) s = .next (s.withReply (if es.length < 1 ∨ 64 < es.length then replyOf r n 0x12 Status.outOfRange .bare
      else replyOf r n 0x12 Status.ok (.params es))) := by
  refine congrArg Host.Outcome.next ?_
  rw [State.request_of_admits h, State.refuse, answer_of_admits h, answer_of_admits h]
  split <;> rfl

/-- STATUS_AXES answers the axes of a mask, and refuses a mask that names an absent axis (R78). -/
theorem exec_statusAxes {r : Req} {m : Word} {n : Fin 8} {s : State} (h : s.admits 0x51 r n = true) :
    exec (.statusAxes r m) s = .next (s.withReply (if (s.maskArg m).isNone then replyOf r n 0x51 Status.badParameter .bare
      else replyOf r n 0x51 Status.ok (.axes m))) := by
  refine congrArg Host.Outcome.next ?_
  generalize hbad : (s.maskArg m).isNone = bad
  rw [State.request_of_admits h, hbad]
  cases bad
  · exact answer_of_admits h ..
  · exact answer_of_admits h ..

/-- Settles O8: each reading request is admitted, checked once, and answered. -/
theorem readsAnswerAndChangeNothing : Obligations.ReadsAnswerAndChangeNothing := by
  refine ⟨fun r i k n s h => ⟨fun hread => ?_, fun hread => ?_⟩, fun r es n s h => ⟨fun hlen => ?_, fun hlen => ?_⟩,
    fun r m n s h => ⟨fun hm => ?_, fun hm => ?_⟩, fun r m n s h => ⟨fun hm => ?_, fun hm => ?_⟩,
    fun r f max n s h => ⟨fun hmax => ?_, fun hmax => ?_⟩, fun r n s => ⟨fun h => ?_, fun h => ?_, fun h => ?_, fun h => ?_, fun h => ?_, fun h => ?_⟩⟩
  · rw [exec_paramRead h, if_neg (by simp [Option.isNone_iff_eq_none, Option.ne_none_iff_isSome, hread])]
  · rw [exec_paramRead h, if_pos (by simp [hread])]
  · rw [exec_paramReadMulti h, if_neg (by omega)]
  · rw [exec_paramReadMulti h, if_pos (by omega)]
  · exact congrArg Host.Outcome.next (checked_read_ok h (by simpa using hm))
  · exact congrArg Host.Outcome.next (checked_read_refused h (by simpa using hm))
  · rw [exec_statusAxes h, if_neg (by simp [Option.ne_none_iff_isSome, hm])]
  · rw [exec_statusAxes h, if_pos (by simp [hm])]
  · exact congrArg Host.Outcome.next (checked_read_ok h (by simp; omega))
  · exact congrArg Host.Outcome.next (checked_read_refused h (by simp; omega))
  · exact congrArg Host.Outcome.next (status_read (body := fun k => .txn k r.tag) h)
  · exact congrArg Host.Outcome.next (status_read (body := fun _ => .quarry) h)
  · exact congrArg Host.Outcome.next (status_read (body := fun _ => .safety) h)
  · exact congrArg Host.Outcome.next (status_read (body := fun _ => .ring) h)
  · exact congrArg Host.Outcome.next (status_read (body := fun _ => .topology) h)
  · exact congrArg Host.Outcome.next (status_read (body := fun _ => .modes) h)

/-! ### A device with one session of the SPI host -/

/-- A device in a mode with a session of a role for the SPI host in slot 0. -/
def deviceIn (m : Mode) (role : Role := .control) : State :=
  { State.reset with
    power := { State.reset.power with mode := m, booting := false }
    cmd := { State.reset.cmd with
      sessions := State.reset.cmd.sessions.set 0
        (some { src := { port := .spi }, role := role, client := 7, keepalive := 20000, lastSeq := 1, refreshed := 0 }) } }

/-! ### DATA_OPEN of an observer in Dormant (R57, R354)

Table 3.6 lets an observer send DATA_OPEN, and the model asks for CONTROL where the flags ask for write access. The statement takes the
role from the table's row, so an observer that asks for write access in a mode outside the row is to be answered WRONG_MODE, while the
role is checked first and answered NOT_OWNER. -/

/-- The row of DATA_OPEN in the opcode table. -/
def dataOpenRow : OpRow := ⟨0x60, .observer, .rs, false, .refused, false⟩

/-- DATA_OPEN with write access. -/
def writeOpen : Instr := .dataOpen spiRequest 0 1 0 4

/-- A request that the checks of its row refuse is answered with that status alone. -/
theorem requestRow_refused {s : State} {op : OpRow} {r : Req} {k : Fin 8} {x : Session} {status : Nat} (hs : s.slotOf r.src = some k)
    (hx : s.session k = some x) (ha : s.admission op r x.role = some status) (act : Fin 8 → State → State) :
    s.requestRow op r act = s.withReply (replyOf r k op.code status .bare) := by
  simp only [State.requestRow, hs, hx, ha, State.refuse_eq_withReply hs]

/-- What the model answers an observer. -/
theorem exec_writeOpen : exec writeOpen (deviceIn .dormant .observer) =
    .next ((deviceIn .dormant .observer).withReply (replyOf spiRequest 0 0x60 Status.notOwner .bare)) :=
  congrArg Host.Outcome.next (requestRow_refused (by decide +kernel) (by rfl) (by decide +kernel) _)

/-- Refutes O7: an observer's DATA_OPEN with write access in Dormant is answered NOT_OWNER, where the table's row gives WRONG_MODE. -/
theorem not_refusedRequestsChangeNothing : ¬ Obligations.RefusedRequestsChangeNothing := by
  intro h
  have hclaimed := h.1 writeOpen 0x60 spiRequest dataOpenRow 0 _ Status.wrongMode (deviceIn .dormant .observer) rfl (by decide +kernel)
    (by decide) (by decide +kernel) (by rfl) (by decide +kernel)
  have hstatus := status_eq_of_withReply_eq (Host.Outcome.next.inj (hclaimed.symm.trans exec_writeOpen))
  exact absurd hstatus (by decide)

/-! ### A reply while the SPI output queue is full (R352)

The statement on PING and IDENTIFY puts every reply into the queue of its host at once. -/

/-- Refutes O9: a reply to the SPI host that becomes ready while its queue holds 32 replies waits outside the queue. -/
theorem not_pingAndIdentifyReplyAtOnce : ¬ Obligations.PingAndIdentifyReplyAtOnce := by
  intro h
  obtain ⟨-, -, -, hsend⟩ := h
  obtain ⟨-, hqueue, -⟩ := hsend { bytes := [], host := spiRequest.src } unreadRefusals
  rw [send_out_of_full rfl rfl unreadRefusals_outqFull] at hqueue
  exact List.cons_ne_nil _ _ (List.self_eq_append_right.mp hqueue)

end Sys2Proof.Proofs
end

section
/-! PROOF. The statements on parameters and their writes (R4, R71 to R73, R123). -/

namespace Sys2Proof.Proofs
open Sys2Proof.Machine

/-! ### Reading a parameter after a write (R4) -/

/-- The key of a parameter tells its index and its sub-index, which is a byte. -/
theorem regKey_inj {i k j l : Nat} (hk : k < 256) (hl : l < 256) : regKey j l = regKey i k ↔ j = i ∧ l = k := by
  unfold regKey
  omega

/-- What `canonical` says of the three lists. -/
theorem canonical_iff {s : State} : s.canonical = true ↔
    Sparse.wf regDefault s.regs = true ∧ Memory.wf dramDefault s.dram = true ∧ Memory.wf flashDefault s.flash = true := by
  simp only [State.canonical, Bool.and_eq_true, and_assoc]

/-- Settles O12: a write of one key of the sparse list leaves every other key. -/
theorem writtenParameterReadsBack : Obligations.WrittenParameterReadsBack := by
  intro s i k j l x hs hk hl
  obtain ⟨hregs, -, -⟩ := canonical_iff.mp hs
  simp only [State.par, State.setPar, Sparse.read_write hregs, regKey_inj hk hl]

/-! ### A direct write that passes its checks (R71, R72) -/

/-- The row that a parameter is reached through is the table's. -/
theorem find_of_accessible {s : State} {i k : Nat} {row : ParamRow} (h : s.accessible i k = some row) : ParamTable.find i = some row := by
  simp only [State.accessible] at h
  split at h
  · exact absurd h (by simp)
  · rename_i r hfind
    split at h
    · rw [hfind, h]
    · exact absurd h (by simp)

/-- The checks of R71 on an entry whose parameter has a row, in their order. -/
theorem writeRefusal_of_accessible {s v : State} {staged : Bool} {e : WriteEntry} {row : ParamRow}
    (h : s.accessible e.index.toNat e.sub.toNat = some row) :
    s.writeRefusal v staged e = firstFail [
      (decide (e.type.toNat ≠ row.type.code ∨ row.access = .ro), Status.badParameter),
      (staged && decide (row.commit = .imm), Status.badParameter),
      ((decide (row.commit = .svc ∨ row.commit = .saf) || decide (e.index.toNat = 0x0307)) && !decide (s.power.mode = .service), Status.wrongMode),
      (decide (row.commit = .saf), Status.authFail),
      (staged && decide (row.commit = .svc), Status.badParameter),
      ((row.type.decode e.value).isNone, Status.badParameter),
      (!(match row.access with | .status _ => true | _ => false) && (!row.accepts ((row.type.decode e.value).getD 0) ||
        v.relationBroken e.index.toNat e.sub.toNat ((row.type.decode e.value).getD 0)), Status.outOfRange),
      (badCombination e.index.toNat ((row.type.decode e.value).getD 0), Status.badParameter),
      (s.writeBusy e.index.toNat e.sub.toNat, Status.busy)] := by
  simp only [State.writeRefusal, h] <;> rfl

/-- No check of a list fails when the list passes. -/
theorem passes_of_firstFail_none {l : List (Bool × Nat)} (h : firstFail l = none) : ∀ c ∈ l, c.1 = false := by
  induction l with
  | nil => simp
  | cons c l ih =>
    obtain ⟨bad, status⟩ := c
    cases bad
    · simpa using ih h
    · exact absurd h (by simp)

/-- A write that passes its checks has a row, whose type is the entry's, whose class is not SAF, and which gives the entry's value a
meaning. -/
theorem facts_of_writeRefusal_none {s v : State} {staged : Bool} {e : WriteEntry} (h : s.writeRefusal v staged e = none) :
    ∃ row x, ParamTable.find e.index.toNat = some row ∧ row.commit ≠ .saf ∧ row.type.decode e.value = some x := by
  cases hrow : s.accessible e.index.toNat e.sub.toNat with
  | none => exact absurd h (by simp [State.writeRefusal, hrow])
  | some row =>
    rw [writeRefusal_of_accessible hrow] at h
    have hpass := passes_of_firstFail_none h
    simp only [List.forall_mem_cons] at hpass
    obtain ⟨-, -, -, hsaf, -, hvalue, -⟩ := hpass
    obtain ⟨x, hx⟩ := Option.isSome_iff_exists.mp (Option.isNone_eq_false_iff.mp hvalue)
    exact ⟨row, x, find_of_accessible hrow, of_decide_eq_false hsaf, hx⟩

/-- A value outside the indices whose write acts only stands in the list. -/
theorem takeValue_of_plain {s : State} {i k : Nat} {x : Int}
    (h : ([0x0300, 0x0B18, 0x1004, 0x1021, 0x1201] : List Nat).contains i = false) : s.takeValue i k x = s.setPar i k x := by
  simp only [List.contains_eq_mem, List.mem_cons, List.not_mem_nil, or_false, decide_eq_false_iff_not, not_or] at h
  obtain ⟨h1, h2, h3, h4, h5⟩ := h
  simp only [State.takeValue, h1, h2, h3, h4, h5, if_false]

theorem writeCommit_of_find {e : WriteEntry} {row : ParamRow} (h : ParamTable.find e.index.toNat = some row) : writeCommit e = row.commit := by
  simp only [writeCommit, writeRow, h]

theorem writeValue_of_find {e : WriteEntry} {row : ParamRow} {x : Int} (h : ParamTable.find e.index.toNat = some row)
    (hx : row.type.decode e.value = some x) : writeValue e = x := by
  simp only [writeValue, writeRow, h, hx, Option.getD_some]

/-- An accepted entry of class SVC waits for the end of Service. -/
theorem applyEntry_svc {s : State} {e : WriteEntry} {row : ParamRow} (h : ParamTable.find e.index.toNat = some row)
    (hrw : row.access = .rw) (hsvc : row.commit = .svc) :
    s.applyEntry e = { s with svcPending := s.svcPending ++ [(regKey e.index.toNat e.sub.toNat, writeValue e)] } := by
  simp only [State.applyEntry, writeRow, h, hrw, hsvc]

/-- An accepted entry of another class takes its value. -/
theorem applyEntry_takes {s : State} {e : WriteEntry} {row : ParamRow} (h : ParamTable.find e.index.toNat = some row)
    (hrw : row.access = .rw) (hsvc : row.commit ≠ .svc) :
    s.applyEntry e = s.takeValue e.index.toNat e.sub.toNat (writeValue e) := by
  simp only [State.applyEntry, writeRow, h, hrw]

/-- A meaning that leaves the sessions answers as one that changes nothing. -/
theorem answer_of_sessions {s t : State} {r : Req} {k : Fin 8} (hslot : s.slotOf r.src = some k) (h : t.cmd.sessions = s.cmd.sessions)
    (code status : Nat) (body : Body) : t.answer r code status body = t.withReply (replyOf r k code status body) :=
  State.answer_eq_withReply ((State.slotOf_congr h _).trans hslot) ..

/-- A direct write of one entry that passes its checks and is of no class that waits is answered with its frame, and its
parameter takes the value. -/
theorem writeRequest_taken {s : State} {r : Req} {k : Fin 8} {cmd : Instr} {e : WriteEntry} {row : ParamRow}
    (hdirect : s.direct 0x11 r k cmd = true) (hpass : s.writeRefusal s.pendingView false e = none)
    (hfind : ParamTable.find e.index.toNat = some row) (hrw : row.access = .rw) (hsvc : row.commit ≠ .svc)
    (hnow : ¬(s.power.mode = .dormant ∧ row.commit = .frm))
    (hplain : ([0x0300, 0x0B18, 0x1004, 0x1021, 0x1201] : List Nat).contains e.index.toNat = false) :
    s.writeRequest false r cmd [e] = (s.setPar e.index.toNat e.sub.toNat (writeValue e)).withReply
      (replyOf r k 0x11 Status.ok (.bytes (leBytes 4 s.frame32.toNat))) := by
  have hslot := State.slotOf_of_admits (State.direct_facts hdirect).1
  rw [State.writeRequest_direct hdirect hpass, writeCommit_of_find hfind, if_neg hsvc, if_neg hnow, applyEntry_takes hfind hrw hsvc,
    takeValue_of_plain hplain]
  exact answer_of_sessions hslot (by rfl) ..

/-- A direct write of one SVC entry waits for the end of Service. -/
theorem writeRequest_svc {s : State} {r : Req} {k : Fin 8} {cmd : Instr} {e : WriteEntry} {row : ParamRow}
    (hdirect : s.direct 0x11 r k cmd = true) (hpass : s.writeRefusal s.pendingView false e = none)
    (hfind : ParamTable.find e.index.toNat = some row) (hrw : row.access = .rw) (hsvc : row.commit = .svc) :
    s.writeRequest false r cmd [e] = State.withReply
      { s with svcPending := s.svcPending ++ [(regKey e.index.toNat e.sub.toNat, writeValue e)]
               svcWaiting := s.svcWaiting ++ [(some k, r.seq, 0x11)] }
      (replyOf r k 0x11 Status.pending (.bytes (leBytes 4 0xFFFFFFFF))) := by
  have hslot := State.slotOf_of_admits (State.direct_facts hdirect).1
  rw [State.writeRequest_direct hdirect hpass, writeCommit_of_find hfind, if_pos hsvc, applyEntry_svc hfind hrw hsvc]
  exact answer_of_sessions hslot (by rfl) ..

/-- A direct write of one FRM entry in Dormant waits for the wake. -/
theorem writeRequest_frm_dormant {s : State} {r : Req} {k : Fin 8} {cmd : Instr} {e : WriteEntry} {row : ParamRow}
    (hdirect : s.direct 0x11 r k cmd = true) (hpass : s.writeRefusal s.pendingView false e = none)
    (hfind : ParamTable.find e.index.toNat = some row) (hfrm : row.commit = .frm) (hmode : s.power.mode = .dormant) :
    s.writeRequest false r cmd [e] = State.withReply
      { s with frmPending := s.frmPending ++ [(regKey e.index.toNat e.sub.toNat, writeValue e)]
               frmWaiting := s.frmWaiting ++ [(some k, r.seq, 0x11)] }
      (replyOf r k 0x11 Status.pending (.bytes (leBytes 4 0xFFFFFFFF))) := by
  have hslot := State.slotOf_of_admits (State.direct_facts hdirect).1
  rw [State.writeRequest_direct hdirect hpass, writeCommit_of_find hfind, if_neg (by simp [hfrm]), if_pos ⟨hmode, hfrm⟩]
  exact answer_of_sessions hslot (by rfl) ..

/-- The row of LP.x.BANK. -/
theorem find_bank : ∃ row, ParamTable.find 0x0A0D = some row ∧ row.type = .enum ∧ row.access = .rw ∧ row.commit = .frm :=
  ⟨_, by rfl, rfl, rfl, rfl⟩

/-- The row of PWM.GATE_OVERRIDE. -/
theorem find_override : ∃ row, ParamTable.find 0x0307 = some row ∧ row.type = .u8 ∧ row.access = .rw ∧ row.commit = .imm :=
  ⟨_, by rfl, rfl, rfl, rfl⟩

/-- An unsigned value that passes its checks is the number of its field. -/
theorem writeValue_unsigned {s v : State} {e : WriteEntry} {row : ParamRow} (h : s.writeRefusal v false e = none)
    (hfind : ParamTable.find e.index.toNat = some row) (htype : row.type.signed = false) : writeValue e = e.value.toNat := by
  obtain ⟨row', x, hfind', -, hx⟩ := facts_of_writeRefusal_none h
  obtain rfl : row' = row := Option.some_inj.mp (hfind'.symm.trans hfind)
  rw [writeValue_of_find hfind hx]
  simp only [PType.decode, htype, Bool.false_eq_true, if_false] at hx
  split at hx
  · exact (Option.some_inj.mp hx).symm
  · exact absurd hx (by simp)

/-- Settles O13: each direct write comes down to the one-entry write of its class. -/
theorem directWrites : Obligations.DirectWrites := by
  refine ⟨fun r e row x k s hdirect hpass hfind hrw hx => ⟨fun hsvc hmode hplain => ?_, fun hsvc => ?_, fun hfrm hmode => ?_⟩,
    fun r axis v k s hdirect hpass hmode => ?_, fun r hb v k s hdirect hpass => ?_⟩
  · rw [← writeValue_of_find hfind hx]
    refine congrArg Host.Outcome.next (writeRequest_taken hdirect hpass hfind hrw hsvc (fun ⟨hd, hf⟩ => ?_) hplain)
    exact hmode.elim (fun himm => absurd (himm.symm.trans hf) (by decide)) (fun hm => hm hd)
  · rw [← writeValue_of_find hfind hx]
    exact congrArg Host.Outcome.next (writeRequest_svc hdirect hpass hfind hrw hsvc)
  · rw [← writeValue_of_find hfind hx]
    exact congrArg Host.Outcome.next (writeRequest_frm_dormant hdirect hpass hfind hfrm hmode)
  · obtain ⟨row, hfind, htype, hrw, hcommit⟩ := find_bank
    rw [← writeValue_unsigned (e := ⟨0x0A0D, axis, 10, v⟩) hpass hfind (by rw [htype]; rfl)]
    exact congrArg Host.Outcome.next (writeRequest_taken (e := ⟨0x0A0D, axis, 10, v⟩) hdirect hpass hfind hrw (by simp [hcommit])
      (fun ⟨hd, _⟩ => hmode hd) rfl)
  · obtain ⟨row, hfind, htype, hrw, hcommit⟩ := find_override
    rw [← writeValue_unsigned (e := ⟨0x0307, hb, 1, v⟩) hpass hfind (by rw [htype]; rfl)]
    exact congrArg Host.Outcome.next (writeRequest_taken (e := ⟨0x0307, hb, 1, v⟩) hdirect hpass hfind hrw (by simp [hcommit])
      (fun ⟨_, hf⟩ => absurd (hcommit.symm.trans hf) (by decide)) rfl)

/-! ### PARAM_WRITE_MULTI (R73) -/

/-- No refusal of a list is a blocked PWM.GATE_OVERRIDE when the failing entry is another parameter, or none fails. -/
theorem overrideBlocked_of_other {s : State} {es : List WriteEntry} {n : Nat} (h : ∀ e, es[n]? = some e → e.index ≠ 0x0307) :
    s.overrideBlocked es n = s := by
  unfold State.overrideBlocked
  split
  · rename_i e he
    rw [if_neg fun hblocked => h e he hblocked.1]
  · rfl

/-- A plain entry of a list takes its value in its turn, whatever the state. -/
theorem applyEntries_plain {es : List WriteEntry}
    (h : ∀ e ∈ es, writeCommit e ≠ .svc ∧ (∃ row, ParamTable.find e.index.toNat = some row ∧ row.access = .rw) ∧
      ([0x0300, 0x0B18, 0x1004, 0x1021, 0x1201] : List Nat).contains e.index.toNat = false) (s : State) :
    s.applyEntries es = es.foldl (fun t e => t.setPar e.index.toNat e.sub.toNat (writeValue e)) s := by
  induction es generalizing s with
  | nil => rfl
  | cons e es ih =>
    obtain ⟨hsvc, ⟨row, hfind, hrw⟩, hplain⟩ := h e (by simp)
    have hhead : s.applyEntry e = s.setPar e.index.toNat e.sub.toNat (writeValue e) := by
      rw [applyEntry_takes hfind hrw (writeCommit_of_find hfind ▸ hsvc), takeValue_of_plain hplain]
    have htail := ih (fun e' he' => h e' (by simp [he'])) (s.applyEntry e)
    rw [hhead] at htail
    simpa [State.applyEntries, State.each, hhead] using htail

/-- Writing values leaves the sessions. -/
theorem foldl_setPar_cmd (es : List WriteEntry) (s : State) :
    (es.foldl (fun t e => t.setPar e.index.toNat e.sub.toNat (writeValue e)) s).cmd = s.cmd := by
  induction es generalizing s with
  | nil => rfl
  | cons e es ih => exact ih _

/-- Settles O17: the entries are checked before any is applied, and the list that passes is applied in its order. -/
theorem multipleWrites : Obligations.MultipleWrites := by
  refine fun r es k s => ⟨fun hadm hlen => ?_, fun status n hadm hmin hmax href hother => ?_, fun hdirect hmin hmax hpass hmode hplain => ?_⟩
  · refine congrArg Host.Outcome.next ?_
    simp only [State.writeRequest, if_true, State.request_of_admits hadm, true_and]
    rw [if_pos (by omega), State.refuse_eq_withReply (State.slotOf_of_admits hadm)]
  · refine congrArg Host.Outcome.next ?_
    have hover : s.overrideBlocked es (if status = Status.badParameter ∧ r.tag = 0 then n else es.length) = s := by
      refine overrideBlocked_of_other ?_
      split
      · rename_i hbad
        exact hother.resolve_left (fun hne => hne hbad.1)
      · simp
    simp only [State.writeRequest, if_true, State.request_of_admits hadm, true_and]
    rw [if_neg (by omega)]
    simp only [href, hover]
    exact State.answer_eq_withReply (State.slotOf_of_admits hadm) ..
  · obtain ⟨hadm, htag, hunclaimed⟩ := State.direct_facts hdirect
    have hnosvc : (es.any fun e => decide (writeCommit e = .svc)) = false := by
      simpa using fun e he => (hplain e he).1
    refine congrArg Host.Outcome.next ?_
    simp only [State.writeRequest, if_true, State.request_of_admits hadm, true_and]
    rw [if_neg (by omega)]
    simp only [htag, ne_eq, not_true_eq_false, decide_false, hpass]
    rw [State.stageOr_direct htag (State.claimed_of_unclaimed hunclaimed)]
    simp only [hnosvc, Bool.false_eq_true, if_false, hmode, false_and, applyEntries_plain hplain]
    exact answer_of_sessions (State.slotOf_of_admits hadm) (congrArg Commands.sessions (foldl_setPar_cmd es s)) ..

end Sys2Proof.Proofs
end

section
/-! PROOF. The statement on the checks of a parameter write (R71, R123). -/

namespace Sys2Proof.Proofs
open Sys2Proof.Machine

/-! ### A blocked PWM.GATE_OVERRIDE and the keys of the parameter list (R123)

The statement keeps `par 0x0307 h` for every number `h`, and not for the 48 half-bridges alone. A key of the list is the index times 256
and the sub-index, so sub-index 9 × 256 of PWM.GATE_OVERRIDE is the key of PWM.STATUS (0x0310) of bay 0, whose bit 7 the refusal
sets. -/

/-- The sub-index at which PWM.GATE_OVERRIDE has the key of PWM.STATUS of bay 0. -/
theorem regKey_override_status : regKey 0x0307 (9 * 256) = regKey 0x0310 0 := by decide

/-- A PWM.GATE_OVERRIDE that would turn on both gates of half-bridge 0. -/
def bothGates : Instr := .gateOverride spiRequest 0 7

/-- After reset the word at that key is 0, and the refusal sets its bit 7. -/
theorem statusWord_of_bothGates : (deviceIn .service).par 0x0307 (9 * 256) = 0 ∧
    (ranNext (exec bothGates (deviceIn .service)) (deviceIn .service)).par 0x0307 (9 * 256) = 128 := by
  decide +kernel

/-- Refutes O15: the refusal of a PWM.GATE_OVERRIDE sets a bit of PWM.STATUS, whose key is one of those that the statement keeps. -/
theorem not_writeChecks : ¬ Obligations.WriteChecks := by
  intro h
  obtain ⟨-, -, hoverride⟩ := h spiRequest ⟨0x0307, 0, 1, 7⟩ 0 (deviceIn .service) (by decide +kernel) rfl
  obtain ⟨t, hexec, -, -, hpar⟩ := hoverride 0 (by decide) rfl
  obtain ⟨hbefore, hafter⟩ := statusWord_of_bothGates
  rw [bothGates, hexec] at hafter
  have hkept : t.par 0x0307 (9 * 256) = 0 := (hpar (9 * 256)).trans hbefore
  exact absurd (hafter.symm.trans hkept) (by decide)

end Sys2Proof.Proofs
end

section
/-! PROOF. The statement on the messages of a ring transaction (R99 to R102). -/

namespace Sys2Proof.Proofs
open Sys2Proof.Machine

/-! ### A vote where a local record has the ID of the ring transaction (R101)

The statement wants the vote NONE (2) of a node without a record of the ring transaction. A node that holds a local transaction of the
same client and TAG votes NO (0) instead. -/

/-- The slot of a node whose first Mortar field, at byte 48, is a PREPARE of client 0 and TAG 0. -/
def prepareSlot : List Byte := List.replicate 48 0 ++ [1] ++ List.replicate 63 0

/-- A local OPEN transaction of client 0 and TAG 0. -/
def localRecord : Txn := { slot := 0, tag := 0, client := 0, ring := false, state := .open_, deadline := 100 }

/-- A joined node that holds the local transaction and has received the PREPARE of node 1. -/
def localHolder : State :=
  { State.reset with
    ring := { State.reset.ring with joined := true, received := State.reset.ring.received.set 1 (some prepareSlot) }
    mtr := { State.reset.mtr with txns := [localRecord] } }

/-- The vote that this node publishes. -/
def localHolderVote : Option Nat :=
  (ranNext (exec (.prepareReceived 1 0) localHolder) localHolder).ring.fields.getLast?.map (fun p => field 12 1 p.bytes)

/-- It is NO. -/
theorem localHolderVote_eq : localHolderVote = some 0 := by decide +kernel

/-- Refutes O20: a node that holds a local transaction of the same client and TAG votes NO, where the statement says NONE. -/
theorem not_distributedCommit : ¬ Obligations.DistributedCommit := by
  rintro ⟨-, hprepare, -⟩
  obtain ⟨t, hexec, -, b, hlast, -, -, -, hnone, -⟩ :=
    hprepare 1 0 _ localHolder (by rfl) (by decide +kernel) (by decide +kernel)
  have hvote : field 12 1 b = 2 := hnone (by rfl) (by rfl) (by decide +kernel)
  have hno := localHolderVote_eq
  rw [localHolderVote, hexec, ranNext, hlast, Option.map_some, hvote] at hno
  exact absurd hno (by decide)

end Sys2Proof.Proofs
end

section
/-! PROOF. What the operations on faults, counters and the safety channel leave unchanged and what they set; the statements on the
safety channel (R298 to R322) that rest on them. -/

namespace Sys2Proof.Proofs
open Sys2Proof.Machine

/-! ### Faults and counters -/

theorem raise_saf (s : State) (code inst : Nat) : (s.raise code inst).saf = s.saf := by rw [State.raise_frame]
theorem raise_regs (s : State) (code inst : Nat) : (s.raise code inst).regs = s.regs := by rw [State.raise_frame]
theorem raise_frame64 (s : State) (code inst : Nat) : (s.raise code inst).frame64 = s.frame64 := by rw [State.raise_frame]
theorem raise_power (s : State) (code inst : Nat) : (s.raise code inst).power = s.power := by rw [State.raise_frame]
theorem clearFault_saf (s : State) (code inst : Nat) : (s.clearFault code inst).saf = s.saf := by rw [State.clearFault_frame]
theorem clearFault_regs (s : State) (code inst : Nat) : (s.clearFault code inst).regs = s.regs := by rw [State.clearFault_frame]

/-- The active faults after a fault has been raised: one more, or the same where it was active already or is in no table. -/
theorem raise_faults (s : State) (code inst : Nat) :
    (s.raise code inst).faults = s.faults ∨
    ∃ row, FaultTable.find code = some row ∧
      (s.raise code inst).faults = s.faults ++ [{ code := code, inst := inst, frame := s.frame64, rank := s.rankOf row inst, data := [] }] := by
  simp only [State.raise, State.raiseWith]
  split
  · exact .inl rfl
  · next row hrow =>
    split
    · exact .inl rfl
    · exact .inr ⟨row, hrow, rfl⟩

/-- A fault of the tables is active once raised. -/
theorem isActive_raise {s : State} {code inst : Nat} (h : (FaultTable.find code).isSome = true) :
    (s.raise code inst).isActive code inst = true := by
  obtain ⟨row, hrow⟩ := Option.isSome_iff_exists.mp h
  simp only [State.raise, State.raiseWith, hrow]
  split
  · next hactive => exact hactive
  · simp [State.event, State.isActive]

/-- A fault that is active stays so when another is raised. -/
theorem isActive_raise_of_active {s : State} {code inst : Nat} (c i : Nat) (h : s.isActive code inst = true) :
    (s.raise c i).isActive code inst = true := by
  unfold State.isActive at h ⊢
  rcases raise_faults s c i with hf | ⟨row, -, hf⟩ <;> rw [hf]
  · exact h
  · rw [List.any_append, h, Bool.true_or]

/-- The active faults after one has been cleared: the others. -/
theorem clearFault_faults (s : State) (code inst : Nat) :
    (s.clearFault code inst).faults = s.faults.filter (fun f => !(f.code = code && f.inst = inst)) := by
  simp only [State.clearFault]
  split
  · next hnone =>
    refine (List.filter_eq_self.mpr fun f hf => ?_).symm
    have hother := List.find?_eq_none.mp hnone f hf
    cases hmatch : (decide (f.code = code) && decide (f.inst = inst))
    · rfl
    · exact absurd hmatch hother
  · split <;> rfl

/-- A fault that has been cleared is not active. -/
theorem isActive_clearFault (s : State) (code inst : Nat) : (s.clearFault code inst).isActive code inst = false := by
  rw [State.isActive, clearFault_faults, List.any_filter]
  refine List.any_eq_false.mpr fun f _ => ?_
  cases decide (f.code = code) && decide (f.inst = inst) <;> decide

/-- Counting changes the parameters, and at a saturation the list of saturated counters, the faults and the log. -/
theorem count_frame (s : State) (index sub : Nat) :
    s.count index sub = { s with regs := (s.count index sub).regs, saturated := (s.count index sub).saturated,
                                 faults := (s.count index sub).faults, log := (s.count index sub).log } := by
  simp only [State.count, State.firstSaturation, State.raiseAgain]
  split
  · rfl
  · split
    · rfl
    · split
      · rfl
      · split
        · rfl
        · rw [State.raise_frame]
          rfl

/-- A counter raises no fault but the one of its saturation: every other that was active still is. -/
theorem isActive_count {s : State} {index sub code inst : Nat} (h : s.isActive code inst = true)
    (hcode : (counterSaturation index).2.2 ≠ code) : (s.count index sub).isActive code inst = true := by
  simp only [State.count, State.firstSaturation, State.raiseAgain]
  split
  · exact h
  · split
    · exact h
    · split
      · exact h
      · split
        · exact h
        · refine isActive_raise_of_active _ _ ?_
          obtain ⟨f, hf, hmatch⟩ := List.any_eq_true.mp h
          have hfcode : f.code = code := of_decide_eq_true (Bool.and_eq_true_iff.mp hmatch).1
          refine List.any_eq_true.mpr ⟨f, List.mem_filter.mpr ⟨hf, ?_⟩, hmatch⟩
          simp [hfcode, Ne.symm hcode]

/-! ### The operations of the safety channel -/

/-- The channel in a new state with a cause (Tables 13.2 and 13.9). -/
def moved (x : Safety) (st : SafetyState) (cause : Nat) : Safety :=
  let closed : Bool := st = .runPermitted || st = .ss1 || st = .testing
  { x with state := st, cause := cause, hs := closed && (x.hs || (st ≠ .ss1 && x.plumbCloses)), ls := closed,
           plumbTimer := x.plumbTimer && st = .ss1, releasing := false, acknowledged := false,
           testStep := if st = .testing then x.testStep else 0, bootTest := x.bootTest && st = .boot }

theorem safetyMove_saf (s : State) (st : SafetyState) (cause : Nat) : (s.safetyMove st cause).saf = moved s.saf st cause := by
  simp only [State.safetyMove]
  split <;> rfl

theorem safetyMove_frame (s : State) (st : SafetyState) (cause : Nat) :
    s.safetyMove st cause = { s with saf := (s.safetyMove st cause).saf, log := (s.safetyMove st cause).log } := by
  simp only [State.safetyMove]
  split <;> rfl

theorem safetyMove_faults (s : State) (st : SafetyState) (cause : Nat) : (s.safetyMove st cause).faults = s.faults := by
  rw [safetyMove_frame]

/-- The end of the host's switch test forgets the host's request (R316, R454). -/
theorem endHostTest_frame (s : State) (status : Nat) :
    s.endHostTest status = { s with saf := { s.saf with testByHost := none }, log := (s.endHostTest status).log,
                                    power := (s.endHostTest status).power } := by
  simp only [State.endHostTest]
  split
  · next h => rw [← h]
  · split <;> rfl

theorem endHostTest_saf (s : State) (status : Nat) : (s.endHostTest status).saf = { s.saf with testByHost := none } := by
  rw [endHostTest_frame]

theorem endHostTest_faults (s : State) (status : Nat) : (s.endHostTest status).faults = s.faults := by
  rw [endHostTest_frame]

/-- STO stands in the channel, the faults and the log, and in the request of DIAG_SELFTEST that it ends. -/
theorem enterSto_frame (s : State) (cause : Nat) :
    s.enterSto cause = { s with saf := (s.enterSto cause).saf, faults := (s.enterSto cause).faults, log := (s.enterSto cause).log,
                                power := (s.enterSto cause).power } := by
  simp only [State.enterSto, State.stoActive]
  rw [endHostTest_frame, safetyMove_frame, State.raise_frame]

theorem enterSto_saf (s : State) (cause : Nat) : (s.enterSto cause).saf = { moved s.saf .sto cause with testByHost := none } := by
  rw [State.enterSto, endHostTest_saf, safetyMove_saf, State.stoActive, raise_saf]

/-- STO on demand is reported as SAFE_STO_ACTIVE. -/
theorem isActive_enterSto (s : State) (cause : Nat) : (s.enterSto cause).isActive 0x0C01 255 = true := by
  rw [State.isActive, State.enterSto, endHostTest_faults, safetyMove_faults]
  exact isActive_raise (by decide)

/-- The end of SS1 stands in the channel and the log, and in the request of DIAG_SELFTEST that it ends. -/
theorem endSs1_frame (s : State) :
    s.endSs1 = { s with saf := s.endSs1.saf, log := s.endSs1.log, power := s.endSs1.power } := by
  simp only [State.endSs1]
  rw [endHostTest_frame, safetyMove_frame]

theorem endSs1_saf (s : State) : s.endSs1.saf = { moved s.saf .sto s.saf.cause with testByHost := none } := by
  rw [State.endSs1, endHostTest_saf, safetyMove_saf]

theorem startSs1_frame (s : State) (cause : Nat) :
    s.startSs1 cause = { s with saf := (s.startSs1 cause).saf, faults := (s.startSs1 cause).faults, log := (s.startSs1 cause).log,
                                regs := (s.startSs1 cause).regs, saturated := (s.startSs1 cause).saturated } := by
  have hmove : s.stoActive.safetyMove .ss1 cause = { s with
      saf := (s.stoActive.safetyMove .ss1 cause).saf, faults := (s.stoActive.safetyMove .ss1 cause).faults,
      log := (s.stoActive.safetyMove .ss1 cause).log } := by
    rw [safetyMove_frame, State.stoActive, State.raise_frame]
  have hcount := count_frame ((s.stoActive.safetyMove .ss1 cause).stick 0x0C30 255 14) 0x0C35 255
  simp only [State.startSs1, State.onSaf]
  generalize ((s.stoActive.safetyMove .ss1 cause).stick 0x0C30 255 14).count 0x0C35 255 = v at hcount ⊢
  generalize s.stoActive.safetyMove .ss1 cause = u at hmove hcount
  rw [hcount, State.stick_frame, hmove]

theorem startSs1_saf (s : State) (cause : Nat) :
    (s.startSs1 cause).saf = { moved s.saf .ss1 cause with
      ss1At := s.saf.now, plumbTimer := true, violating := 0, est := s.saf.est.map (fun e => { e with start := e.speed }) } := by
  have h : ∀ u : State, ((u.stick 0x0C30 255 14).count 0x0C35 255).saf = u.saf := fun u => by
    rw [count_frame, State.stick_frame]
  simp only [State.startSs1, State.onSaf, State.stoActive, h, safetyMove_saf, raise_saf]
  rfl

/-- SS1 on demand is reported as SAFE_STO_ACTIVE. -/
theorem isActive_startSs1 (s : State) (cause : Nat) : (s.startSs1 cause).isActive 0x0C01 255 = true := by
  have h : ((s.stoActive.safetyMove .ss1 cause).stick 0x0C30 255 14).isActive 0x0C01 255 = true := by
    rw [State.isActive, State.stick_frame, safetyMove_faults]
    exact isActive_raise (by decide)
  exact isActive_count h (by decide)

/-- A safety fault stands in the channel, the faults and the log, and in the request of DIAG_SELFTEST that it ends. -/
theorem safetyFault_frame (s : State) (code cause : Nat) :
    s.safetyFault code cause = { s with saf := (s.safetyFault code cause).saf, faults := (s.safetyFault code cause).faults,
                                        log := (s.safetyFault code cause).log, power := (s.safetyFault code cause).power } := by
  simp only [State.safetyFault]
  rw [endHostTest_frame]
  split
  · rw [State.raise_frame]
  · rw [safetyMove_frame, State.raise_frame]

theorem safetyFault_saf (s : State) (code cause : Nat) :
    (s.safetyFault code cause).saf = { (if s.saf.state = .locked then s.saf else moved s.saf .locked cause) with testByHost := none } := by
  simp only [State.safetyFault, endHostTest_saf]
  split
  · rw [raise_saf]
  · rw [safetyMove_saf, raise_saf]

theorem safetyFault_state (s : State) (code cause : Nat) : (s.safetyFault code cause).saf.state = .locked := by
  rw [safetyFault_saf]
  split
  · next h => exact h
  · rfl

/-- In LOCKED both switches are open, where they were open in LOCKED before. -/
theorem safetyFault_torqueOff {s : State} (code cause : Nat) (h : s.saf.state = .locked → s.torqueOff = true) :
    (s.safetyFault code cause).torqueOff = true := by
  rw [State.torqueOff, safetyFault_saf]
  split
  · next hlocked => exact h hlocked
  · rfl

theorem isActive_safetyFault {s : State} {code : Nat} (cause : Nat) (h : (FaultTable.find code).isSome = true) :
    (s.safetyFault code cause).isActive code 255 = true := by
  have hraise : (s.raise code 255).isActive code 255 = true := isActive_raise h
  simp only [State.safetyFault]
  rw [State.isActive, endHostTest_faults]
  split
  · exact hraise
  · rw [safetyMove_faults]
    exact hraise

/-! ### Demands (R305, R310 to R312) -/

/-- The state in which the channel has taken the levels of its inputs. -/
def levelsTaken (l : PairAB) (s : State) : State :=
  s.onSaf (fun x => { x with a := l.a, b := l.b, bothLow := x.bothLow || (!l.a && !l.b) })

/-- A demand on the inputs acts by the state of the channel (Table 13.3). -/
theorem exec_siChange_demand {l : PairAB} {s : State} (h : l.a = false ∨ l.b = false) :
    exec (.siChange l) s = .next (match s.saf.state with
      | .runPermitted => if s.dev 0x0C00 = 1 then (levelsTaken l s).startSs1 1 else (levelsTaken l s).enterSto 1
      | .ss1 => if s.dev 0x0C00 = 1 then levelsTaken l s else (levelsTaken l s).enterSto 1
      | .testing => (levelsTaken l s).enterSto 1
      | .sto => (levelsTaken l s).onSaf (fun x => { x with acknowledged := false, releasing := false, hs := false, ls := false })
      | .boot | .locked => levelsTaken l s) := by
  have hlevels : (l.a && l.b) = false := by
    rcases h with h | h <;> simp [h]
  exact congrArg Host.Outcome.next (if_neg (by simp [hlevels]))

theorem exec_siChange_ss1 {l : PairAB} {s : State} (h : l.a = false ∨ l.b = false) (hst : s.saf.state = .runPermitted)
    (hmode : s.dev 0x0C00 = 1) : exec (.siChange l) s = .next ((levelsTaken l s).startSs1 1) := by
  rw [exec_siChange_demand h, hst]
  exact congrArg _ (if_pos hmode)

theorem exec_siChange_sto {l : PairAB} {s : State} (h : l.a = false ∨ l.b = false)
    (hst : s.saf.state = .testing ∨ ((s.saf.state = .runPermitted ∨ s.saf.state = .ss1) ∧ s.dev 0x0C00 ≠ 1)) :
    exec (.siChange l) s = .next ((levelsTaken l s).enterSto 1) := by
  rw [exec_siChange_demand h]
  rcases hst with hst | ⟨hst | hst, hmode⟩ <;> rw [hst]
  · exact congrArg _ (if_neg hmode)
  · exact congrArg _ (if_neg hmode)

/-- SAFETY_STOP_REQUEST of the whole device acts by the state of the channel. -/
theorem exec_safetyStopRequest {r : Req} {k : Fin 8} {s : State} (h : s.admits 0x91 r k = true) :
    exec (.safetyStopRequest r 0) s = .next (match s.saf.state with
      | .runPermitted => (s.startSs1 2).answer r 0x91 Status.ok .bare
      | .testing => (s.enterSto 2).answer r 0x91 Status.ok .bare
      | .boot | .ss1 | .sto | .locked => s.answer r 0x91 Status.alreadyDone .bare) :=
  congrArg Host.Outcome.next ((State.request_of_admits h _).trans (State.checked_pass (by rfl) _))

/-- Settles O32: a demand runs `startSs1` or `enterSto` by the channel's state. -/
theorem safetyDemand : Obligations.SafetyDemand := by
  refine ⟨fun l s => ⟨fun ha hb => ?_, fun h => ⟨fun hst hmode => ?_, fun hst => ?_, fun hst => ?_, fun hst => ?_⟩⟩,
    fun r scope k s h => ⟨fun hscope => ?_, ?_⟩⟩
  · show Host.Outcome.next (if (l.a && l.b) = true then levelsTaken l s else _) = _
    rw [if_pos (by simp [ha, hb]), levelsTaken, State.onSaf]
    simp [ha, hb]
  · refine ⟨_, exec_siChange_ss1 h hst hmode, ?_, ?_⟩
    · rw [startSs1_frame]
      rfl
    · rw [startSs1_saf]
      refine ⟨rfl, rfl, ?_, rfl, rfl, rfl, isActive_startSs1 _ _, fun a => ?_⟩
      · simp [moved, levelsTaken]
      · simp [levelsTaken]
  · refine ⟨_, exec_siChange_sto h hst, ?_, ?_⟩
    · rw [enterSto_frame]
      rfl
    · rw [State.torqueOff, enterSto_saf]
      exact ⟨rfl, rfl, rfl, rfl, rfl, isActive_enterSto _ _⟩
  · rw [exec_siChange_demand h]
    rcases hst with ⟨hst, hmode⟩ | hst | hst <;> rw [hst]
    · exact congrArg _ (if_pos hmode)
    · rfl
    · rfl
  · rw [exec_siChange_demand h, hst]
    rfl
  · refine congrArg Host.Outcome.next ?_
    rw [State.request_of_admits h, State.checked_fail (status := Status.badParameter) (by rw [decide_eq_true hscope]; rfl), State.refuse,
      answer_of_admits h]
  · rintro rfl
    refine ⟨fun hst => ?_, fun hst => ?_, fun hst => ?_⟩ <;> rw [exec_safetyStopRequest h]
    · rw [hst]
      have hslot : (s.startSs1 2).cmd = s.cmd := by rw [startSs1_frame]
      refine ⟨_, rfl, ?_⟩
      rw [answer_of_sessions (State.slotOf_of_admits h) (by rw [hslot])]
      refine ⟨?_, ?_⟩
      · rw [State.withReply, startSs1_frame]
        rfl
      · rw [show ((s.startSs1 2).withReply (replyOf r k 0x91 Status.ok .bare)).saf = (s.startSs1 2).saf from rfl, startSs1_saf]
        exact ⟨rfl, rfl, rfl, isActive_startSs1 s 2⟩
    · rw [hst]
      refine ⟨_, rfl, ?_⟩
      show (s.enterSto 2).saf.state = .sto ∧ (s.enterSto 2).saf.cause = 2 ∧ (s.enterSto 2).torqueOff = true
      rw [State.torqueOff, enterSto_saf]
      exact ⟨rfl, rfl, rfl⟩
    · rcases hst with hst | hst | hst | hst <;> rw [hst]
      all_goals exact congrArg _ (answer_of_admits h ..)

end Sys2Proof.Proofs
end

section
/-! PROOF. The statements on the end of SS1, the faults of the safety channel and the release of torque (R298 to R322). -/

namespace Sys2Proof.Proofs
open Sys2Proof.Machine

/-! ### Scans and the end of SS1 (R309 to R311) -/

theorem phaseCopy_frame (s : State) (scan : ScanReport) : s.phaseCopy scan = { s with regs := (s.phaseCopy scan).regs } := by
  unfold State.phaseCopy State.each
  generalize List.range (min 24 scan.phases.length) = l
  induction l generalizing s with
  | nil => rfl
  | cons i l ih => exact (ih _).trans rfl

/-- The estimate of one axis after a scan (R309). -/
def scanAxis (scan : ScanReport) (s : State) (a : Fin 16) (t : State) : State :=
  let u : Int := (scan.phases.getD (3 * (a.val % 8)) 0 : Int) - scan.phases.getD (3 * (a.val % 8) + 1) 0
  let (free, t) := t.draw
  t.onSaf (fun x => { x with est := upd x.est a (fun e =>
    e.scan scan.time u (s.devN 0x0C05) (s.parN 0x0C11 a.val) free.toNat) })

/-- The estimates after a scan: of the axes scanned alone, each with a free value drawn. -/
theorem scanAxes_frame (scan : ScanReport) (s t : State) (l : List (Fin 16)) :
    t.each l (scanAxis scan s) = { t with saf := { t.saf with est := (t.each l (scanAxis scan s)).saf.est },
                                          free := (t.each l (scanAxis scan s)).free } := by
  unfold State.each
  induction l generalizing t with
  | nil => rfl
  | cons a l ih => exact (ih _).trans rfl

theorem scanAxes_est_of_not_mem {scan : ScanReport} {s t : State} {l : List (Fin 16)} {a : Fin 16} (h : a ∉ l) :
    (t.each l (scanAxis scan s)).saf.est[a] = t.saf.est[a] := by
  unfold State.each
  induction l generalizing t with
  | nil => rfl
  | cons b l ih =>
    exact (ih (List.not_mem_of_not_mem_cons h)).trans (upd_other _ _ (List.ne_of_not_mem_cons h))

/-- The state in which the voltages and estimates of a good scan have been taken. -/
def scanned (scan : ScanReport) (s : State) : State :=
  ((s.phaseCopy scan).onSaf (fun x => { x with
    now := scan.time, scanOk := x.scanOk.set scan.die true, scanVbus := x.scanVbus.set scan.die scan.vbus })).each
    (s.monitored.filter (fun a => dieOf a = scan.die)) (scanAxis scan s)

theorem scanned_frame (scan : ScanReport) (s : State) : scanned scan s = { s with
    saf := { s.saf with now := scan.time, scanOk := s.saf.scanOk.set scan.die true, scanVbus := s.saf.scanVbus.set scan.die scan.vbus,
                        est := (scanned scan s).saf.est }
    regs := (scanned scan s).regs, free := (scanned scan s).free } := by
  unfold scanned
  rw [scanAxes_frame, phaseCopy_frame]
  rfl

theorem scanned_est {scan : ScanReport} {s : State} {a : Fin 16} (h : ¬(a ∈ s.monitored ∧ dieOf a = scan.die)) :
    (scanned scan s).saf.est[a] = s.saf.est[a] := by
  unfold scanned
  rw [scanAxes_est_of_not_mem (by simpa using h), phaseCopy_frame]
  rfl

/-- What a good scan does beyond the estimates: in SS1 a violation locks the channel, and standstill ends SS1 (R310, R311). -/
theorem exec_safetyScan {scan : ScanReport} {s : State} (h : scan.crcOk = true) :
    exec (.safetyScan scan) s = .next (if (scanned scan s).saf.state = .ss1 then
        if !(s.monitored.filter (fun a => (scanned scan s).overLimit a scan.time) = []) then
          ((scanned scan s).safetyFault 0x0C03 3).onSaf (fun x =>
            { x with violating := BitVec.ofNat 16 ((s.monitored.filter (fun a => (scanned scan s).overLimit a scan.time)).foldl
              (fun m a => m ||| 2 ^ a.val) 0) })
        else if s.monitored.all (scanned scan s).standstill then (scanned scan s).endSs1 else scanned scan s
      else scanned scan s) := by
  refine congrArg Host.Outcome.next ((if_neg (by simp [h])).trans ?_)
  rfl

/-- The limit and the standstill of an axis rest on the parameters, the estimates and the start of SS1. -/
theorem overLimit_congr {s t : State} (hregs : t.regs = s.regs) (hest : t.saf.est = s.saf.est) (hss1 : t.saf.ss1At = s.saf.ss1At)
    (a : Fin 16) (now : Nat) : t.overLimit a now = s.overLimit a now := by
  unfold State.overLimit State.devN State.dev State.par
  rw [hregs, hest, hss1]

theorem standstill_congr {s t : State} (hregs : t.regs = s.regs) (hest : t.saf.est = s.saf.est) (a : Fin 16) :
    t.standstill a = s.standstill a := by
  unfold State.standstill State.parN State.par
  rw [hregs, hest]

/-- A safety fault keeps the estimates, the start of SS1 and the time of the last scan. -/
theorem safetyFault_keeps (s : State) (code cause : Nat) : (s.safetyFault code cause).saf.est = s.saf.est ∧
    (s.safetyFault code cause).saf.ss1At = s.saf.ss1At ∧ (s.safetyFault code cause).saf.now = s.saf.now := by
  rw [safetyFault_saf]
  split <;> exact ⟨rfl, rfl, rfl⟩

/-- Settles O33: SS1 ends through `endSs1`, and a violation found by a scan is a safety fault. -/
theorem stopOneEnds : Obligations.StopOneEnds := by
  refine ⟨fun s => ⟨fun hst => ?_, fun hst => ?_, fun htimer => ?_, fun htimer => ?_⟩, fun scan s h => ?_⟩
  · refine ⟨s.endSs1, congrArg _ (if_pos hst), ?_⟩
    have hsaf := endSs1_saf s
    refine ⟨by rw [hsaf]; rfl, by rw [State.torqueOff, hsaf]; rfl, by rw [hsaf]; rfl, endSs1_frame s⟩
  · exact congrArg _ (if_neg hst)
  · exact congrArg _ (if_pos (by simp [htimer]))
  · refine ⟨_, congrArg Host.Outcome.next (if_neg (by simp [htimer])), ?_⟩
    split
    · rw [endSs1_saf]
      exact ⟨rfl, rfl, fun _ => ⟨rfl, rfl⟩, fun hst => absurd ‹s.saf.state = .ss1› hst⟩
    · exact ⟨rfl, rfl, fun hst => absurd hst ‹¬s.saf.state = .ss1›, fun _ => rfl⟩
  · refine ⟨_, exec_safetyScan h, ?_⟩
    have hframe := scanned_frame scan s
    have hest := fun a => scanned_est (scan := scan) (s := s) (a := a)
    generalize scanned scan s = u at hframe hest ⊢
    have hstate : u.saf.state = s.saf.state := by rw [hframe]
    have hhs : u.saf.hs = s.saf.hs := by rw [hframe]
    have hls : u.saf.ls = s.saf.ls := by rw [hframe]
    have hnow : u.saf.now = scan.time := by rw [hframe]
    have hu : u = { s with saf := u.saf, faults := u.faults, log := u.log, regs := u.regs, free := u.free, power := u.power } := by
      rw [hframe]
    rw [hstate]
    by_cases hst : s.saf.state = .ss1
    · rw [if_pos hst]
      have hbad : (!decide (s.monitored.filter (fun a => u.overLimit a scan.time) = [])) = true ↔
          ∃ a ∈ s.monitored, u.overLimit a scan.time = true := by
        simp [List.filter_eq_nil_iff]
      split
      · next hviolates =>
        obtain ⟨hkeptEst, hkeptStart, hkeptNow⟩ := safetyFault_keeps u 0x0C03 3
        have hv := safetyFault_frame u 0x0C03 3
        have hlocked := safetyFault_state u 0x0C03 3
        have hoff := safetyFault_torqueOff (s := u) 0x0C03 3 (fun hlocked => by rw [hstate, hst] at hlocked; cases hlocked)
        have hactive := isActive_safetyFault (s := u) (code := 0x0C03) 3 (by decide)
        generalize u.safetyFault 0x0C03 3 = v at *
        generalize BitVec.ofNat 16 _ = violators
        have hlimit : ∀ a, (v.onSaf (fun x => { x with violating := violators })).overLimit a scan.time = u.overLimit a scan.time := fun a =>
          overLimit_congr (by rw [hv]) hkeptEst hkeptStart a _
        refine ⟨by rw [hv, hu]; rfl, hkeptNow.trans hnow, fun a ha => ?_, fun hne => absurd hst hne, fun _ => ⟨fun _ => ⟨hlocked, hoff, hactive⟩, fun hnone => ?_⟩⟩
        · exact (congrArg (·[a]) hkeptEst).trans (hest a ha)
        · obtain ⟨a, ha, hover⟩ := hbad.mp hviolates
          rw [← hlimit a, hnone a ha] at hover
          cases hover
      · next hviolates =>
        split
        · next hstill =>
          have hsaf := endSs1_saf u
          have hlimit : ∀ a, u.endSs1.overLimit a scan.time = u.overLimit a scan.time := fun a =>
            overLimit_congr (by rw [endSs1_frame]) (by rw [hsaf]; rfl) (by rw [hsaf]; rfl) a _
          have hstands : ∀ a, u.endSs1.standstill a = u.standstill a := fun a =>
            standstill_congr (by rw [endSs1_frame]) (by rw [hsaf]; rfl) a
          refine ⟨by rw [endSs1_frame, hu], by rw [hsaf]; exact hnow, fun a ha => by rw [hsaf]; exact hest a ha, fun hne => absurd hst hne,
            fun _ => ⟨?_, fun _ => ⟨fun _ => ⟨by rw [hsaf]; rfl, by rw [State.torqueOff, hsaf]; rfl⟩, ?_⟩⟩⟩
          · rintro ⟨a, ha, hover⟩
            exact absurd (hbad.mpr ⟨a, ha, (hlimit a).symm.trans hover⟩) hviolates
          · rintro ⟨a, ha, hmoving⟩
            rw [hstands a, List.all_eq_true.mp hstill a ha] at hmoving
            cases hmoving
        · next hmoves =>
          exact ⟨hu, hnow, hest, fun hne => absurd hst hne, fun _ => ⟨fun hover => absurd (hbad.mpr hover) hviolates,
            fun _ => ⟨fun hstill => absurd (List.all_eq_true.mpr hstill) hmoves, fun _ => ⟨hstate.trans hst, hhs, hls⟩⟩⟩⟩
    · rw [if_neg hst]
      exact ⟨hu, hnow, hest, fun _ => ⟨hstate, hhs, hls⟩, fun hss1 => absurd hss1 hst⟩

end Sys2Proof.Proofs
end

section
/-! PROOF. The statements on the faults that lock the safety channel (R308, R313, R320, R322) and on the release of torque (R301, R308). -/

namespace Sys2Proof.Proofs
open Sys2Proof.Machine

/-! ### The rails (R301) -/

theorem railOf_present {mv : Nat} : railOf mv = .present ↔ 9000 ≤ mv := by
  unfold railOf
  split
  · simpa
  · split <;> simpa using by omega

theorem railOf_removed {mv : Nat} : railOf mv = .removed ↔ mv ≤ 5000 := by
  unfold railOf
  split
  · simp
    omega
  · split <;> simpa using by omega

theorem railsPresent_iff {a b : Nat} : railsPresent a b = true ↔ 9000 ≤ a ∧ 9000 ≤ b := by
  simp [railsPresent, railOf_present]

theorem railsRemoved_iff {a b : Nat} : railsRemoved a b = true ↔ a ≤ 5000 ∧ b ≤ 5000 := by
  simp [railsRemoved, railOf_removed]

/-! ### Faults that lock the channel (Table 13.12) -/

/-- `t` is `s` with its channel in LOCKED, both switches open, on an active fault; the channel, the faults, the log and a request of
DIAG_SELFTEST have changed alone. -/
def LockedBy (code : Nat) (s t : State) : Prop :=
  t = { s with saf := t.saf, faults := t.faults, log := t.log, power := t.power } ∧
  t.saf.state = .locked ∧ t.torqueOff = true ∧ t.isActive code 255 = true

/-- A safety fault on a state that has the switches and the channel's state of `s` locks the channel. -/
theorem lockedBy_safetyFault {s u : State} {code : Nat} (cause : Nat) (hlocked : s.saf.state = .locked → s.torqueOff = true)
    (hcode : (FaultTable.find code).isSome = true) (hu : u = { s with saf := u.saf }) (hstate : u.saf.state = s.saf.state)
    (hhs : u.saf.hs = s.saf.hs) (hls : u.saf.ls = s.saf.ls) : LockedBy code s (u.safetyFault code cause) := by
  refine ⟨?_, safetyFault_state .., safetyFault_torqueOff _ _ (fun h => ?_), isActive_safetyFault _ hcode⟩
  · rw [safetyFault_frame]
    generalize u.safetyFault code cause = v
    rw [hu]
  · rw [State.torqueOff, hhs, hls]
    exact hlocked (hstate ▸ h)

/-- What is noted in the channel beside its state and its switches leaves it locked; so does one more open switch. -/
theorem LockedBy.onSaf {code : Nat} {s t : State} {f : Safety → Safety} (h : LockedBy code s t) (hstate : (f t.saf).state = t.saf.state)
    (hhs : (f t.saf).hs = t.saf.hs ∨ (f t.saf).hs = false) (hls : (f t.saf).ls = t.saf.ls) : LockedBy code s (t.onSaf f) := by
  obtain ⟨hframe, hlocked, hoff, hactive⟩ := h
  refine ⟨?_, hstate.trans hlocked, ?_, hactive⟩
  · rw [State.onSaf]
    generalize f t.saf = x
    rw [hframe]
  · simp only [State.torqueOff, State.onSaf_saf, Bool.and_eq_true, Bool.not_eq_true'] at hoff ⊢
    rw [hls]
    rcases hhs with hhs | hhs <;> rw [hhs]
    · exact hoff
    · exact ⟨rfl, hoff.2⟩

/-- Every diagnostic of Table 13.8 has its fault. -/
theorem find_diagnosticCode (d : SafetyDiagnostic) : (FaultTable.find (diagnosticCode d)).isSome = true := by
  cases d <;> decide

/-- A failed diagnostic other than the supply monitor's locks the channel. -/
theorem exec_safetyDiagnosticFail {d : SafetyDiagnostic} {s : State} (hlocked : s.saf.state = .locked → s.torqueOff = true)
    (hd : d ≠ .supply) : Answers (exec (.safetyDiagnosticFail d) s) (LockedBy (diagnosticCode d) s) := by
  have hfault := lockedBy_safetyFault (u := s) 4 hlocked (find_diagnosticCode d) rfl rfl rfl rfl
  cases d
  case supply => exact absurd rfl hd
  case setInvalid | sadc => exact ⟨_, rfl, hfault.onSaf rfl (.inl rfl) rfl⟩
  all_goals exact ⟨_, rfl, hfault⟩

/-- The supply monitor holds the island in BOOT with both switches open. -/
theorem exec_supplyFail (s : State) : Answers (exec (.safetyDiagnosticFail .supply) s) (fun t =>
    t.saf.state = .boot ∧ t.torqueOff = true ∧ t.saf.supplyLost = true) := by
  refine ⟨_, rfl, ?_, rfl, rfl⟩
  simp only [State.islandReset, State.onSaf_saf, endHostTest_saf, safetyMove_saf]
  rfl

/-! ### The island's supply returns (R320) -/

/-- The state in which SAFE_SUPPLY has been raised and the supply stands. -/
def supplyBack (s : State) : State := (s.raise 0x0C0F 255).onSaf (fun x => { x with supplyLost := false })

theorem supplyBack_saf (s : State) : (supplyBack s).saf = { s.saf with supplyLost := false } := by
  rw [supplyBack, State.onSaf_saf, raise_saf]

/-- The stored safety set fails a check of R319. -/
def storedSetBad (s : State) : Bool :=
  match s.activeSafety with
  | some (_, _, b) => (s.safetySetStatus b).isSome
  | none => false

theorem storedSetBad_eq_false {s : State} (h : ∀ x, s.activeSafety = some x → (s.safetySetStatus x.2.2).isSome = false) :
    storedSetBad s = false := by
  rw [storedSetBad]
  rcases hset : s.activeSafety with _ | ⟨i, j, b⟩
  · rfl
  · exact h (i, j, b) hset

theorem storedSetBad_eq_true {s : State} {x} (hx : s.activeSafety = some x) (h : (s.safetySetStatus x.2.2).isSome = true) :
    storedSetBad s = true := by
  simpa only [storedSetBad, hx] using h

/-- What is noted in the channel stays within the channel, the faults and the log. -/
theorem channelFrame_onSaf {s t : State} {f : Safety → Safety} (h : t = { s with saf := t.saf, faults := t.faults, log := t.log }) :
    t.onSaf f = { s with saf := (t.onSaf f).saf, faults := (t.onSaf f).faults, log := (t.onSaf f).log } := by
  rw [State.onSaf]
  generalize f t.saf = x
  rw [h]

/-- The channel whose switch test of BOOT is due again. -/
def bootTestDue (s : State) : State := (supplyBack s).onSaf (fun x => { x with bootTest := true })

theorem bootTestDue_saf (s : State) : (bootTestDue s).saf = { s.saf with supplyLost := false, bootTest := true } := by
  rw [bootTestDue, State.onSaf_saf, supplyBack_saf]

theorem bootTestDue_frame (s : State) :
    bootTestDue s = { s with saf := (bootTestDue s).saf, faults := (bootTestDue s).faults, log := (bootTestDue s).log } := by
  have hraise : s.raise 0x0C0F 255 = { s with
      saf := (s.raise 0x0C0F 255).saf, faults := (s.raise 0x0C0F 255).faults, log := (s.raise 0x0C0F 255).log } := by
    rw [State.raise_frame]
  exact channelFrame_onSaf (channelFrame_onSaf hraise)

theorem exec_islandSupplyRestored {testsOk : Bool} {s : State} (h : s.saf.supplyLost = true) :
    exec (.islandSupplyRestored testsOk) s = .next (
      if !testsOk then (supplyBack s).safetyFault 0x0C0F 4
      else if storedSetBad s then ((supplyBack s).safetyFault 0x0C11 4).onSaf (fun x => { x with setValid := false })
      else if (bootTestDue s).vgdPresent then (bootTestDue s).startBootTest else bootTestDue s) :=
  congrArg Host.Outcome.next ((if_neg (by simp [h])).trans rfl)

/-- VGD is a matter of the driver dies. -/
theorem vgdPresent_congr {s t : State} (h : t.pwm = s.pwm) : t.vgdPresent = s.vgdPresent := by
  unfold State.vgdPresent State.die
  rw [h]

theorem startBootTest_frame (s : State) : s.startBootTest = { s with saf := s.startBootTest.saf } := by
  unfold State.startBootTest
  split <;> rfl

/-- The switch test of BOOT changes the switches and its step alone. -/
theorem startBootTest_saf (s : State) :
    s.startBootTest.saf = { s.saf with hs := s.startBootTest.saf.hs, ls := s.startBootTest.saf.ls, testStep := s.startBootTest.saf.testStep } := by
  unfold State.startBootTest
  split <;> rfl

theorem isActive_supplyBack (s : State) : (supplyBack s).isActive 0x0C0F 255 = true :=
  isActive_raise (s := s) (code := 0x0C0F) (inst := 255) (by decide)

theorem safetyFault_supplyBack_torqueOff {s : State} (code cause : Nat) (h : s.saf.state = .locked → s.torqueOff = true) :
    ((supplyBack s).safetyFault code cause).torqueOff = true := by
  refine safetyFault_torqueOff code cause fun hlocked => ?_
  rw [supplyBack_saf] at hlocked
  rw [State.torqueOff, supplyBack_saf]
  exact h hlocked

/-- Settles O34: every listed fault runs `safetyFault`, and the supply monitor the restart of the island. -/
theorem safetyFaultsLock : Obligations.SafetyFaultsLock := by
  refine fun c code s hlocked => ⟨fun h => ?_, fun h => ?_, fun h => ?_, exec_supplyFail s, fun h => ?_, fun h hset => ?_, fun x hx h hset => ?_⟩
  · show Answers (exec c s) (LockedBy code s)
    rcases h with ⟨rfl, rfl, hne⟩ | ⟨rfl, rfl⟩ | ⟨scan, rfl, hcrc, rfl⟩ | ⟨a, b, rfl, rfl, hopen, hrails⟩ | ⟨rfl, rfl, htest⟩ |
      ⟨a, b, rfl, rfl, htest⟩ | ⟨d, rfl, hd, rfl⟩
    · exact ⟨_, congrArg Host.Outcome.next (if_neg hne), (lockedBy_safetyFault (u := s) 4 hlocked (by decide) rfl rfl rfl rfl).onSaf rfl (.inl rfl) rfl⟩
    · exact ⟨_, rfl, (lockedBy_safetyFault (u := s) 4 hlocked (by decide) rfl rfl rfl rfl).onSaf rfl (.inr rfl) rfl⟩
    · exact ⟨_, congrArg Host.Outcome.next (if_pos (by simp [hcrc])), lockedBy_safetyFault 4 hlocked (by decide) rfl rfl rfl rfl⟩
    · refine ⟨_, congrArg Host.Outcome.next (if_neg ?_), lockedBy_safetyFault (u := s.readRails a b) 4 hlocked (by decide) rfl rfl rfl rfl⟩
      simpa [railsRemoved_iff, hrails] using hopen
    · exact ⟨_, congrArg Host.Outcome.next (if_pos htest), lockedBy_safetyFault (u := s) 5 hlocked (by decide) rfl rfl rfl rfl⟩
    · refine ⟨_, congrArg Host.Outcome.next ((if_neg (by simp [htest])).trans (if_pos rfl)), ?_⟩
      exact lockedBy_safetyFault (u := s.readRails a b) 5 hlocked (by decide) rfl rfl rfl rfl
    · exact exec_safetyDiagnosticFail hlocked hd
  · exact congrArg Host.Outcome.next (if_pos h)
  · exact congrArg Host.Outcome.next (if_neg (by simp [h]))
  · exact ⟨_, (exec_islandSupplyRestored h).trans (congrArg Host.Outcome.next (if_pos rfl)), safetyFault_state .., safetyFault_supplyBack_torqueOff _ _ hlocked,
      isActive_safetyFault _ (by decide)⟩
  · refine ⟨_, (exec_islandSupplyRestored h).trans (congrArg Host.Outcome.next ((if_neg (by simp)).trans (if_neg (by simp [storedSetBad_eq_false hset])))), ?_⟩
    have hvgd : (bootTestDue s).vgdPresent = s.vgdPresent := vgdPresent_congr (by rw [bootTestDue_frame])
    have hactive : (bootTestDue s).isActive 0x0C0F 255 = true := isActive_supplyBack s
    have hframe := bootTestDue_frame s
    have hsaf := bootTestDue_saf s
    have hpower : (bootTestDue s).power = s.power := by rw [hframe]
    rw [hvgd]
    generalize bootTestDue s = u at *
    split
    · next hpresent =>
      refine ⟨?_, ?_, ?_, ?_, ?_, fun hboot _ hdormant hkeep => ?_, fun habsent => absurd (hpresent.symm.trans habsent) (by decide)⟩
      · rw [startBootTest_frame, hframe]
      · rw [startBootTest_frame]
        exact hactive
      · rw [startBootTest_saf, hsaf]
      · rw [startBootTest_saf, hsaf]
      · rw [startBootTest_saf, hsaf]
      · rw [State.startBootTest, if_pos (by rw [hsaf, hpower]; exact ⟨hboot, rfl, Bool.false_ne_true, hdormant, hkeep⟩), State.onSaf_saf, hsaf]
        exact ⟨rfl, rfl, rfl⟩
    · next habsent =>
      exact ⟨hframe, hactive, by rw [hsaf], by rw [hsaf], by rw [hsaf], fun _ hpresent => absurd hpresent habsent,
        fun _ => ⟨by rw [hsaf], by rw [hsaf]⟩⟩
  · refine ⟨_, (exec_islandSupplyRestored h).trans (congrArg Host.Outcome.next ((if_neg (by simp)).trans (if_pos (storedSetBad_eq_true hx hset)))), ?_⟩
    exact ⟨safetyFault_state .., safetyFault_supplyBack_torqueOff _ _ hlocked, rfl, isActive_safetyFault _ (by decide)⟩

/-! ### The release from STO (R308) -/

/-- Settles O35: the release and the readings of the rails act under the conditions that the statement names. -/
theorem torqueRelease : Obligations.TorqueRelease := by
  refine fun a b s => ⟨fun hsto ha hb hlatched hack => ?_, fun h => ?_, fun ha hb hrel => ?_, fun ha hb hrel => ?_, fun hrails => ⟨?_, fun hrel => ?_, fun hrel hhs hls => ?_⟩⟩
  · exact congrArg Host.Outcome.next (if_pos ⟨hsto, ha, hb, by simp [hlatched], hack⟩)
  · refine congrArg Host.Outcome.next (if_neg ?_)
    rintro ⟨hsto, ha, hb, hlatched, hack⟩
    simp_all
  · refine ⟨_, congrArg Host.Outcome.next ((if_pos (railsPresent_iff.mpr ⟨ha, hb⟩)).trans (if_pos hrel)), ?_⟩
    have hsaf : ((s.readRails a b).clearFault 0x0C05 255).saf = (s.readRails a b).saf := clearFault_saf ..
    have hframe := State.clearFault_frame (s.readRails a b) 0x0C05 255
    have hactive := isActive_clearFault (s.readRails a b) 0x0C05 255
    generalize (s.readRails a b).clearFault 0x0C05 255 = u at *
    refine ⟨?_, ?_⟩
    · rw [safetyMove_frame, hframe]
      rfl
    · rw [State.isActive, safetyMove_faults, safetyMove_saf, hsaf]
      exact ⟨rfl, rfl, rfl, railOf_present.mpr ha, railOf_present.mpr hb, rfl, hactive⟩
  · refine ⟨_, congrArg Host.Outcome.next ((if_pos (railsPresent_iff.mpr ⟨ha, hb⟩)).trans (if_neg (by simp [hrel]))), ?_, isActive_clearFault ..⟩
    rw [clearFault_saf, State.readRails, State.onSaf_saf, railOf_present.mpr ha, railOf_present.mpr hb]
  · exact congrArg Host.Outcome.next (if_neg (by rwa [railsPresent_iff]))
  · refine ⟨_, congrArg Host.Outcome.next ((if_neg (by rwa [railsPresent_iff])).trans (if_pos hrel)), ?_, ?_, ?_, ?_, isActive_raise (by decide)⟩
    · rw [State.raise_frame]
      rfl
    · rw [State.torqueOff, raise_saf]
      rfl
    · rw [raise_saf]
      rfl
    · rw [raise_saf]
      rfl
  · refine ⟨_, congrArg Host.Outcome.next ((if_neg (by rwa [railsPresent_iff])).trans ((if_neg (by simp [hrel])).trans (if_pos (by simp [hhs, hls])))), ?_,
      isActive_raise (by decide)⟩
    rw [raise_saf]
    rfl

end Sys2Proof.Proofs
end

section
/-! PROOF. The statement on Plumb, the switch test and the self-tests (R302, R303, R313 to R317, R454). -/

namespace Sys2Proof.Proofs
open Sys2Proof.Machine

/-! ### The test that passed (R313, R316, R317) -/

/-- Another fault than the one raised is active as before. -/
theorem isActive_raise_other {s : State} {code inst c i : Nat} (h : c ≠ code) : (s.raise c i).isActive code inst = s.isActive code inst := by
  unfold State.isActive
  rcases raise_faults s c i with hf | ⟨row, -, hf⟩ <;> rw [hf]
  simp [h]

/-- A fault that is not active is not so either once another has been cleared. -/
theorem isActive_clearFault_of_not {s : State} {code inst : Nat} (c i : Nat) (h : s.isActive code inst = false) :
    (s.clearFault c i).isActive code inst = false := by
  rw [State.isActive, List.any_eq_false] at h ⊢
  rw [clearFault_faults]
  exact fun f hf => h f (List.mem_filter.mp hf).1

/-- A counter raises no fault but the one of its saturation. -/
theorem isActive_count_of_not {s : State} {index sub code inst : Nat} (h : s.isActive code inst = false)
    (hcode : (counterSaturation index).2.2 ≠ code) : (s.count index sub).isActive code inst = false := by
  simp only [State.count, State.firstSaturation, State.raiseAgain]
  split
  · exact h
  · split
    · exact h
    · split
      · exact h
      · split
        · exact h
        · rw [isActive_raise_other hcode]
          rw [State.isActive, List.any_eq_false] at h ⊢
          exact fun f hf => h f (List.mem_filter.mp hf).1

/-- SAFE_STO_ACTIVE is no latched safety fault: its rank is not 7. -/
theorem safetyLatched_stoActive (s : State) : s.stoActive.safetyLatched = s.safetyLatched := by
  unfold State.safetyLatched State.stoActive
  rcases raise_faults s 0x0C01 255 with hf | ⟨row, hrow, hf⟩ <;> rw [hf]
  obtain rfl : row = ⟨0x0C01, "SAFE_STO_ACTIVE", 1, .device, .device, .occurrence⟩ := by
    have h : FaultTable.find 0x0C01 = some ⟨0x0C01, "SAFE_STO_ACTIVE", 1, .device, .device, .occurrence⟩ := by decide
    exact Option.some.inj (hrow.symm.trans h)
  simp [State.rankOf]

theorem setPar_par_of_ne {s : State} {index sub i k : Nat} (h : Sparse.wf regDefault s.regs = true) (hkey : regKey i k ≠ regKey index sub)
    (v : Int) : (s.setPar index sub v).par i k = s.par i k := by
  rw [State.par, State.setPar, Sparse.read_write h, if_neg hkey]
  rfl

theorem setPar_par_same {s : State} (i k : Nat) (h : Sparse.wf regDefault s.regs = true) (v : Int) : (s.setPar i k v).par i k = v := by
  rw [State.par, State.setPar, Sparse.read_write h, if_pos rfl]

theorem setPar_wf {s : State} (i k : Nat) (h : Sparse.wf regDefault s.regs = true) (v : Int) :
    Sparse.wf regDefault (s.setPar i k v).regs = true := Sparse.wf_write h _ _

/-- A first saturation sets a sticky bit, and no other parameter. -/
theorem firstSaturation_par {s : State} {key st su bit code inst i k : Nat} (h : Sparse.wf regDefault s.regs = true)
    (hstatus : regKey i k ≠ regKey st su) : (s.firstSaturation key st su bit code inst).par i k = s.par i k := by
  simp only [State.firstSaturation, State.raiseAgain]
  split
  · rfl
  · rw [State.par, raise_regs]
    exact setPar_par_of_ne (s := s) h hstatus _

/-- A counter changes its own value, and at its saturation a sticky bit. -/
theorem count_par {s : State} {index sub i k : Nat} (h : Sparse.wf regDefault s.regs = true) (hkey : regKey i k ≠ regKey index sub)
    (hstatus : regKey i k ≠ regKey (counterSaturation index).1 (statusSub index sub)) : (s.count index sub).par i k = s.par i k := by
  simp only [State.count]
  split
  · rfl
  · split
    · rfl
    · split
      · exact setPar_par_of_ne h hkey _
      · rw [firstSaturation_par (Sparse.wf_write h _ _) hstatus]
        exact setPar_par_of_ne h hkey _

/-- The state of a passed switch test before the channel moves on: the faults of the test cleared, the age at 0 and the test counted. -/
def testCleared (s : State) : State :=
  ((((((s.clearFault 0x0C06 255).clearFault 0x0C07 255).clearFault 0x0C08 255)).setDev 0x0C33 0).count 0x0C34 255).onSaf
    (fun x => { x with overdue := false, graceExpired := false })

/-- Where the channel goes from TESTING (Table 13.3). -/
def afterTest (s u : State) : State :=
  if u.safetyLatched then u.safetyMove .locked s.saf.cause
  else if s.isActive 0x0C06 255 then u.safetyMove .sto 5
  else if s.saf.a && s.saf.b then u.safetyMove .runPermitted 0 else u.stoActive.safetyMove .sto 1

theorem testPassed_of_testing {s : State} (h : s.saf.state = .testing) :
    s.testPassed = (afterTest s (testCleared s)).endHostTest 0x00 := by
  unfold State.testPassed afterTest testCleared
  simp only [h, reduceCtorEq, if_false, false_and]

theorem testCleared_saf (s : State) : (testCleared s).saf = { s.saf with overdue := false, graceExpired := false } := by
  have h : ∀ u : State, ((u.setDev 0x0C33 0).count 0x0C34 255).saf = u.saf := fun u => by rw [count_frame]; rfl
  rw [testCleared, State.onSaf_saf, h, clearFault_saf, clearFault_saf, clearFault_saf]

/-- The age of the test is 0 (R317). -/
theorem testCleared_age {s : State} (h : Sparse.wf regDefault s.regs = true) : (testCleared s).dev 0x0C33 = 0 := by
  have hwf : Sparse.wf regDefault (((s.clearFault 0x0C06 255).clearFault 0x0C07 255).clearFault 0x0C08 255).regs = true := by
    rwa [clearFault_regs, clearFault_regs, clearFault_regs]
  unfold testCleared
  generalize ((s.clearFault 0x0C06 255).clearFault 0x0C07 255).clearFault 0x0C08 255 = u at hwf ⊢
  exact (count_par (setPar_wf 0x0C33 255 hwf 0) (by decide) (by decide)).trans (setPar_par_same 0x0C33 255 hwf 0)

theorem testCleared_not_failed (s : State) : (testCleared s).isActive 0x0C06 255 = false :=
  isActive_count_of_not (isActive_clearFault_of_not _ _ (isActive_clearFault_of_not _ _ (isActive_clearFault s 0x0C06 255))) (by decide)

/-- The channel moves on in its own fields, the log, and a report of SAFE_STO_ACTIVE. -/
theorem afterTest_keeps (s u : State) : (afterTest s u).regs = u.regs ∧ (afterTest s u).saf.overdue = u.saf.overdue ∧
    (afterTest s u).saf.graceExpired = u.saf.graceExpired ∧ (afterTest s u).safetyLatched = u.safetyLatched ∧
    (afterTest s u).isActive 0x0C06 255 = u.isActive 0x0C06 255 := by
  have hmove : ∀ (v : State) (st : SafetyState) (cause : Nat), (v.safetyMove st cause).regs = v.regs ∧
      (v.safetyMove st cause).saf.overdue = v.saf.overdue ∧ (v.safetyMove st cause).saf.graceExpired = v.saf.graceExpired ∧
      (v.safetyMove st cause).safetyLatched = v.safetyLatched ∧ (v.safetyMove st cause).isActive 0x0C06 255 = v.isActive 0x0C06 255 := by
    intro v st cause
    unfold State.safetyLatched State.isActive
    rw [safetyMove_faults, safetyMove_saf]
    exact ⟨by rw [safetyMove_frame], rfl, rfl, rfl, rfl⟩
  unfold afterTest
  split
  · exact hmove ..
  · split
    · exact hmove ..
    · split
      · exact hmove ..
      · obtain ⟨hregs, hoverdue, hgrace, hlatched, hfail⟩ := hmove u.stoActive .sto 1
        refine ⟨hregs.trans (raise_regs ..), hoverdue.trans ?_, hgrace.trans ?_, hlatched.trans (safetyLatched_stoActive u),
          hfail.trans (isActive_raise_other (by decide))⟩ <;> rw [State.stoActive, raise_saf]

theorem afterTest_state (s u : State) : (afterTest s u).saf.state =
    if u.safetyLatched then .locked else if s.isActive 0x0C06 255 then .sto else if s.saf.a && s.saf.b then .runPermitted else .sto := by
  unfold afterTest
  split
  · rw [safetyMove_saf]
    rfl
  · split
    · rw [safetyMove_saf]
      rfl
    · split <;> (rw [safetyMove_saf]; rfl)

/-- What a passed switch test leaves, from TESTING. -/
theorem testPassed_facts {s : State} (h : s.saf.state = .testing) (hwf : Sparse.wf regDefault s.regs = true) :
    s.testPassed.dev 0x0C33 = 0 ∧ s.testPassed.saf.overdue = false ∧ s.testPassed.saf.graceExpired = false ∧
    s.testPassed.isActive 0x0C06 255 = false ∧ s.testPassed.saf.state =
      if s.testPassed.safetyLatched then .locked else if s.isActive 0x0C06 255 then .sto
      else if s.saf.a && s.saf.b then .runPermitted else .sto := by
  obtain ⟨hregs, hoverdue, hgrace, hlatched, hfail⟩ := afterTest_keeps s (testCleared s)
  rw [testPassed_of_testing h, endHostTest_saf]
  simp only [State.dev, State.par, State.isActive, State.safetyLatched, endHostTest_faults]
  have hend : ((afterTest s (testCleared s)).endHostTest 0x00).regs = (testCleared s).regs := by
    rw [endHostTest_frame]
    exact hregs
  rw [hend]
  refine ⟨testCleared_age hwf, hoverdue.trans ?_, hgrace.trans ?_, hfail.trans (testCleared_not_failed s), ?_⟩
  · rw [testCleared_saf]
  · rw [testCleared_saf]
  · refine (afterTest_state s (testCleared s)).trans ?_
    rw [← hlatched]
    rfl

/-! ### Plumb and the heartbeat (R302, R303) -/

/-- A valid heartbeat is held, and may end a demand on STO_REQ. -/
theorem exec_heartbeat {beat : Heartbeat} {s : State} (h : beat.valid = true) : exec (.heartbeat beat) s = .next (s.onSaf (fun x =>
    let y := { x with reportedShort := false, beat := some beat }
    match x.stoReqAt with
    | none => y
    | some f =>
      if beat.permits ∧ 20 ≤ (s.frame64 - f).toNat then
        { y with stoReqAt := none,
                 hs := !x.plumbOpen && (x.state = .runPermitted || x.state = .ss1 || x.state = .testing || (x.state = .sto && x.releasing)) }
      else y)) :=
  congrArg Host.Outcome.next ((if_neg (by simp [h])).trans rfl)

/-- Plumb classifies a low interval, holds a valid heartbeat, and the state word passes on. -/
theorem plumbAndHeartbeat (n : Nat) (beat : Heartbeat) (s : State) :
    (150 < n → exec (.stoReqPulse n) s = .next { s with saf := { s.saf with hs := false, stoReqAt := some s.frame64 } }) ∧
    (50 ≤ n → n ≤ 150 → exec (.stoReqPulse n) s = .next { s with saf := { s.saf with plumbTimer := true } }) ∧
    (n < 50 → exec (.stoReqPulse n) s = .next { s with saf := { s.saf with reportedShort := true } }) ∧
    (beat.valid = false → exec (.heartbeat beat) s = .next s) ∧
    (beat.valid = true → s.saf.stoReqAt = none → exec (.heartbeat beat) s =
      .next { s with saf := { s.saf with reportedShort := false, beat := some beat } }) ∧
    (∀ f, beat.valid = true → s.saf.stoReqAt = some f →
      (beat.permits = true → 20 ≤ (s.frame64 - f).toNat → Answers (exec (.heartbeat beat) s) (fun t =>
        t = { s with saf := { s.saf with reportedShort := false, beat := some beat, stoReqAt := none, hs := t.saf.hs } } ∧
        (t.saf.hs = true ↔ s.saf.plumbOpen = false ∧ (s.saf.state = .runPermitted ∨ s.saf.state = .ss1 ∨ s.saf.state = .testing ∨
          (s.saf.state = .sto ∧ s.saf.releasing = true))))) ∧
      (beat.permits = false ∨ (s.frame64 - f).toNat < 20 →
        exec (.heartbeat beat) s = .next { s with saf := { s.saf with reportedShort := false, beat := some beat } })) ∧
    exec .safetyStateWord s = .next { s with saf := { s.saf with word := s.saf.state, wordCause := s.saf.cause } } := by
  have hpulse : ∀ {x : Safety}, (if 150 < n then { s.saf with hs := false, stoReqAt := some s.frame64 }
      else if 50 ≤ n then { s.saf with plumbTimer := true } else { s.saf with reportedShort := true }) = x →
      exec (.stoReqPulse n) s = .next { s with saf := x } := fun h => by rw [← h]; rfl
  refine ⟨fun h => hpulse (if_pos h), fun h h' => hpulse ((if_neg (by omega)).trans (if_pos h)),
    fun h => hpulse ((if_neg (by omega)).trans (if_neg (by omega))), fun h => congrArg Host.Outcome.next (if_pos (by simp [h])),
    fun h hreq => ?_, fun f h hreq => ⟨fun hpermits hlong => ?_, fun hno => ?_⟩, rfl⟩
  · rw [exec_heartbeat h]
    simp only [State.onSaf, hreq]
  · rw [exec_heartbeat h]
    simp only [State.onSaf, hreq, if_pos (And.intro hpermits hlong)]
    refine ⟨_, rfl, rfl, ?_⟩
    simp [or_assoc]
  · rw [exec_heartbeat h]
    simp only [State.onSaf, hreq]
    rw [if_neg]
    rintro ⟨hpermits, hlong⟩
    rcases hno with hno | hno
    · rw [hpermits] at hno
      cases hno
    · omega

end Sys2Proof.Proofs
end

section
/-! PROOF. The statement on Plumb, the switch test and the self-tests, continued: the steps of the test and the requests (R313 to R317,
R454). -/

namespace Sys2Proof.Proofs
open Sys2Proof.Machine

/-! ### The switch test (Table 13.6) -/

/-- The test begins from its state's readings. -/
theorem beginSwitchTest_frame (s : State) :
    s.beginSwitchTest = { s with saf := s.beginSwitchTest.saf, log := s.beginSwitchTest.log } := by
  simp only [State.beginSwitchTest]
  have h := safetyMove_frame s .testing s.saf.cause
  split
  · rw [State.onSaf]
    generalize s.safetyMove .testing s.saf.cause = u at h ⊢
    rw [h]
  · rw [State.onSaf]
    generalize s.safetyMove .testing s.saf.cause = u at h ⊢
    rw [h]

theorem beginSwitchTest_saf (s : State) : s.beginSwitchTest.saf = { moved s.saf .testing s.saf.cause with
    ls := decide (¬(s.saf.railA = .present ∧ s.saf.railB = .present))
    testStep := if s.saf.railA = .present ∧ s.saf.railB = .present then 1 else 0 } := by
  simp only [State.beginSwitchTest]
  split
  · next h => simp only [State.onSaf, safetyMove_saf, h, not_true_eq_false, and_self, decide_false]
  · next h => simp only [State.onSaf, safetyMove_saf, h, not_false_eq_true, decide_true]; rfl

/-- What the readings of step `n` in its time do (Table 13.6). -/
def testAdvances (a b n : Nat) (s : State) : State :=
  match n with
  | 0 => if railsPresent a b then (s.readRails a b).onSaf (fun x => { x with ls := false, testStep := 1 }) else s.readRails a b
  | 1 => if railsRemoved a b then (s.readRails a b).onSaf (fun x => { x with ls := true, testStep := 3 }) else s.readRails a b
  | 3 =>
    if !railsPresent a b then s.readRails a b
    else if s.saf.state = .testing ∧ ¬(s.saf.a ∧ s.saf.b) then (s.readRails a b).enterSto 1
    else (s.readRails a b).onSaf (fun x => { x with hs := false, testStep := 5 })
  | 5 => if railsRemoved a b then (s.readRails a b).onSaf (fun x => { x with hs := x.plumbCloses, testStep := 7 }) else s.readRails a b
  | _ => if railsPresent a b then (s.readRails a b).testPassed else s.readRails a b

theorem exec_switchTestStep {a b n : Nat} {s : State} (htest : s.inTest = true) (hstep : s.saf.testStep = n) :
    exec (.switchTestStep a b true) s = .next (testAdvances a b n s) := by
  rw [← hstep]
  exact congrArg Host.Outcome.next ((if_neg (by simp [htest])).trans ((if_neg (by decide)).trans rfl))

/-- The switch test starts, advances on its readings, and its age raises its faults. -/
theorem switchTest (s : State) :
    (¬(s.saf.state = .runPermitted ∧ s.testDue = true ∧ s.dwell = true) → exec .switchTestStart s = .next s) ∧
    (s.saf.state = .runPermitted → s.testDue = true → s.dwell = true → Answers (exec .switchTestStart s) (fun t =>
      t = { s with saf := t.saf, log := t.log } ∧ t.saf.state = .testing ∧ t.saf.hs = (s.saf.hs || s.saf.plumbCloses) ∧
      t.saf.ls = decide (¬(s.saf.railA = .present ∧ s.saf.railB = .present)) ∧
      t.saf.testStep = (if s.saf.railA = .present ∧ s.saf.railB = .present then 1 else 0))) ∧
    (s.inTest = false → ∀ a b inTime, exec (.switchTestStep a b inTime) s =
      .next { s with saf := { s.saf with railA := railOf a, railB := railOf b } }) := by
  refine ⟨fun h => congrArg Host.Outcome.next (if_neg h), fun hst hdue hdwell => ?_, fun h a b inTime => ?_⟩
  · refine ⟨_, congrArg Host.Outcome.next (if_pos ⟨hst, hdue, hdwell⟩), beginSwitchTest_frame s, ?_⟩
    rw [beginSwitchTest_saf]
    exact ⟨rfl, rfl, rfl, rfl⟩
  · exact congrArg Host.Outcome.next (if_pos (by simp [h]))

/-- The steps that wait for PRESENT. -/
theorem switchTest_present {a b : Nat} {s : State} (htest : s.inTest = true) (ha : 9000 ≤ a) (hb : 9000 ≤ b) :
    (s.saf.testStep = 0 → exec (.switchTestStep a b true) s =
      .next { s with saf := { s.saf with railA := .present, railB := .present, ls := false, testStep := 1 } }) ∧
    (s.saf.testStep = 3 → s.saf.state = .boot ∨ (s.saf.a = true ∧ s.saf.b = true) → exec (.switchTestStep a b true) s =
      .next { s with saf := { s.saf with railA := .present, railB := .present, hs := false, testStep := 5 } }) ∧
    (s.saf.testStep = 3 → s.saf.state = .testing → s.saf.a = false ∨ s.saf.b = false →
      Answers (exec (.switchTestStep a b true) s) (fun t => t.saf.state = .sto ∧ t.torqueOff = true)) ∧
    (s.saf.testStep = 7 → s.saf.state = .testing → s.canonical = true → Answers (exec (.switchTestStep a b true) s) (fun t =>
      t.dev 0x0C33 = 0 ∧ t.saf.overdue = false ∧ t.saf.graceExpired = false ∧ t.isActive 0x0C06 255 = false ∧
      (t.safetyLatched = true → t.saf.state = .locked) ∧
      (t.safetyLatched = false →
        t.saf.state = (if s.isActive 0x0C06 255 then .sto else if s.saf.a && s.saf.b then .runPermitted else .sto)))) := by
  have hpresent : railsPresent a b = true := railsPresent_iff.mpr ⟨ha, hb⟩
  have hrails : s.readRails a b = { s with saf := { s.saf with railA := .present, railB := .present } } := by
    rw [State.readRails, railOf_present.mpr ha, railOf_present.mpr hb]
    rfl
  refine ⟨fun h => ?_, fun h hst => ?_, fun h hst hin => ?_, fun h hst hwf => ?_⟩ <;> rw [exec_switchTestStep htest h]
  · simp only [testAdvances, hpresent, if_true, hrails]
    rfl
  · have hgo : ¬(s.saf.state = .testing ∧ ¬(s.saf.a = true ∧ s.saf.b = true)) := by
      rintro ⟨htesting, hin⟩
      rcases hst with hst | hst
      · rw [htesting] at hst
        cases hst
      · exact hin hst
    simp only [testAdvances, hpresent, Bool.not_true, Bool.false_eq_true, if_false, hgo, hrails]
    rfl
  · have hstop : s.saf.state = .testing ∧ ¬(s.saf.a = true ∧ s.saf.b = true) := by
      refine ⟨hst, ?_⟩
      rcases hin with hin | hin <;> simp [hin]
    simp only [testAdvances, hpresent, Bool.not_true, Bool.false_eq_true, if_false, if_pos hstop]
    refine ⟨_, rfl, ?_, ?_⟩
    · rw [enterSto_saf]
      rfl
    · rw [State.torqueOff, enterSto_saf]
      rfl
  · simp only [testAdvances, hpresent, if_true]
    obtain ⟨hage, hoverdue, hgrace, hfail, hstate⟩ :=
      testPassed_facts (s := s.readRails a b) hst (canonical_iff.mp hwf).1
    refine ⟨_, rfl, hage, hoverdue, hgrace, hfail, fun hlatched => ?_, fun hlatched => ?_⟩
    · rw [hstate, hlatched]
      rfl
    · rw [hstate, hlatched]
      rfl

/-- The steps that wait for REMOVED. -/
theorem switchTest_removed {a b : Nat} {s : State} (htest : s.inTest = true) (ha : a ≤ 5000) (hb : b ≤ 5000) :
    (s.saf.testStep = 1 → exec (.switchTestStep a b true) s =
      .next { s with saf := { s.saf with railA := .removed, railB := .removed, ls := true, testStep := 3 } }) ∧
    (s.saf.testStep = 5 → exec (.switchTestStep a b true) s =
      .next { s with saf := { s.saf with railA := .removed, railB := .removed, hs := s.saf.plumbCloses, testStep := 7 } }) := by
  have hrails : s.readRails a b = { s with saf := { s.saf with railA := .removed, railB := .removed } } := by
    rw [State.readRails, railOf_removed.mpr ha, railOf_removed.mpr hb]
    rfl
  refine ⟨fun h => ?_, fun h => ?_⟩ <;> rw [exec_switchTestStep htest h] <;>
    simp only [testAdvances, railsRemoved_iff.mpr ⟨ha, hb⟩, if_true, hrails] <;> rfl

/-- The age of the test raises its faults beyond its limits (R317). -/
theorem testAge (s : State) :
    (s.devN 0x0C33 ≤ s.devN 0x0C08 → exec .safeTestOverdue s = .next s) ∧
    (s.devN 0x0C08 < s.devN 0x0C33 → Answers (exec .safeTestOverdue s) (fun t =>
      t = { s with saf := { s.saf with overdue := true }, faults := t.faults, log := t.log } ∧ t.isActive 0x0C07 255 = true)) ∧
    (s.devN 0x0C33 ≤ s.devN 0x0C08 + s.devN 0x0C09 → exec .safeTestGrace s = .next s) ∧
    (s.devN 0x0C08 + s.devN 0x0C09 < s.devN 0x0C33 → Answers (exec .safeTestGrace s) (fun t =>
      t = { s with saf := { s.saf with graceExpired := true }, faults := t.faults, log := t.log } ∧ t.isActive 0x0C08 255 = true)) := by
  refine ⟨fun h => congrArg Host.Outcome.next (if_neg (by omega)), fun h => ?_, fun h => congrArg Host.Outcome.next (if_neg (by omega)),
    fun h => ?_⟩
  · refine ⟨_, congrArg Host.Outcome.next (if_pos h), ?_, isActive_raise (s := s) (code := 0x0C07) (by decide)⟩
    rw [State.raise_frame]
    rfl
  · refine ⟨_, congrArg Host.Outcome.next (if_pos h), ?_, isActive_raise (s := s) (code := 0x0C08) (by decide)⟩
    rw [State.raise_frame]
    rfl

/-! ### The self-tests (R316, R454) -/

/-- The checks of DIAG_SELFTEST. -/
def selftestChecks (s : State) (m : Nat) : List (Bool × Nat) :=
  let others : Bool := s.faults.any (fun f => f.code / 256 = 0x0C && f.rank = 7 && f.code ≠ 0x0C06)
  [ (decide (m = 0 ∨ 8 ≤ m), Status.badParameter),
    ((m.testBit 1 && s.anyEnabled) || (m.testBit 0 && !(s.presentAxes.all (fun a =>
      (s.ax a).state = .disabled || (s.saf.state = .locked && (s.ax a).state = .sto)))), Status.busy),
    (s.power.selftests.isSome || s.saf.testByHost.isSome, Status.busy),
    (m.testBit 0 && s.saf.state = .locked && (others || !s.isActive 0x0C06 255), Status.faultLatched),
    (m.testBit 0 && s.saf.state ≠ .runPermitted && s.saf.state ≠ .locked, Status.busy)]

/-- The tests of an accepted DIAG_SELFTEST wait, and the switch test begins. -/
def selftestsBegun (s : State) (k : Fin 8) (seq : Half) (m : Nat) : State :=
  let t := s.onPower (fun p => { p with selftests := if m / 2 * 2 = 0 then none else some (m / 2 * 2, some k, seq) })
  if m.testBit 0 then (t.onSaf (fun x => { x with testByHost := some (some k, seq) })).beginSwitchTest else t

theorem exec_diagSelftest {r : Req} {k : Fin 8} {tests : Word} {s : State} (h : s.admits 0xC0 r k = true) :
    exec (.diagSelftest r tests) s = .next (s.checked r 0xC0 (selftestChecks s tests.toNat)
      (fun s => (selftestsBegun s k r.seq tests.toNat).answer r 0xC0 Status.pending .bare)) :=
  congrArg Host.Outcome.next ((State.request_of_admits h _).trans rfl)

theorem exec_diagSelftest_refused {r : Req} {k : Fin 8} {tests : Word} {s : State} {status : Nat} (h : s.admits 0xC0 r k = true)
    (hfail : firstFail (selftestChecks s tests.toNat) = some status) :
    exec (.diagSelftest r tests) s = .next (s.withReply (replyOf r k 0xC0 status .bare)) := by
  rw [exec_diagSelftest h, State.checked_fail hfail, State.refuse, answer_of_admits h]

theorem selftestsBegun_cmd (s : State) (k : Fin 8) (seq : Half) (m : Nat) : (selftestsBegun s k seq m).cmd = s.cmd := by
  unfold selftestsBegun
  simp only
  split
  · rw [beginSwitchTest_frame]
    rfl
  · rfl

theorem exec_diagSelftest_begun {r : Req} {k : Fin 8} {tests : Word} {s : State} (h : s.admits 0xC0 r k = true)
    (hpass : firstFail (selftestChecks s tests.toNat) = none) :
    exec (.diagSelftest r tests) s =
      .next ((selftestsBegun s k r.seq tests.toNat).withReply (replyOf r k 0xC0 Status.pending .bare)) := by
  rw [exec_diagSelftest h, State.checked_pass hpass,
    answer_of_sessions (State.slotOf_of_admits h) (by rw [selftestsBegun_cmd])]

/-- A request that names no test, or more than the three, is refused. -/
theorem selftest_badParameter {r : Req} {k : Fin 8} {tests : Word} {s : State} (h : s.admits 0xC0 r k = true)
    (hbad : tests = 0 ∨ 8 ≤ tests.toNat) :
    exec (.diagSelftest r tests) s = .next (s.withReply (replyOf r k 0xC0 Status.badParameter .bare)) := by
  refine exec_diagSelftest_refused h ?_
  have hm : tests.toNat = 0 ∨ 8 ≤ tests.toNat := hbad.imp_left (fun h0 => by rw [h0]; rfl)
  simp only [selftestChecks, hm, decide_true, firstFail_true]

/-- An enabled axis, or a test that runs, keeps the tests waiting. -/
theorem selftest_busy {r : Req} {k : Fin 8} {tests : Word} {s : State} (h : s.admits 0xC0 r k = true)
    (hleast : 1 ≤ tests.toNat) (hmost : tests.toNat ≤ 7)
    (hbusy : (tests.toNat.testBit 1 = true ∧ s.anyEnabled = true) ∨
      (tests.toNat.testBit 0 = true ∧ s.saf.state ≠ .locked ∧ s.allDisabled = false) ∨
      s.power.selftests.isSome = true ∨ s.saf.testByHost.isSome = true) :
    exec (.diagSelftest r tests) s = .next (s.withReply (replyOf r k 0xC0 Status.busy .bare)) := by
  refine exec_diagSelftest_refused h ?_
  have hm : ¬(tests.toNat = 0 ∨ 8 ≤ tests.toNat) := by omega
  simp only [selftestChecks, hm, decide_false, firstFail_false]
  generalize henabled : (_ || _ : Bool) = enabled
  cases enabled
  · have hruns : (s.power.selftests.isSome || s.saf.testByHost.isSome) = true := by
      rw [Bool.or_eq_false_iff] at henabled
      obtain ⟨hone, hzero⟩ := henabled
      rcases hbusy with ⟨hbit, hany⟩ | ⟨hbit, hst, hall⟩ | hruns | hruns
      · simp [hbit, hany] at hone
      · simp only [State.allDisabled] at hall
        simp [hbit, hst, hall] at hzero
      · simp [hruns]
      · simp [hruns]
    rw [firstFail_false, hruns, firstFail_true]
  · exact firstFail_true ..

/-- Without the switch test the tests wait in bit order. -/
theorem selftest_others {r : Req} {k : Fin 8} {tests : Word} {s : State} (h : s.admits 0xC0 r k = true)
    (hleast : 1 ≤ tests.toNat) (hmost : tests.toNat ≤ 7) (hswitch : tests.toNat.testBit 0 = false)
    (henabled : tests.toNat.testBit 1 = true → s.anyEnabled = false) (hfree : s.power.selftests = none) (hhost : s.saf.testByHost = none) :
    exec (.diagSelftest r tests) s = .next (State.withReply
      { s with power := { s.power with selftests := some (tests.toNat, some k, r.seq) } } (replyOf r k 0xC0 Status.pending .bare)) := by
  have hm : ¬(tests.toNat = 0 ∨ 8 ≤ tests.toNat) := by omega
  have hone : (tests.toNat.testBit 1 && s.anyEnabled) = false := by
    rw [Bool.and_eq_false_imp]
    exact henabled
  have heven : tests.toNat / 2 * 2 = tests.toNat := by
    have : tests.toNat % 2 = 0 := by simpa [Nat.testBit_zero] using hswitch
    omega
  rw [exec_diagSelftest_begun h]
  · have hne : ¬tests.toNat = 0 := by omega
    simp only [selftestsBegun, hswitch, heven, hne, if_false, Bool.false_eq_true]
    rfl
  · simp only [selftestChecks, hm, decide_false, hone, hswitch, hfree, hhost, Bool.false_and, Bool.or_false, Option.isSome_none,
      firstFail_false, firstFail_nil]

/-- With the switch test first, from RUN_PERMITTED. -/
theorem selftest_switch {r : Req} {k : Fin 8} {tests : Word} {s : State} (h : s.admits 0xC0 r k = true)
    (hmost : tests.toNat ≤ 7) (hswitch : tests.toNat.testBit 0 = true) (hall : s.allDisabled = true) (hany : s.anyEnabled = false)
    (hfree : s.power.selftests = none) (hhost : s.saf.testByHost = none) (hst : s.saf.state = .runPermitted) :
    Answers (exec (.diagSelftest r tests) s) (fun t =>
      t.saf.testByHost = some (some k, r.seq) ∧ t.saf.state = .testing ∧ t.cmd = (s.withReply (replyOf r k 0xC0 Status.pending .bare)).cmd ∧
      t.power.selftests = (if tests = 1 then none else some (tests.toNat - 1, some k, r.seq))) := by
  have hodd : tests.toNat % 2 = 1 := by simpa [Nat.testBit_zero] using hswitch
  have hm : ¬(tests.toNat = 0 ∨ 8 ≤ tests.toNat) := by omega
  refine ⟨_, exec_diagSelftest_begun h ?_, ?_⟩
  · have hdisabled : (s.presentAxes.all (fun a => (s.ax a).state = .disabled)) = true := hall
    simp only [selftestChecks, hm, decide_false, hany, Bool.and_false, hdisabled, hfree, hhost, hst, Bool.not_true, Bool.or_false,
      Option.isSome_none, firstFail_false, reduceCtorEq, Bool.false_and, ne_eq, not_true_eq_false, firstFail_nil]
  · have hrest : (if tests.toNat / 2 * 2 = 0 then none else some (tests.toNat / 2 * 2, some k, r.seq)) =
        if tests = 1 then none else some (tests.toNat - 1, some k, r.seq) := by
      have heven : tests.toNat / 2 * 2 = tests.toNat - 1 := by omega
      have hone : tests = 1 ↔ tests.toNat - 1 = 0 := by
        constructor
        · rintro rfl
          rfl
        · intro h0
          exact BitVec.eq_of_toNat_eq (by change tests.toNat = 1; omega)
      simp only [heven, hone]
    have hbegun : selftestsBegun s k r.seq tests.toNat = ((s.onPower (fun p => { p with
        selftests := if tests = 1 then none else some (tests.toNat - 1, some k, r.seq) })).onSaf
        (fun x => { x with testByHost := some (some k, r.seq) })).beginSwitchTest := by
      rw [← hrest]
      exact if_pos hswitch
    refine ⟨?_, ?_, ?_, ?_⟩
    · rw [State.withReply, hbegun, beginSwitchTest_saf]
      rfl
    · rw [State.withReply, hbegun, beginSwitchTest_saf]
      rfl
    · rw [State.withReply, selftestsBegun_cmd]
      rfl
    · rw [State.withReply, hbegun, beginSwitchTest_frame]
      rfl

/-- From LOCKED on SAFE_TEST_FAIL alone the host may run the switch test (R316). -/
theorem selftest_locked {r : Req} {k : Fin 8} {s : State} (h : s.admits 0xC0 r k = true) (hst : s.saf.state = .locked)
    (hfail : s.isActive 0x0C06 255 = true) (hfree : s.power.selftests = none) (hhost : s.saf.testByHost = none)
    (haxes : ∀ a ∈ s.presentAxes, (s.ax a).state = .disabled ∨ (s.ax a).state = .sto)
    (hothers : ∀ f ∈ s.faults, f.code / 256 = 0x0C → f.rank = 7 → f.code = 0x0C06) :
    Answers (exec (.diagSelftest r 1) s) (fun t => t.saf.testByHost = some (some k, r.seq) ∧ t.saf.state = .testing) := by
  refine ⟨_, exec_diagSelftest_begun h ?_, ?_, ?_⟩
  · have hdisabled : (s.presentAxes.all (fun a => (s.ax a).state = .disabled || (s.saf.state = .locked && (s.ax a).state = .sto))) = true := by
      simpa [hst] using haxes
    have halone : (s.faults.any (fun f => f.code / 256 = 0x0C && f.rank = 7 && f.code ≠ 0x0C06)) = false := by
      simpa using hothers
    have htests : (1 : Word).toNat = 1 := rfl
    have hbit : Nat.testBit 1 1 = false := rfl
    have hm : ¬((1 : Nat) = 0 ∨ 8 ≤ 1) := by omega
    simp only [selftestChecks, hdisabled]
    simp only [htests, hbit, hm, decide_false, halone, hfail, hfree, hhost, hst, Bool.false_and, Bool.not_true,
      Bool.and_false, Bool.or_false, Option.isSome_none, firstFail_false, ne_eq, not_true_eq_false, firstFail_nil]
  · change (selftestsBegun s k r.seq 1).saf.testByHost = _
    rw [selftestsBegun, if_pos (by decide), beginSwitchTest_saf]
    rfl
  · change (selftestsBegun s k r.seq 1).saf.state = _
    rw [selftestsBegun, if_pos (by decide), beginSwitchTest_saf]
    rfl

/-- The next test that passes leaves the rest; the last one, and one that fails, ends the request (R454). -/
theorem selftestComplete_facts (test : Nat) (passed : Bool) (s : State) :
    (s.power.selftests = none → exec (.selftestComplete test passed) s = .next s) ∧
    (∀ m slot seq, s.power.selftests = some (m, slot, seq) → s.saf.testByHost = none → test = (if m.testBit 1 then 1 else 2) →
      (passed = true → m - 2 ^ test ≠ 0 → exec (.selftestComplete test passed) s = .next { s with
        power := { s.power with selftests := some (m - 2 ^ test, slot, seq) } }) ∧
      (passed = false ∨ m - 2 ^ test = 0 → Answers (exec (.selftestComplete test passed) s) (fun t =>
        t = { s with power := { s.power with selftests := none }, log := t.log } ∧
        ∃ e, t.log = { s.log with fresh := s.log.fresh ++ [e] } ∧ e.code = 0x0280 ∧ e.extra = seq.toNat ∧
          e.detail = (if passed then Status.ok else Status.faultLatched)))) := by
  refine ⟨fun h => ?_, fun m slot seq h hhost htest => ?_⟩
  · show execSelftestComplete test passed s = _
    rw [execSelftestComplete, h]
  · have hexec : exec (.selftestComplete test passed) s = .next (
        if !passed then (s.onPower (fun p => { p with selftests := none })).complete slot seq 0xC0 Status.faultLatched
        else if m - 2 ^ test = 0 then (s.onPower (fun p => { p with selftests := none })).complete slot seq 0xC0 Status.ok
        else s.onPower (fun p => { p with selftests := some (m - 2 ^ test, slot, seq) })) := by
      show execSelftestComplete test passed s = _
      rw [execSelftestComplete, h]
      refine congrArg Host.Outcome.next (if_neg ?_)
      simp [hhost, htest]
    refine ⟨fun hpassed hrest => ?_, fun hends => ?_⟩
    · rw [hexec, hpassed]
      exact congrArg Host.Outcome.next ((if_neg (by decide)).trans (if_neg hrest))
    · rw [hexec]
      cases passed
      · exact ⟨_, rfl, rfl, _, rfl, rfl, rfl, rfl⟩
      · have hrest : m - 2 ^ test = 0 := hends.resolve_left (by decide)
        rw [if_neg (by decide), if_pos hrest]
        exact ⟨_, rfl, rfl, _, rfl, rfl, rfl, rfl⟩

/-- Settles O36: Plumb, the switch test by its steps, and the self-tests by their checks. -/
theorem plumbAndSelfTests : Obligations.PlumbAndSelfTests := by
  refine ⟨⟨plumbAndHeartbeat, fun s => ?_⟩, fun r k tests s h => ⟨selftest_badParameter h, fun hleast hmost =>
    ⟨selftest_busy h hleast hmost, selftest_others h hleast hmost, selftest_switch h hmost, ?_⟩⟩, selftestComplete_facts⟩
  · obtain ⟨hidle, hstart, hnoTest⟩ := switchTest s
    obtain ⟨hyoung, hoverdue, hinGrace, hgrace⟩ := testAge s
    exact ⟨hidle, hstart, hnoTest, fun a b htest => switchTest_present htest, fun a b htest => switchTest_removed htest,
      hyoung, hoverdue, hinGrace, hgrace⟩
  · rintro rfl hst hfail hfree hhost haxes hothers
    exact selftest_locked h hst hfail hfree hhost haxes hothers

end Sys2Proof.Proofs
end

section
/-! PROOF. The list of transactions: what a record found in it, a record put in it, and the end of one are (R89 to R98); the statements
on TXN_BEGIN, TXN_ABORT, the time-out, the release and TXN_COMMIT_AT. -/

namespace Sys2Proof.Proofs
open Sys2Proof.Machine

/-! ### Records by slot and TAG -/

/-- The test by which `findTxn` finds a record. -/
def names (k : Fin 8) (tag : Half) (t : Txn) : Bool := t.slot = k && t.tag = tag && !t.orphan

theorem findTxn_eq (s : State) (k : Fin 8) (tag : Half) : s.findTxn k tag = s.mtr.txns.find? (names k tag) := rfl

theorem names_iff {k : Fin 8} {tag : Half} {t : Txn} : names k tag t = true ↔ t.slot = k ∧ t.tag = tag ∧ t.orphan = false := by
  simp [names, and_assoc]

theorem names_of_find {s : State} {k : Fin 8} {tag : Half} {t : Txn} (h : s.findTxn k tag = some t) : names k tag t = true :=
  List.find?_some h

/-- Of a record whose session stands, the same record is the one of its slot and TAG. -/
theorem same_eq_names {k : Fin 8} {tag : Half} {t u : Txn} (ht : names k tag t = true) : u.same t = names k tag u := by
  obtain ⟨rfl, rfl, horphan⟩ := names_iff.mp ht
  rw [Txn.same, names, horphan]
  cases hu : u.orphan
  · simp
  · simp

/-- Two names of one record are equal. -/
theorem not_names_of_ne {j k : Fin 8} {g tag : Half} {t : Txn} (h : ¬(j = k ∧ g = tag)) (ht : names k tag t = true) : names j g t = false := by
  obtain ⟨rfl, rfl, -⟩ := names_iff.mp ht
  rw [Bool.eq_false_iff]
  intro hj
  obtain ⟨rfl, rfl, -⟩ := names_iff.mp hj
  exact h ⟨rfl, rfl⟩

/-! ### A record put in the list -/

theorem putTxn_frame (s : State) (t : Txn) : s.putTxn t = { s with mtr := { s.mtr with txns := (s.putTxn t).mtr.txns } } := rfl

/-- The list with a record put in its place. -/
theorem find_put {l : List Txn} {k j : Fin 8} {tag g : Half} {t : Txn} (ht : names k tag t = true) :
    (l.map (fun u => if u.same t then t else u)).find? (names j g) =
      (l.find? (names j g)).map (fun u => if u.same t then t else u) := by
  rw [List.find?_map]
  congr 2
  funext u
  rw [Function.comp_apply, same_eq_names ht]
  split
  · next hu =>
    obtain ⟨hslot, htag, horphan⟩ := names_iff.mp hu
    obtain ⟨hslot', htag', horphan'⟩ := names_iff.mp ht
    simp only [names, hslot, htag, horphan, hslot', htag', horphan']
  · rfl

theorem findTxn_putTxn_same {s : State} {k : Fin 8} {tag : Half} {x t : Txn} (h : s.findTxn k tag = some x) (ht : names k tag t = true) :
    (s.putTxn t).findTxn k tag = some t := by
  refine (find_put ht).trans ?_
  rw [← findTxn_eq, h, Option.map_some, if_pos]
  rw [same_eq_names ht]
  exact names_of_find h

theorem findTxn_putTxn_other {s : State} {k j : Fin 8} {tag g : Half} {t : Txn} (ht : names k tag t = true) (hne : ¬(j = k ∧ g = tag)) :
    (s.putTxn t).findTxn j g = s.findTxn j g := by
  refine (find_put ht).trans ?_
  rw [← findTxn_eq]
  rcases hj : s.findTxn j g with _ | u
  · rfl
  · rw [Option.map_some, if_neg]
    rw [same_eq_names ht]
    have := names_of_find hj
    intro hu
    rw [not_names_of_ne hne hu] at this
    cases this

/-! ### The end of a transaction (R96) -/

theorem complete_frame (s : State) (slot : Option (Fin 8)) (seq : Half) (opcode status : Nat) :
    s.complete slot seq opcode status = { s with log := (s.complete slot seq opcode status).log } := rfl

theorem completeEach_frame (s : State) (l : List Staged) (slot : Option (Fin 8)) (status : Nat) :
    s.each l (fun e u => u.complete slot e.seq e.opcode.toNat status) =
      { s with log := (s.each l (fun e u => u.complete slot e.seq e.opcode.toNat status)).log } := by
  unfold State.each
  induction l generalizing s with
  | nil => rfl
  | cons e l ih => exact (ih _).trans rfl

/-- Giving reserved slots back changes the reservations alone (R91). -/
theorem unreserve_frame (s : State) (l : List (Fin 16)) :
    s.unreserve l = { s with motion := (s.unreserve l).motion } := by
  unfold State.unreserve State.each
  induction l generalizing s with
  | nil => rfl
  | cons a l ih => exact (ih _).trans rfl

theorem unreserve_ax_exists (s : State) (l : List (Fin 16)) (b : Fin 16) : ∃ n, (s.unreserve l).ax b = { s.ax b with reserved := n } := by
  unfold State.unreserve State.each
  induction l generalizing s with
  | nil => exact ⟨_, rfl⟩
  | cons a l ih =>
    obtain ⟨n, hn⟩ := ih (s.onAx a (fun x => { x with reserved := x.reserved - 1 }))
    refine ⟨n, hn.trans ?_⟩
    by_cases hba : b = a
    · rw [hba, State.onAx_ax]
    · rw [State.onAx_ax_of_ne _ _ hba]

theorem unreserve_ax (s : State) (l : List (Fin 16)) (b : Fin 16) :
    (s.unreserve l).ax b = { s.ax b with reserved := ((s.unreserve l).ax b).reserved } := by
  obtain ⟨n, hn⟩ := unreserve_ax_exists s l b
  rw [hn]

/-- A record of a session that stands is stored when it ends. -/
theorem keepTxn_of_session {s : State} {t : Txn} (h : t.orphan = false) : s.keepTxn t = s.putTxn t := by
  rw [State.keepTxn, h, Bool.false_and, if_neg Bool.false_ne_true]

/-- The record of a transaction that has ended. -/
def endedTxn (s : State) (t : Txn) (final : TxnState) : Txn := { t with state := final, staged := [], finalAt := s.frame64 }

/-- `u` is `s` with the list of transactions `l`, slots given back, and what the counters and events of an end leave. -/
def EndedTo (s : State) (l : List Txn) (u : State) : Prop :=
  u = { s with mtr := u.mtr, motion := u.motion, regs := u.regs, saturated := u.saturated, faults := u.faults, log := u.log } ∧
  u.mtr.txns = l ∧ ∀ a : Fin 16, u.ax a = { s.ax a with reserved := (u.ax a).reserved }

/-- Counting, logging and the note of the last ring transaction keep it so. -/
theorem EndedTo.trans {s u v : State} {l : List Txn} (h : EndedTo s l u)
    (hv : v = { u with mtr := v.mtr, regs := v.regs, saturated := v.saturated, faults := v.faults, log := v.log })
    (htxns : v.mtr.txns = u.mtr.txns) : EndedTo s l v := by
  obtain ⟨hu, hl, hax⟩ := h
  have hmotion : ∀ a, v.ax a = u.ax a := fun a => by rw [hv]; rfl
  refine ⟨?_, htxns.trans hl, fun a => by rw [hmotion]; exact hax a⟩
  rw [hv, hu]

theorem endedTo_put {s s1 : State} {t : Txn} (h : s1 = { s with motion := s1.motion })
    (hax : ∀ a : Fin 16, s1.ax a = { s.ax a with reserved := (s1.ax a).reserved }) :
    EndedTo s (s.putTxn t).mtr.txns (s1.putTxn t) := by
  refine ⟨?_, ?_, hax⟩
  · rw [putTxn_frame, h]
  · rw [h]
    rfl

theorem EndedTo.complete {s u : State} {l : List Txn} (h : EndedTo s l u) (slot : Option (Fin 8)) (seq : Half) (opcode status : Nat) :
    EndedTo s l (u.complete slot seq opcode status) := h.trans rfl rfl

theorem EndedTo.completeEach {s u : State} {l : List Txn} (h : EndedTo s l u) (es : List Staged) (slot : Option (Fin 8)) (status : Nat) :
    EndedTo s l (u.each es (fun e v => v.complete slot e.seq e.opcode.toNat status)) :=
  h.trans (by rw [completeEach_frame]) (by rw [completeEach_frame])

theorem EndedTo.count {s u : State} {l : List Txn} (h : EndedTo s l u) (index sub : Nat) : EndedTo s l (u.count index sub) :=
  h.trans (by rw [count_frame]) (by rw [count_frame])

theorem EndedTo.ite {s u v : State} {l : List Txn} {c : Prop} [Decidable c] (hu : EndedTo s l u) (hv : EndedTo s l v) :
    EndedTo s l (if c then u else v) := by
  split
  · exact hu
  · exact hv

/-- The end of a transaction stores its record, gives its reservations back, counts and logs; nothing else changes. -/
theorem endTxn_facts {s : State} {t : Txn} (final : TxnState) (status : Nat) (h : t.orphan = false) :
    EndedTo s (s.putTxn (endedTxn s t final)).mtr.txns (s.endTxn t final status) := by
  have hkept : EndedTo s (s.putTxn (endedTxn s t final)).mtr.txns
      ((if final = .committed ∨ final = .partial_ ∨ (final = .inconsistent ∧ t.coordinator) then s
        else s.unreserve (t.staged.flatMap (fun e => s.slotsOf e.cmd))).keepTxn (endedTxn s t final)) := by
    rw [keepTxn_of_session (t := endedTxn s t final) h]
    split
    · exact endedTo_put rfl (fun _ => rfl)
    · exact endedTo_put (unreserve_frame ..) (unreserve_ax _ _)
  have hlogged := (EndedTo.ite (c := t.commit.isSome ∧ (t.coordinator ∨ ¬t.ring)) (hkept.complete (some t.slot) t.commitSeq 0x21 status)
    hkept).completeEach (t.staged.filter Staged.awaits) (some t.slot) status
  have hcounted := EndedTo.ite (c := final = .committed ∨ final = .partial_) (hlogged.count 0x0231 255)
    (EndedTo.ite (c := final = .aborted ∨ final = .timedOut) (hlogged.count 0x0232 255) hlogged)
  exact EndedTo.ite (hcounted.trans rfl rfl) hcounted

/-- The record of an ended transaction, found by its slot and TAG. -/
theorem findTxn_endTxn {s : State} {k : Fin 8} {tag : Half} {t : Txn} (final : TxnState) (status : Nat) (h : s.findTxn k tag = some t) :
    (s.endTxn t final status).findTxn k tag = some (endedTxn s t final) := by
  have hnames := names_of_find h
  obtain ⟨-, htxns, -⟩ := endTxn_facts (s := s) final status (names_iff.mp hnames).2.2
  rw [findTxn_eq, htxns, ← findTxn_eq]
  exact findTxn_putTxn_same h hnames

/-! ### TXN_BEGIN (R89, R93, R94) -/

/-- The checks of TXN_BEGIN. -/
def beginChecks (s : State) (r : Req) (k : Fin 8) (flags : Byte) (timeout : Half) : List (Bool × Nat) :=
  [ (r.tag = 0, Status.badParameter),
    (2 ≤ flags.toNat, Status.badParameter),
    (flags &&& 1 = 1 && !(s.ring.joined && !s.ring.detached), Status.badParameter),
    (match s.findTxn k r.tag with | some t => !t.state.final | none => false, Status.badParameter),
    (1 ≤ timeout.toNat && timeout.toNat < 20, Status.outOfRange),
    (8 ≤ s.liveTxns, Status.txnLimit),
    (4 ≤ (s.mtr.txns.filter (fun t => t.slot = k && !t.orphan && !t.state.final)).length, Status.txnLimit)]

/-- The OPEN record that TXN_BEGIN creates. -/
def begunTxn (s : State) (r : Req) (k : Fin 8) (flags : Byte) (timeout : Half) : Txn :=
  { slot := k, tag := r.tag, client := match s.session k with | some x => x.client | none => 0, ring := flags &&& 1 = 1, state := .open_,
    deadline := r.arrived + (if timeout = 0 then s.devN 0x0221 else timeout.toNat) * 10000 }

/-- The list in which the record of a name has made place for a new one. -/
def renewed (s : State) (k : Fin 8) (tag : Half) (t : Txn) : State :=
  { s with mtr := { s.mtr with txns := s.mtr.txns.filter (fun u => !names k tag u) ++ [t] } }

theorem exec_txnBegin {r : Req} {k : Fin 8} {flags : Byte} {timeout : Half} {s : State} (h : s.admits 0x20 r k = true) :
    exec (.txnBegin r flags timeout) s = .next (s.checked r 0x20 (beginChecks s r k flags timeout)
      (fun s => (renewed s k r.tag (begunTxn s r k flags timeout)).answer r 0x20 Status.ok .bare)) :=
  congrArg Host.Outcome.next ((State.request_of_admits h _).trans rfl)

theorem exec_txnBegin_refused {r : Req} {k : Fin 8} {flags : Byte} {timeout : Half} {s : State} {status : Nat} (h : s.admits 0x20 r k = true)
    (hfail : firstFail (beginChecks s r k flags timeout) = some status) :
    exec (.txnBegin r flags timeout) s = .next (s.withReply (replyOf r k 0x20 status .bare)) := by
  rw [exec_txnBegin h, State.checked_fail hfail, State.refuse, answer_of_admits h]

/-- Outside its first four checks, TXN_BEGIN is refused for its time-out and the limits of Table 4.5 alone. -/
theorem beginChecks_named {r : Req} {k : Fin 8} {flags : Byte} {timeout : Half} {s : State} (htag : r.tag ≠ 0) (hflags : flags.toNat < 2)
    (hring : flags = 1 → s.ring.joined = true ∧ s.ring.detached = false) (hold : ∀ y, s.findTxn k r.tag = some y → y.state.final = true) :
    firstFail (beginChecks s r k flags timeout) = firstFail
      [ (1 ≤ timeout.toNat && timeout.toNat < 20, Status.outOfRange),
        (8 ≤ s.liveTxns, Status.txnLimit),
        (4 ≤ (s.mtr.txns.filter (fun t => t.slot = k && !t.orphan && !t.state.final)).length, Status.txnLimit)] := by
  have hoff : (decide (flags &&& 1 = 1) && !(s.ring.joined && !s.ring.detached)) = false := by
    rw [Bool.and_eq_false_imp, decide_eq_true_eq]
    intro hbit
    have hone : flags = 1 := by
      have : flags = 0 ∨ flags = 1 := by bv_omega
      rcases this with rfl | rfl
      · exact absurd hbit (by decide)
      · rfl
    simp [hring hone]
  have hfinal : (match s.findTxn k r.tag with | some t => !t.state.final | none => false) = false := by
    rcases hfind : s.findTxn k r.tag with _ | y
    · rfl
    · simp [hold y hfind]
  have hfew : ¬2 ≤ flags.toNat := by omega
  simp only [beginChecks, htag, hfew, hoff, decide_false, firstFail_false]
  rw [hfinal, firstFail_false]

theorem find_filter_self (l : List Txn) (k : Fin 8) (tag : Half) : (l.filter (fun u => !names k tag u)).find? (names k tag) = none :=
  List.find?_eq_none.mpr fun u hu => by simpa using (List.mem_filter.mp hu).2

theorem find_renewed {s : State} {k : Fin 8} {tag : Half} {t : Txn} (ht : names k tag t = true) :
    (renewed s k tag t).findTxn k tag = some t := by
  rw [findTxn_eq]
  simp only [renewed, List.find?_append, find_filter_self, Option.none_or, List.find?_cons, ht]

/-- The records of other names stay where those of one name have gone. -/
theorem find_filter_names {l : List Txn} {j k : Fin 8} {g tag : Half} (h : ¬(j = k ∧ g = tag)) :
    (l.filter (fun u => !names k tag u)).find? (names j g) = l.find? (names j g) := by
  rw [List.find?_filter]
  congr 1
  funext u
  cases hu : names j g u
  · simp
  · simp [not_names_of_ne (fun hkj => h ⟨hkj.1.symm, hkj.2.symm⟩) hu]

theorem find_renewed_other {s : State} {j k : Fin 8} {g tag : Half} {t : Txn} (h : ¬(j = k ∧ g = tag)) (ht : names k tag t = true) :
    (renewed s k tag t).findTxn j g = s.findTxn j g := by
  rw [findTxn_eq]
  simp only [renewed, List.find?_append, find_filter_names h]
  rw [List.find?_cons_of_neg (by simp [not_names_of_ne h ht]), List.find?_nil, Option.or_none]
  rfl

end Sys2Proof.Proofs
end

section
/-! PROOF. The statements on transactions: begin, abort, time-out and release, and TXN_COMMIT_AT (R89 to R99). -/

namespace Sys2Proof.Proofs
open Sys2Proof.Machine

/-! ### TXN_BEGIN (R89, R93, R94) -/

/-- A TXN_BEGIN that a first check refuses. -/
theorem txnBegin_badParameter {r : Req} {k : Fin 8} {flags : Byte} {timeout : Half} {s : State} (h : s.admits 0x20 r k = true)
    (hbad : r.tag = 0 ∨ 2 ≤ flags.toNat ∨ (flags = 1 ∧ ¬(s.ring.joined = true ∧ s.ring.detached = false)) ∨
      (∃ y, s.findTxn k r.tag = some y ∧ y.state.final = false)) :
    exec (.txnBegin r flags timeout) s = .next (s.withReply (replyOf r k 0x20 Status.badParameter .bare)) := by
  refine exec_txnBegin_refused h ?_
  simp only [beginChecks]
  by_cases htag : r.tag = 0
  · rw [decide_eq_true htag, firstFail_true]
  · rw [decide_eq_false htag, firstFail_false]
    by_cases hflags : 2 ≤ flags.toNat
    · rw [decide_eq_true hflags, firstFail_true]
    · rw [decide_eq_false hflags, firstFail_false]
      rcases hbad with hbad | hbad | ⟨rfl, hring⟩ | ⟨y, hfind, hlive⟩
      · exact absurd hbad htag
      · exact absurd hbad hflags
      · have hoff : (s.ring.joined && !s.ring.detached) = false := by simpa using hring
        rw [hoff]
        rfl
      · generalize (_ && _ : Bool) = off
        cases off
        · simp only [hfind, hlive, Bool.not_false, firstFail_false, firstFail_true]
        · exact firstFail_true ..

/-- A TXN_BEGIN that passes its checks. -/
theorem txnBegin_accepted {r : Req} {flags : Byte} {timeout : Half} {k : Fin 8} {x : Session} {s : State} (h : s.admits 0x20 r k = true)
    (hx : s.session k = some x) (hflags : flags.toNat < 2) (hpass : firstFail (beginChecks s r k flags timeout) = none) :
    Answers (exec (.txnBegin r flags timeout) s) (fun t =>
      t = State.withReply { s with mtr := { s.mtr with txns := t.mtr.txns } } (replyOf r k 0x20 Status.ok .bare) ∧
      t.findTxn k r.tag = some
        { slot := k, tag := r.tag, client := x.client, ring := decide (flags = 1), state := .open_
          deadline := r.arrived + 10000 * (if timeout = 0 then s.devN 0x0221 else timeout.toNat) } ∧
      ∀ (j : Fin 8) (tag : Half), ¬(j = k ∧ tag = r.tag) → t.findTxn j tag = s.findTxn j tag) := by
  have hbegun : begunTxn s r k flags timeout =
      { slot := k, tag := r.tag, client := x.client, ring := decide (flags = 1), state := .open_
        deadline := r.arrived + 10000 * (if timeout = 0 then s.devN 0x0221 else timeout.toNat) } := by
    have hring : (flags &&& 1 = 1) ↔ flags = 1 := by
      have : flags = 0 ∨ flags = 1 := by bv_omega
      rcases this with rfl | rfl <;> decide
    simp only [begunTxn, hx, hring, Nat.mul_comm]
  have hnames : names k r.tag (begunTxn s r k flags timeout) = true := names_iff.mpr ⟨rfl, rfl, rfl⟩
  refine ⟨_, (exec_txnBegin h).trans (congrArg Host.Outcome.next (State.checked_pass hpass _)), ?_, ?_, ?_⟩
  · rw [answer_of_sessions (State.slotOf_of_admits h) (by rfl)]
    rfl
  · rw [← hbegun]
    exact find_renewed hnames
  · exact fun j g hne => find_renewed_other hne hnames

/-! ### TXN_ABORT (R97) -/

/-- What TXN_ABORT does with the record it finds. -/
def abortOf (s : State) (r : Req) (t : Txn) : State :=
  match t.state with
  | .open_ => (s.abortTxn t).answer r 0x22 Status.ok .bare
  | .committing =>
    if t.ring then s.refuse r 0x22 Status.alreadyDone
    else (s.abortTxn t).answer r 0x22 Status.ok .bare
  | .voting =>
    if t.coordinator then (s.putTxn { t with decided := some false }).answer r 0x22 Status.ok .bare
    else s.refuse r 0x22 Status.busy
  | .aborted => s.refuse r 0x22 (if t.ring && t.decided.isSome then Status.alreadyDone else Status.txnAborted)
  | .timedOut => s.refuse r 0x22 Status.txnTimeout
  | .inconsistent => s.refuse r 0x22 (if t.ring && t.decided.isSome then Status.alreadyDone else Status.inconsistent)
  | .committed | .partial_ => s.refuse r 0x22 Status.alreadyDone

theorem exec_txnAbort {r : Req} {k : Fin 8} {s : State} {t : Txn} (h : s.admits 0x22 r k = true) (hfind : s.findTxn k r.tag = some t) :
    exec (.txnAbort r) s = .next (if t.doneAt = some s.frame64 then s.refuse r 0x22 Status.alreadyDone else abortOf s r t) := by
  refine congrArg Host.Outcome.next ((State.request_of_admits h _).trans ?_)
  simp only [hfind]
  rfl

/-- The abort of an OPEN or a local COMMITTING transaction. -/
theorem txnAbort_ends {r : Req} {k : Fin 8} {s : State} {x : Txn} (h : s.admits 0x22 r k = true) (hfind : s.findTxn k r.tag = some x)
    (hact : exec (.txnAbort r) s = .next ((s.abortTxn x).answer r 0x22 Status.ok .bare)) :
    Answers (exec (.txnAbort r) s) (fun t =>
      t = { s with mtr := t.mtr, motion := t.motion, regs := t.regs, saturated := t.saturated, faults := t.faults, log := t.log,
                   cmd := (s.withReply (replyOf r k 0x22 Status.ok .bare)).cmd } ∧
      t.findTxn k r.tag = some { x with state := .aborted, staged := [], finalAt := s.frame64 } ∧
      ∀ a : Fin 16, t.ax a = { s.ax a with reserved := (t.ax a).reserved }) := by
  obtain ⟨hframe, -, hax⟩ := endTxn_facts (s := s) (t := x) .aborted Status.txnAborted (names_iff.mp (names_of_find hfind)).2.2
  have hended := findTxn_endTxn (s := s) .aborted Status.txnAborted hfind
  refine ⟨_, hact, ?_, hended, hax⟩
  rw [answer_of_sessions (State.slotOf_of_admits h) (by rw [State.abortTxn, hframe])]
  rw [State.withReply, State.abortTxn, hframe]
  rfl

/-- A record that TXN_ABORT only refuses. -/
theorem txnAbort_refused {r : Req} {k : Fin 8} {s : State} {x : Txn} {status : Nat} (h : s.admits 0x22 r k = true)
    (hfind : s.findTxn k r.tag = some x) (hdone : x.doneAt ≠ some s.frame64) (hact : abortOf s r x = s.refuse r 0x22 status) :
    exec (.txnAbort r) s = .next (s.withReply (replyOf r k 0x22 status .bare)) := by
  rw [exec_txnAbort h hfind, if_neg hdone, hact, State.refuse, answer_of_admits h]

theorem txnAbort_facts (r : Req) (k : Fin 8) (s : State) (h : s.admits 0x22 r k = true) :
    (s.findTxn k r.tag = none → exec (.txnAbort r) s = .next (s.withReply (replyOf r k 0x22 Status.badParameter .bare))) ∧
    (∀ x : Txn, s.findTxn k r.tag = some x → x.doneAt = some s.frame64 →
      exec (.txnAbort r) s = .next (s.withReply (replyOf r k 0x22 Status.alreadyDone .bare))) := by
  refine ⟨fun hnone => congrArg Host.Outcome.next ((State.request_of_admits h _).trans ?_), fun x hfind hdone => ?_⟩
  · simp only [hnone, State.refuse, answer_of_admits h]
  · rw [exec_txnAbort h hfind, if_pos hdone, State.refuse, answer_of_admits h]

/-- Settles O18: the checks of TXN_BEGIN, the states of TXN_ABORT, and the ends of a record. -/
theorem txnBeginsAndEnds : Obligations.TxnBeginsAndEnds := by
  refine ⟨fun r flags timeout k x s h hx => ⟨txnBegin_badParameter h, fun htag hflags hring hold => ?_⟩,
    fun r k s h => ⟨(txnAbort_facts r k s h).1, (txnAbort_facts r k s h).2, fun x hfind hdone => ?_⟩,
    fun k tag x s hfind hopen => ⟨fun hearly => ?_, fun hlate => ?_⟩, fun k tag x s hfind hfinal => ⟨fun hearly => ?_, fun hlate => ?_⟩⟩
  · have hnamed := beginChecks_named (timeout := timeout) htag hflags hring hold
    refine ⟨fun hleast hmost => exec_txnBegin_refused h ?_, fun htime => ?_⟩
    · have hshort : timeout.toNat < 20 := by omega
      simp only [hnamed, hleast, hshort, decide_true, Bool.and_self, firstFail_true]
    · have hlong : (decide (1 ≤ timeout.toNat) && decide (timeout.toNat < 20)) = false := by
        rcases htime with rfl | htime
        · rfl
        · rw [decide_eq_false (p := timeout.toNat < 20) (by omega), Bool.and_false]
      refine ⟨fun hlimit => exec_txnBegin_refused h ?_, fun hlive hown => txnBegin_accepted h hx hflags ?_⟩
      · rw [hnamed, hlong, firstFail_false]
        by_cases hlive : 8 ≤ s.liveTxns
        · rw [decide_eq_true hlive, firstFail_true]
        · rw [decide_eq_false hlive, firstFail_false, decide_eq_true (hlimit.resolve_left hlive), firstFail_true]
      · rw [hnamed, hlong, decide_eq_false (by omega), decide_eq_false (by omega)]
        rfl
  · refine ⟨?_, fun hst => ?_, fun hst hcoord => ?_, fun hst hcoord => ?_, fun hst => ?_, fun hst => ?_, fun hst => ?_⟩
    · rintro (hst | ⟨hst, hring⟩) <;> refine txnAbort_ends h hfind ?_ <;> rw [exec_txnAbort h hfind, if_neg hdone, abortOf, hst]
      simp only [hring, Bool.false_eq_true, if_false]
    · refine txnAbort_refused h hfind hdone ?_
      rcases hst with ⟨hst, hring⟩ | hst | hst <;> rw [abortOf, hst]
      simp only [hring, if_true]
    · refine txnAbort_refused h hfind hdone ?_
      rw [abortOf, hst]
      simp only [hcoord, Bool.false_eq_true, if_false]
    · have hact : exec (.txnAbort r) s = .next ((s.putTxn { x with decided := some false }).answer r 0x22 Status.ok .bare) := by
        rw [exec_txnAbort h hfind, if_neg hdone, abortOf, hst]
        simp only [hcoord, if_true]
      refine ⟨_, hact, ?_, findTxn_putTxn_same hfind (names_of_find hfind :)⟩
      rw [answer_of_sessions (State.slotOf_of_admits h) (by rfl)]
      rfl
    · refine txnAbort_refused h hfind hdone ?_
      rw [abortOf, hst]
      simp only [Bool.and_eq_true, Option.isSome_iff_ne_none]
    · refine txnAbort_refused h hfind hdone ?_
      rw [abortOf, hst]
    · refine txnAbort_refused h hfind hdone ?_
      rw [abortOf, hst]
      simp only [Bool.and_eq_true, Option.isSome_iff_ne_none]
  · show execTxnTimeout k tag s = _
    simp only [execTxnTimeout, hfind]
    rw [if_neg (by omega)]
  · obtain ⟨hframe, -, -⟩ := endTxn_facts (s := s) (t := x) .timedOut Status.txnTimeout (names_iff.mp (names_of_find hfind)).2.2
    refine ⟨s.endTxn x .timedOut Status.txnTimeout, ?_, hframe, findTxn_endTxn .timedOut Status.txnTimeout hfind⟩
    show execTxnTimeout k tag s = _
    simp only [execTxnTimeout, hfind]
    rw [if_pos ⟨hopen, hlate⟩]
  · show execRecordRelease k tag s = _
    simp only [execRecordRelease, hfind]
    rw [if_neg (by omega)]
  · have hact : exec (.recordRelease k tag) s =
        .next { s with mtr := { s.mtr with txns := s.mtr.txns.filter (fun u => !names k tag u) } } := by
      show execRecordRelease k tag s = _
      simp only [execRecordRelease, hfind]
      rw [if_pos ⟨hfinal, hlate⟩]
      simp only [same_eq_names (names_of_find hfind)]
    exact ⟨_, hact, rfl, find_filter_self .., fun j g hne => find_filter_names hne⟩

/-! ### TXN_COMMIT_AT (R95, R99) -/

/-- The frames ahead at which a commit is asked for (R95, R99). -/
def commitAhead (s : State) (t : Txn) (flags : Byte) (frame : Word) : Nat :=
  if flags.getLsbD 0 then (if t.ring then s.devN 0x0220 else 1) else (frame - s.frame32).toNat

/-- The checks of TXN_COMMIT_AT on an OPEN record. -/
def commitChecks (s : State) (t : Txn) (flags : Byte) (frame : Word) : List (Bool × Nat) :=
  let least := if t.ring then s.devN 0x0220 else 1
  let ahead := commitAhead s t flags frame
  let coordinates := s.mtr.txns.any (fun u => u.coordinator && (u.state = .voting || u.state = .committing))
  [ (decide (2 ≤ flags.toNat), Status.badParameter),
    (!flags.getLsbD 0 && decide (ahead < least ∨ s.devN 0x0222 < ahead), Status.outOfRange),
    (t.ring && (s.announcement.isSome || coordinates || decide (2 ≤ s.ringTxns)), Status.busy)]

theorem exec_txnCommitAt {r : Req} {flags : Byte} {frame : Word} {k : Fin 8} {x : Txn} {s : State} (h : s.admits 0x21 r k = true)
    (hfind : s.findTxn k r.tag = some x) (hopen : x.state = .open_) (hdone : x.doneAt ≠ some s.frame64) :
    exec (.txnCommitAt r flags frame) s = .next (s.checked r 0x21 (commitChecks s x flags frame) (fun s =>
      if x.ring then s.prepare r x (s.frame64 + BitVec.ofNat 64 (commitAhead s x flags frame))
      else s.commitLocal r x (s.frame64 + BitVec.ofNat 64 (commitAhead s x flags frame)))) := by
  refine congrArg Host.Outcome.next ((State.request_of_admits h _).trans ?_)
  have hrefusal : x.refusal s.frame64 = none := by rw [Txn.refusal, if_neg hdone, hopen]; rfl
  simp only [hfind, hrefusal]
  rfl

theorem txnCommitAt_refused {r : Req} {flags : Byte} {frame : Word} {k : Fin 8} {x : Txn} {s : State} {status : Nat}
    (h : s.admits 0x21 r k = true) (hfind : s.findTxn k r.tag = some x) (hopen : x.state = .open_) (hdone : x.doneAt ≠ some s.frame64)
    (hfail : firstFail (commitChecks s x flags frame) = some status) :
    exec (.txnCommitAt r flags frame) s = .next (s.withReply (replyOf r k 0x21 status .bare)) := by
  rw [exec_txnCommitAt h hfind hopen hdone, State.checked_fail hfail, State.refuse, answer_of_admits h]

/-- A ring commit publishes PREPARE and the own vote, and the record votes (R99, Table 4.9). -/
theorem prepare_facts {r : Req} {k : Fin 8} {x : Txn} {c : Long} {s : State} (hslot : s.slotOf r.src = some k)
    (hfind : s.findTxn k r.tag = some x) :
    s.prepare r x c = State.withReply { s with
        mtr := { s.mtr with txns := (s.prepare r x c).mtr.txns },
        ring := { s.ring with fields := (s.prepare r x c).ring.fields, own := (s.prepare r x c).ring.own } }
      (replyOf r k 0x21 Status.pending (.bytes (leBytes 4 (c.setWidth 32 : Word).toNat))) ∧
    ∃ y, (s.prepare r x c).findTxn k r.tag = some y ∧ y.state = .voting ∧ y.coordinator = true ∧ y.staged = x.staged ∧ y.commit = some c := by
  refine ⟨?_, { x with
      state := .voting, commit := some c, commitSeq := r.seq, commitArrived := r.arrived, coordinator := true,
      coordNode := BitVec.ofNat 8 s.ownNode, begunAt := s.frame64,
      participants := BitVec.ofNat 8 s.joinedMask ||| BitVec.ofNat 8 (2 ^ s.ring.addr.val) }, ?_, rfl, rfl, rfl, rfl⟩
  · simp only [State.prepare]
    rw [answer_of_sessions hslot (by rfl)]
    rfl
  · exact findTxn_putTxn_same hfind (names_of_find hfind :)

/-- Settles O19: the checks of TXN_COMMIT_AT, and the local and the ring commit. -/
theorem txnCommitAt : Obligations.TxnCommitAt := by
  refine fun r flags frame k x s h hfind hopen hdone => ⟨fun hflags => ?_, fun hlocal ahead hahead => ?_, fun hlocal hflags hout => ?_,
    fun hring hflags hquiet hcoord hfew => ?_⟩
  · refine txnCommitAt_refused h hfind hopen hdone ?_
    simp only [commitChecks, hflags, decide_true, firstFail_true]
  · have hcommit : commitAhead s x flags frame = ahead := by
      rcases hahead with ⟨rfl, rfl⟩ | ⟨rfl, rfl, -, -⟩
      · simp [commitAhead, hlocal]
      · simp [commitAhead]
    have hpass : firstFail (commitChecks s x flags frame) = none := by
      simp only [commitChecks, hcommit, hlocal]
      rcases hahead with ⟨rfl, rfl⟩ | ⟨rfl, -, hleast, hmost⟩
      · rfl
      · have hin : ¬(ahead < 1 ∨ s.devN 0x0222 < ahead) := by omega
        simp only [Bool.false_eq_true, if_false, hin]
        rfl
    refine ⟨s.commitLocal r x (s.frame64 + BitVec.ofNat 64 ahead), ?_, ?_, ?_, ?_⟩
    · rw [exec_txnCommitAt h hfind hopen hdone, State.checked_pass hpass, hcommit]
      simp only [hlocal, Bool.false_eq_true, if_false]
    · simp only [State.commitLocal]
      rw [answer_of_sessions (State.slotOf_of_admits h) (by rfl)]
      rfl
    · exact findTxn_putTxn_same hfind (names_of_find hfind :)
    · exact fun j g hne => findTxn_putTxn_other (names_of_find hfind :) hne
  · refine txnCommitAt_refused h hfind hopen hdone ?_
    subst hflags
    have hout' : (frame - s.frame32).toNat < 1 ∨ s.devN 0x0222 < (frame - s.frame32).toNat := hout
    simp only [commitChecks, commitAhead, hlocal, Bool.false_eq_true, if_false]
    rw [decide_eq_false (by decide), firstFail_false, show (0 : Byte).getLsbD 0 = false from rfl]
    simp only [Bool.not_false, Bool.true_and, Bool.false_eq_true, if_false, hout', decide_true, firstFail_true]
  · have hpass : firstFail (commitChecks s x flags frame) = none := by
      have hnone : s.mtr.txns.any (fun u => u.coordinator && (u.state = .voting || u.state = .committing)) = false := by
        simpa [List.any_eq_not_all_not] using hcoord
      subst hflags
      have hfree : ¬2 ≤ s.ringTxns := by omega
      simp only [commitChecks, hquiet, hnone, hfree, decide_false, Option.isSome_none, Bool.or_false, Bool.and_false]
      rfl
    have hact : exec (.txnCommitAt r flags frame) s = .next (s.prepare r x (s.frame64 + BitVec.ofNat 64 (s.devN 0x0220))) := by
      rw [exec_txnCommitAt h hfind hopen hdone, State.checked_pass hpass]
      subst hflags
      simp [commitAhead, hring]
    obtain ⟨hframe, hrecord⟩ := prepare_facts (c := s.frame64 + BitVec.ofNat 64 (s.devN 0x0220)) (State.slotOf_of_admits h) hfind
    exact ⟨_, hact, hframe, hrecord⟩

end Sys2Proof.Proofs
end

section
/-! PROOF. The move queue: what the operations on it leave unchanged, and what stands in the slot of an axis after them (R224 to R236). -/

namespace Sys2Proof.Proofs
open Sys2Proof.Machine

/-! ### The state outside motion -/

/-- `t` is `s` but for the axis slots, the groups and the log. -/
def MotionOnly (s t : State) : Prop :=
  t = { s with motion := { s.motion with axes := t.motion.axes, groups := t.motion.groups }, log := t.log }

theorem MotionOnly.refl (s : State) : MotionOnly s s := rfl

theorem MotionOnly.trans {s t u : State} (h : MotionOnly s t) (h' : MotionOnly t u) : MotionOnly s u := by
  unfold MotionOnly at *
  rw [h', h]

theorem MotionOnly.onAx {s t : State} (h : MotionOnly s t) (a : Fin 16) (f : Axis → Axis) : MotionOnly s (t.onAx a f) := h.trans rfl

theorem MotionOnly.event {s t : State} (h : MotionOnly s t) (e : Event) : MotionOnly s (t.event e) := h.trans rfl

theorem MotionOnly.each {α : Type} {s t : State} (h : MotionOnly s t) (l : List α) {f : α → State → State}
    (hf : ∀ x u, MotionOnly u (f x u)) : MotionOnly s (t.each l f) := by
  unfold State.each
  induction l generalizing t with
  | nil => exact h
  | cons x l ih => exact ih (h.trans (hf x t))

theorem motionOnly_leaveGroup (s : State) (a : Fin 16) (m : Move) : MotionOnly s (s.leaveGroup a m) := by
  unfold State.leaveGroup
  split
  · rfl
  · split <;> rfl

/-- An entry that leaves the queue unfinished is logged. -/
theorem motionOnly_entryLeft (s : State) (a : Fin 16) (m : Move) {outcome : Nat} (h : outcome ≠ 0) :
    MotionOnly s (s.entryLeft a m outcome) := by
  simp only [State.entryLeft, if_neg h]
  rfl

theorem motionOnly_dropQueue (s : State) (a : Fin 16) {outcome : Nat} (h : outcome ≠ 0) : MotionOnly s (s.dropQueue a outcome) :=
  ((MotionOnly.refl s).each _ fun m u => motionOnly_entryLeft u a m h).onAx a _

theorem motionOnly_clearQueue (s : State) (a : Fin 16) {outcome : Nat} (h : outcome ≠ 0) : MotionOnly s (s.clearQueue a outcome) :=
  ((MotionOnly.refl s).each _ fun m u => motionOnly_leaveGroup u a m).trans (motionOnly_dropQueue _ a h)

theorem motionOnly_endHoming (s : State) (a : Fin 16) (status : Nat) : MotionOnly s (s.endHoming a status) := by
  unfold State.endHoming
  split <;> rfl

/-! ### The slots of the axes -/

/-- An operation that keeps every axis slot keeps them over a list. -/
theorem each_ax {α : Type} {s : State} {l : List α} {f : α → State → State} (hf : ∀ x u (b : Fin 16), (f x u).ax b = u.ax b) (b : Fin 16) :
    (s.each l f).ax b = s.ax b := by
  unfold State.each
  induction l generalizing s with
  | nil => rfl
  | cons x l ih => exact ih.trans (hf x s b)

theorem leaveGroup_ax (s : State) (a : Fin 16) (m : Move) (b : Fin 16) : (s.leaveGroup a m).ax b = s.ax b := by
  unfold State.leaveGroup
  split
  · rfl
  · split <;> rfl

theorem entryLeft_ax (s : State) (a : Fin 16) (m : Move) {outcome : Nat} (h : outcome ≠ 0) (b : Fin 16) :
    (s.entryLeft a m outcome).ax b = s.ax b := by
  simp only [State.entryLeft, if_neg h]
  rfl

theorem onAx_ax_ite (s : State) (a b : Fin 16) (f : Axis → Axis) : (s.onAx a f).ax b = if b = a then f (s.ax a) else s.ax b := by
  split
  · next h => rw [h, State.onAx_ax]
  · next h => exact State.onAx_ax_of_ne s f h

/-- A dropped queue is empty; no other axis changes. -/
theorem dropQueue_ax (s : State) (a : Fin 16) {outcome : Nat} (h : outcome ≠ 0) (b : Fin 16) :
    (s.dropQueue a outcome).ax b = if b = a then { s.ax a with queue := [], deferred := false } else s.ax b := by
  have hleft := each_ax (s := s) (l := (s.ax a).queue) (fun m u b => entryLeft_ax u a m h b)
  unfold State.dropQueue
  rw [onAx_ax_ite, hleft, hleft]

/-- So is a cleared one. -/
theorem clearQueue_ax (s : State) (a : Fin 16) {outcome : Nat} (h : outcome ≠ 0) (b : Fin 16) :
    (s.clearQueue a outcome).ax b = if b = a then { s.ax a with queue := [], deferred := false } else s.ax b := by
  have hgroups := each_ax (s := s) (l := (s.ax a).queue) (fun m u b => leaveGroup_ax u a m b)
  rw [State.clearQueue, dropQueue_ax _ a h, hgroups, hgroups]

theorem endHoming_ax (s : State) (a : Fin 16) (status : Nat) (b : Fin 16) :
    (s.endHoming a status).ax b = if b = a then { s.ax a with homing := none } else s.ax b := by
  unfold State.endHoming
  split
  · next hnone =>
    split
    · next hb => rw [hb, ← hnone]
    · rfl
  · exact onAx_ax_ite s a b _

/-! ### Entries queued (R224, R228, R232, R233) -/

/-- The axis whose queue an entry enters: under REPLACE emptied before. -/
def replaced (s : State) (a : Fin 16) (replace : Prop) [Decidable replace] : State :=
  if replace then (s.clearQueue a 2).onAx a (fun x => { x with stop := if x.reaction = 0 then none else x.stop, startAt := s.frame64 }) else s

theorem motionOnly_replaced (s : State) (a : Fin 16) (replace : Prop) [Decidable replace] : MotionOnly s (replaced s a replace) := by
  unfold replaced
  split
  · exact (motionOnly_clearQueue s a (by decide)).onAx a _
  · rfl

theorem replaced_ax_other (s : State) {a b : Fin 16} (replace : Prop) [Decidable replace] (h : b ≠ a) : (replaced s a replace).ax b = s.ax b := by
  unfold replaced
  split
  · rw [State.onAx_ax_of_ne _ _ h, clearQueue_ax s a (by decide), if_neg h]
  · rfl

/-- Under REPLACE the queue is empty; the demand and the next move ID stay. -/
theorem replaced_ax (s : State) (a : Fin 16) (replace : Prop) [Decidable replace] :
    ((replaced s a replace).ax a).queue = (if replace then [] else (s.ax a).queue) ∧
    ((replaced s a replace).ax a).demand = (s.ax a).demand ∧ ((replaced s a replace).ax a).nextId = (s.ax a).nextId := by
  unfold replaced
  split
  · rw [State.onAx_ax, clearQueue_ax s a (by decide), if_pos rfl]
    exact ⟨rfl, rfl, rfl⟩
  · exact ⟨rfl, rfl, rfl⟩

/-- The fields of an entry that a request gives and queueing keeps. -/
structure SameMove (m n : Move) : Prop where
  kind : n.kind = m.kind
  id : n.id = m.id
  group : n.group = m.group
  blend : n.blend = m.blend
  relative : n.relative = m.relative
  v : n.v = m.v
  a : n.a = m.a
  d : n.d = m.d
  j : n.j = m.j

theorem SameMove.refl (m : Move) : SameMove m m := ⟨rfl, rfl, rfl, rfl, rfl, rfl, rfl, rfl, rfl⟩

/-- An entry that takes the place of a planned one keeps its limits in force (R234). -/
def keptFrom (x : Axis) (m : Move) : Move :=
  match x.planned with
  | some c => if m.flags % 2 = 1 then { m with keptD := c.keptD, keptJ := c.keptJ, fresh := true } else m
  | none => m

theorem keptFrom_same (x : Axis) (m : Move) : SameMove m (keptFrom x m) ∧ (keptFrom x m).target = m.target := by
  unfold keptFrom
  split
  · split <;> exact ⟨⟨rfl, rfl, rfl, rfl, rfl, rfl, rfl, rfl, rfl⟩, rfl⟩
  · exact ⟨SameMove.refl m, rfl⟩

/-- A REL entry follows the target before it, when there is one (R228). -/
def resolvedBehind (x : Axis) (m : Move) : Move :=
  if m.kind = .rel ∧ m.target = none then { m with target := (x.relBase false).map (fun b => b + m.relative) } else m

theorem resolvedBehind_same (x : Axis) (m : Move) : SameMove m (resolvedBehind x m) := by
  unfold resolvedBehind
  split <;> exact ⟨rfl, rfl, rfl, rfl, rfl, rfl, rfl, rfl, rfl⟩

/-- The queue and the entry behind a move that brakes (R232). -/
def joined (s : State) (a : Fin 16) (m : Move) : List Move × Move :=
  match (s.ax a).queue.getLast? with
  | some p =>
    if p.began ∧ !p.passed ∧ p.kind ≠ .vel ∧ s.braking a p then
      (if m.blend = 1 then (s.ax a).queue.dropLast ++ [{ p with jointCap := some ((s.ax a).demand.peakSpeed (s.moveLimits a p).j) }]
        else (s.ax a).queue, { m with joinsAt := s.frame64 + 1 })
    else ((s.ax a).queue, m)
  | none => ((s.ax a).queue, m)

/-- The joint keeps the number of entries and the fields of the new one. -/
theorem joined_facts (s : State) (a : Fin 16) (m : Move) :
    (joined s a m).1.length = (s.ax a).queue.length ∧ SameMove m (joined s a m).2 ∧ (joined s a m).2.target = m.target := by
  unfold joined
  split
  · next p hlast =>
    have hlen : 1 ≤ (s.ax a).queue.length := by
      rcases hq : (s.ax a).queue with _ | ⟨n, q⟩
      · rw [hq] at hlast
        cases hlast
      · simp
    split
    · refine ⟨?_, ⟨rfl, rfl, rfl, rfl, rfl, rfl, rfl, rfl, rfl⟩, rfl⟩
      split
      · rw [List.length_append, List.length_dropLast, List.length_singleton]
        omega
      · rfl
    · exact ⟨rfl, SameMove.refl m, rfl⟩
  · exact ⟨rfl, SameMove.refl m, rfl⟩

/-- Queueing an entry sets the queue of its axis, with OBSTRUCTION and the start of the queue. -/
theorem enqueue_eq (s : State) (a : Fin 16) (m : Move) :
    let u := replaced s a (m.flags % 2 = 1)
    let e := joined u a (resolvedBehind (u.ax a) (keptFrom (s.ax a) m))
    ∃ (starts : Axis → Long) (obstructed : Axis → Bool), s.enqueue a m = u.onAx a (fun x =>
      { x with queue := e.1 ++ [e.2], obstruction := obstructed x, startAt := starts x }) :=
  ⟨_, _, rfl⟩

/-- What queueing an entry does: one entry with the fields of the request stands behind the queue, whose other axes and surroundings stay. -/
structure Enqueued (s : State) (a : Fin 16) (m : Move) (t : State) : Prop where
  motion : MotionOnly s t
  other : ∀ b : Fin 16, b ≠ a → t.ax b = s.ax b
  plain : m.flags % 2 ≠ 1 → t.motion.groups = s.motion.groups ∧ t.log = s.log
  demand : (t.ax a).demand = (s.ax a).demand
  nextId : (t.ax a).nextId = (s.ax a).nextId
  queue : ∃ (n : Move) (q : List Move), (t.ax a).queue = q ++ [n] ∧ SameMove m n ∧
    n.target = (if m.kind = .rel ∧ m.target = none then ((s.ax a).relBase (m.flags % 2 = 1)).map (fun b => b + m.relative) else m.target) ∧
    q.length = if m.flags % 2 = 1 then 0 else (s.ax a).queue.length

theorem SameMove.trans {m n p : Move} (h : SameMove m n) (h' : SameMove n p) : SameMove m p :=
  ⟨h'.kind.trans h.kind, h'.id.trans h.id, h'.group.trans h.group, h'.blend.trans h.blend, h'.relative.trans h.relative, h'.v.trans h.v,
    h'.a.trans h.a, h'.d.trans h.d, h'.j.trans h.j⟩

/-- Behind an empty queue there is no target to follow. -/
theorem relBase_of_queue {x y : Axis} (replace : Bool) (h : y.queue = if replace then [] else x.queue) :
    y.relBase false = x.relBase replace := by
  unfold Axis.relBase
  cases replace
  · simp only [Bool.false_eq_true, if_false] at h ⊢
    rw [h]
  · simp only [if_true] at h ⊢
    rw [h]
    rfl

theorem enqueued (s : State) (a : Fin 16) (m : Move) : Enqueued s a m (s.enqueue a m) := by
  obtain ⟨starts, obstructed, henqueue⟩ := enqueue_eq s a m
  obtain ⟨hqueue, hdemand, hid⟩ := replaced_ax s a (m.flags % 2 = 1)
  have hmotion := motionOnly_replaced s a (m.flags % 2 = 1)
  have hother := fun (b : Fin 16) (hb : b ≠ a) => replaced_ax_other s (m.flags % 2 = 1) hb
  have hplain : m.flags % 2 ≠ 1 → replaced s a (m.flags % 2 = 1) = s := fun h => if_neg h
  generalize replaced s a (m.flags % 2 = 1) = u at *
  obtain ⟨hkept, hkeptTarget⟩ := keptFrom_same (s.ax a) m
  have hresolved := resolvedBehind_same (u.ax a) (keptFrom (s.ax a) m)
  have htarget : (resolvedBehind (u.ax a) (keptFrom (s.ax a) m)).target = if m.kind = .rel ∧ m.target = none then
      ((s.ax a).relBase (m.flags % 2 = 1)).map (fun b => b + m.relative) else m.target := by
    rw [resolvedBehind, hkept.kind, hkeptTarget]
    split
    · rw [relBase_of_queue (x := s.ax a) (decide (m.flags % 2 = 1)) (by simpa using hqueue), hkept.relative]
    · exact hkeptTarget
  obtain ⟨hlen, hjoined, hjoinedTarget⟩ := joined_facts u a (resolvedBehind (u.ax a) (keptFrom (s.ax a) m))
  rw [henqueue]
  refine ⟨hmotion.onAx a _, fun b hb => (State.onAx_ax_of_ne _ _ hb).trans (hother b hb), fun h => by rw [hplain h]; exact ⟨rfl, rfl⟩, ?_, ?_,
    _, _, by rw [State.onAx_ax], (hkept.trans hresolved).trans hjoined, hjoinedTarget.trans htarget, hlen.trans ?_⟩
  · rw [State.onAx_ax]
    exact hdemand
  · rw [State.onAx_ax]
    exact hid
  · rw [hqueue]
    split <;> rfl

/-! ### Direct axis moves (R227, Table 10.2) -/

/-- A list of checks that all pass. -/
theorem firstFail_of_all_pass {l : List (Bool × Nat)} (h : l.all (fun c => !c.1) = true) : firstFail l = none := by
  induction l with
  | nil => rfl
  | cons c l ih =>
    obtain ⟨bad, status⟩ := c
    rw [List.all_cons, Bool.and_eq_true, Bool.not_eq_true'] at h
    obtain ⟨hbad, hl⟩ := h
    simp only at hbad
    rw [hbad, firstFail_false]
    exact ih hl

/-- A direct move that passes its checks enters the queue. -/
theorem moveRequest_direct {s : State} {r : Req} {k : Fin 8} {code : Nat} {cmd : Instr} {a : Fin 16} {m : Move} {bad : Bool}
    (hdirect : s.direct code r k cmd = true) (hmove : s.mayMove a = true) (hflags : m.flags < 2) (hblend : m.blend ≤ 2)
    (hbad : bad = false) (hentry : s.entryBad a { m with id := (s.ax a).nextId } = false) (hroom : s.queueBad a (m.flags % 2 = 1) = false) :
    s.moveRequest k r code cmd a m bad =
      let t := (s.enqueue a { m with id := (s.ax a).nextId }).acceptMove a
      t.answer r code Status.ok (moveReply a (s.ax a).nextId t) := by
  obtain ⟨-, htag, hunclaimed⟩ := State.direct_facts hdirect
  simp only [State.moveRequest, htag, if_true]
  rw [State.checked_pass, State.stageOr_direct htag (State.claimed_of_unclaimed hunclaimed)]
  have hform : ¬(2 ≤ m.flags ∨ 2 < m.blend) := by omega
  have hchecks : (s.axisChecks a).all (fun c => !c.1) = true := hmove
  refine firstFail_of_all_pass ?_
  simp only [List.all_append, hchecks, List.all_cons, List.all_nil, hform, hbad, hentry, hroom, true_or, if_true, decide_false]
  rfl

/-- Such a move is queued as the statement on moves says. -/
theorem queued_of_direct {s : State} {r : Req} {k : Fin 8} {code : Nat} {a : Fin 16} {m : Move} {replace : Bool} {p : Move → Prop}
    (hslot : s.slotOf r.src = some k) (hreplace : replace = decide (m.flags % 2 = 1))
    (hp : ∀ n : Move, SameMove m n → (n.target = if m.kind = .rel ∧ m.target = none then
      ((s.ax a).relBase replace).map (fun b => b + m.relative) else m.target) → p n)
    (hid : m.id = (s.ax a).nextId) :
    let t := (s.enqueue a m).acceptMove a
    Queued s (t.answer r code Status.ok (moveReply a m.id t)) a k r code replace p := by
  have hqueued := enqueued s a m
  generalize s.enqueue a m = u at *
  obtain ⟨hmotion, hother, hplain, hdemand, hnext, n, q, hqueue, hsame, htarget, hlen⟩ := hqueued
  subst hreplace
  have hax : ∀ b, (u.acceptMove a).ax b = if b = a then { u.ax a with nextId := nextMoveId (u.ax a).nextId, obstruction := false } else u.ax b :=
    fun b => onAx_ax_ite u a b _
  have haxa := (hax a).trans (if_pos rfl)
  have hmotion' : MotionOnly s (u.acceptMove a) := hmotion.onAx a _
  refine ⟨n, q, ?_, by simpa using hlen, hp n hsame (by simpa using htarget), hsame.id.trans hid, ?_, ?_, ?_, ?_, ?_, ?_⟩
  · exact (congrArg Axis.queue haxa).trans hqueue
  · exact (congrArg Axis.nextId haxa).trans (by rw [hnext])
  · exact congrArg Axis.obstruction haxa
  · exact (congrArg Axis.demand haxa).trans hdemand
  · exact fun b hb => ((hax b).trans (if_neg hb)).trans (hother b hb)
  · exact fun hr => hplain (by simpa using hr)
  · rw [answer_of_sessions hslot (by rw [hmotion']), hsame.id]
    generalize u.acceptMove a = v at hmotion' ⊢
    rw [State.withReply, hmotion']
    rfl

end Sys2Proof.Proofs
end

section
/-! PROOF. The statements on direct moves, groups, flushing and aborting (R222 to R256). -/

namespace Sys2Proof.Proofs
open Sys2Proof.Machine

/-! ### Axis moves (R222 to R229) -/

/-- The 64-bit value nearest to another whose low 32 bits are given. -/
theorem resolve32_facts (near x : Int) : (resolve32 near x - x) % 2 ^ 32 = 0 ∧ -(2 ^ 31) ≤ resolve32 near x - near ∧
    resolve32 near x - near < 2 ^ 31 := by
  have hmod : (x - near).bmod (2 ^ 32) % (2 ^ 32 : Nat) = (x - near) % (2 ^ 32 : Nat) := Int.bmod_emod
  have hleast := Int.le_bmod (x := x - near) (m := 2 ^ 32) (by decide)
  have hmost := Int.bmod_lt (x := x - near) (m := 2 ^ 32) (by decide)
  unfold resolve32 wrapSigned
  omega

/-- A V field that passes check 5 is not negative. -/
theorem vmax_of_limitBad {s : State} {a : Fin 16} {lim : Limits} (h : s.limitBad a (s.askedV a lim) lim = false) :
    lim.vmax.toInt.toNat = lim.vmax.toNat := by
  have hv : ¬s.askedV a lim < 0 := by
    intro hneg
    simp [State.limitBad, hneg] at h
  unfold State.askedV at hv
  split at hv
  · next h0 => rw [h0]; rfl
  · rw [BitVec.toInt_eq_toNat_cond] at hv ⊢
    split at hv <;> split <;> omega

theorem flags_mod_two {flags : Half} (h : flags.toNat < 2) : decide (flags = 1) = decide (flags.toNat % 2 = 1) := by
  have : flags = 0 ∨ flags = 1 := by bv_omega
  rcases this with rfl | rfl <;> rfl

/-- An admitted request on one axis byte acts on its axis. -/
theorem onAxis_of_admits {s : State} {r : Req} {code : Nat} {k : Fin 8} {axis : Byte} {a : Fin 16} (h : s.admits code r k = true)
    (ha : s.axisArg axis = some a) (act : Fin 8 → Fin 16 → State → State) :
    s.request code r (fun k s => s.onAxis r code axis (fun a s => act k a s)) = act k a s := by
  rw [State.request_of_admits h, State.onAxis_some ha]

/-- A VEL entry is bad toward the side on which the axis lies beyond its travel (R242). -/
theorem entryBad_vel {s : State} {a : Fin 16} {m : Move} (h : m.kind = .vel) :
    s.entryBad a m = decide (0 < s.beyondSide a * m.target.getD 0) := by
  simp only [State.entryBad, h, if_true]

/-- Settles O22: each move passes its checks, is queued, and keeps the fields of its request. -/
theorem movesEnterTheQueue : Obligations.MovesEnterTheQueue := by
  refine fun r axis blend flags a k s ha hmove hflags hblend hroom => ⟨fun target lim hdirect hlim hentry => ?_,
    fun distance lim hdirect hlim hentry => ?_, fun velocity amax dmax jmax hdirect hlim hside => ?_⟩
  all_goals
    obtain ⟨hadmits, -, -⟩ := State.direct_facts hdirect
    have hslot := State.slotOf_of_admits hadmits
    rw [flags_mod_two hflags] at hroom ⊢
  · have hv := vmax_of_limitBad hlim
    refine ⟨_, congrArg Host.Outcome.next ((onAxis_of_admits hadmits ha _).trans (moveRequest_direct hdirect hmove hflags hblend hlim hentry hroom)),
      queued_of_direct hslot rfl (fun n hsame htarget => ?_) rfl⟩
    refine ⟨hsame.kind, hsame.blend, hsame.v.trans hv, hsame.a, hsame.d, hsame.j, _, htarget, resolve32_facts ..⟩
  · refine ⟨_, congrArg Host.Outcome.next ((onAxis_of_admits hadmits ha _).trans (moveRequest_direct hdirect hmove hflags hblend hlim hentry hroom)),
      queued_of_direct hslot rfl (fun n hsame htarget => ?_) rfl⟩
    exact ⟨hsame.kind, hsame.blend, hsame.relative, htarget⟩
  · have hentry : s.entryBad a { positionMove .vel blend flags { vmax := 0, amax := amax, dmax := dmax, jmax := jmax } with
        target := some velocity.toInt, id := (s.ax a).nextId } = false :=
      (entryBad_vel rfl).trans (decide_eq_false (by simpa using hside))
    refine ⟨_, congrArg Host.Outcome.next ((onAxis_of_admits hadmits ha _).trans (moveRequest_direct hdirect hmove hflags hblend hlim hentry hroom)),
      queued_of_direct hslot rfl (fun n hsame htarget => ?_) rfl⟩
    exact ⟨hsame.kind, htarget, hsame.a, hsame.d, hsame.j⟩

/-! ### Lists of checks -/

theorem firstFail_append {l l' : List (Bool × Nat)} (h : ∀ c ∈ l, c.1 = false) : firstFail (l ++ l') = firstFail l' := by
  induction l with
  | nil => rfl
  | cons c l ih =>
    obtain ⟨bad, status⟩ := c
    obtain ⟨hbad, hl⟩ := List.forall_mem_cons.mp h
    simp only at hbad
    rw [List.cons_append, hbad, firstFail_false]
    exact ih hl

theorem firstFail_none {l : List (Bool × Nat)} (h : ∀ c ∈ l, c.1 = false) : firstFail l = none := by
  have := firstFail_append (l' := []) h
  rwa [List.append_nil] at this

theorem eraseDups_of_nodup {α : Type} [DecidableEq α] {l : List α} (h : l.Nodup) : l.eraseDups = l := by
  induction l with
  | nil => rfl
  | cons a l ih =>
    obtain ⟨ha, hl⟩ := List.nodup_cons.mp h
    have hkeep : l.filter (fun b => !(b == a)) = l := List.filter_eq_self.mpr fun b hb => by
      have hne : b ≠ a := fun e => ha (e ▸ hb)
      simpa using hne
    rw [List.eraseDups_cons, hkeep, ih hl]

/-! ### Groups (R255) -/

/-- The entries of a list of axes, queued one after the other. -/
def queuedAll (s : State) (entries : List (Fin 16 × Move)) : State := s.each entries (fun (a, m) t => t.enqueue a m)

theorem motionOnly_queuedAll (s : State) (entries : List (Fin 16 × Move)) : MotionOnly s (queuedAll s entries) :=
  (MotionOnly.refl s).each entries fun x u => (enqueued u x.1 x.2).motion

theorem queuedAll_ax_other (s : State) (entries : List (Fin 16 × Move)) {b : Fin 16} (h : b ∉ entries.map Prod.fst) :
    (queuedAll s entries).ax b = s.ax b := by
  unfold queuedAll State.each
  induction entries generalizing s with
  | nil => rfl
  | cons e entries ih =>
    rw [List.map_cons, List.mem_cons, not_or] at h
    exact (ih (s.enqueue e.1 e.2) h.2).trans ((enqueued s e.1 e.2).other b h.1)

/-- On distinct axes each entry stands behind the queue of its axis. -/
theorem queuedAll_queue (s : State) (entries : List (Fin 16 × Move)) (hnodup : (entries.map Prod.fst).Nodup) {a : Fin 16} {m : Move}
    (h : (a, m) ∈ entries) : ∃ (n : Move) (q : List Move), ((queuedAll s entries).ax a).queue = q ++ [n] ∧ SameMove m n ∧
      q.length = if m.flags % 2 = 1 then 0 else (s.ax a).queue.length := by
  induction entries generalizing s with
  | nil => cases h
  | cons e entries ih =>
    obtain ⟨hfirst, hrest⟩ := List.nodup_cons.mp hnodup
    have hstep : queuedAll s (e :: entries) = queuedAll (s.enqueue e.1 e.2) entries := rfl
    rw [hstep]
    rcases List.mem_cons.mp h with rfl | hmem
    · obtain ⟨-, -, -, -, -, n, q, hqueue, hsame, -, hlen⟩ := enqueued s a m
      rw [queuedAll_ax_other _ _ hfirst]
      exact ⟨n, q, hqueue, hsame, hlen⟩
    · have hne : a ≠ e.1 := fun heq => hfirst (List.mem_map.mpr ⟨(a, m), hmem, heq⟩)
      obtain ⟨n, q, hqueue, hsame, hlen⟩ := ih (s.enqueue e.1 e.2) hrest hmem
      rw [(enqueued s e.1 e.2).other a hne] at hlen
      exact ⟨n, q, hqueue, hsame, hlen⟩

/-- The same change of every axis of a list. -/
theorem each_onAx_of_not_mem (s : State) (l : List (Fin 16)) (f : Axis → Axis) {b : Fin 16} (h : b ∉ l) :
    (s.each l (fun a t => t.onAx a f)).ax b = s.ax b := by
  unfold State.each
  induction l generalizing s with
  | nil => rfl
  | cons a l ih => exact (ih (s.onAx a f) (List.not_mem_of_not_mem_cons h)).trans (State.onAx_ax_of_ne s f (List.ne_of_not_mem_cons h))

theorem each_onAx_keeps {β : Type} (s : State) (l : List (Fin 16)) (f : Axis → Axis) (g : Axis → β) (hf : ∀ x, g (f x) = g x) (b : Fin 16) :
    g ((s.each l (fun a t => t.onAx a f)).ax b) = g (s.ax b) := by
  unfold State.each
  induction l generalizing s with
  | nil => rfl
  | cons a l ih =>
    refine (ih (s.onAx a f)).trans ?_
    rw [onAx_ax_ite]
    split
    · next h => rw [h, hf]
    · rfl

/-- The axes of a group's request are those of its entries. -/
theorem groupEntries_axes {s : State} {g : Fin 8} {flags : Half} {lim : Limits} {members : List GroupTarget} {axes : List (Fin 16)}
    (h : members.map (fun m => s.axisArg m.axis) = axes.map some) : (s.groupEntries g flags lim members).map Prod.fst = axes ∧
    members.filterMap (fun m => s.axisArg m.axis) = axes := by
  have hmap : (members.map (fun m => s.axisArg m.axis)).filterMap id = axes := by rw [h]; simp
  have haxes : members.filterMap (fun m => s.axisArg m.axis) = axes := by
    rw [List.filterMap_map] at hmap
    exact hmap
  refine ⟨?_, haxes⟩
  rw [State.groupEntries, List.map_filterMap]
  refine Eq.trans ?_ haxes
  congr 1
  funext m
  rw [Option.map_map]
  exact Option.map_id' ..

/-- What every entry of a group's request carries. -/
theorem groupEntries_move {s : State} {g : Fin 8} {flags : Half} {lim : Limits} {members : List GroupTarget} {a : Fin 16} {m : Move}
    (h : (a, m) ∈ s.groupEntries g flags lim members) :
    m.kind = .group ∧ m.group = some g ∧ m.id = 2147483648 + s.motion.nextGroupId ∧ m.flags = flags.toNat := by
  obtain ⟨gt, -, hgt⟩ := List.mem_filterMap.mp h
  obtain ⟨b, -, hb⟩ := Option.map_eq_some_iff.mp hgt
  cases hb
  exact ⟨rfl, rfl, rfl, rfl⟩

end Sys2Proof.Proofs
end

section
/-! PROOF. The statements on groups, flushing and aborting (R236, R255). -/

namespace Sys2Proof.Proofs
open Sys2Proof.Machine

/-! ### MOVE_GROUP (R255) -/

/-- The checks of MOVE_GROUP on its operands. -/
def groupForm (s : State) (group blend : Byte) (flags : Half) (members : List GroupTarget) : List (Bool × Nat) :=
  let axes := members.filterMap (fun m => s.axisArg m.axis)
  [(decide (members.length < 1 ∨ 16 < members.length), Status.outOfRange),
    (decide (7 < group.toNat), Status.badParameter),
    (members.any (fun m => (s.axisArg m.axis).isNone), Status.badParameter),
    (decide (8 ≤ flags.toNat), Status.badParameter), (decide (blend ≠ 0), Status.badParameter),
    (decide (axes.eraseDups ≠ axes), Status.badParameter)]

/-- The checks 2 to 4 of Table 10.2 on each axis of a group, check by check. -/
def groupStates (s : State) (axes : List (Fin 16)) : List (Bool × Nat) :=
  axes.flatMap (fun a => (s.axisChecks a).take 1) ++ axes.flatMap (fun a => ((s.axisChecks a).drop 1).take 1) ++
    axes.flatMap (fun a => (s.axisChecks a).drop 2)

/-- An accepted group: its entries queued, its ID used up, OBSTRUCTION cleared. -/
def groupQueued (s : State) (g : Fin 8) (flags : Half) (lim : Limits) (entries : List (Fin 16 × Move)) (axes : List (Fin 16)) : State :=
  let t := s.enqueueGroup g flags lim entries
  { t with motion := { t.motion with nextGroupId := nextMoveId t.motion.nextGroupId } }.each axes
    (fun a t => t.onAx a (fun x => { x with obstruction := false }))

/-- A checked request runs its meaning on its own state. -/
theorem checked_congr {s : State} {r : Req} {code : Nat} {l : List (Bool × Nat)} {act act' : State → State} (h : act s = act' s) :
    s.checked r code l act = s.checked r code l act' := by
  simp only [State.checked, h]

theorem exec_moveGroup {r : Req} {group blend : Byte} {flags : Half} {lim : Limits} {members : List GroupTarget} {k : Fin 8} {s : State}
    (h : s.direct 0x33 r k (.moveGroup r group blend flags lim members) = true) {g : Fin 8} (hg : Fin.ofNat 8 group.toNat = g)
    {axes : List (Fin 16)} (haxes : members.filterMap (fun m => s.axisArg m.axis) = axes) :
    exec (.moveGroup r group blend flags lim members) s = .next (s.checked r 0x33
      (groupForm s group blend flags members ++ (groupStates s axes ++ [((s.motion.groups[g]).isSome, Status.busy)]) ++
        (s.groupEntries g flags lim members).map (fun (a, m) => (s.memberBad flags lim [] a m, Status.outOfRange)) ++
        axes.flatMap (fun a => [(s.queueBad a (flags.toNat % 2 = 1), Status.queueFull)]))
      (fun s => (groupQueued s g flags lim (s.groupEntries g flags lim members) axes).answer r 0x33 Status.ok
        (.bytes (leBytes 4 (2147483648 + s.motion.nextGroupId))))) := by
  obtain ⟨hadmits, htag, hunclaimed⟩ := State.direct_facts h
  subst hg haxes
  refine congrArg Host.Outcome.next ((State.request_of_admits hadmits _).trans ?_)
  have hstaged : ∀ a, s.stagedFor k r a = [] := fun a => by rw [State.stagedFor, if_pos htag]
  simp only [htag, if_true, hstaged]
  exact checked_congr (State.stageOr_direct htag (State.claimed_of_unclaimed hunclaimed))

theorem groupQueued_motion (s : State) (g : Fin 8) (flags : Half) (lim : Limits) (entries : List (Fin 16 × Move)) (axes : List (Fin 16)) :
    groupQueued s g flags lim entries axes = { s with
      motion := { s.motion with axes := (groupQueued s g flags lim entries axes).motion.axes,
                                groups := (groupQueued s g flags lim entries axes).motion.groups,
                                nextGroupId := nextMoveId s.motion.nextGroupId }
      log := (groupQueued s g flags lim entries axes).log } := by
  have hqueued := motionOnly_queuedAll s entries
  have hcleared : ∀ u : State, MotionOnly u (u.each axes (fun a t => t.onAx a (fun x => { x with obstruction := false }))) := fun u =>
    (MotionOnly.refl u).each axes fun a v => rfl
  have hdef : groupQueued s g flags lim entries axes = State.each
      { queuedAll s entries with motion := { (queuedAll s entries).motion with
          groups := (s.enqueueGroup g flags lim entries).motion.groups, nextGroupId := nextMoveId (queuedAll s entries).motion.nextGroupId } }
      axes (fun a t => t.onAx a (fun x => { x with obstruction := false })) := rfl
  have hmotion := hcleared { queuedAll s entries with motion := { (queuedAll s entries).motion with
    groups := (s.enqueueGroup g flags lim entries).motion.groups, nextGroupId := nextMoveId (queuedAll s entries).motion.nextGroupId } }
  rw [← hdef] at hmotion
  generalize groupQueued s g flags lim entries axes = v at hmotion ⊢
  generalize queuedAll s entries = u at *
  unfold MotionOnly at *
  rw [hmotion, hqueued]

theorem groupQueued_groups (s : State) (g : Fin 8) (flags : Half) (lim : Limits) (entries : List (Fin 16 × Move)) (axes : List (Fin 16)) :
    (groupQueued s g flags lim entries axes).motion.groups[g] = some {
      id := match entries.head? with | some (_, m) => m.id | none => 0, members := entries.map Prod.fst,
      fixedTime := if flags.toNat.testBit 1 then some lim.vmax.toNat else none, ringCoupled := flags.toNat.testBit 2 } := by
  have hkeeps : ∀ u : State, (u.each axes (fun a t => t.onAx a (fun x => { x with obstruction := false }))).motion.groups = u.motion.groups := by
    intro u
    unfold State.each
    induction axes generalizing u with
    | nil => rfl
    | cons a l ih => exact (ih _).trans rfl
  unfold groupQueued
  simp only
  rw [hkeeps]
  exact Vector.getElem_set_self ..

theorem groupQueued_ax_other (s : State) (g : Fin 8) (flags : Half) (lim : Limits) {entries : List (Fin 16 × Move)} {axes : List (Fin 16)}
    (haxes : entries.map Prod.fst = axes) {a : Fin 16} (h : a ∉ axes) : (groupQueued s g flags lim entries axes).ax a = s.ax a :=
  (each_onAx_of_not_mem _ axes _ h).trans (queuedAll_ax_other s entries (haxes ▸ h))

theorem groupQueued_queue (s : State) (g : Fin 8) (flags : Half) (lim : Limits) (entries : List (Fin 16 × Move)) (axes : List (Fin 16))
    (a : Fin 16) : ((groupQueued s g flags lim entries axes).ax a).queue = ((queuedAll s entries).ax a).queue :=
  each_onAx_keeps _ axes (fun x => { x with obstruction := false }) Axis.queue (fun _ => rfl) a

/-- The operands of a well-formed group pass. -/
theorem groupForm_passes {s : State} {g : Fin 8} {flags : Half} {members : List GroupTarget} {axes : List (Fin 16)}
    (hleast : 1 ≤ members.length) (hmost : members.length ≤ 16) (hflags : flags.toNat < 8)
    (haxes : members.map (fun m => s.axisArg m.axis) = axes.map some) (hmem : members.filterMap (fun m => s.axisArg m.axis) = axes)
    (hnodup : axes.Nodup) : ∀ c ∈ groupForm s (BitVec.ofNat 8 g.val) 0 flags members, c.1 = false := by
  have hlen : ¬(members.length < 1 ∨ 16 < members.length) := by omega
  have hgroup : ¬7 < (BitVec.ofNat 8 g.val).toNat := by
    rw [BitVec.toNat_ofNat]
    omega
  have hall : members.any (fun m => (s.axisArg m.axis).isNone) = false := by
    have hnone : (members.map (fun m => s.axisArg m.axis)).any Option.isNone = false := by rw [haxes]; simp
    rwa [List.any_map] at hnone
  have hfew : ¬8 ≤ flags.toNat := by omega
  simp only [groupForm, hmem, hlen, hgroup, hall, hfew, eraseDups_of_nodup hnodup, decide_false, ne_eq, not_true_eq_false]
  simp

/-- The state checks of a group whose axes may all move pass. -/
theorem groupStates_pass {s : State} {axes : List (Fin 16)} (h : ∀ a ∈ axes, s.mayMove a = true) : ∀ c ∈ groupStates s axes, c.1 = false := by
  have hpass : ∀ a ∈ axes, ∀ c ∈ s.axisChecks a, c.1 = false := fun a ha c hc => by
    simpa using List.all_eq_true.mp (h a ha) c hc
  intro c hc
  simp only [groupStates, List.mem_append, List.mem_flatMap] at hc
  rcases hc with (⟨a, ha, hc⟩ | ⟨a, ha, hc⟩) | ⟨a, ha, hc⟩
  · exact hpass a ha c (List.mem_of_mem_take hc)
  · exact hpass a ha c (List.mem_of_mem_drop (List.mem_of_mem_take hc))
  · exact hpass a ha c (List.mem_of_mem_drop hc)

/-! ### QUEUE_FLUSH (R236) -/

/-- What remains of a flushed queue: its first entry, planned again. -/
def flushed (x : Axis) : Axis := { x with queue := (x.queue.take 1).map (fun m => { m with passed := false }) }

theorem motionOnly_flushAxis (s : State) (a : Fin 16) : MotionOnly s (s.flushAxis a).1 :=
  ((MotionOnly.refl s).each _ fun m u => (motionOnly_leaveGroup u a m).trans (motionOnly_entryLeft _ a m (by decide))).onAx a _

theorem flushAxis_ax (s : State) (a b : Fin 16) : (s.flushAxis a).1.ax b = if b = a then flushed (s.ax a) else s.ax b := by
  have hgone := each_ax (s := s) (l := (s.ax a).queue.drop 1) (f := fun m t => (t.leaveGroup a m).entryLeft a m 1)
    (fun m u b => (entryLeft_ax _ a m (by decide) b).trans (leaveGroup_ax u a m b))
  refine (onAx_ax_ite _ a b _).trans ?_
  rw [hgone, hgone]
  rfl

theorem flushAxes_cons (s : State) (a : Fin 16) (l : List (Fin 16)) : s.flushAxes (a :: l) =
    (((s.flushAxis a).1.flushAxes l).1, (s.flushAxis a).2 + ((s.flushAxis a).1.flushAxes l).2) := rfl

theorem motionOnly_flushAxes (s : State) (l : List (Fin 16)) : MotionOnly s (s.flushAxes l).1 := by
  induction l generalizing s with
  | nil => rfl
  | cons a l ih => exact (motionOnly_flushAxis s a).trans (ih _)

/-- On distinct axes every queue is flushed once. -/
theorem flushAxes_ax (s : State) {l : List (Fin 16)} (h : l.Nodup) (b : Fin 16) :
    (s.flushAxes l).1.ax b = if b ∈ l then flushed (s.ax b) else s.ax b := by
  induction l generalizing s with
  | nil => rfl
  | cons a l ih =>
    obtain ⟨ha, hl⟩ := List.nodup_cons.mp h
    rw [flushAxes_cons]
    refine (ih (s.flushAxis a).1 hl).trans ?_
    rw [flushAxis_ax]
    by_cases hba : b = a
    · subst hba
      rw [if_neg ha, if_pos rfl, if_pos (List.mem_cons_self ..)]
    · rw [if_neg hba]
      simp only [List.mem_cons, hba, false_or]

theorem sumN_cons (n : Nat) (l : List Nat) : sumN (n :: l) = n + sumN l := by
  unfold sumN
  rw [← List.sum_eq_foldl, ← List.sum_eq_foldl, List.sum_cons]

/-- The number answered counts the entries gone. -/
theorem flushAxes_count (s : State) {l : List (Fin 16)} (h : l.Nodup) :
    (s.flushAxes l).2 + sumN (l.map (fun a => (flushed (s.ax a)).queue.length)) = sumN (l.map (fun a => (s.ax a).queue.length)) := by
  induction l generalizing s with
  | nil => rfl
  | cons a l ih =>
    obtain ⟨ha, hl⟩ := List.nodup_cons.mp h
    have hrest := ih (s.flushAxis a).1 hl
    have hkeep : ∀ b ∈ l, (s.flushAxis a).1.ax b = s.ax b := fun b hb => by
      rw [flushAxis_ax, if_neg (fun e : b = a => ha (e ▸ hb))]
    have hafter : l.map (fun b => (flushed ((s.flushAxis a).1.ax b)).queue.length) = l.map (fun b => (flushed (s.ax b)).queue.length) :=
      List.map_congr_left fun b hb => by rw [hkeep b hb]
    have hbefore : l.map (fun b => ((s.flushAxis a).1.ax b).queue.length) = l.map (fun b => (s.ax b).queue.length) :=
      List.map_congr_left fun b hb => by rw [hkeep b hb]
    rw [hafter, hbefore] at hrest
    have hgone : (s.flushAxis a).2 + (flushed (s.ax a)).queue.length = (s.ax a).queue.length := by
      show ((s.ax a).queue.drop 1).length + (((s.ax a).queue.take 1).map _).length = _
      rw [List.length_map, List.length_drop, List.length_take]
      omega
    rw [flushAxes_cons, List.map_cons, List.map_cons, sumN_cons, sumN_cons]
    simp only
    omega

theorem axesArg_nodup {s : State} {b : Byte} {l : List (Fin 16)} (h : s.axesArg b = some l) : l.Nodup := by
  unfold State.axesArg at h
  split at h
  · cases h
    exact (List.nodup_finRange 16).filter _
  · obtain ⟨a, -, rfl⟩ := Option.map_eq_some_iff.mp h
    exact List.nodup_cons.mpr ⟨List.not_mem_nil, List.nodup_nil⟩

/-- Settles O24: the group's checks and entries, and the flushed queues. -/
theorem groupsAndFlush : Obligations.GroupsAndFlush := by
  refine ⟨fun r g lim flags members axes k s hdirect hleast hmost hflags haxes hnodup hmove => ?_, fun r axis axes k s hdirect haxes => ?_⟩
  · obtain ⟨hadmits, -, -⟩ := State.direct_facts hdirect
    obtain ⟨hentries, hmem⟩ := groupEntries_axes (g := g) (flags := flags) (lim := lim) haxes
    have hg : Fin.ofNat 8 (BitVec.ofNat 8 g.val).toNat = g := by
      refine Fin.ext ?_
      rw [Fin.val_ofNat, BitVec.toNat_ofNat]
      omega
    have hexec := exec_moveGroup hdirect hg hmem
    have hform := groupForm_passes hleast hmost hflags haxes hmem hnodup (g := g)
    have hstates := groupStates_pass hmove
    refine ⟨fun hbusy => ?_, fun hfree hgood hroom => ?_⟩
    · rw [hexec, State.checked_fail (status := Status.busy), State.refuse, answer_of_admits hadmits]
      rw [List.append_assoc, List.append_assoc, firstFail_append hform, List.append_assoc, firstFail_append hstates,
        List.singleton_append, Option.isSome_iff_ne_none.mpr hbusy, firstFail_true]
    · have hcmd : (groupQueued s g flags lim (s.groupEntries g flags lim members) axes).cmd = s.cmd := by rw [groupQueued_motion]
      rw [hexec, State.checked_pass]
      · refine ⟨_, rfl, ?_⟩
        rw [answer_of_sessions (State.slotOf_of_admits hadmits) (by rw [hcmd])]
        refine ⟨?_, ?_, fun a ha => groupQueued_ax_other s g flags lim hentries ha, fun a ha => ?_⟩
        · rw [State.withReply, groupQueued_motion]
          rfl
        · refine (groupQueued_groups s g flags lim _ axes).trans ?_
          rw [hentries]
          rcases hlist : s.groupEntries g flags lim members with _ | ⟨⟨a, m⟩, l⟩
          · rw [hlist, List.map_nil] at hentries
            subst hentries
            rw [List.map_nil, List.map_eq_nil_iff] at haxes
            rw [haxes] at hleast
            cases hleast
          · have hmove := groupEntries_move (hlist ▸ List.mem_cons_self .. : (a, m) ∈ s.groupEntries g flags lim members)
            simp only [List.head?_cons, hmove.2.2.1]
        · obtain ⟨⟨b, m⟩, hb, rfl⟩ := List.mem_map.mp (hentries.symm ▸ ha)
          obtain ⟨hkind, hgroup, hid, hm⟩ := groupEntries_move hb
          obtain ⟨n, q, hqueue, hsame, hlen⟩ := queuedAll_queue s _ (hentries.symm ▸ hnodup) hb
          exact ⟨n, q, (groupQueued_queue ..).trans hqueue, hsame.kind.trans hkind, hsame.group.trans hgroup, hsame.id.trans hid, by rw [hlen, hm]⟩
      · refine firstFail_none fun c hc => ?_
        simp only [List.mem_append, List.mem_singleton, List.mem_map, List.mem_flatMap] at hc
        rcases hc with ((hc | hc | rfl) | ⟨e, he, rfl⟩) | ⟨a, ha, rfl⟩
        · exact hform c hc
        · exact hstates c hc
        · rw [hfree]
          rfl
        · exact hgood e he
        · exact hroom a ha
  · obtain ⟨hadmits, htag, hunclaimed⟩ := State.direct_facts hdirect
    have hnodup := axesArg_nodup haxes
    have hmotion := motionOnly_flushAxes s axes
    have hax := flushAxes_ax s hnodup
    have hcount := flushAxes_count s hnodup
    have hexec : exec (.queueFlush r axis) s = .next ((s.flushAxes axes).1.answer r 0x34 Status.ok
        (.bytes [BitVec.ofNat 8 (s.flushAxes axes).2, 0, 0, 0])) := by
      refine congrArg Host.Outcome.next ((State.request_of_admits hadmits _).trans ?_)
      simp only [haxes]
      exact State.stageOr_direct htag (State.claimed_of_unclaimed hunclaimed)
    refine ⟨_, hexec, ?_⟩
    generalize (s.flushAxes axes).2 = n at *
    generalize (s.flushAxes axes).1 = u at *
    have hax' : ∀ a, (u.answer r 0x34 Status.ok (.bytes [BitVec.ofNat 8 n, 0, 0, 0])).ax a = u.ax a := fun _ => rfl
    simp only [hax', hax]
    refine ⟨?_, fun a => ?_, fun a ha => ?_, fun a ha => ?_, n, ?_, ?_⟩
    · rw [hmotion]
      rfl
    · split <;> rfl
    · rw [if_neg ha]
    · rw [if_pos ha]
      rfl
    · rw [answer_of_sessions (State.slotOf_of_admits hadmits) (by rw [hmotion]), State.withReply, hmotion]
      rfl
    · rw [← hcount]
      refine congrArg (n + sumN ·) (List.map_congr_left fun a ha => ?_)
      rw [if_pos ha]

end Sys2Proof.Proofs
end

section
/-! PROOF. The statements on aborting, gearing, latches and step following (R236, R244 to R254, R219). -/

namespace Sys2Proof.Proofs
open Sys2Proof.Machine

/-! ### AXIS_ABORT (R84, R236, R252) -/

/-- An axis after an abort with the limits of its kind. -/
def abortedAxis (hard : Bool) (x : Axis) : Axis :=
  { x with queue := [], homing := none, follow := none, reversing := false, deferred := false,
           stop := if x.stop.isSome ∧ (x.reaction = 4 ∨ (x.reaction = 3 ∧ !hard)) then x.stop
                   else some (if hard then .hard else .profile) }

/-- A second abort changes nothing more. -/
theorem abortedAxis_idem (hard : Bool) (x : Axis) : abortedAxis hard (abortedAxis hard x) = abortedAxis hard x := by
  have hstop : (abortedAxis hard (abortedAxis hard x)).stop = (abortedAxis hard x).stop := by
    simp only [abortedAxis]
    by_cases hheld : x.reaction = 4 ∨ (x.reaction = 3 ∧ (!hard) = true)
    · simp only [hheld, and_true]
      split
      · rfl
      · exact if_pos rfl
    · simp only [hheld, and_false, if_false]
  unfold abortedAxis at hstop ⊢
  simp only at hstop ⊢
  rw [hstop]

theorem motionOnly_abortAxis (s : State) (hard : Bool) (a : Fin 16) : MotionOnly s (s.abortAxis hard a) :=
  ((motionOnly_endHoming s a 0x21).trans (motionOnly_clearQueue _ a (by decide))).onAx a _

theorem abortAxis_ax (s : State) (hard : Bool) (a b : Fin 16) :
    (s.abortAxis hard a).ax b = if b = a then abortedAxis hard (s.ax a) else s.ax b := by
  unfold State.abortAxis
  rw [onAx_ax_ite, clearQueue_ax _ a (by decide), clearQueue_ax _ a (by decide), if_pos rfl, endHoming_ax, endHoming_ax, if_pos rfl]
  by_cases h : b = a
  · rw [if_pos h, if_pos h]
    rfl
  · rw [if_neg h, if_neg h, if_neg h, if_neg h]

/-- The same idempotent change of every axis of a list, by an operation that changes no other and keeps what it rests on. -/
theorem each_ax_of_idem {P : State → Prop} {s : State} {f : Fin 16 → State → State} {F : Axis → Axis} (hs : P s)
    (hP : ∀ a u, P u → P (f a u)) (hidem : ∀ x, F (F x) = F x)
    (hf : ∀ (a b : Fin 16) (u : State), P u → (f a u).ax b = if b = a then F (u.ax a) else u.ax b) (l : List (Fin 16)) (b : Fin 16) :
    (s.each l f).ax b = if b ∈ l then F (s.ax b) else s.ax b := by
  unfold State.each
  induction l generalizing s with
  | nil => rfl
  | cons a l ih =>
    refine (ih (hP a s hs)).trans ?_
    rw [hf a b s hs]
    by_cases hba : b = a
    · subst hba
      rw [if_pos rfl, if_pos (List.mem_cons_self ..), hidem]
      split <;> rfl
    · rw [if_neg hba]
      simp only [List.mem_cons, hba, false_or]

/-- The axes on which an abort of a list of axes acts: a geared slave gives its master. -/
def abortTargets (s : State) (l : List (Fin 16)) : List (Fin 16) :=
  l.map (fun a => match (s.ax a).gear with | some g => g.master | none => a)

theorem exec_axisAbort {r : Req} {axis kind : Byte} {l : List (Fin 16)} {k : Fin 8} {s : State} (h : s.admits 0x35 r k = true)
    (hl : s.axesArg axis = some l) : exec (.axisAbort r axis kind) s = .next (
      if 1 < kind.toNat then s.refuse r 0x35 Status.badParameter
      else if l ≠ [] ∧ l.all s.justDone then s.refuse r 0x35 Status.alreadyDone
      else (s.each ((abortTargets s l).filter (fun a => !s.justDone a)) (fun a t => t.abortAxis (kind = 1) a)).answer r 0x35 Status.ok .bare) := by
  refine congrArg Host.Outcome.next ((State.request_of_admits h _).trans ?_)
  simp only [hl]
  rfl

/-- Settles O25: the abort's checks, and the aborted axes. -/
theorem axisAbort : Obligations.AxisAbort := by
  refine fun r axis kind axes k s h hl => ⟨fun hkind => ?_, fun hkind hne hdone => ?_, fun hkind hact => ?_⟩ <;> rw [exec_axisAbort h hl]
  · rw [if_pos (by omega), State.refuse, answer_of_admits h]
  · rw [if_neg (by omega), if_pos ⟨hne, hdone⟩, State.refuse, answer_of_admits h]
  · have hnot : ¬(axes ≠ [] ∧ axes.all s.justDone = true) := by
      rintro ⟨hne, hdone⟩
      rcases hact with hact | hact
      · exact hne hact
      · rw [hdone] at hact
        cases hact
    rw [if_neg (by omega), if_neg hnot]
    have hmotion : MotionOnly s (s.each ((abortTargets s axes).filter (fun a => !s.justDone a)) (fun a t => t.abortAxis (kind = 1) a)) :=
      (MotionOnly.refl s).each _ fun a u => motionOnly_abortAxis u _ a
    have hax := each_ax_of_idem (P := fun _ => True) (s := s) trivial (fun _ _ _ => trivial) (abortedAxis_idem (decide (kind = 1)))
      (fun a b u _ => abortAxis_ax u _ a b)
      ((abortTargets s axes).filter (fun a => !s.justDone a))
    refine ⟨_, rfl, ?_, fun a => ?_⟩
    · generalize s.each ((abortTargets s axes).filter (fun a => !s.justDone a)) (fun a t => t.abortAxis (kind = 1) a) = u at hmotion
      rw [answer_of_sessions (State.slotOf_of_admits h) (by rw [hmotion]), State.withReply, hmotion]
      rfl
    · refine (hax a).trans ?_
      have hon : a ∈ (abortTargets s axes).filter (fun a => !s.justDone a) ↔
          ((abortTargets s axes).contains a && !s.justDone a) = true := by
        rw [List.mem_filter, Bool.and_eq_true, List.contains_iff_mem]
      have hprofile : (kind = 0) ↔ (!decide (kind = 1)) = true := by
        have : kind = 0 ∨ kind = 1 := by bv_omega
        rcases this with rfl | rfl <;> decide
      simp only [hon, hprofile]
      simp only [abortedAxis, decide_eq_true_eq]
      rfl

/-! ### Direct requests on an axis byte -/

/-- A change of axes is answered as the request's session says. -/
theorem answer_onAx {s : State} {r : Req} {k : Fin 8} {code : Nat} (h : s.admits code r k = true) (a : Fin 16) (f : Axis → Axis) (op : Nat) :
    (s.onAx a f).answer r op Status.ok .bare = (s.onAx a f).withReply (replyOf r k op Status.ok .bare) :=
  answer_of_sessions (s := s) (State.slotOf_of_admits h) (by rfl) _ _ _

/-- Two changes of an axis that agree on it are one. -/
theorem onAx_congr {s : State} {a : Fin 16} {f g : Axis → Axis} (h : f (s.ax a) = g (s.ax a)) : s.onAx a f = s.onAx a g := by
  have h' : f s.motion.axes[a] = g s.motion.axes[a] := h
  simp only [State.onAx, upd, h']

/-! ### Gearing (R248 to R254) -/

/-- The checks of a direct GEAR_ENGAGE. -/
def gearChecks (s : State) (m a : Fin 16) (flags : Half) (ratio : Word) : List (Bool × Nat) :=
  [(decide (2 ≤ flags.toNat), Status.badParameter), (decide (m = a), Status.badParameter)] ++ [(s.gearPairing m a, Status.badParameter)] ++
    [(decide (ratio = 0 ∨ 262144 < ratio.toInt.natAbs), Status.outOfRange)] ++ s.gearStates m a

theorem exec_gearEngage {r : Req} {master slave : Byte} {flags : Half} {ratio offset : Word} {m a : Fin 16} {k : Fin 8} {s : State}
    (h : s.direct 0x36 r k (.gearEngage r master slave flags ratio offset) = true) (hm : s.axisArg master = some m)
    (ha : s.axisArg slave = some a) : exec (.gearEngage r master slave flags ratio offset) s = .next (
      s.checked r 0x36 (gearChecks s m a flags ratio) (fun s =>
        (s.engage m a flags ratio.toInt offset.toInt).answer r 0x36 Status.ok .bare)) := by
  obtain ⟨hadmits, htag, hunclaimed⟩ := State.direct_facts h
  refine congrArg Host.Outcome.next ((State.request_of_admits hadmits _).trans ?_)
  rw [State.onAxis_some hm, State.onAxis_some ha]
  simp only [htag, if_true]
  exact checked_congr (State.stageOr_direct htag (State.claimed_of_unclaimed hunclaimed))

/-- The engaged slave's state (R250). -/
theorem engage_facts (s : State) (m a : Fin 16) (flags : Half) (ratio offset : Int) :
    ∃ g : Gear, s.engage m a flags ratio offset = s.onAx a (fun x => { x with gear := some g, stop := none }) ∧ g.master = m ∧
      g.ratio = ratio ∧ g.synced = false ∧ (flags ≠ 1 → g.offset = offset * 65536) ∧ (flags = 1 → g.term.p = 0) ∧
      g.offset + rdiv (ratio * (s.ax m).demand.p) 65536 + g.term.p = (s.ax a).demand.p := by
  refine ⟨_, rfl, rfl, rfl, rfl, fun h => if_neg h, fun h => ?_, ?_⟩
  · simp only [h, if_true]
    omega
  · simp only
    omega

/-- What the statement asks of the pairing of a direct GEAR_ENGAGE passes. -/
theorem gearChecks_pairing {s : State} {m a : Fin 16} {flags : Half} {ratio : Word} (hne : m ≠ a) (hflags : flags.toNat < 2)
    (hslave : (s.ax a).gear = none) (hmaster : (s.ax m).gear = none) (hfree : ∀ b : Fin 16, ∀ g, (s.ax b).gear = some g → g.master ≠ a)
    (hratio : ratio ≠ 0) (hlimit : ratio.toInt.natAbs ≤ 262144) : firstFail (gearChecks s m a flags ratio) = firstFail (s.gearStates m a) := by
  have hmasters : s.masters a = false := by
    rw [State.masters, List.any_eq_false]
    intro b _
    rcases hb : (s.ax b).gear with _ | g
    · simp
    · simpa using hfree b g hb
  have hpairing : s.gearPairing m a = false := by
    rw [State.gearPairing, hslave, hmaster, hmasters]
    rfl
  have hform : ¬2 ≤ flags.toNat := by omega
  have hrange : ¬(ratio = 0 ∨ 262144 < ratio.toInt.natAbs) := by
    rintro (h | h)
    · exact hratio h
    · omega
  simp only [gearChecks, hform, hne, hpairing, hrange, decide_false, List.cons_append, List.nil_append, firstFail_false]

/-! ### Step following (R218, R219) -/

/-- The checks of a direct STEP_FOLLOW. -/
def stepFollowChecks (s : State) (a : Fin 16) (axis counter : Byte) (flags : Half) (ratio : Word) : List (Bool × Nat) :=
  [(decide (axis.toNat < 0x80), Status.badParameter), (decide (7 < counter.toNat ∨ 4 ≤ flags.toNat), Status.badParameter)] ++
    [(decide (ratio = 0 ∨ 16777216 < ratio.toInt.natAbs), Status.outOfRange)] ++ s.followChecks a flags

theorem exec_stepFollow {r : Req} {axis counter : Byte} {flags : Half} {ratio : Word} {a : Fin 16} {k : Fin 8} {s : State}
    (h : s.direct 0x39 r k (.stepFollow r axis counter flags ratio) = true) (ha : s.axisArg axis = some a) :
    exec (.stepFollow r axis counter flags ratio) s = .next (
      s.checked r 0x39 (stepFollowChecks s a axis counter flags ratio) (fun s =>
        (s.followAxis a counter flags ratio).answer r 0x39 Status.ok .bare)) := by
  obtain ⟨hadmits, htag, hunclaimed⟩ := State.direct_facts h
  refine congrArg Host.Outcome.next ((State.request_of_admits hadmits _).trans ?_)
  rw [State.onAxis_some ha]
  simp only [htag, if_true]
  exact checked_congr (State.stageOr_direct htag (State.claimed_of_unclaimed hunclaimed))

/-- On an idle stepper axis the checks of STEP_FOLLOW come down to its following already. -/
theorem stepFollowChecks_idle {s : State} {a : Fin 16} {axis counter : Byte} {flags : Half} {ratio : Word} (haxis : 0x80 ≤ axis.toNat)
    (hcounter : counter.toNat < 8) (hflags : flags.toNat < 4) (hratio : ratio ≠ 0) (hlimit : ratio.toInt.natAbs ≤ 16777216)
    (hstates : ((s.axisChecks a).take 2).all (fun c => !c.1) = true) (hgear : (s.ax a).gear = none) (hhoming : (s.ax a).homing = none)
    (hqueue : (s.ax a).queue = []) : firstFail (stepFollowChecks s a axis counter flags ratio) =
      firstFail [((s.ax a).follow.isSome && !flags.toNat.testBit 1, Status.busy)] := by
  have hstepper : ¬axis.toNat < 0x80 := by omega
  have hform : ¬(7 < counter.toNat ∨ 4 ≤ flags.toNat) := by omega
  have hrange : ¬(ratio = 0 ∨ 16777216 < ratio.toInt.natAbs) := by
    rintro (h | h)
    · exact hratio h
    · omega
  have hpass : ∀ c ∈ (s.axisChecks a).take 2, c.1 = false := fun c hc => by simpa using List.all_eq_true.mp hstates c hc
  simp only [stepFollowChecks, State.followChecks, hstepper, hform, hrange, decide_false, List.cons_append, List.nil_append, firstFail_false]
  rw [firstFail_append hpass, hgear, hhoming, hqueue]
  rfl

/-- Settles O26: each direct request passes its checks and changes its axis, or is refused. -/
theorem gearLatchFollow : Obligations.GearLatchFollow := by
  refine ⟨fun r master slave flags ratio offset m a k s h hm ha hne hflags hslave hmaster hfree hratio hlimit => ?_,
    fun r slave a k s h ha => ?_, fun r axis source edge a k s h ha => ?_,
    fun r axis counter flags ratio a n k s h haxis ha hn hratio hlimit hstates hgear hhoming hqueue => ?_⟩ <;>
    obtain ⟨hadmits, htag, hunclaimed⟩ := State.direct_facts h
  · have hchecks := gearChecks_pairing hne hflags hslave hmaster hfree hratio hlimit
    refine ⟨fun hdisabled => ?_, fun hm' ha' hqueue hhoming hfollow => ?_⟩
    · have hfail : firstFail (s.gearStates m a) = some Status.axisDisabled := by
        have hbad : ((s.ax m).state = .disabled || (s.ax a).state = .disabled : Bool) = true := by simpa using hdisabled
        rw [State.gearStates, hbad]
        rfl
      rw [exec_gearEngage h hm ha, State.checked_fail (hchecks.trans hfail)]
      exact congrArg Host.Outcome.next (answer_of_admits hadmits ..)
    · have hpass : firstFail (s.gearStates m a) = none := by
        simp only [State.gearStates, hm', ha', hqueue, hhoming, hfollow]
        rfl
      obtain ⟨g, hengage, hgm, hgr, hsynced, hoffset, hterm, hsum⟩ := engage_facts s m a flags ratio.toInt offset.toInt
      rw [exec_gearEngage h hm ha, State.checked_pass (hchecks.trans hpass)]
      refine ⟨_, rfl, g, ?_, hgm, hgr, hsynced, fun h0 => ?_, hterm, hsum⟩
      · rw [hengage]
        exact answer_onAx hadmits ..
      · rw [hoffset (by rw [h0]; decide), Int.mul_comm]
  · have hexec : exec (.gearRelease r slave) s = .next (if (s.ax a).gear.isSome then (s.ungear a).answer r 0x37 Status.ok .bare
        else s.refuse r 0x37 Status.alreadyDone) := by
      refine congrArg Host.Outcome.next ((onAxis_of_admits hadmits ha _).trans ?_)
      exact State.stageOr_direct htag (State.claimed_of_unclaimed hunclaimed)
    refine ⟨fun hgear => ?_, fun hgear => ?_⟩ <;> rw [hexec]
    · rw [if_pos (Option.isSome_iff_ne_none.mpr hgear)]
      exact congrArg Host.Outcome.next (answer_onAx hadmits ..)
    · rw [hgear, if_neg (by decide)]
      exact congrArg Host.Outcome.next (answer_of_admits hadmits ..)
  · have hexec : exec (.latchArm r axis source edge) s = .next (
        if ¬(source.toNat < 32 ∨ source = 0x40) ∨ 2 < edge.toNat then s.refuse r 0x38 Status.badParameter
        else (s.armLatch a source edge).answer r 0x38 Status.ok .bare) := by
      refine congrArg Host.Outcome.next ((onAxis_of_admits hadmits ha _).trans ?_)
      by_cases hbad : ¬(source.toNat < 32 ∨ source = 0x40) ∨ 2 < edge.toNat
      · rw [if_pos hbad]
        exact State.checked_fail (by rw [decide_eq_true hbad]; rfl) _
      · rw [if_neg hbad, State.checked_pass (by rw [decide_eq_false hbad]; rfl)]
        exact State.stageOr_direct htag (State.claimed_of_unclaimed hunclaimed)
    refine ⟨fun hsource hedge => ?_, fun hbad => ?_⟩ <;> rw [hexec]
    · rw [if_neg (by simpa using ⟨fun h0 => hsource.resolve_left (by omega), hedge⟩)]
      exact congrArg Host.Outcome.next (answer_onAx hadmits ..)
    · rw [if_pos hbad]
      exact congrArg Host.Outcome.next (answer_of_admits hadmits ..)
  · have hchecks := fun hflags : flags.toNat < 4 =>
      stepFollowChecks_idle (counter := counter) haxis (by omega) hflags hratio hlimit hstates hgear hhoming hqueue
    refine ⟨fun hflags hfollow => ?_, fun hflags hfollow => ?_, fun hends hflags hfollow => ?_⟩ <;>
      rw [exec_stepFollow h ha]
    · have hbit : flags.toNat.testBit 1 = false := Nat.testBit_lt_two_pow (by omega)
      rw [State.checked_fail ((hchecks (by omega)).trans (by rw [Option.isSome_iff_ne_none.mpr hfollow, hbit]; rfl))]
      exact congrArg Host.Outcome.next (answer_of_admits hadmits ..)
    · have hbit : flags.toNat.testBit 1 = false := Nat.testBit_lt_two_pow (by omega)
      have hinvert : flags.toNat.testBit 0 = decide (flags = 1) := by
        have : flags = 0 ∨ flags = 1 := by bv_omega
        rcases this with rfl | rfl <;> rfl
      have hcounter : Fin.ofNat 8 counter.toNat = n := by
        rw [hn]
        exact Fin.ext (by rw [Fin.val_ofNat]; omega)
      rw [State.checked_pass ((hchecks (by omega)).trans (by rw [hfollow]; rfl))]
      refine congrArg Host.Outcome.next ?_
      simp only [State.followAxis, hbit, hinvert, hcounter, Bool.false_eq_true, if_false]
      exact answer_onAx hadmits ..
    · have hbit : flags.toNat.testBit 1 = true := by
        have : flags = 2 ∨ flags = 3 := by bv_omega
        rcases this with rfl | rfl <;> rfl
      have hsome : (s.ax a).follow.isSome = true := Option.isSome_iff_ne_none.mpr hfollow
      rw [State.checked_pass ((hchecks hflags).trans (by rw [hbit, hsome]; rfl))]
      refine congrArg Host.Outcome.next ?_
      simp only [State.followAxis, hbit, if_true]
      exact (answer_onAx hadmits ..).trans (congrArg (State.withReply · _) (onAx_congr (if_pos hsome)))

end Sys2Proof.Proofs
end

section
/-! PROOF. The statement on AXIS_ENABLE, AXIS_DISABLE and AXIS_SHORT_BRAKE (R188 to R191, R213 to R215, R254). -/

namespace Sys2Proof.Proofs
open Sys2Proof.Machine

/-! ### The bays of an enabled axis (R188) -/

theorem onHb_hb_ite (s : State) (x y : Fin 48) (f : HalfBridge → HalfBridge) : (s.onHb x f).hb y = if y = x then f (s.hb x) else s.hb y := by
  split
  · next h => rw [h, State.onHb_hb]
  · next h => exact State.onHb_hb_of_ne s f h

theorem onBay_bay_ite (s : State) (b c : Fin 16) (f : Bay → Bay) : (s.onBay b f).bay c = if c = b then f (s.bay b) else s.bay c := by
  split
  · next h => rw [h, State.onBay_bay]
  · next h => exact State.onBay_bay_of_ne s f h

/-- The half-bridges of a bay are its three. -/
theorem bayOfHb_eq_iff {h : Fin 48} {b : Fin 16} : bayOfHb h = b ↔ h = hbOf b 0 ∨ h = hbOf b 1 ∨ h = hbOf b 2 := by
  simp only [bayOfHb, hbOf, Fin.ext_iff, Fin.val_zero, Fin.val_one, Fin.val_two]
  omega

theorem hbOf_ne {b : Fin 16} {x y : Fin 3} (h : x ≠ y) : hbOf b x ≠ hbOf b y := by
  simp only [hbOf, ne_eq, Fin.ext_iff] at h ⊢
  omega

/-- A change of each of the three half-bridges of a bay, of a form that the parameters decide. -/
theorem eachOfBay_hb {s : State} {b : Fin 16} {op : Fin 3 → State → State} {F : Fin 48 → HalfBridge → HalfBridge}
    (hregs : ∀ x t, (op x t).regs = t.regs)
    (hop : ∀ x t h, t.regs = s.regs → (op x t).hb h = if h = hbOf b x then F h (t.hb h) else t.hb h) (h : Fin 48) :
    (s.each (allFin 3) op).hb h = if bayOfHb h = b then F h (s.hb h) else s.hb h := by
  have hthree : s.each (allFin 3) op = op 2 (op 1 (op 0 s)) := rfl
  have h0 : (op 0 s).regs = s.regs := hregs 0 s
  have h1 : (op 1 (op 0 s)).regs = s.regs := (hregs 1 _).trans h0
  rw [hthree, hop 2 _ h h1, hop 1 _ h h0, hop 0 s h rfl]
  simp only [bayOfHb_eq_iff]
  have h01 : hbOf b 1 ≠ hbOf b 0 := hbOf_ne (by decide)
  have h02 : hbOf b 2 ≠ hbOf b 0 := hbOf_ne (by decide)
  have h12 : hbOf b 2 ≠ hbOf b 1 := hbOf_ne (by decide)
  by_cases hx2 : h = hbOf b 2
  · subst hx2
    simp [h02, h12]
  · by_cases hx1 : h = hbOf b 1
    · subst hx1
      simp [h01, hx2]
    · by_cases hx0 : h = hbOf b 0
      · subst hx0
        simp [hx1, hx2]
      · simp [hx0, hx1, hx2]

theorem freeW_congr {s t : State} (h : t.regs = s.regs) (x : Fin 48) : t.freeW x = s.freeW x := by
  unfold State.freeW State.stepperAt State.isStepper State.devN State.dev State.par
  rw [h]

theorem bayEnabled_hb (s : State) (b : Fin 16) (h : Fin 48) : (s.bayEnabled b).hb h =
    if bayOfHb h = b then { s.hb h with release := .no } else s.hb h := by
  refine eachOfBay_hb (op := fun x t => t.onHb (hbOf b x) (fun h => { h with release := .no })) (F := fun _ y => { y with release := .no })
    (fun _ _ => rfl) (fun x t h _ => (onHb_hb_ite t _ h _).trans ?_) h
  by_cases hx : h = hbOf b x
  · rw [hx]
  · rw [if_neg hx, if_neg hx]

/-- A half-bridge that is no free one of a stepper pair is released at its next frame. -/
theorem bayIdle_hb (s : State) (b : Fin 16) (f : Long) (h : Fin 48) : (s.bayIdle b f).hb h =
    if bayOfHb h = b then (if s.freeW h then s.hb h else { s.hb h with release := .untilFrame f }) else s.hb h := by
  refine eachOfBay_hb (F := fun h y => if s.freeW h then y else { y with release := .untilFrame f }) (fun x t => ?_) (fun x t h ht => ?_) h
  · split <;> rfl
  · rw [freeW_congr ht]
    by_cases hx : h = hbOf b x
    · subst hx
      rw [if_pos rfl]
      split
      · rfl
      · rw [State.onHb_hb]
    · rw [if_neg hx]
      split
      · rfl
      · exact State.onHb_hb_of_ne _ _ hx

/-- What the enabling of one bay does: its half-bridges OFF until the frame, its calibration begun. -/
def enabledBay (f : Long) (b : Fin 16) (s : State) : State := ((s.bayEnabled b).bayIdle b f).calibrateBay b

/-- The power stage changes in its bays and half-bridges alone. -/
def BaysOnly (s t : State) : Prop := t = { s with pwm := { s.pwm with bays := t.pwm.bays, hbs := t.pwm.hbs } }

theorem BaysOnly.refl (s : State) : BaysOnly s s := rfl

theorem BaysOnly.trans {s t u : State} (h : BaysOnly s t) (h' : BaysOnly t u) : BaysOnly s u := by
  unfold BaysOnly at *
  rw [h', h]

theorem BaysOnly.each {α : Type} {s t : State} (h : BaysOnly s t) (l : List α) {f : α → State → State} (hf : ∀ x u, BaysOnly u (f x u)) :
    BaysOnly s (t.each l f) := by
  unfold State.each
  induction l generalizing t with
  | nil => exact h
  | cons x l ih => exact ih (h.trans (hf x t))

theorem baysOnly_enabledBay (f : Long) (b : Fin 16) (s : State) : BaysOnly s (enabledBay f b s) := by
  have hon : BaysOnly s (s.bayEnabled b) := (BaysOnly.refl s).each _ fun _ _ => rfl
  have hidle : BaysOnly s ((s.bayEnabled b).bayIdle b f) := hon.each _ fun x u => by
    split <;> rfl
  exact hidle.trans rfl

theorem enabledBay_regs (f : Long) (b : Fin 16) (s : State) : (enabledBay f b s).regs = s.regs := by
  rw [baysOnly_enabledBay]

theorem enabledBay_hb (f : Long) (b : Fin 16) (s : State) (h : Fin 48) : (enabledBay f b s).hb h =
    if bayOfHb h = b then { s.hb h with release := if s.freeW h then .no else .untilFrame f } else s.hb h := by
  have hregs : (s.bayEnabled b).regs = s.regs := rfl
  refine (bayIdle_hb _ b f h).trans ?_
  rw [freeW_congr hregs, bayEnabled_hb]
  split
  · split <;> rfl
  · rfl

theorem bayIdle_bay (s : State) (b : Fin 16) (f : Long) (c : Fin 16) : (s.bayIdle b f).bay c = s.bay c := by
  unfold State.bayIdle
  have hop : ∀ (x : Fin 3) (t : State), (if t.freeW (hbOf b x) then t else t.onHb (hbOf b x) (fun h => { h with release := .untilFrame f })).bay c =
      t.bay c := fun x t => by split <;> rfl
  have hthree : ∀ op : Fin 3 → State → State, s.each (allFin 3) op = op 2 (op 1 (op 0 s)) := fun _ => rfl
  rw [hthree]
  simp only [hop]

theorem enabledBay_bay (f : Long) (b : Fin 16) (s : State) (c : Fin 16) :
    ((enabledBay f b s).bay c).calibrating = if c = b then true else (s.bay c).calibrating := by
  unfold enabledBay State.calibrateBay
  rw [onBay_bay_ite]
  split
  · rfl
  · rw [bayIdle_bay]
    rfl

/-- The bays of a list enabled in turn. -/
theorem enabledBays_facts (f : Long) (s : State) (l : List (Fin 16)) :
    (∀ h : Fin 48, (s.each l (enabledBay f)).hb h =
      if l.contains (bayOfHb h) then { s.hb h with release := if s.freeW h then .no else .untilFrame f } else s.hb h) ∧
    ∀ c : Fin 16, ((s.each l (enabledBay f)).bay c).calibrating = (l.contains c || (s.bay c).calibrating) := by
  unfold State.each
  induction l generalizing s with
  | nil => exact ⟨fun _ => rfl, fun _ => rfl⟩
  | cons b l ih =>
    obtain ⟨hhb, hbay⟩ := ih (enabledBay f b s)
    refine ⟨fun h => (hhb h).trans ?_, fun c => (hbay c).trans ?_⟩
    · rw [freeW_congr (enabledBay_regs f b s), enabledBay_hb, List.contains_cons]
      by_cases hb : bayOfHb h = b
      · rw [if_pos hb, hb, beq_self_eq_true, Bool.true_or, if_pos rfl]
        split <;> rfl
      · rw [if_neg hb, beq_false_of_ne hb, Bool.false_or]
    · rw [enabledBay_bay, List.contains_cons]
      by_cases hc : c = b
      · rw [if_pos hc, hc, beq_self_eq_true, Bool.true_or, Bool.true_or, Bool.or_true]
      · rw [if_neg hc, beq_false_of_ne hc, Bool.false_or]

end Sys2Proof.Proofs
end

section
/-! PROOF. The statement on AXIS_ENABLE, AXIS_DISABLE and AXIS_SHORT_BRAKE, continued. -/

namespace Sys2Proof.Proofs
open Sys2Proof.Machine

/-! ### AXIS_ENABLE (R188, R213) -/

theorem exec_axisEnable {r : Req} {axis : Byte} {a : Fin 16} {k : Fin 8} {s : State} (h : s.direct 0x40 r k (.axisEnable r axis) = true)
    (ha : s.axisArg axis = some a) : exec (.axisEnable r axis) s = .next (s.checked r 0x40 (s.enableChecks a) (fun s =>
      (s.enableAxis a).1.answer r 0x40 (s.enableAxis a).2 .bare)) := by
  obtain ⟨hadmits, htag, hunclaimed⟩ := State.direct_facts h
  refine congrArg Host.Outcome.next ((onAxis_of_admits hadmits ha _).trans ?_)
  rw [if_pos htag]
  exact checked_congr (State.stageOr_direct htag (State.claimed_of_unclaimed hunclaimed))

theorem axisEnable_refused {r : Req} {axis : Byte} {a : Fin 16} {k : Fin 8} {s : State} {status : Nat}
    (h : s.direct 0x40 r k (.axisEnable r axis) = true) (ha : s.axisArg axis = some a) (hfail : firstFail (s.enableChecks a) = some status) :
    exec (.axisEnable r axis) s = .next (s.withReply (replyOf r k 0x40 status .bare)) := by
  rw [exec_axisEnable h ha, State.checked_fail hfail, State.refuse, answer_of_admits (State.direct_facts h).1]

theorem vbusLow_congr {s t : State} (hregs : t.regs = s.regs) (hpwm : t.pwm = s.pwm) (a : Fin 16) : t.vbusLow a = s.vbusLow a := by
  unfold State.vbusLow State.vbusOf State.die State.dev State.par
  rw [hregs, hpwm]

theorem baysOfAxis_congr {s t : State} (h : t.regs = s.regs) (a : Fin 16) : t.baysOfAxis a = s.baysOfAxis a := by
  unfold State.baysOfAxis State.stepperAt State.isStepper State.devN State.dev State.par
  rw [h]

/-- The axis slot of an axis that begins to enable. -/
def enablingAxis (s : State) (a : Fin 16) (x : Axis) : Axis :=
  { x.loopsOff with
    state := .enabling, since := s.frame64, enabling := some { step := .calibrate, since := s.frame64 }
    reaction := 0, stop := none, held := false, caught := false, caughtNegative := false
    com := { x.com with converged := false, convergeRun := 0, polarity := false, emf := [], intD := 0, intQ := 0
                        source := if s.feedback a = 0 then 0 else s.feedback a + 1 }
    stepper := { x.stepper with energised := false, slow := false, braked := false } }

theorem beginEnable_eq (s : State) (a : Fin 16) : s.beginEnable a =
    (s.onAx a (enablingAxis s a)).each (s.baysOfAxis a) (enabledBay (s.frame64 + 1)) := rfl

/-- What the beginning of an enable leaves. -/
theorem beginEnable_facts (s : State) (a : Fin 16) :
    s.beginEnable a = { s with
      motion := { s.motion with axes := (s.onAx a (enablingAxis s a)).motion.axes },
      pwm := { s.pwm with bays := (s.beginEnable a).pwm.bays, hbs := (s.beginEnable a).pwm.hbs } } ∧
    (∀ b : Fin 16, ((s.beginEnable a).bay b).calibrating = ((s.baysOfAxis a).contains b || (s.bay b).calibrating)) ∧
    (∀ h : Fin 48, (s.beginEnable a).hb h = (if (s.baysOfAxis a).contains (bayOfHb h) then
      { s.hb h with release := if s.freeW h then .no else .untilFrame (s.frame64 + 1) } else s.hb h)) := by
  have hbays : BaysOnly (s.onAx a (enablingAxis s a)) (s.beginEnable a) := by
    rw [beginEnable_eq]
    exact (BaysOnly.refl _).each _ fun b u => baysOnly_enabledBay _ b u
  obtain ⟨hhb, hbay⟩ := enabledBays_facts (s.frame64 + 1) (s.onAx a (enablingAxis s a)) (s.baysOfAxis a)
  exact ⟨hbays, hbay, hhb⟩

/-- An enable that is accepted. -/
theorem axisEnable_accepted {r : Req} {axis : Byte} {a : Fin 16} {k : Fin 8} {s : State} (h : s.direct 0x40 r k (.axisEnable r axis) = true)
    (ha : s.axisArg axis = some a) (hpass : firstFail (s.enableChecks a) = none) (hsaliency : s.saliencyBad a = false)
    (hvbus : s.vbusLow a = false) : exec (.axisEnable r axis) s =
      .next (((s.clearFault 0x060B a.val).beginEnable a).withReply (replyOf r k 0x40 Status.ok .bare)) := by
  have hframe := State.clearFault_frame s 0x060B a.val
  have hlow : (s.clearFault 0x060B a.val).vbusLow a = false :=
    (vbusLow_congr (clearFault_regs ..) (by rw [hframe]) a).trans hvbus
  have henable : s.enableAxis a = ((s.clearFault 0x060B a.val).beginEnable a, Status.ok) := by
    simp only [State.enableAxis, hsaliency, hlow, Bool.false_eq_true, if_false]
  rw [exec_axisEnable h ha, State.checked_pass hpass, henable]
  refine congrArg Host.Outcome.next (answer_of_sessions (State.slotOf_of_admits (State.direct_facts h).1) ?_ _ _ _)
  rw [(beginEnable_facts _ a).1, hframe]

/-! ### AXIS_DISABLE (R188, R254) -/

/-- An axis without its gear to a master. -/
def freedFrom (m : Fin 16) (n : Long) (x : Axis) : Axis :=
  match x.gear with
  | some g => if g.master = m then { x with gear := none, releasedAt := some n } else x
  | none => x

theorem freedFrom_cases (m : Fin 16) (n : Long) (x : Axis) :
    (freedFrom m n x = x ∧ ∀ g, x.gear = some g → g.master ≠ m) ∨
    (freedFrom m n x = { x with gear := none, releasedAt := some n } ∧ x.gear ≠ none) := by
  unfold freedFrom
  rcases hgear : x.gear with _ | g
  · exact .inl ⟨rfl, fun g hg => by cases hg⟩
  · by_cases hm : g.master = m
    · refine .inr ⟨if_pos hm, by simp⟩
    · refine .inl ⟨if_neg hm, fun g' hg => ?_⟩
      cases hg
      exact hm

theorem freedFrom_idem (m : Fin 16) (n : Long) (x : Axis) : freedFrom m n (freedFrom m n x) = freedFrom m n x := by
  rcases freedFrom_cases m n x with ⟨h, -⟩ | ⟨h, -⟩
  · rw [h, h]
  · rw [h]
    rfl

theorem motionOnly_releaseSlaves (s : State) (m : Fin 16) : MotionOnly s (s.releaseSlaves m) :=
  (MotionOnly.refl s).each _ fun b u => by
    split
    · split <;> rfl
    · rfl

theorem releaseSlaves_ax (s : State) (m b : Fin 16) : (s.releaseSlaves m).ax b = freedFrom m s.frame64 (s.ax b) := by
  have hall := each_ax_of_idem (P := fun u => u.frame64 = s.frame64) (s := s) (F := freedFrom m s.frame64)
    (f := fun b t => match (t.ax b).gear with | some g => if g.master = m then t.ungear b else t | none => t) rfl ?_
    (freedFrom_idem m s.frame64) ?_ (allFin 16) b
  · refine Eq.trans ?_ (hall.trans (if_pos (List.mem_finRange b)))
    rfl
  · intro a u hu
    split
    · split
      · exact hu
      · exact hu
    · exact hu
  · intro a c u hu
    rcases hgear : (u.ax a).gear with _ | g
    · simp only [freedFrom, hgear]
      split
      · next h => rw [h]
      · rfl
    · simp only [freedFrom, hgear]
      split
      · rw [State.ungear, onAx_ax_ite, hu]
      · split
        · next h => rw [h]
        · rfl

theorem motionOnly_ungear (s : State) (a : Fin 16) : MotionOnly s (s.ungear a) := rfl

theorem motionOnly_disableAxis (s : State) (a : Fin 16) : MotionOnly s (s.disableAxis a) := by
  have hcleared := (motionOnly_endHoming s a 0x21).trans (motionOnly_clearQueue _ a (outcome := 1) (by decide))
  have hfree := (hcleared.trans (motionOnly_releaseSlaves _ a)).trans (motionOnly_ungear _ a)
  unfold State.disableAxis
  simp only
  split
  · exact hfree.onAx a _
  · exact ((hfree.trans (motionOnly_releaseSlaves _ a)).onAx a _).onAx a _

/-- What moves an axis by itself is read from parameters and faults alone. -/
theorem stopFault_congr {s t : State} (hregs : t.regs = s.regs) (hfaults : t.faults = s.faults) (a : Fin 16) :
    t.stopFault a = s.stopFault a := by
  unfold State.stopFault State.actsOn State.axesInScope State.presentAxes State.axisExists State.baysOfAxis State.stepperAt State.isStepper
    State.devN State.dev State.par
  rw [hregs, hfaults]

/-- An axis whose queue has been emptied, its homing and its gear ended. -/
def idled (n : Long) (x : Axis) : Axis :=
  { x with homing := none, queue := [], deferred := false, gear := none, releasedAt := some n }

/-- The axis slot of a disabled axis. -/
def disabledAxis (n : Long) (x : Axis) : Axis :=
  { x.loopsOff with
    state := if x.state = .sto then .sto else .disabled, since := n, enabling := none, follow := none
    reaction := if x.state = .sto then x.reaction else 0, stop := none, held := false, reversing := false
    stepper := { x.stepper with energised := false, slow := false } }

theorem keepsHome_congr {s t : State} {a : Fin 16} (hregs : t.regs = s.regs) (hcom : (t.ax a).com = (s.ax a).com) :
    t.keepsHome a = s.keepsHome a := by
  unfold State.keepsHome State.feedback State.stepperAt State.isStepper State.devN State.dev State.parN State.par
  rw [hregs, hcom]

theorem quickHeld_congr {s t : State} {a : Fin 16} (hregs : t.regs = s.regs) (hfaults : t.faults = s.faults)
    (hstate : (t.ax a).state = (s.ax a).state) (hreaction : (t.ax a).reaction = (s.ax a).reaction) : t.quickHeld a = s.quickHeld a := by
  unfold State.quickHeld
  rw [stopFault_congr hregs hfaults, hstate, hreaction]
  unfold State.stepperAt State.isStepper State.devN State.dev State.par
  rw [hregs]

theorem setDisabled_ax (s : State) (a b : Fin 16) :
    (s.setDisabled a).ax b = if b = a then disabledAxis s.frame64 (freedFrom a s.frame64 (s.ax a)) else freedFrom a s.frame64 (s.ax b) := by
  unfold State.setDisabled
  rw [onAx_ax_ite, releaseSlaves_ax, releaseSlaves_ax]
  rfl

/-- AXIS_DISABLE of one axis: its own slot, and the slaves that it frees. -/
theorem disableAxis_ax (s : State) (a b : Fin 16) : (s.disableAxis a).ax b =
    if b = a then
      (fun x : Axis => { x with homed := x.homed && s.keepsHome a })
        (if s.quickHeld a then idled s.frame64 (s.ax a) else disabledAxis s.frame64 (idled s.frame64 (s.ax a)))
    else freedFrom a s.frame64 (s.ax b) := by
  have hcleared := (motionOnly_endHoming s a 0x21).trans (motionOnly_clearQueue _ a (outcome := 1) (by decide))
  have hclearedAx : ∀ c, (((s.endHoming a 0x21).clearQueue a 1).ax c) =
      if c = a then { s.ax a with homing := none, queue := [], deferred := false } else s.ax c := fun c => by
    rw [clearQueue_ax _ a (by decide), endHoming_ax, endHoming_ax, if_pos rfl]
    split <;> rfl
  unfold State.disableAxis
  simp only
  generalize (s.endHoming a 0x21).clearQueue a 1 = t at hcleared hclearedAx ⊢
  have hframe : t.frame64 = s.frame64 := by rw [hcleared]
  have hungear := (hcleared.trans (motionOnly_releaseSlaves t a)).trans (motionOnly_ungear _ a)
  have hungearAx : ∀ c, (((t.releaseSlaves a).ungear a).ax c) =
      if c = a then idled s.frame64 (s.ax a) else freedFrom a s.frame64 (s.ax c) := fun c => by
    have hframe' : (t.releaseSlaves a).frame64 = s.frame64 := by rw [motionOnly_releaseSlaves, hframe]
    rw [State.ungear, onAx_ax_ite, releaseSlaves_ax, releaseSlaves_ax, hclearedAx, hclearedAx, if_pos rfl, hframe, hframe']
    by_cases hc : c = a
    · rw [if_pos hc, if_pos hc]
      rcases freedFrom_cases a s.frame64 { s.ax a with homing := none, queue := [], deferred := false } with ⟨h, -⟩ | ⟨h, -⟩ <;> rw [h] <;> rfl
    · rw [if_neg hc, if_neg hc, if_neg hc]
  generalize (t.releaseSlaves a).ungear a = u at hungear hungearAx ⊢
  have huframe : u.frame64 = s.frame64 := by rw [hungear]
  have hua : u.ax a = idled s.frame64 (s.ax a) := (hungearAx a).trans (if_pos rfl)
  have hquick : u.quickHeld a = s.quickHeld a :=
    quickHeld_congr (by rw [hungear]) (by rw [hungear]) (by rw [hua]; rfl) (by rw [hua]; rfl)
  have hidle : freedFrom a s.frame64 (idled s.frame64 (s.ax a)) = idled s.frame64 (s.ax a) := rfl
  rw [onAx_ax_ite, hquick]
  by_cases hb : b = a
  · rw [if_pos hb, if_pos hb]
    split
    · rw [hua]
    · rw [setDisabled_ax, if_pos rfl, hua, huframe, hidle]
  · rw [if_neg hb, if_neg hb]
    split
    · rw [hungearAx, if_neg hb]
    · rw [setDisabled_ax, if_neg hb, huframe, hungearAx, if_neg hb, freedFrom_idem]

/-- The axis slot that AXIS_DISABLE leaves, by whether the axis keeps its home and the winding short of QUICK. -/
def disabledSlot (keep quick : Bool) (n : Long) (x : Axis) : Axis :=
  (fun x : Axis => { x with homed := x.homed && keep }) (if quick then idled n x else disabledAxis n (idled n x))

theorem disabledSlot_gear (keep quick : Bool) (n : Long) (x : Axis) : (disabledSlot keep quick n x).gear = none := by
  cases quick <;> rfl

theorem freedFrom_disabledSlot (m : Fin 16) (keep quick : Bool) (n : Long) (x : Axis) :
    freedFrom m n (disabledSlot keep quick n x) = disabledSlot keep quick n x := by
  unfold freedFrom
  rw [disabledSlot_gear]

theorem disabledSlot_freedFrom (m : Fin 16) (keep quick : Bool) (n : Long) (x : Axis) :
    disabledSlot keep quick n (freedFrom m n x) = disabledSlot keep quick n x := by
  rcases freedFrom_cases m n x with ⟨h, -⟩ | ⟨h, -⟩ <;> rw [h]
  rfl

/-- An axis after the axes of a list have been disabled that is none of them: as before, or freed of its master. -/
def FreedOf (l : List (Fin 16)) (n : Long) (x y : Axis) : Prop :=
  (y = x ∧ ∀ g, x.gear = some g → g.master ∉ l) ∨ (y = { x with gear := none, releasedAt := some n } ∧ x.gear ≠ none)

theorem FreedOf.cons {m : Fin 16} {l : List (Fin 16)} {n : Long} {x y : Axis} (h : FreedOf l n (freedFrom m n x) y) : FreedOf (m :: l) n x y := by
  rcases freedFrom_cases m n x with ⟨hm, hmaster⟩ | ⟨hm, hgear⟩ <;> rw [hm] at h
  · rcases h with ⟨hy, hl⟩ | h
    · exact .inl ⟨hy, fun g hg => by simpa [hmaster g hg] using hl g hg⟩
    · exact .inr h
  · rcases h with ⟨hy, -⟩ | ⟨-, hnone⟩
    · exact .inr ⟨hy, hgear⟩
    · exact absurd rfl hnone

theorem FreedOf.gear {l : List (Fin 16)} {n : Long} {x y : Axis} (h : FreedOf l n x y) {g : Gear} (hg : y.gear = some g) :
    x.gear = some g ∧ g.master ∉ l := by
  rcases h with ⟨rfl, hl⟩ | ⟨rfl, -⟩
  · exact ⟨hg, hl g hg⟩
  · cases hg

theorem FreedOf.frame {l : List (Fin 16)} {n : Long} {x y : Axis} (h : FreedOf l n x y) :
    y = { x with gear := y.gear, releasedAt := if y.gear = x.gear then x.releasedAt else some n } := by
  rcases h with ⟨rfl, -⟩ | ⟨rfl, hgear⟩
  · rw [if_pos rfl]
  · rw [if_neg (Ne.symm hgear)]

/-- AXIS_DISABLE of distinct axes. -/
theorem disableAxes_ax (s : State) {l : List (Fin 16)} (h : l.Nodup) :
    (∀ a ∈ l, (s.each l (fun a t => t.disableAxis a)).ax a = disabledSlot (s.keepsHome a) (s.quickHeld a) s.frame64 (s.ax a)) ∧
    ∀ b : Fin 16, b ∉ l → FreedOf l s.frame64 (s.ax b) ((s.each l (fun a t => t.disableAxis a)).ax b) := by
  unfold State.each
  induction l generalizing s with
  | nil => exact ⟨fun a ha => by simp at ha, fun b _ => .inl ⟨rfl, fun _ _ => by simp⟩⟩
  | cons m l ih =>
    obtain ⟨hm, hl⟩ := List.nodup_cons.mp h
    obtain ⟨hin, hout⟩ := ih (s.disableAxis m) hl
    have hmotion := motionOnly_disableAxis s m
    have hframe : (s.disableAxis m).frame64 = s.frame64 := by rw [hmotion]
    have hother : ∀ b, b ≠ m → (s.disableAxis m).ax b = freedFrom m s.frame64 (s.ax b) := fun b hb =>
      (disableAxis_ax s m b).trans (if_neg hb)
    have hown : (s.disableAxis m).ax m = disabledSlot (s.keepsHome m) (s.quickHeld m) s.frame64 (s.ax m) :=
      (disableAxis_ax s m m).trans (if_pos rfl)
    refine ⟨fun a ha => ?_, fun b hb => ?_⟩
    · rcases List.mem_cons.mp ha with rfl | ha
      · rcases hout a hm with ⟨heq, -⟩ | ⟨-, hgear⟩
        · exact heq.trans hown
        · rw [hown, disabledSlot_gear] at hgear
          exact absurd rfl hgear
      · have hne : a ≠ m := fun h => hm (h ▸ ha)
        have hfields : ((s.disableAxis m).ax a).com = (s.ax a).com ∧ ((s.disableAxis m).ax a).state = (s.ax a).state ∧
            ((s.disableAxis m).ax a).reaction = (s.ax a).reaction := by
          rw [hother a hne]
          rcases freedFrom_cases m s.frame64 (s.ax a) with ⟨h, -⟩ | ⟨h, -⟩ <;> rw [h] <;> exact ⟨rfl, rfl, rfl⟩
        obtain ⟨hcom, hstate, hreaction⟩ := hfields
        have hkeep := keepsHome_congr (s := s) (t := s.disableAxis m) (by rw [hmotion]) hcom
        have hquick := quickHeld_congr (s := s) (t := s.disableAxis m) (by rw [hmotion]) (by rw [hmotion]) hstate hreaction
        refine (hin a ha).trans ?_
        rw [hkeep, hquick, hframe, hother a hne, disabledSlot_freedFrom]
    · obtain ⟨hbm, hbl⟩ := not_or.mp (mt List.mem_cons.mpr hb)
      have hfree := hout b hbl
      rw [hframe, hother b hbm] at hfree
      exact hfree.cons

theorem exec_axisDisable {r : Req} {axis : Byte} {axes : List (Fin 16)} {k : Fin 8} {s : State} (h : s.admits 0x41 r k = true)
    (ha : s.axesArg axis = some axes) : exec (.axisDisable r axis) s = .next (
      if axes.all (fun a => (s.ax a).state = .disabled) then s.refuse r 0x41 Status.alreadyDone
      else (s.each axes (fun a t => t.disableAxis a)).answer r 0x41 Status.ok .bare) := by
  refine congrArg Host.Outcome.next ((State.request_of_admits h _).trans ?_)
  simp only [ha]

/-- A change of the axes and groups alone, answered as its session says. -/
theorem answer_of_motionOnly {s t : State} {r : Req} {k : Fin 8} {code : Nat} (h : s.admits code r k = true) (hmotion : MotionOnly s t) (op : Nat) :
    t.answer r op Status.ok .bare = { s with motion := { s.motion with axes := t.motion.axes, groups := t.motion.groups }, log := t.log
                                             cmd := (s.withReply (replyOf r k op Status.ok .bare)).cmd } := by
  rw [answer_of_sessions (State.slotOf_of_admits h) (by rw [hmotion]), State.withReply, hmotion]
  rfl

/-- The disabled axes of a request. -/
theorem axisDisable_answers {r : Req} {axis : Byte} {axes : List (Fin 16)} {k : Fin 8} {s : State} (ha : s.axesArg axis = some axes)
    (h : s.admits 0x41 r k = true) (hall : axes.all (fun a => (s.ax a).state = .disabled) = false) :
    Answers (exec (.axisDisable r axis) s) (fun t =>
      t = { s with motion := { s.motion with axes := t.motion.axes, groups := t.motion.groups }, log := t.log,
                   cmd := (s.withReply (replyOf r k 0x41 Status.ok .bare)).cmd } ∧
      (∀ a ∈ axes, t.ax a = disabledSlot (s.keepsHome a) (s.quickHeld a) s.frame64 (s.ax a)) ∧
      ∀ b : Fin 16, b ∉ axes → FreedOf axes s.frame64 (s.ax b) (t.ax b)) := by
  have hmotion : MotionOnly s (s.each axes (fun a t => t.disableAxis a)) := (MotionOnly.refl s).each axes fun a u => motionOnly_disableAxis u a
  obtain ⟨hin, hout⟩ := disableAxes_ax s (axesArg_nodup ha)
  rw [exec_axisDisable h ha, hall, if_neg Bool.false_ne_true, answer_of_motionOnly h hmotion]
  exact ⟨_, rfl, rfl, hin, hout⟩

/-! ### AXIS_SHORT_BRAKE (R191, R215) -/

/-- The axis slot of a shorted axis. -/
def shortedAxis (n : Long) (x : Axis) : Axis :=
  if x.state = .sto then x
  else { x.loopsOff with state := .shorted, since := n, enabling := none, follow := none, stop := none, held := false,
                         reversing := false, stepper := { x.stepper with energised := false, slow := true } }

/-- The axis slot that AXIS_SHORT_BRAKE leaves. -/
def brakedAxis (n : Long) (x : Axis) : Axis := shortedAxis n { x with homing := none, queue := [], deferred := false }

theorem brakedAxis_idem (n : Long) (x : Axis) : brakedAxis n (brakedAxis n x) = brakedAxis n x := by
  unfold brakedAxis shortedAxis
  by_cases h : x.state = .sto
  · simp only [h, if_true]
  · simp only [h, if_false]
    rfl

theorem brakedAxis_fields (n : Long) (x : Axis) : (brakedAxis n x).queue = [] ∧ (brakedAxis n x).homing = none ∧
    (brakedAxis n x).gear = x.gear ∧ (brakedAxis n x).homed = x.homed ∧
    (brakedAxis n x).state = (if x.state = .sto then .sto else .shorted) := by
  unfold brakedAxis shortedAxis
  by_cases h : x.state = .sto
  · rw [if_pos h, if_pos h]
    exact ⟨rfl, rfl, rfl, rfl, h⟩
  · rw [if_neg h, if_neg h]
    exact ⟨rfl, rfl, rfl, rfl, rfl⟩

theorem motionOnly_brakeAxis (s : State) (a : Fin 16) : MotionOnly s (s.brakeAxis a) :=
  ((motionOnly_endHoming s a 0x21).trans (motionOnly_clearQueue _ a (by decide))).onAx a _

theorem brakeAxis_ax (s : State) (a b : Fin 16) : (s.brakeAxis a).ax b = if b = a then brakedAxis s.frame64 (s.ax a) else s.ax b := by
  unfold State.brakeAxis
  rw [onAx_ax_ite, clearQueue_ax _ a (by decide), clearQueue_ax _ a (by decide), if_pos rfl, endHoming_ax, endHoming_ax, if_pos rfl]
  by_cases h : b = a
  · rw [if_pos h, if_pos h]
    rfl
  · rw [if_neg h, if_neg h, if_neg h, if_neg h]

theorem brakeAxes_ax (s : State) (l : List (Fin 16)) (b : Fin 16) :
    (s.each l (fun a t => t.brakeAxis a)).ax b = if b ∈ l then brakedAxis s.frame64 (s.ax b) else s.ax b :=
  each_ax_of_idem (P := fun u => u.frame64 = s.frame64) rfl (fun a u hu => by rw [motionOnly_brakeAxis u a]; exact hu)
    (brakedAxis_idem s.frame64) (fun a b u hu => by rw [brakeAxis_ax, hu]) l b

theorem exec_axisShortBrake {r : Req} {axis : Byte} {axes : List (Fin 16)} {k : Fin 8} {s : State} (h : s.admits 0x42 r k = true)
    (ha : s.axesArg axis = some axes) : exec (.axisShortBrake r axis) s = .next (
      if axes.all (fun a => (s.ax a).state = .shorted) then s.refuse r 0x42 Status.alreadyDone
      else if s.saf.state = .testing then s.refuse r 0x42 Status.busy
      else (s.each axes (fun a t => t.brakeAxis a)).answer r 0x42 Status.ok .bare) := by
  refine congrArg Host.Outcome.next ((State.request_of_admits h _).trans ?_)
  simp only [ha]

/-! ### The statement -/

theorem shorted_of_quickHeld {s : State} {a : Fin 16} (h : s.quickHeld a = true) : (s.ax a).state = .shorted := by
  unfold State.quickHeld at h
  simp only [Bool.and_eq_true, decide_eq_true_eq] at h
  exact h.1.1.2


/-- The checks of AXIS_ENABLE in their order. -/
theorem firstFail_enableChecks {s : State} {a : Fin 16} :
    ((s.ax a).state.running = true → firstFail (s.enableChecks a) = some Status.alreadyDone) ∧
    ((s.ax a).state.running = false → (s.ring.joined = true → s.ring.lockedOnce = true) →
      (s.saf.word = .testing ∨ s.saf.state = .testing → firstFail (s.enableChecks a) = some Status.busy) ∧
      (s.saf.word ≠ .testing → s.saf.state ≠ .testing →
        (s.saf.word ≠ .runPermitted ∨ s.saf.graceExpired = true → firstFail (s.enableChecks a) = some Status.safetyInhibit) ∧
        (s.saf.word = .runPermitted → s.saf.graceExpired = false →
          (s.stopFault a = true ∨ (s.baysOfAxis a).any s.bayForced = true → firstFail (s.enableChecks a) = some Status.faultLatched) ∧
          (s.stopFault a = false → (s.baysOfAxis a).any s.bayForced = false → s.isActive 0x0505 255 = false →
            firstFail (s.enableChecks a) = none)))) := by
  unfold State.enableChecks
  refine ⟨fun hrun => by simp only [hrun, firstFail_true], fun hrun hring => ?_⟩
  have hlock : (s.ring.joined && !s.ring.lockedOnce) = false := by
    rcases hjoined : s.ring.joined
    · rfl
    · rw [hring hjoined]
      rfl
  simp only [hrun, hlock, firstFail_false]
  refine ⟨fun htest => by rw [decide_eq_true htest, firstFail_true], fun hword hstate => ?_⟩
  rw [decide_eq_false (not_or.mpr ⟨hword, hstate⟩), firstFail_false]
  refine ⟨fun hinhibit => ?_, fun hrp hgrace => ?_⟩
  · have hbad : (decide (s.saf.word ≠ .runPermitted) || s.saf.graceExpired) = true := by simpa using hinhibit
    rw [hbad, firstFail_true]
  · have hgood : (decide (s.saf.word ≠ .runPermitted) || s.saf.graceExpired) = false := by simp [hrp, hgrace]
    rw [hgood, firstFail_false]
    refine ⟨fun hfault => ?_, fun hstop hforced hgate => ?_⟩
    · have hbad : (s.stopFault a || s.isActive 0x0505 255 || (s.baysOfAxis a).any s.bayForced) = true := by
        rcases hfault with h | h <;> rw [h] <;> simp
      rw [hbad, firstFail_true]
    · rw [hstop, hforced, hgate]
      rfl

/-- The state that an accepted AXIS_ENABLE leaves. -/
theorem beginEnable_clearFault_facts (s : State) (a : Fin 16) (c : Commands) :
    (fun t : State =>
      t = { s with motion := { s.motion with axes := t.motion.axes }, pwm := { s.pwm with bays := t.pwm.bays, hbs := t.pwm.hbs },
                   faults := t.faults, log := t.log, cmd := c } ∧
      (t.ax a).state = .enabling ∧ (t.ax a).queue = (s.ax a).queue ∧ (t.ax a).demand = (s.ax a).demand ∧
      (t.ax a).enabling = some { step := .calibrate, since := s.frame64 } ∧
      (∀ b : Fin 16, b ≠ a → t.ax b = s.ax b) ∧
      (∀ b : Fin 16, (t.bay b).calibrating = ((s.baysOfAxis a).contains b || (s.bay b).calibrating)) ∧
      (∀ h : Fin 48, t.hb h = (if (s.baysOfAxis a).contains (bayOfHb h) then
          { s.hb h with release := if s.freeW h then .no else .untilFrame (s.frame64 + 1) } else s.hb h)) ∧
      t.faults = s.faults.filter (fun f => !(f.code = 0x060B && f.inst = a.val)))
    { (s.clearFault 0x060B a.val).beginEnable a with cmd := c } := by
  have hframe := State.clearFault_frame s 0x060B a.val
  have hfaults := clearFault_faults s 0x060B a.val
  have hregs := clearFault_regs s 0x060B a.val
  generalize s.clearFault 0x060B a.val = u at hframe hfaults hregs ⊢
  have hframe64 : u.frame64 = s.frame64 := by rw [hframe]
  have hmotion : u.motion = s.motion := by rw [hframe]
  have hpwm : u.pwm = s.pwm := by rw [hframe]
  obtain ⟨hbegin, hbays, hhbs⟩ := beginEnable_facts u a
  rw [baysOfAxis_congr hregs] at hbays hhbs
  simp only [freeW_congr hregs, hframe64] at hhbs
  have hux : ∀ b, u.ax b = s.ax b := fun b => congrArg (fun m : Motion => m.axes[b]) hmotion
  have hax : ∀ b, (u.beginEnable a).ax b = if b = a then enablingAxis s a (s.ax a) else s.ax b := fun b => by
    have hb : (u.beginEnable a).ax b = (u.onAx a (enablingAxis u a)).ax b := by rw [hbegin]; rfl
    have henabling : enablingAxis u a = enablingAxis s a := by
      unfold enablingAxis State.feedback State.parN State.par
      rw [hframe64, hregs]
    rw [hb, onAx_ax_ite, henabling, hux, hux]
  have hself := (hax a).trans (if_pos rfl)
  generalize u.beginEnable a = t at hbegin hbays hhbs hax hself ⊢
  refine ⟨?_, ?_, ?_, ?_, ?_, fun b hb => (hax b).trans (if_neg hb), fun b => (hbays b).trans ?_, fun h => (hhbs h).trans ?_, ?_⟩
  · rw [hbegin, hframe]
  · exact congrArg Axis.state hself
  · exact (congrArg Axis.queue hself).trans rfl
  · exact (congrArg Axis.demand hself).trans rfl
  · exact congrArg Axis.enabling hself
  · rw [show u.bay b = s.bay b from congrArg (fun p : Pwm => p.bays[b]) hpwm]
  · rw [show u.hb h = s.hb h from congrArg (fun p : Pwm => p.hbs[h]) hpwm]
  · rw [hbegin]
    exact hfaults

/-- Settles O27: the checks of AXIS_ENABLE in their order, and the slots that disabled and shorted axes are left with. -/
theorem enableDisableBrake : Obligations.EnableDisableBrake := by
  refine ⟨fun r axis a k s h ha => ?_, fun r axis axes k s ha => ⟨fun h => ⟨fun hall => ?_, fun hall => ?_⟩, fun h =>
    ⟨fun hall => ?_, fun hall htest => ?_, fun hall htest => ?_⟩⟩⟩
  · obtain ⟨hdone, hchecks⟩ := firstFail_enableChecks (s := s) (a := a)
    refine ⟨fun hrun => axisEnable_refused h ha (hdone hrun), fun hrun hring htest => axisEnable_refused h ha ((hchecks hrun hring).1 htest),
      fun hrun hring hword hstate => ?_⟩
    obtain ⟨hinhibit, hpermitted⟩ := (hchecks hrun hring).2 hword hstate
    refine ⟨fun hno => axisEnable_refused h ha (hinhibit hno), fun hrp hgrace => ?_⟩
    obtain ⟨hlatched, hpass⟩ := hpermitted hrp hgrace
    refine ⟨fun hfault => axisEnable_refused h ha (hlatched hfault), fun hstop hforced hgate hsaliency hvbus => ?_⟩
    refine ⟨_, axisEnable_accepted h ha (hpass hstop hforced hgate) hsaliency hvbus, ?_⟩
    have hcmd : ((s.clearFault 0x060B a.val).beginEnable a).cmd = s.cmd := by
      rw [(beginEnable_facts _ a).1, State.clearFault_frame]
    have hreply : ((s.clearFault 0x060B a.val).beginEnable a).withReply (replyOf r k 0x40 Status.ok .bare) =
        { (s.clearFault 0x060B a.val).beginEnable a with cmd := (s.withReply (replyOf r k 0x40 Status.ok .bare)).cmd } := by
      rw [State.withReply, hcmd]
      rfl
    rw [hreply]
    exact beginEnable_clearFault_facts s a _
  · rw [exec_axisDisable h ha, if_pos hall]
    exact congrArg Host.Outcome.next (answer_of_admits h ..)
  · obtain ⟨t, ht, hframe, hin, hout⟩ := axisDisable_answers ha h hall
    refine ⟨t, ht, hframe, fun a hmem => ?_, fun b hb => ?_, fun b g hg => ?_⟩
    · rw [hin a hmem]
      rcases hquick : s.quickHeld a
      · exact ⟨rfl, rfl, rfl, fun _ => ⟨rfl, rfl, rfl, rfl⟩, fun h => Bool.noConfusion h, rfl⟩
      · exact ⟨rfl, rfl, rfl, fun h => Bool.noConfusion h, fun _ => shorted_of_quickHeld hquick, rfl⟩
    · exact (hout b hb).frame
    · by_cases hmem : b ∈ axes
      · rw [hin b hmem, disabledSlot_gear] at hg
        cases hg
      · exact (hout b hmem).gear hg
  · rw [exec_axisShortBrake h ha, if_pos hall]
    exact congrArg Host.Outcome.next (answer_of_admits h ..)
  · rw [exec_axisShortBrake h ha, hall, if_neg Bool.false_ne_true, if_pos htest]
    exact congrArg Host.Outcome.next (answer_of_admits h ..)
  · have hmotion : MotionOnly s (s.each axes (fun a t => t.brakeAxis a)) := (MotionOnly.refl s).each axes fun a u => motionOnly_brakeAxis u a
    rw [exec_axisShortBrake h ha, hall, if_neg Bool.false_ne_true, if_neg htest, answer_of_motionOnly h hmotion]
    refine ⟨_, rfl, rfl, fun a hmem => ?_, fun b hb => (brakeAxes_ax s axes b).trans (if_neg hb)⟩
    have hax := (brakeAxes_ax s axes a).trans (if_pos hmem)
    obtain ⟨hqueue, hhoming, hgear, hhomed, hstate⟩ := brakedAxis_fields s.frame64 (s.ax a)
    exact ⟨(congrArg Axis.queue hax).trans hqueue, (congrArg Axis.homing hax).trans hhoming, (congrArg Axis.gear hax).trans hgear,
      (congrArg Axis.homed hax).trans hhomed, (congrArg Axis.state hax).trans hstate⟩

end Sys2Proof.Proofs
end

section
/-! PROOF. The statement on FAULT_CLEAR (R501, R120, R308, R407). -/

namespace Sys2Proof.Proofs
open Sys2Proof.Machine

/-! ### What clearing a latch leaves cleared -/

/-- An operation that brings a cleared fault not back, and queues no reply. -/
def StaysCleared (code inst : Nat) (s t : State) : Prop :=
  t.cmd = s.cmd ∧ (s.isActive code inst = false → t.isActive code inst = false)

theorem StaysCleared.of_faults {code inst : Nat} {s t : State} (hcmd : t.cmd = s.cmd) (hfaults : t.faults = s.faults) :
    StaysCleared code inst s t := ⟨hcmd, fun h => by rwa [State.isActive, hfaults]⟩

theorem StaysCleared.refl {code inst : Nat} (s : State) : StaysCleared code inst s s := ⟨rfl, id⟩

theorem StaysCleared.trans {code inst : Nat} {s t u : State} (h : StaysCleared code inst s t) (h' : StaysCleared code inst t u) :
    StaysCleared code inst s u := ⟨h'.1.trans h.1, fun hs => h'.2 (h.2 hs)⟩

theorem StaysCleared.each {code inst : Nat} {α : Type} {s t : State} (h : StaysCleared code inst s t) (l : List α) {f : α → State → State}
    (hf : ∀ x u, StaysCleared code inst u (f x u)) : StaysCleared code inst s (t.each l f) := by
  unfold State.each
  induction l generalizing t with
  | nil => exact h
  | cons x l ih => exact ih (h.trans (hf x t))

theorem StaysCleared.ite {code inst : Nat} {p : Prop} [Decidable p] {s t u : State} (h : StaysCleared code inst s t)
    (h' : StaysCleared code inst s u) : StaysCleared code inst s (if p then t else u) := by
  split
  · exact h
  · exact h'

section Operations
variable {code inst : Nat}

theorem staysCleared_clearFault (s : State) (c i : Nat) : StaysCleared code inst s (s.clearFault c i) := by
  refine ⟨by rw [State.clearFault_frame], fun h => ?_⟩
  rw [State.isActive, clearFault_faults]
  refine List.any_eq_false.mpr fun f hf => ?_
  exact List.any_eq_false.mp h f (List.mem_filter.mp hf).1

theorem staysCleared_releaseBay (s : State) (src : Nat) (b : Fin 16) : StaysCleared code inst s (s.releaseBay src b) :=
  (StaysCleared.refl s).each _ fun _ _ => .of_faults rfl rfl

theorem staysCleared_releaseFault (s : State) (src : Nat) (b : Fin 16) : StaysCleared code inst s (s.releaseFault src b) := by
  unfold State.releaseFault
  split
  · exact .refl s
  · exact staysCleared_releaseBay s src b

theorem staysCleared_releaseFaults (s : State) (l : List (Fin 16)) : StaysCleared code inst s (s.each l (fun b t => t.releaseFault 8 b)) :=
  (StaysCleared.refl s).each l fun b u => staysCleared_releaseFault u 8 b

theorem staysCleared_releaseWith (s : State) (c src : Nat) (b : Fin 16) : StaysCleared code inst s (s.releaseWith c src b) := by
  have hclear := staysCleared_clearFault (code := code) (inst := inst) s c b.val
  simp only [State.releaseWith]
  split
  · exact hclear
  · exact hclear.each _ fun b u => staysCleared_releaseBay u src b

theorem staysCleared_setDisabled (s : State) (a : Fin 16) : StaysCleared code inst s (s.setDisabled a) := by
  have hmotion : MotionOnly s (s.setDisabled a) := (motionOnly_releaseSlaves s a).onAx a _
  exact .of_faults (by rw [hmotion]) (by rw [hmotion])

theorem staysCleared_releaseBraked (s : State) (die : Fin 2) : StaysCleared code inst s (s.releaseBraked die) := by
  unfold State.releaseBraked
  split
  · exact .refl s
  · refine StaysCleared.each (.of_faults rfl rfl) _ fun a u => ?_
    have hreleased : StaysCleared code inst u ((u.onAx a (fun x => { x with regenShort := false })).each
        ((u.onAx a (fun x => { x with regenShort := false })).baysOfAxis a) (fun b t => t.releaseFault 8 b)) :=
      StaysCleared.trans (.of_faults rfl rfl) (staysCleared_releaseFaults _ _)
    extract_lets t v
    split
    · exact hreleased.trans (staysCleared_setDisabled _ a)
    · exact hreleased

theorem staysCleared_leaveLocked (s : State) : StaysCleared code inst s s.leaveLocked := by
  unfold State.leaveLocked
  split
  · exact .of_faults (by rw [safetyMove_frame]) (safetyMove_faults ..)
  · exact .refl s

theorem staysCleared_zeroAttempts (s : State) (row : FaultRow) (f : Active) : StaysCleared code inst s (s.zeroAttempts row f) := by
  unfold State.zeroAttempts
  split
  · exact .of_faults rfl rfl
  · exact (StaysCleared.refl s).each _ fun _ _ => .of_faults rfl rfl

theorem staysCleared_clearShort (s : State) (b : Fin 16) : StaysCleared code inst s (s.clearShort b) :=
  (staysCleared_releaseWith s 0x0401 1 b).each _ fun _ _ => .of_faults rfl rfl

theorem staysCleared_clearBoot (s : State) (wait : Release) (h : Fin 48) : StaysCleared code inst s (s.clearBoot wait h) :=
  StaysCleared.trans (.of_faults rfl rfl) (staysCleared_clearFault _ 0x0402 h.val)

theorem staysCleared_afterClear (s : State) (a : Fin 16) : StaysCleared code inst s (s.afterClear a) := by
  simp only [State.afterClear]
  split
  · exact .of_faults rfl rfl
  · split
    · exact staysCleared_setDisabled s a
    · exact .refl s

/-- The clearing action of a fault brings no cleared fault back. -/
theorem staysCleared_clearLatch (s : State) (row : FaultRow) (f : Active) :
    StaysCleared code inst ((s.zeroAttempts row f).clearFault f.code f.inst) (s.clearLatch row f) := by
  unfold State.clearLatch
  extract_lets bays t die h booted
  change StaysCleared code inst t _
  have hbooted : StaysCleared code inst t booted := (staysCleared_clearBoot t _ _).trans (.of_faults rfl rfl)
  clear_value t booted
  have same : ∀ {u v : State}, v.cmd = u.cmd → v.faults = u.faults → StaysCleared code inst u v := .of_faults
  refine .ite ((staysCleared_clearShort t (Fin.ofNat 16 f.inst)).trans (same rfl rfl)) ?_
  refine .ite (hbooted.trans (staysCleared_releaseFaults _ _)) ?_
  refine .ite (staysCleared_releaseWith ..) ?_
  refine .ite ((StaysCleared.refl t).each _ fun b u => staysCleared_releaseBay u 4 b) ?_
  refine .ite ((StaysCleared.refl t).each _ fun b u => staysCleared_releaseBay u 5 b) ?_
  refine .ite ((StaysCleared.refl t).each _ fun b u => (staysCleared_releaseBay u 7 b).trans (same rfl rfl)) ?_
  refine .ite (staysCleared_releaseBraked ..) (.ite (same rfl rfl) (.ite (staysCleared_leaveLocked t) (.ite (same rfl rfl) ?_)))
  exact .ite (same rfl rfl) (.ite (same rfl rfl) (.ite (same rfl rfl) (staysCleared_releaseFaults ..)))

/-- A cleared latch is no longer active. -/
theorem clearLatch_facts (s : State) (row : FaultRow) (f : Active) :
    (s.clearLatch row f).cmd = s.cmd ∧ (s.clearLatch row f).isActive f.code f.inst = false := by
  obtain ⟨hzero, -⟩ := staysCleared_zeroAttempts (code := f.code) (inst := f.inst) s row f
  obtain ⟨hclear, -⟩ := staysCleared_clearFault (code := f.code) (inst := f.inst) (s.zeroAttempts row f) f.code f.inst
  obtain ⟨hcmd, hactive⟩ := staysCleared_clearLatch (code := f.code) (inst := f.inst) s row f
  exact ⟨hcmd.trans (hclear.trans hzero), hactive (isActive_clearFault ..)⟩

/-! ### A failed attempt -/

/-- Counting: of the state, the parameters, the saturated counters, the faults and the log alone. -/
def CountOnly (s t : State) : Prop := t = { s with regs := t.regs, saturated := t.saturated, faults := t.faults, log := t.log }

theorem CountOnly.trans {s t u : State} (h : CountOnly s t) (h' : CountOnly t u) : CountOnly s u := by
  unfold CountOnly at *
  rw [h', h]

/-- A counting that leaves a fault active. -/
def Counted (code inst : Nat) (s t : State) : Prop := CountOnly s t ∧ (s.isActive code inst = true → t.isActive code inst = true)

theorem Counted.refl (s : State) : Counted code inst s s := ⟨rfl, id⟩

theorem Counted.trans {s t u : State} (h : Counted code inst s t) (h' : Counted code inst t u) : Counted code inst s u :=
  ⟨h.1.trans h'.1, fun hs => h'.2 (h.2 hs)⟩

/-- A fault of a table that is raised again is active, and so is every other. -/
theorem counted_raiseAgain (s : State) (c i : Nat) (h : (FaultTable.find code).isSome = true) : Counted code inst s (s.raiseAgain c i) := by
  refine ⟨?_, fun hactive => ?_⟩
  · unfold CountOnly State.raiseAgain
    rw [State.raise_frame]
  · by_cases hsame : c = code ∧ i = inst
    · obtain ⟨rfl, rfl⟩ := hsame
      exact isActive_raise h
    · refine isActive_raise_of_active _ _ ?_
      obtain ⟨f, hf, hmatch⟩ := List.any_eq_true.mp hactive
      refine List.any_eq_true.mpr ⟨f, List.mem_filter.mpr ⟨hf, ?_⟩, hmatch⟩
      simp only [Bool.and_eq_true, decide_eq_true_eq] at hmatch
      obtain ⟨hfc, hfi⟩ := hmatch
      rw [hfc, hfi]
      rw [Bool.not_eq_true', ← Bool.decide_and, decide_eq_false_iff_not]
      exact fun heq => hsame ⟨heq.1.symm, heq.2.symm⟩

theorem counted_firstSaturation (s : State) (key st su bit c i : Nat) (h : (FaultTable.find code).isSome = true) :
    Counted code inst s (s.firstSaturation key st su bit c i) := by
  unfold State.firstSaturation
  split
  · exact .refl s
  · have hbit : Counted code inst s ({ s with saturated := key :: s.saturated }.stick st su bit) := ⟨rfl, id⟩
    exact hbit.trans (counted_raiseAgain _ c i h)

theorem counted_count (s : State) (index sub : Nat) (h : (FaultTable.find code).isSome = true) : Counted code inst s (s.count index sub) := by
  simp only [State.count]
  split
  · exact .refl s
  · split
    · exact .refl s
    · split
      · exact ⟨rfl, id⟩
      · have hset : Counted code inst s (s.setPar index sub (s.par index sub + 1)) := ⟨rfl, id⟩
        exact hset.trans (counted_firstSaturation _ _ _ _ _ _ _ h)

theorem Counted.each {α : Type} {s t : State} (h : Counted code inst s t) (l : List α) {f : α → State → State}
    (hf : ∀ x u, Counted code inst u (f x u)) : Counted code inst s (t.each l f) := by
  unfold State.each
  induction l generalizing t with
  | nil => exact h
  | cons x l ih => exact ih (h.trans (hf x t))

/-- A failed attempt is counted and leaves every fault active. -/
theorem counted_countAttempt (s : State) (row : FaultRow) (f : Active) (h : (FaultTable.find code).isSome = true) :
    Counted code inst s (s.countAttempt row f) := by
  unfold State.countAttempt
  split
  · exact counted_count _ _ _ h
  · split
    · have hmap : Counted code inst s { s with faults := s.faults.map (fun g =>
          if g.code = f.code && g.inst = f.inst then { g with attempts := min (g.attempts + 1) 65535 } else g) } := by
        refine ⟨rfl, fun hactive => ?_⟩
        rw [State.isActive, List.any_map, ← hactive, State.isActive]
        refine congrArg (List.any s.faults) (funext fun g => ?_)
        simp only [Function.comp]
        split <;> rfl
      refine hmap.trans ?_
      unfold State.attemptsSaturate
      split
      · exact .refl _
      · exact counted_firstSaturation _ _ _ _ _ _ _ h
    · exact (Counted.refl s).each _ fun x u => counted_count u _ _ h

end Operations

/-! ### The request -/

theorem clearedBy_fields (t s : State) (slot : Fin 8) : (t.clearedBy s slot).cmd = t.cmd ∧ (t.clearedBy s slot).faults = t.faults := ⟨rfl, rfl⟩

/-- With no new entry in the log, the session is entered nowhere. -/
theorem clearedBy_self (s : State) (slot : Fin 8) : s.clearedBy s slot = s := by
  unfold State.clearedBy
  simp only [List.take_length, List.drop_length, List.map_nil, List.append_nil]

/-- The faults that a request names. -/
def named (s : State) (code : Half) (inst : Byte) : List Active := s.faults.filter (fun f => f.code = code.toNat && f.inst = inst.toNat)

/-- What a request on named faults does. -/
def clearing (r : Req) (slot : Fin 8) (s : State) (l : List Active) : State :=
  ((s.clearEach {} l).1.clearedBy s slot).answer r 0x44
    (if l = [] then Status.alreadyDone else if (s.clearEach {} l).2.still = 0 then Status.ok else Status.faultLatched)
    (.bytes (s.clearEach {} l).2.bytes)

theorem exec_faultClear_unknown {r : Req} {c : Half} {i : Byte} {k : Fin 8} {s : State} (h : s.admits 0x44 r k = true) (hc : c ≠ 0)
    (hnone : FaultTable.find c.toNat = none) : exec (.faultClear r c i) s = .next (s.refuse r 0x44 Status.badParameter) := by
  refine congrArg Host.Outcome.next ((State.request_of_admits h _).trans ?_)
  simp only [if_neg hc, hnone]

theorem exec_faultClear {r : Req} {c : Half} {i : Byte} {k : Fin 8} {s : State} (h : s.admits 0x44 r k = true) (hc : c ≠ 0)
    {row : FaultRow} (hrow : FaultTable.find c.toNat = some row) : exec (.faultClear r c i) s = .next (
      if !s.carries row i.toNat then s.refuse r 0x44 Status.badParameter
      else if c = 0x0C01 then s.acknowledge.1.answer r 0x44 s.acknowledge.2
        (.bytes { cleared := boolNat (s.acknowledge.2 = Status.ok), still := boolNat (s.acknowledge.2 = Status.faultLatched) : ClearCount }.bytes)
      else clearing r k s (named s c i)) := by
  refine congrArg Host.Outcome.next ((State.request_of_admits h _).trans ?_)
  simp only [if_neg hc, hrow]
  rfl

/-- One named fault that is active. -/
theorem clearing_one (r : Req) (slot : Fin 8) (s : State) (f : Active) : clearing r slot s [f] =
    ((s.clearOne {} f).1.clearedBy s slot).answer r 0x44 (if (s.clearOne {} f).2.still = 0 then Status.ok else Status.faultLatched)
      (.bytes (s.clearOne {} f).2.bytes) := by
  simp only [clearing, State.clearEach, List.cons_ne_nil, if_false]
  rfl

theorem find_of_named {s : State} {c : Half} {i : Byte} {f : Active} (h : named s c i = [f]) :
    f.code = c.toNat ∧ f.inst = i.toNat ∧ s.faults.find? (fun g => g.code = f.code && g.inst = f.inst) = some f ∧
    s.isActive c.toNat i.toNat = true := by
  have hmem : f ∈ named s c i := by simp [h]
  obtain ⟨hin, hmatch⟩ := List.mem_filter.mp hmem
  have hactive : s.isActive c.toNat i.toNat = true := List.any_eq_true.mpr ⟨f, hin, hmatch⟩
  simp only [Bool.and_eq_true, decide_eq_true_eq] at hmatch
  obtain ⟨hcode, hinst⟩ := hmatch
  refine ⟨hcode, hinst, ?_, hactive⟩
  rw [hcode, hinst, ← List.head?_filter]
  exact congrArg List.head? h

/-- A fault that FAULT_CLEAR does not clear stays. -/
theorem clearOne_other {s : State} {row : FaultRow} {f : Active} (hrow : FaultTable.find f.code = some row)
    (hfind : s.faults.find? (fun g => g.code = f.code && g.inst = f.inst) = some f) (hcan : f.code ≠ 0x1103) (hclear : row.clear ≠ .faultClear) :
    s.clearOne {} f = (s, { still := 1, attempts := s.clearAttempts row f }) := by
  simp only [State.clearOne, hrow, if_neg hcan, if_neg hclear, hfind, Option.getD_some, Nat.zero_max, Nat.zero_add]

theorem clearOne_cleared {s : State} {row : FaultRow} {f : Active} (hrow : FaultTable.find f.code = some row) (hcan : f.code ≠ 0x1103)
    (hclear : row.clear = .faultClear) (hlive : s.clearable f.code f.inst = true) :
    (s.clearOne {} f).2 = { cleared := 1 } ∧ (s.clearOne {} f).1.cmd = s.cmd ∧ (s.clearOne {} f).1.isActive f.code f.inst = false := by
  simp only [State.clearOne, hrow, if_neg hcan, hclear, if_true, hlive]
  obtain ⟨hcmd, hactive⟩ := clearLatch_facts { s with free := s.free + 1 } row f
  obtain ⟨hcmd', hactive'⟩ := (StaysCleared.refl _).each (code := f.code) (inst := f.inst)
    ({ s with free := s.free + 1 }.clearLatch row f).presentAxes fun a u => staysCleared_afterClear u a
  exact ⟨trivial, hcmd'.trans hcmd, hactive' hactive⟩

theorem clearOne_held {s : State} {row : FaultRow} {f : Active} (hrow : FaultTable.find f.code = some row) (hcan : f.code ≠ 0x1103)
    (hclear : row.clear = .faultClear) (hlive : s.clearable f.code f.inst = false) :
    Counted f.code f.inst { s with free := s.free + 1 } (s.clearOne {} f).1 ∧ ∃ n, (s.clearOne {} f).2 = { still := 1, attempts := n } := by
  simp only [State.clearOne, hrow, if_neg hcan, hclear, if_true, hlive, Bool.false_eq_true, if_false]
  exact ⟨counted_countAttempt _ row f (by rw [hrow]; rfl), _, rfl⟩

theorem acknowledge_cases (s : State) :
    (s.saf.state ≠ .sto → s.acknowledge = (s, Status.alreadyDone)) ∧
    (s.saf.state = .sto → s.saf.a = true → s.saf.b = true → s.safetyLatched = false →
      s.acknowledge = (s.onSaf (fun x => { x with acknowledged := true }), Status.ok)) ∧
    (s.saf.state = .sto → (s.saf.a = false ∨ s.saf.b = false ∨ s.safetyLatched = true) → s.acknowledge = (s, Status.faultLatched)) := by
  unfold State.acknowledge
  refine ⟨fun h => if_pos h, fun h ha hb hlatch => ?_, fun h hheld => ?_⟩ <;> rw [if_neg (not_not_intro h)]
  · rw [ha, hb, hlatch]
    rfl
  · refine if_neg ?_
    rcases hheld with h | h | h <;> rw [h] <;> simp

/-- Settles O29: a request on one active fault clears it, counts an attempt, or leaves it as it is. -/
theorem faultClear : Obligations.FaultClear := by
  refine fun r c i k s h hc => ⟨fun hnone => ?_, fun row hrow => ⟨fun hcarries => ?_, fun hcarries hsto => ⟨fun hinactive => ?_, fun f hnamed => ?_⟩,
    fun hcarries hsto => ?_⟩⟩
  · rw [exec_faultClear_unknown h hc hnone]
    exact congrArg Host.Outcome.next (answer_of_admits h ..)
  · rw [exec_faultClear h hc hrow, hcarries]
    exact congrArg Host.Outcome.next (answer_of_admits h ..)
  · have hnil : named s c i = [] := List.filter_eq_nil_iff.mpr fun f hf => List.any_eq_false.mp hinactive f hf
    rw [exec_faultClear h hc hrow, hcarries, if_neg hsto, hnil]
    refine congrArg Host.Outcome.next ?_
    simp only [Bool.not_true, Bool.false_eq_true, if_false, clearing, State.clearEach, if_true, clearedBy_self]
    exact answer_of_admits h ..
  · obtain ⟨hfc, hfi, hfind, hactive⟩ := find_of_named hnamed
    have hfrow : FaultTable.find f.code = some row := by rw [hfc, hrow]
    have hexec : exec (.faultClear r c i) s = .next (clearing r k s [f]) := by
      rw [exec_faultClear h hc hrow, hcarries, if_neg hsto, show named s c i = [f] from hnamed]
      rfl
    have hcan : c ≠ 0x1103 → f.code ≠ 0x1103 := fun hne heq => hne (BitVec.eq_of_toNat_eq (hfc.symm.trans heq))
    have hslot := State.slotOf_of_admits h
    refine ⟨fun hother hne => ?_, fun hclear hne hlive => ?_, fun hclear hne hlive => ?_⟩ <;> rw [hexec, clearing_one]
    · rw [clearOne_other hfrow hfind (hcan hne) hother, clearedBy_self]
      exact congrArg Host.Outcome.next (answer_of_admits h ..)
    · obtain ⟨hcount, hcmd, hcleared⟩ := clearOne_cleared hfrow (hcan hne) hclear (by rw [hfc, hfi, hlive])
      refine ⟨_, rfl, ?_, ?_⟩
      · rw [answer_of_sessions (t := (s.clearOne {} f).1.clearedBy s k) hslot (congrArg Commands.sessions hcmd), ← hfc, ← hfi]
        exact hcleared
      · rw [answer_of_sessions (t := (s.clearOne {} f).1.clearedBy s k) hslot (congrArg Commands.sessions hcmd), hcount, State.withReply, (clearedBy_fields _ s k).1, hcmd]
        rfl
    · obtain ⟨⟨hframe, hstays⟩, n, hcount⟩ := clearOne_held hfrow (hcan hne) hclear (by rw [hfc, hfi, hlive])
      have hcmd : (s.clearOne {} f).1.cmd = s.cmd := by rw [hframe]
      have hanswer : ((s.clearOne {} f).1.clearedBy s k).answer r 0x44
          (if (s.clearOne {} f).2.still = 0 then Status.ok else Status.faultLatched) (.bytes (s.clearOne {} f).2.bytes) =
          { (s.clearOne {} f).1.clearedBy s k with
            cmd := (s.withReply (replyOf r k 0x44 Status.faultLatched (.bytes ([0, 1] ++ leBytes 2 n)))).cmd } := by
        rw [answer_of_sessions (t := (s.clearOne {} f).1.clearedBy s k) hslot (congrArg Commands.sessions hcmd), hcount, State.withReply, (clearedBy_fields _ s k).1, hcmd]
        rfl
      rw [hanswer]
      refine ⟨_, rfl, ?_, ?_, n, rfl⟩
      · generalize (s.clearOne {} f).1 = t at hframe ⊢
        rw [State.clearedBy, hframe]
      · rw [← hfc, ← hfi]
        exact hstays (by rw [hfc, hfi]; exact hactive)
  · obtain ⟨hno, hack, hheld⟩ := acknowledge_cases s
    have hexec : ∀ (u : State) (status : Nat), s.acknowledge = (u, status) → exec (.faultClear r c i) s = .next (u.answer r 0x44 status
        (.bytes { cleared := boolNat (status = Status.ok), still := boolNat (status = Status.faultLatched) : ClearCount }.bytes)) :=
      fun u status hu => by
        rw [exec_faultClear h hc hrow, hcarries, if_pos hsto, hu]
        rfl
    refine ⟨fun hst => (hexec _ _ (hno hst)).trans ?_, fun hst ha hb hlatch => (hexec _ _ (hack hst ha hb hlatch)).trans ?_,
      fun hst hlive => (hexec _ _ (hheld hst hlive)).trans ?_⟩
    · exact congrArg Host.Outcome.next (answer_of_admits h ..)
    · exact congrArg Host.Outcome.next (answer_of_sessions (s := s) (t := s.onSaf _) (State.slotOf_of_admits h) rfl _ _ _)
    · exact congrArg Host.Outcome.next (answer_of_admits h ..)

end Sys2Proof.Proofs
end

section
/-! PROOF. The statement on staging a request (R90 to R93, R95, R98). -/

namespace Sys2Proof.Proofs
open Sys2Proof.Machine

/-! ### What staging may change -/

/-- A state from which staging has led: replies, transaction records, a group ID, and of an axis its reserved slots, its next move ID and
OBSTRUCTION. -/
def StagedOnly (s t : State) : Prop :=
  t = { s with mtr := { s.mtr with txns := t.mtr.txns },
               motion := { s.motion with axes := t.motion.axes, nextGroupId := t.motion.nextGroupId }, cmd := t.cmd } ∧
  t.cmd = { s.cmd with awaiting := t.cmd.awaiting } ∧
  ∀ a : Fin 16, t.ax a = { s.ax a with reserved := (t.ax a).reserved, nextId := (t.ax a).nextId, obstruction := (t.ax a).obstruction }

theorem StagedOnly.refl (s : State) : StagedOnly s s := ⟨rfl, rfl, fun _ => rfl⟩

theorem StagedOnly.trans {s t u : State} (h : StagedOnly s t) (h' : StagedOnly t u) : StagedOnly s u := by
  obtain ⟨hframe, hcmd, hax⟩ := h
  obtain ⟨hframe', hcmd', hax'⟩ := h'
  refine ⟨?_, ?_, fun a => ?_⟩
  · rw [hframe', hframe]
  · rw [hcmd', hcmd]
  · rw [hax' a, hax a]

theorem StagedOnly.each {α : Type} {s t : State} (h : StagedOnly s t) (l : List α) {f : α → State → State}
    (hf : ∀ x u, StagedOnly u (f x u)) : StagedOnly s (t.each l f) := by
  unfold State.each
  induction l generalizing t with
  | nil => exact h
  | cons x l ih => exact ih (h.trans (hf x t))

theorem stagedOnly_answer (s : State) (r : Req) (op status : Nat) (body : Body) : StagedOnly s (s.answer r op status body) :=
  ⟨rfl, rfl, fun _ => rfl⟩

/-- A change of an axis in what staging may change of it. -/
theorem stagedOnly_onAx (s : State) (a : Fin 16) {f : Axis → Axis}
    (hf : ∀ x : Axis, f x = { x with reserved := (f x).reserved, nextId := (f x).nextId, obstruction := (f x).obstruction }) :
    StagedOnly s (s.onAx a f) := by
  refine ⟨rfl, rfl, fun b => ?_⟩
  rw [onAx_ax_ite]
  split
  · next h =>
    rw [h]
    exact hf _
  · rfl

theorem stagedOnly_putTxn (s : State) (t : Txn) : StagedOnly s (s.putTxn t) := ⟨rfl, rfl, fun _ => rfl⟩

theorem stagedOnly_reserve (s : State) (l : List (Fin 16)) : StagedOnly s (s.reserve l) :=
  (StagedOnly.refl s).each l fun a u => stagedOnly_onAx u a fun _ => rfl

theorem stagedOnly_checked {s : State} {r : Req} {code : Nat} {l : List (Bool × Nat)} {act : State → State} (h : StagedOnly s (act s)) :
    StagedOnly s (s.checked r code l act) := by
  unfold State.checked
  split
  · exact stagedOnly_answer ..
  · exact h

theorem stagedOnly_onAxis {s : State} {r : Req} {code : Nat} {axis : Byte} {act : Fin 16 → State → State} (h : ∀ a, StagedOnly s (act a s)) :
    StagedOnly s (s.onAxis r code axis act) := by
  unfold State.onAxis
  split
  · exact stagedOnly_answer ..
  · exact h _

theorem stagedOnly_request {s : State} {code : Nat} {r : Req} {act : Fin 8 → State → State} (h : ∀ k, StagedOnly s (act k s)) :
    StagedOnly s (s.request code r act) := by
  unfold State.request State.requestRow
  split
  · split
    · split
      · split
        · exact stagedOnly_answer ..
        · exact h _
      · exact stagedOnly_answer ..
    · exact stagedOnly_answer ..
  · exact stagedOnly_answer ..

/-- A request with a TAG is stored in its transaction, or refused. -/
theorem stagedOnly_stageOr {s : State} {k : Fin 8} {r : Req} {code : Nat} {cmd : Instr} {prepared : List (Fin 16 × Move)}
    {accept : State → State} {status : Nat} {body : State → Body} {direct : State → State} (htag : r.tag ≠ 0)
    (haccept : ∀ u, StagedOnly u (accept u)) : StagedOnly s (s.stageOr k r code cmd prepared accept status body direct) := by
  simp only [State.stageOr, if_neg htag]
  split
  · exact stagedOnly_answer ..
  · split
    · exact stagedOnly_answer ..
    · split
      · exact stagedOnly_answer ..
      · split
        · exact stagedOnly_answer ..
        · split
          · exact stagedOnly_answer ..
          · exact (((stagedOnly_putTxn s _).trans (stagedOnly_reserve _ _)).trans (haccept _)).trans (stagedOnly_answer ..)

/-! ### The requests that a transaction may stage (R90) -/

/-- Their opcodes. -/
def stagedOps : List Nat := [0x11, 0x13, 0x30, 0x31, 0x32, 0x33, 0x34, 0x36, 0x37, 0x38, 0x39, 0x40, 0x71, 0xC3]

theorem mem_stagedOps {op : Nat} {row : OpRow} (h : opRow op = some row) (hrow : row.tag = .staged) : op ∈ stagedOps := by
  have hall : ∀ x ∈ opTable, x.tag = .staged → x.code ∈ stagedOps := by decide
  rw [opRow_code h]
  exact hall row (List.mem_of_find?_eq_some h) hrow

theorem stagedOnly_acceptMove (s : State) (a : Fin 16) : StagedOnly s (s.acceptMove a) := stagedOnly_onAx s a fun _ => rfl

theorem stagedOnly_moveRequest {s : State} {k : Fin 8} {r : Req} {code : Nat} {cmd : Instr} {a : Fin 16} {m : Move} {bad : Bool}
    (htag : r.tag ≠ 0) : StagedOnly s (s.moveRequest k r code cmd a m bad) := by
  simp only [State.moveRequest, if_neg htag]
  exact stagedOnly_checked (stagedOnly_stageOr htag fun u => stagedOnly_acceptMove u a)

/-- A refused write with a TAG raises nothing (R123). -/
theorem overrideBlocked_length (s : State) (es : List WriteEntry) : s.overrideBlocked es es.length = s := by
  unfold State.overrideBlocked
  rw [List.getElem?_eq_none (Nat.le_refl _)]

theorem stagedOnly_writeRequest (s : State) (multi : Bool) {r : Req} (cmd : Instr) (es : List WriteEntry) (htag : r.tag ≠ 0) :
    StagedOnly s (s.writeRequest multi r cmd es) := by
  refine stagedOnly_request fun k => ?_
  split
  · exact stagedOnly_answer ..
  · split
    · rw [if_neg (fun h => htag h.2), overrideBlocked_length]
      exact stagedOnly_answer ..
    · exact stagedOnly_stageOr htag StagedOnly.refl

theorem stagedOnly_moveGroup {r : Req} (group blend : Byte) (flags : Half) (lim : Limits) (ms : List GroupTarget) (s : State) (htag : r.tag ≠ 0) :
    ∃ t, exec (.moveGroup r group blend flags lim ms) s = .next t ∧ StagedOnly s t := by
  refine ⟨_, rfl, stagedOnly_request fun k => stagedOnly_checked (stagedOnly_stageOr htag fun u => ?_)⟩
  exact StagedOnly.each ⟨rfl, rfl, fun _ => rfl⟩ _ fun a u => stagedOnly_onAx u a fun _ => rfl

/-- A request with a TAG waits in its transaction, or is refused. -/
theorem stagedOnly_of_tag {c : Instr} {op : Nat} {r : Req} (s : State) (hreq : requestOf c = some (op, r)) (hop : op ∈ stagedOps)
    (htag : r.tag ≠ 0) : ∃ t, exec c s = .next t ∧ StagedOnly s t := by
  have store : ∀ {k : Fin 8} {code : Nat} {prepared : List (Fin 16 × Move)} {status : Nat} {body : State → Body} {direct : State → State},
      StagedOnly s (s.stageOr k r code c prepared id status body direct) := stagedOnly_stageOr htag StagedOnly.refl
  unfold requestOf at hreq
  split at hreq <;> cases hreq <;> simp only [stagedOps, List.mem_cons, List.not_mem_nil, Nat.reduceEqDiff, or_self, or_false, or_true] at hop
  case h_6 | h_8 => exact ⟨_, rfl, stagedOnly_writeRequest s _ _ _ htag⟩
  case h_13 | h_14 | h_15 => exact ⟨_, rfl, stagedOnly_request fun k => stagedOnly_onAxis fun a => stagedOnly_moveRequest htag⟩
  case h_16 => exact stagedOnly_moveGroup _ _ _ _ _ s htag
  case h_17 =>
    refine ⟨_, rfl, stagedOnly_request fun k => ?_⟩
    split
    · exact stagedOnly_answer ..
    · exact store
  case h_19 => exact ⟨_, rfl, stagedOnly_request fun k => stagedOnly_onAxis fun m => stagedOnly_onAxis fun a => stagedOnly_checked store⟩
  case h_20 => exact ⟨_, rfl, stagedOnly_request fun k => stagedOnly_onAxis fun a => store⟩
  case h_38 => exact ⟨_, rfl, stagedOnly_request fun k => stagedOnly_checked store⟩
  case h_21 | h_22 | h_23 | h_59 =>
    exact ⟨_, rfl, stagedOnly_request fun k => stagedOnly_onAxis fun a => stagedOnly_checked store⟩

/-! ### A request of four bytes in its transaction -/

/-- The transaction with the request stored in it. -/
def storing (x : Txn) (c : Instr) (op : Nat) : Txn :=
  { x with staged := x.staged ++ [{ cmd := c, opcode := BitVec.ofNat 8 op }], bytes := x.bytes + 4, entries := x.entries + 1 }

/-- What a request of four bytes, one entry and no queue slot does that names a transaction. -/
structure StoresOrRefuses (s : State) (c : Instr) (op : Nat) (r : Req) (k : Fin 8) (x : Txn) (body : Body) : Prop where
  ended : ∀ st, x.refusal s.frame64 = some st → exec c s = .next (s.withReply (replyOf r k op st .bare))
  conflict : x.refusal s.frame64 = none → s.claimed (some x) (fun _ => true) (s.claims c) = true →
    exec c s = .next (s.withReply (replyOf r k op Status.txnConflict .bare))
  limit : x.refusal s.frame64 = none → s.claimed (some x) (fun _ => true) (s.claims c) = false → 256 ≤ x.entries →
    exec c s = .next (s.withReply (replyOf r k op Status.txnLimit .bare))
  stored : x.refusal s.frame64 = none → s.claimed (some x) (fun _ => true) (s.claims c) = false → x.entries < 256 → x.bytes + 4 ≤ 65536 →
    sumN (s.mtr.txns.map (fun u => if u.state.final then 0 else u.bytes)) + 4 ≤ 262144 →
    exec c s = .next ((s.putTxn (storing x c op)).answer r op Status.ok body)

theorem storesOrRefuses {s : State} {c : Instr} {op : Nat} {r : Req} {k : Fin 8} {x : Txn} {body : Body} {direct : State → State}
    (hexec : exec c s = .next (s.stageOr k r op c [] id Status.ok (fun _ => body) direct)) (h : s.admits op r k = true) (htag : r.tag ≠ 0)
    (hfind : s.findTxn k r.tag = some x) (hbytes : payloadBytes c = 4) (hcount : entryCount c = 1) (hslots : s.slotsOf c = []) :
    StoresOrRefuses s c op r k x body := by
  have hrefuse : ∀ st, s.refuse r op st = s.withReply (replyOf r k op st .bare) := fun st => answer_of_admits h op st .bare
  refine ⟨fun st hst => ?_, fun hopen hclaim => ?_, fun hopen hclaim hentries => ?_, fun hopen hclaim hentries hb htotal => ?_⟩ <;>
    rw [hexec, State.stageOr] <;> simp only [if_neg htag, hfind, hbytes, hcount, hslots, hrefuse]
  · rw [hst]
  · rw [hopen]
    simp only [hclaim, if_true]
  · rw [hopen]
    simp only [hclaim, Bool.false_eq_true, if_false]
    rw [if_pos (.inl (by omega))]
  · have hfits : ¬(256 < x.entries + 1 ∨ 65536 < x.bytes + 4 ∨
        262144 < (s.mtr.txns.map (fun u => if u.state.final then 0 else u.bytes)).foldl (· + ·) 0 + 4) := by
      have hsum : (s.mtr.txns.map (fun u => if u.state.final then 0 else u.bytes)).foldl (· + ·) 0 + 4 ≤ 262144 := htotal
      omega
    rw [hopen]
    simp only [hclaim, Bool.false_eq_true, if_false]
    rw [if_neg hfits]
    rfl

/-- The four requests that the statement names. -/
theorem storesOrRefuses_named {c : Instr} {op : Nat} {r : Req} {k : Fin 8} {x : Txn} {s : State} (hreq : requestOf c = some (op, r))
    (h : s.admits op r k = true) (htag : r.tag ≠ 0)
    (hc : c = .latchArm r 0 0 0 ∧ (s.axisArg 0).isSome ∨ c = .quarryArm r 0 ∨ c = .gearRelease r 0 ∧ (s.axisArg 0).isSome ∨ c = .queueFlush r 0xFF)
    (hfind : s.findTxn k r.tag = some x) : ∃ body, StoresOrRefuses s c op r k x body := by
  rcases hc with ⟨rfl, hax⟩ | rfl | ⟨rfl, hax⟩ | rfl <;> cases hreq
  · obtain ⟨a, ha⟩ := Option.isSome_iff_exists.mp hax
    exact ⟨_, storesOrRefuses (congrArg Host.Outcome.next ((onAxis_of_admits h ha _).trans (State.checked_pass (by decide) _)))
      h htag hfind rfl rfl rfl⟩
  · exact ⟨_, storesOrRefuses (congrArg Host.Outcome.next ((State.request_of_admits h _).trans (State.checked_pass (by decide) _)))
      h htag hfind rfl rfl rfl⟩
  · obtain ⟨a, ha⟩ := Option.isSome_iff_exists.mp hax
    exact ⟨_, storesOrRefuses (congrArg Host.Outcome.next (onAxis_of_admits h ha _)) h htag hfind rfl rfl rfl⟩
  · exact ⟨_, storesOrRefuses (congrArg Host.Outcome.next (State.request_of_admits h _)) h htag hfind rfl rfl rfl⟩

theorem refusal_of_doneAt {x : Txn} {n : Long} (h : x.doneAt = some n) : x.refusal n = some Status.alreadyDone := if_pos h
theorem refusal_of_not_doneAt {x : Txn} {n : Long} (h : x.doneAt ≠ some n) : x.refusal n = x.state.refusal := if_neg h

/-- Settles O21: staging leaves the device as it is, and the limits and claims decide on a stored request. -/
theorem stagingRules : Obligations.StagingRules := by
  refine ⟨fun c op r row s hreq hrow hstaged htag => stagedOnly_of_tag s hreq (mem_stagedOps hrow hstaged) htag,
    fun c op r k x s hreq h htag hc hfind => ?_⟩
  obtain ⟨body, hrun⟩ := storesOrRefuses_named hreq h htag hc hfind
  refine ⟨fun hdone => hrun.ended _ (refusal_of_doneAt hdone), fun st hnot hst => hrun.ended st ((refusal_of_not_doneAt hnot).trans hst),
    fun hopen hnot => ?_⟩
  have hnone : x.refusal s.frame64 = none := by rw [refusal_of_not_doneAt hnot, hopen]; rfl
  refine ⟨hrun.conflict hnone, fun hclaim => ⟨hrun.limit hnone hclaim, fun hentries hbytes htotal => ?_⟩⟩
  refine ⟨_, hrun.stored hnone hclaim hentries hbytes htotal, rfl, ?_⟩
  exact findTxn_putTxn_same hfind (t := storing x c op) (names_of_find hfind :)

end Sys2Proof.Proofs
end

section
/-! PROOF. The statement on captures, synchronised gearing and reversals (R241, R244, R247, R250, R253). -/

namespace Sys2Proof.Proofs
open Sys2Proof.Machine

/-! ### Captures -/

theorem onAxis_onAx (s : State) (a : Fin 16) (f : Axis → Axis) : OnAxis s (s.onAx a f) a := ⟨rfl, fun _ hb => State.onAx_ax_of_ne s f hb⟩

/-- The position at an edge (R247). -/
def edgePosition (s : State) (a : Fin 16) (count : Nat) : Int :=
  (s.ax a).measuredBefore + rdiv (((s.ax a).measured - (s.ax a).measuredBefore) * count) s.tb.frameLen

theorem takes_iff (l : Latch) (source : Byte) (rising : Bool) : l.takes source rising = true ↔
    l.source = source ∧ (l.edge = 2 ∨ (l.edge = 0 ∧ rising = true) ∨ (l.edge = 1 ∧ rising = false)) := by
  simp only [Latch.takes, Bool.and_eq_true, Bool.or_eq_true, decide_eq_true_eq, Bool.not_eq_true', or_assoc]

/-- Without a homing run an edge acts on the latch alone. -/
theorem exec_latchCapture_noHoming {a : Fin 16} {source : Byte} {rising : Bool} {count : Nat} {s : State} (hhoming : (s.ax a).homing = none) :
    (∀ l, (s.ax a).latch = some l → l.takes source rising = true → exec (.latchCapture a source rising count) s =
      .next (s.onAx a (fun x => { x with latch := none, latchTaken := some (edgePosition s a count, s.frame32) }))) ∧
    (∀ l, (s.ax a).latch = some l → l.takes source rising = false → exec (.latchCapture a source rising count) s = .next s) ∧
    ((s.ax a).latch = none → exec (.latchCapture a source rising count) s = .next s) := by
  refine ⟨fun l hl htakes => ?_, fun l hl htakes => ?_, fun hl => ?_⟩ <;> refine congrArg Host.Outcome.next ?_ <;> simp only [hl, hhoming]
  · rw [if_pos htakes]
    rfl
  · rw [htakes, if_neg Bool.false_ne_true]

/-- An edge that an armed latch takes captures the position. -/
theorem latchCapture_taken {a : Fin 16} {source : Byte} {rising : Bool} {count : Nat} {s : State} {l : Latch} (hl : (s.ax a).latch = some l)
    (hhoming : (s.ax a).homing = none) (htakes : l.takes source rising = true) :
    Answers (exec (.latchCapture a source rising count) s) (fun t => OnAxis s t a ∧
      t.ax a = { s.ax a with latch := none, latchTaken := some (edgePosition s a count, s.frame32) }) :=
  ⟨_, (exec_latchCapture_noHoming hhoming).1 l hl htakes, onAxis_onAx .., State.onAx_ax ..⟩

/-- The edge that a homing run of method SWITCH waits for. -/
theorem latchCapture_homing {a : Fin 16} {source : Byte} {rising : Bool} {count : Nat} {s : State} {h : Homing} (hl : (s.ax a).latch = none)
    (hhoming : (s.ax a).homing = some h) (hmethod : h.method = 1) (hfound : h.found = false) (hcaptured : h.captured = none)
    (hsource : source.toNat = s.parN 0x0916 a.val) (hedge : rising = true ↔ s.parN 0x0917 a.val = 0) :
    Answers (exec (.latchCapture a source rising count) s) (fun t => OnAxis s t a ∧
      t.ax a = { s.ax a with homing := some { h with captured := some (edgePosition s a count) } }) := by
  refine ⟨s.onAx a (fun x => { x with homing := some { h with captured := some (edgePosition s a count) } }), ?_, onAxis_onAx ..,
    State.onAx_ax ..⟩
  refine congrArg Host.Outcome.next ?_
  simp only [hl, hhoming]
  exact if_pos ⟨hmethod, by rw [hfound]; rfl, hcaptured, hsource, propext hedge⟩

/-! ### Gearing -/

theorem gearSynchronised_facts (a : Fin 16) (s : State) :
    ((s.ax a).gear = none → exec (.gearSynchronised a) s = .next s) ∧
    (∀ g, (s.ax a).gear = some g →
      (g.term.p = 0 → g.term.v = 0 → g.synced = false → Answers (exec (.gearSynchronised a) s) (fun t => OnAxis s t a ∧
        t.ax a = { s.ax a with gear := some { g with synced := true } })) ∧
      (g.term.p ≠ 0 ∨ g.term.v ≠ 0 ∨ g.synced = true → exec (.gearSynchronised a) s = .next s)) := by
  refine ⟨fun hgear => congrArg Host.Outcome.next ?_, fun g hgear => ⟨fun hp hv hsynced =>
    ⟨s.onAx a (fun x => { x with gear := some { g with synced := true } }), congrArg Host.Outcome.next ?_, onAxis_onAx .., State.onAx_ax ..⟩,
    fun hnot => congrArg Host.Outcome.next ?_⟩⟩
  · simp only [hgear]
  · simp only [hgear]
    exact if_pos ⟨hp, hv, by rw [hsynced]; rfl⟩
  · simp only [hgear]
    refine if_neg fun h => ?_
    obtain ⟨hp, hv, hsynced⟩ := h
    rcases hnot with h | h | h
    · exact h hp
    · exact h hv
    · rw [h] at hsynced
      exact absurd hsynced (by decide)

/-! ### Reversals -/

/-- The opening move of R241. -/
def openingMove (s : State) (a : Fin 16) : Move :=
  { kind := .reversal, id := (s.ax a).nextId, v := (s.par 0x091B a.val).toNat,
    target := if s.par 0x091A a.val = 0 then some (s.bound a (s.openSign a)) else none, relative := s.openSign a * s.par 0x091A a.val }

/-- Whether the planned move closes the axis. -/
def closing (s : State) (a : Fin 16) : Bool := (s.ax a).planned.isSome && decide (s.sigma a = s.closeSign a)

/-- The slot of an axis that is to reverse, before its stop. -/
def emptied (x : Axis) : Axis := { x with queue := [], deferred := false, obstruction := true, reversing := false }

/-- The slot of an axis that a reversal has stopped. -/
def reversedSlot (s : State) (a : Fin 16) : Axis :=
  if (s.ax a).gear.isSome then emptied (s.ax a)
  else
    { emptied (s.ax a) with
      stop := some .hard, follow := none
      queue := if closing s a then [openingMove s a] else []
      nextId := if closing s a then nextMoveId (s.ax a).nextId else (s.ax a).nextId }

theorem openSign_congr {s t : State} (hregs : t.regs = s.regs) (a : Fin 16) : t.openSign a = s.openSign a := by
  unfold State.openSign State.par
  rw [hregs]

theorem bound_congr {s t : State} (hregs : t.regs = s.regs) (a : Fin 16) (dir : Int) : t.bound a dir = s.bound a dir := by
  unfold State.bound State.par
  rw [hregs]

theorem sigma_congr {s t : State} {a : Fin 16} (hax : t.ax a = s.ax a) : t.sigma a = s.sigma a := by
  unfold State.sigma
  rw [hax]

theorem reversedSlot_congr {s t : State} {a : Fin 16} (hregs : t.regs = s.regs) (hax : t.ax a = s.ax a) : reversedSlot t a = reversedSlot s a := by
  have hpar : ∀ i k, t.par i k = s.par i k := fun i k => by
    unfold State.par
    rw [hregs]
  unfold reversedSlot closing openingMove State.closeSign
  simp only [hax, hpar, sigma_congr hax, openSign_congr hregs, bound_congr hregs]

theorem closeSign_ne_zero (s : State) (a : Fin 16) : s.closeSign a ≠ 0 := by
  unfold State.closeSign State.openSign
  split <;> decide

theorem motionOnly_reverseAxis (s : State) (a : Fin 16) : MotionOnly s (s.reverseAxis a) := by
  have hempty := (motionOnly_clearQueue s a (outcome := 5) (by decide)).onAx a (fun x => { x with obstruction := true, reversing := false })
  unfold State.reverseAxis
  extract_lets dir t u open_ dist m
  split
  · exact hempty
  · split
    · exact (hempty.onAx a _).onAx a _
    · exact hempty.onAx a _

/-- A planned move closes the axis when its direction, 0 without one, is the closing direction. -/
theorem closing_iff (s : State) (a : Fin 16) :
    ((match (s.ax a).planned with | some _ => s.sigma a | none => 0) = s.closeSign a ∧
      (match (s.ax a).planned with | some _ => s.sigma a | none => 0) ≠ 0) ↔ closing s a = true := by
  have hne := closeSign_ne_zero s a
  unfold closing
  rcases (s.ax a).planned with _ | m
  · simp
  · simpa using fun h : s.sigma a = s.closeSign a => h ▸ hne

theorem reverseAxis_ax (s : State) (a b : Fin 16) : (s.reverseAxis a).ax b = if b = a then reversedSlot s a else s.ax b := by
  have hempty : ∀ c, ((s.clearQueue a 5).onAx a (fun x => { x with obstruction := true, reversing := false })).ax c =
      if c = a then emptied (s.ax a) else s.ax c := fun c => by
    rw [onAx_ax_ite, clearQueue_ax _ a (by decide), clearQueue_ax _ a (by decide), if_pos rfl]
    split <;> rfl
  unfold State.reverseAxis
  extract_lets dir t u open_ dist m
  change ∀ c, t.ax c = _ at hempty
  have hu : ∀ c, u.ax c = if c = a then { emptied (s.ax a) with stop := some .hard, follow := none } else s.ax c := fun c => by
    rw [onAx_ax_ite, hempty, hempty, if_pos rfl]
    split <;> rfl
  have hm : m = openingMove s a := by
    simp only [m, openingMove, hu, if_pos]
    rfl
  have hdir : (dir = s.closeSign a ∧ dir ≠ 0) ↔ closing s a = true := closing_iff s a
  unfold reversedSlot
  by_cases hgear : (s.ax a).gear.isSome = true
  · rw [if_pos hgear, if_pos hgear]
    exact hempty b
  · rw [if_neg hgear, if_neg hgear]
    by_cases hc : closing s a = true
    · rw [if_pos (hdir.mpr hc), hc, onAx_ax_ite, hu, hu, if_pos rfl, hm]
      split <;> rfl
    · rw [if_neg (mt hdir.mp hc), Bool.eq_false_iff.mpr hc]
      exact hu b

/-- An operation on each axis of a list without repetition that reads of the other axes nothing. -/
theorem each_ax_of_nodup {f : Fin 16 → State → State} {F : State → Fin 16 → Axis}
    (hf : ∀ a b u, (f a u).ax b = if b = a then F u a else u.ax b) (hregs : ∀ a u, (f a u).regs = u.regs)
    (hF : ∀ {u v : State} {a : Fin 16}, v.regs = u.regs → v.ax a = u.ax a → F v a = F u a) (s : State) {l : List (Fin 16)} (h : l.Nodup)
    (b : Fin 16) : (s.each l f).ax b = if b ∈ l then F s b else s.ax b := by
  unfold State.each
  induction l generalizing s with
  | nil => rfl
  | cons a l ih =>
    obtain ⟨ha, hl⟩ := List.nodup_cons.mp h
    refine (ih (f a s) hl).trans ?_
    by_cases hb : b = a
    · subst hb
      rw [if_neg ha, if_pos List.mem_cons_self, hf, if_pos rfl]
    · have hother : (f a s).ax b = s.ax b := (hf a b s).trans (if_neg hb)
      rw [hF (hregs a s) hother, hother]
      simp only [List.mem_cons, hb, false_or]

theorem partners_nodup (s : State) (a : Fin 16) : (a :: s.partners a).Nodup := by
  refine List.nodup_cons.mpr ⟨fun h => ?_, (List.nodup_finRange 16).filter _⟩
  simpa using (List.mem_filter.mp h).2

theorem reversedSlot_facts (s : State) (b : Fin 16) :
    (reversedSlot s b).obstruction = true ∧ (reversedSlot s b).reversing = false ∧ (reversedSlot s b).demand = (s.ax b).demand ∧
    ((s.ax b).gear.isSome = true → (reversedSlot s b).queue = [] ∧ (reversedSlot s b).stop = (s.ax b).stop) ∧
    ((s.ax b).gear = none → (reversedSlot s b).stop = some .hard ∧ (reversedSlot s b).follow = none ∧
      (reversedSlot s b).queue = if closing s b then [openingMove s b] else []) := by
  unfold reversedSlot
  rcases hgear : (s.ax b).gear with _ | g
  · exact ⟨rfl, rfl, rfl, fun h => Bool.noConfusion h, fun _ => ⟨rfl, rfl, rfl⟩⟩
  · exact ⟨rfl, rfl, rfl, fun _ => ⟨rfl, rfl⟩, fun h => by cases h⟩

/-- A reversal that is due. -/
theorem reversalRequest_facts {a : Fin 16} {s : State} (h : (s.ax a).reversing = true) :
    Answers (exec (.reversalRequest a) s) (fun t =>
      t = { s with motion := { s.motion with axes := t.motion.axes, groups := t.motion.groups }, faults := t.faults, log := t.log } ∧
      t.isActive 0x0908 a.val = true ∧ ∀ b, t.ax b = if b = a ∨ b ∈ s.partners a then reversedSlot s b else s.ax b) := by
  have hmotion : MotionOnly s (s.each (a :: s.partners a) (fun a t => t.reverseAxis a)) :=
    (MotionOnly.refl s).each _ fun b u => motionOnly_reverseAxis u b
  have hax := each_ax_of_nodup (f := fun a t => t.reverseAxis a) (F := reversedSlot) (fun a b u => reverseAxis_ax u a b)
    (fun a u => by rw [motionOnly_reverseAxis u a]) reversedSlot_congr s (partners_nodup s a)
  refine ⟨_, congrArg Host.Outcome.next (if_pos h), ?_, isActive_raise (by decide), fun b => ?_⟩
  · generalize s.each (a :: s.partners a) (fun a t => t.reverseAxis a) = u at hmotion
    rw [State.raise_frame, hmotion]
  · refine Eq.trans ?_ ((hax b).trans ?_)
    · rw [State.raise_frame]
      rfl
    · simp only [List.mem_cons]

/-- Settles O40: the edges that a latch and a homing run take, the catch-up term at rest, and the slots that a reversal leaves. -/
theorem captureAndReversal : Obligations.CaptureAndReversal := by
  refine ⟨fun a source rising count s pos hpos => ?_, fun a s => ?_⟩
  · subst hpos
    refine ⟨fun l hl hhoming => ⟨fun hsource hedge => latchCapture_taken hl hhoming ((takes_iff ..).mpr ⟨hsource, hedge⟩), fun hnot => ?_⟩,
      fun hl hhoming => (exec_latchCapture_noHoming hhoming).2.2 hl,
      fun h hl hhoming hmethod hfound hcaptured hsource hedge => latchCapture_homing hl hhoming hmethod hfound hcaptured hsource hedge⟩
    refine (exec_latchCapture_noHoming hhoming).2.1 l hl (Bool.eq_false_iff.mpr fun htakes => ?_)
    obtain ⟨hsource, hedge⟩ := (takes_iff ..).mp htakes
    rcases hnot with h | ⟨h, hr⟩ | ⟨h, hr⟩
    · exact h hsource
    · simp [h, hr] at hedge
    · simp [h, hr] at hedge
  · obtain ⟨hnone, hsome⟩ := gearSynchronised_facts a s
    refine ⟨hnone, hsome, fun hrev => congrArg Host.Outcome.next (if_neg (by rw [hrev]; decide)), fun hrev => ?_⟩
    obtain ⟨t, ht, hframe, hactive, hax⟩ := reversalRequest_facts hrev
    refine ⟨t, ht, hframe, hactive, fun b hb hpart => (hax b).trans (if_neg (not_or.mpr ⟨hb, hpart⟩)), fun b hb => ?_⟩
    rw [(hax b).trans (if_pos hb)]
    obtain ⟨hobstruction, hreversing, hdemand, hgeared, hfree⟩ := reversedSlot_facts s b
    refine ⟨hobstruction, hreversing, hdemand, hgeared, fun hgear => ?_⟩
    obtain ⟨hstop, hfollow, hqueue⟩ := hfree hgear
    refine ⟨hstop, hfollow, fun hnot => ?_, fun hplanned hsigma => ?_⟩
    · refine hqueue.trans (if_neg fun hc => ?_)
      simp only [closing, Bool.and_eq_true, decide_eq_true_eq, Option.isSome_iff_ne_none] at hc
      exact hnot.elim hc.1 (· hc.2)
    · have hc : closing s b = true := by
        simpa only [closing, Bool.and_eq_true, decide_eq_true_eq, Option.isSome_iff_ne_none] using And.intro hplanned hsigma
      refine ⟨openingMove s b, hqueue.trans (if_pos hc), rfl, rfl, rfl, fun hdist => if_pos hdist, fun hdist => ⟨if_neg hdist, rfl⟩⟩

end Sys2Proof.Proofs
end

section
/-! PROOF. The statement on the counted faults of motors, steppers and loops (R185, R194 to R199, R205, R217, R220, R242, R275, R276). -/

namespace Sys2Proof.Proofs
open Sys2Proof.Machine

/-! ### A fault raised once -/

theorem raised_raise (s : State) {code : Nat} (inst : Nat) (h : (FaultTable.find code).isSome = true) :
    Raised s (s.raise code inst) code inst := by
  obtain ⟨row, hrow⟩ := Option.isSome_iff_exists.mp h
  refine ⟨fun hactive => ?_, fun hinactive => ?_⟩
  · simp only [State.raise, State.raiseWith, hrow, hactive, if_true, and_self]
  · simp only [State.raise, State.raiseWith, hrow, hinactive, Bool.false_eq_true, if_false]
    exact ⟨_, _, rfl, rfl, rfl, rfl, rfl, rfl, rfl, rfl, rfl⟩

/-- A change outside the faults and the log leaves what has been raised. -/
theorem raised_congr {s t u : State} {code inst : Nat} (h : Raised s t code inst) (hfaults : u.faults = t.faults) (hlog : u.log = t.log) :
    Raised s u code inst := by
  unfold Raised
  rw [hfaults, hlog]
  exact h

theorem onlyRaised_raise (s : State) {code : Nat} (inst : Nat) (h : (FaultTable.find code).isSome = true) :
    OnlyRaised s (s.raise code inst) code inst := ⟨State.raise_frame .., raised_raise s inst h⟩

/-- A fault raised with a change of one axis. -/
theorem onAxisRaised_raise (s : State) {code : Nat} (inst : Nat) (a : Fin 16) (f : Axis → Axis) (h : (FaultTable.find code).isSome = true) :
    OnAxisRaised s ((s.raise code inst).onAx a f) a code inst ∧ ((s.raise code inst).onAx a f).ax a = f (s.ax a) := by
  have hraised := raised_raise s inst h
  have hframe := State.raise_frame s code inst
  generalize s.raise code inst = t at hraised hframe ⊢
  have hax : ∀ b, t.ax b = s.ax b := fun b => by
    rw [hframe]
    rfl
  refine ⟨⟨?_, fun b hb => (State.onAx_ax_of_ne t f hb).trans (hax b), raised_congr hraised rfl rfl⟩, ?_⟩
  · rw [State.onAx, hframe]
  · rw [State.onAx_ax, hax]

/-! ### Sticky bits -/

theorem stuck_stick_same {s : State} (index sub bit : Nat) (h : Sparse.wf regDefault s.regs = true) :
    (s.stick index sub bit).stuck index sub bit = true := by
  rw [State.stuck, State.parN, State.stick, setPar_par_same _ _ h, Int.toNat_natCast, Nat.testBit_or, Nat.testBit_two_pow_self, Bool.or_true]

/-- A bit that is set already stays set. -/
theorem stuck_stick {s : State} {index sub bit i k b : Nat} (h : Sparse.wf regDefault s.regs = true) (hset : s.stuck i k b = true) :
    (s.stick index sub bit).stuck i k b = true := by
  unfold State.stuck State.parN at hset ⊢
  by_cases hkey : regKey i k = regKey index sub
  · have hpar : ∀ t : State, t.par i k = t.par index sub := fun t => by rw [State.par, State.par, hkey]
    rw [hpar, State.stick, setPar_par_same _ _ h, Int.toNat_natCast, Nat.testBit_or, State.parN, ← hpar, hset, Bool.true_or]
  · rw [State.stick, setPar_par_of_ne h hkey]
    exact hset

theorem stuck_firstSaturation {s : State} {key st su bit code inst i k b : Nat} (h : Sparse.wf regDefault s.regs = true)
    (hset : s.stuck i k b = true) : (s.firstSaturation key st su bit code inst).stuck i k b = true := by
  unfold State.firstSaturation State.raiseAgain
  split
  · exact hset
  · have hregs : ∀ t : State, t.regs = (s.stick st su bit).regs → t.stuck i k b = true := fun t ht => by
      rw [State.stuck, State.parN, State.par, ht]
      exact stuck_stick h hset
    exact hregs _ (raise_regs ..)

/-- Counting in another register leaves a sticky bit. -/
theorem stuck_count {s : State} {index sub i k b : Nat} (h : Sparse.wf regDefault s.regs = true) (hkey : regKey i k ≠ regKey index sub)
    (hset : s.stuck i k b = true) : (s.count index sub).stuck i k b = true := by
  have hcounted : ∀ v, (s.setPar index sub v).stuck i k b = true := fun v => by
    rw [State.stuck, State.parN, setPar_par_of_ne h hkey]
    exact hset
  simp only [State.count]
  split
  · exact hset
  · split
    · exact hset
    · split
      · exact hcounted _
      · exact stuck_firstSaturation (setPar_wf index sub h _) (hcounted _)

/-- A fault raised with a sticky bit. -/
theorem raise_stick_facts (s : State) {code : Nat} (inst index sub bit : Nat) (h : (FaultTable.find code).isSome = true) :
    (fun t : State => t = { s with regs := t.regs, faults := t.faults, log := t.log } ∧ Raised s t code inst ∧
      (s.canonical = true → t.stuck index sub bit = true)) ((s.raise code inst).stick index sub bit) := by
  refine ⟨?_, raised_congr (raised_raise s inst h) rfl rfl, fun hcanonical => stuck_stick_same index sub bit ?_⟩
  · rw [State.stick_frame, State.raise_frame]
  · rw [raise_regs]
    exact (canonical_iff.mp hcanonical).1

/-- An event that raises a fault once its count has reached its limit does nothing below it. -/
theorem not_reached {n limit : Nat} (h : n = 0 ∨ n < limit) : ¬(limit ≤ n ∧ 0 < n) := by omega

/-! ### Motors -/

/-- The faults of a lost signal get their rank (R195). -/
def rankLos (s : State) (a : Fin 16) (rank : Nat) : State :=
  { s with faults := s.faults.map (fun f => if f.code = 0x0601 ∧ f.inst = a.val ∧ !f.started then { f with rank := rank } else f) }

/-- COM_LOS is raised, with its sticky bit, and counted where it was not active. -/
def losRaised (s : State) (a : Fin 16) : State :=
  if s.isActive 0x0601 a.val then (s.raise 0x0601 a.val).stick 0x0700 a.val 8
  else ((s.raise 0x0601 a.val).stick 0x0700 a.val 8).count 0x0704 a.val

theorem exec_comLos_reached {a : Fin 16} {s : State} (h : 0 < (s.ax a).com.losRun ∧ s.parN 0x0662 a.val ≤ (s.ax a).com.losRun) :
    exec (.comLos a) s = .next (rankLos (losRaised s a) a (if s.losTries a < s.parN 0x0663 a.val then 6 else 5)) :=
  congrArg Host.Outcome.next (if_pos h)

theorem rankLos_isActive (s : State) (a : Fin 16) (rank : Nat) : (rankLos s a rank).isActive 0x0601 a.val = s.isActive 0x0601 a.val := by
  rw [State.isActive, rankLos, List.any_map, State.isActive]
  refine congrArg (List.any s.faults) (funext fun f => ?_)
  simp only [Function.comp]
  split <;> rfl

/-- Every COM_LOS of the axis that has not begun has the rank. -/
theorem rankLos_rank {s : State} {a : Fin 16} {rank : Nat} {f : Active} (hf : f ∈ (rankLos s a rank).faults) (hcode : f.code = 0x0601)
    (hinst : f.inst = a.val) (hstarted : f.started = false) : f.rank = rank := by
  obtain ⟨g, -, rfl⟩ := List.mem_map.mp hf
  by_cases hg : g.code = 0x0601 ∧ g.inst = a.val ∧ !g.started
  · rw [if_pos hg]
  · rw [if_neg hg] at hcode hinst hstarted
    exact absurd ⟨hcode, hinst, by rw [hstarted]; rfl⟩ hg

theorem losRaised_facts (s : State) (a : Fin 16) :
    losRaised s a = { s with regs := (losRaised s a).regs, saturated := (losRaised s a).saturated, faults := (losRaised s a).faults,
                             log := (losRaised s a).log } ∧
    (losRaised s a).isActive 0x0601 a.val = true ∧ (s.canonical = true → (losRaised s a).stuck 0x0700 a.val 8 = true) := by
  obtain ⟨hframe, -, hstuck⟩ := raise_stick_facts s (code := 0x0601) a.val 0x0700 a.val 8 (by decide)
  have hactive : ((s.raise 0x0601 a.val).stick 0x0700 a.val 8).isActive 0x0601 a.val = true := isActive_raise (by decide)
  have hwf : s.canonical = true → Sparse.wf regDefault ((s.raise 0x0601 a.val).stick 0x0700 a.val 8).regs = true := fun h => by
    refine setPar_wf _ _ ?_ _
    rw [raise_regs]
    exact (canonical_iff.mp h).1
  unfold losRaised
  generalize (s.raise 0x0601 a.val).stick 0x0700 a.val 8 = t at hframe hstuck hactive hwf ⊢
  split
  · refine ⟨?_, hactive, hstuck⟩
    rw [hframe]
  · refine ⟨?_, isActive_count hactive (by decide), fun h => stuck_count (hwf h) ?_ (hstuck h)⟩
    · rw [count_frame, hframe]
    · simp only [regKey]
      omega

theorem motorFaults (a : Fin 16) (s : State) :
    (0 < (s.ax a).com.losRun → s.parN 0x0662 a.val ≤ (s.ax a).com.losRun → Answers (exec (.comLos a) s) (fun t =>
      t = { s with regs := t.regs, saturated := t.saturated, faults := t.faults, log := t.log } ∧ t.isActive 0x0601 a.val = true ∧
      (s.canonical = true → t.stuck 0x0700 a.val 8 = true) ∧
      (∀ f ∈ t.faults, f.code = 0x0601 → f.inst = a.val → f.started = false →
        f.rank = (if s.losTries a < s.parN 0x0663 a.val then 6 else 5)))) ∧
    ((s.ax a).com.losRun = 0 ∨ (s.ax a).com.losRun < s.parN 0x0662 a.val → exec (.comLos a) s = .next s) := by
  refine ⟨fun hrun hlimit => ?_, fun h => congrArg Host.Outcome.next (if_neg (by omega))⟩
  obtain ⟨hframe, hactive, hstuck⟩ := losRaised_facts s a
  refine ⟨_, exec_comLos_reached ⟨hrun, hlimit⟩, ?_, (rankLos_isActive ..).trans hactive, hstuck, fun f hf hcode hinst hstarted =>
    rankLos_rank hf hcode hinst hstarted⟩
  generalize losRaised s a = t at hframe ⊢
  rw [rankLos, hframe]

/-! ### Steppers -/

theorem isStepper_of_slot {s : State} {k : Fin 8} (h : s.stepperAt (slotOfStepper k) = true) : s.isStepper k.val = true := by
  have hpair : (slotOfStepper k).val / 2 = k.val := Nat.mul_div_cancel_left k.val (by decide)
  rwa [State.stepperAt, hpair] at h

/-- STP_STALL is raised, with its sticky bit, and counted where it was not active. -/
def stallRaised (s : State) (k : Fin 8) : State :=
  if s.isActive 0x0801 k.val then (s.raise 0x0801 k.val).stick 0x0820 k.val 5
  else ((s.raise 0x0801 k.val).stick 0x0820 k.val 5).count 0x0823 k.val

theorem stallRaised_facts (s : State) (k : Fin 8) :
    stallRaised s k = { s with regs := (stallRaised s k).regs, saturated := (stallRaised s k).saturated,
                               faults := (stallRaised s k).faults, log := (stallRaised s k).log } ∧
    (stallRaised s k).isActive 0x0801 k.val = true := by
  obtain ⟨hframe, -, -⟩ := raise_stick_facts s (code := 0x0801) k.val 0x0820 k.val 5 (by decide)
  have hactive : ((s.raise 0x0801 k.val).stick 0x0820 k.val 5).isActive 0x0801 k.val = true := isActive_raise (by decide)
  unfold stallRaised
  generalize (s.raise 0x0801 k.val).stick 0x0820 k.val 5 = t at hframe hactive ⊢
  split
  · refine ⟨?_, hactive⟩
    rw [hframe]
  · refine ⟨?_, isActive_count hactive (by decide)⟩
    rw [count_frame, hframe]

theorem stpStall_reached {k : Fin 8} {s : State} (hstepper : s.stepperAt (slotOfStepper k) = true)
    (hrun : 0 < (s.ax (slotOfStepper k)).stepper.stallRun) (hlimit : s.parN 0x0811 k.val ≤ (s.ax (slotOfStepper k)).stepper.stallRun) :
    Answers (exec (.stpStall k) s) (fun t =>
      t = { s with motion := { s.motion with axes := t.motion.axes }, regs := t.regs, saturated := t.saturated
                   faults := t.faults, log := t.log } ∧
      (∀ b : Fin 16, b ≠ slotOfStepper k → t.ax b = s.ax b) ∧
      t.ax (slotOfStepper k) = { s.ax (slotOfStepper k) with homed := false, stepper := { (s.ax (slotOfStepper k)).stepper with stallRun := 0 } } ∧
      t.isActive 0x0801 k.val = true) := by
  obtain ⟨hframe, hactive⟩ := stallRaised_facts s k
  refine ⟨(stallRaised s k).onAx (slotOfStepper k) (fun x => { x with homed := false, stepper := { x.stepper with stallRun := 0 } }),
    congrArg Host.Outcome.next (if_pos ⟨hstepper, hrun, hlimit⟩), ?_⟩
  generalize stallRaised s k = t at hframe hactive ⊢
  have hax : ∀ b, t.ax b = s.ax b := fun b => by
    rw [hframe]
    rfl
  refine ⟨?_, fun b hb => (State.onAx_ax_of_ne t _ hb).trans (hax b), ?_, hactive⟩
  · rw [State.onAx, hframe]
  · rw [State.onAx_ax, hax]

/-! ### The end of travel -/

theorem beyondSide_of_out {s : State} {a : Fin 16} (heot : s.eot a = true)
    (hout : s.par 0x090A a.val + s.par 0x090C a.val < (s.ax a).measured ∨ (s.ax a).measured < s.par 0x0909 a.val - s.par 0x090C a.val) :
    s.beyondSide a ≠ 0 := by
  rw [State.beyondSide, heot, Bool.not_true, if_neg Bool.false_ne_true]
  by_cases hhigh : s.par 0x090A a.val + s.par 0x090C a.val < (s.ax a).measured
  · rw [if_pos hhigh]
    decide
  · rw [if_neg hhigh, if_pos (hout.resolve_left hhigh)]
    decide

theorem not_beyond {s : State} {a : Fin 16} (h : s.eot a = false ∨ (s.ax a).beyond = true ∨
    ((s.ax a).measured ≤ s.par 0x090A a.val + s.par 0x090C a.val ∧ s.par 0x0909 a.val - s.par 0x090C a.val ≤ (s.ax a).measured)) :
    ¬(s.beyondSide a ≠ 0 ∧ !(s.ax a).beyond) := by
  rintro ⟨hside, hbeyond⟩
  rcases h with h | h | ⟨hhigh, hlow⟩
  · exact hside (by rw [State.beyondSide, h]; rfl)
  · rw [h] at hbeyond
    exact absurd hbeyond (by decide)
  · refine hside ?_
    rw [State.beyondSide, if_neg (by omega : ¬_ < _), if_neg (by omega : ¬_ < _), ite_self]

/-- Settles O38: each event raises its fault at its limit, and does nothing below it. -/
theorem motorAndLoopFaults : Obligations.MotorAndLoopFaults := by
  refine ⟨⟨fun a s => ?_, fun k a s ha hstepper => ?_⟩, fun a s => ?_⟩
  · obtain ⟨hlos, hlosNot⟩ := motorFaults a s
    refine ⟨hlos, hlosNot, fun hrun hlimit => ⟨_, congrArg Host.Outcome.next (if_pos ⟨hrun, hlimit⟩), raise_stick_facts s _ _ _ _ (by decide)⟩,
      fun h => congrArg Host.Outcome.next (if_neg (by omega)),
      fun hrun => ⟨_, congrArg Host.Outcome.next (if_pos hrun), onlyRaised_raise s _ (by decide)⟩,
      fun h => congrArg Host.Outcome.next (if_neg (by omega)),
      fun hrun hlimit => ⟨_, congrArg Host.Outcome.next (if_pos ⟨hrun, hlimit⟩), onlyRaised_raise s _ (by decide)⟩,
      fun h => congrArg Host.Outcome.next (if_neg (by omega))⟩
  · subst ha
    have hpair := isStepper_of_slot hstepper
    refine ⟨fun e he hstep hlimit => ⟨s.raise 0x0805 k.val, congrArg Host.Outcome.next ?_, onlyRaised_raise s _ (by decide)⟩,
      fun he => congrArg Host.Outcome.next ?_,
      fun hv hlimit => ⟨_, congrArg Host.Outcome.next (if_pos ⟨hstepper, hv, hlimit⟩), onAxis_onAx .., State.onAx_ax ..⟩,
      fun h => congrArg Host.Outcome.next (if_neg (by omega)),
      fun hrun hlimit => stpStall_reached hstepper hrun hlimit,
      fun h => congrArg Host.Outcome.next (if_neg (by omega)),
      fun hrun => ⟨_, congrArg Host.Outcome.next (if_pos ⟨hstepper, hrun⟩), onAxisRaised_raise s _ _ _ (by decide)⟩,
      fun h => congrArg Host.Outcome.next (if_neg (by omega)),
      fun hlimit => ⟨_, congrArg Host.Outcome.next (if_pos ⟨hpair, hlimit⟩), raise_stick_facts s _ _ _ _ (by decide)⟩,
      fun h => congrArg Host.Outcome.next (if_neg (by omega)),
      fun hlimit => ⟨_, congrArg Host.Outcome.next (if_pos ⟨hpair, hlimit⟩), raise_stick_facts s _ _ _ _ (by decide)⟩,
      fun h => congrArg Host.Outcome.next (if_neg (by omega))⟩
    · simp only [he]
      exact if_pos ⟨hstepper, hstep, hlimit⟩
    · simp only [he]
  · refine ⟨fun hrun hlimit => ⟨_, congrArg Host.Outcome.next (if_pos ⟨hlimit, hrun⟩), raise_stick_facts s _ _ _ _ (by decide)⟩,
      fun h => congrArg Host.Outcome.next (if_neg (not_reached h)),
      fun hrun hlimit => ⟨_, congrArg Host.Outcome.next (if_pos ⟨hlimit, hrun⟩), raise_stick_facts s _ _ _ _ (by decide)⟩,
      fun h => congrArg Host.Outcome.next (if_neg (not_reached h)),
      fun hrun hlimit => ⟨_, congrArg Host.Outcome.next (if_pos ⟨hlimit, hrun⟩), onlyRaised_raise s _ (by decide)⟩,
      fun h => congrArg Host.Outcome.next (if_neg (not_reached h)),
      fun h => ⟨_, congrArg Host.Outcome.next (if_pos h), onAxis_onAx .., State.onAx_ax ..⟩,
      fun h => congrArg Host.Outcome.next (if_neg (by omega)),
      fun heot hbeyond hout => ⟨_, congrArg Host.Outcome.next (if_pos ⟨beyondSide_of_out heot hout, by rw [hbeyond]; rfl⟩),
        onAxisRaised_raise s _ _ _ (by decide)⟩,
      fun h => congrArg Host.Outcome.next (if_neg (not_beyond h))⟩

end Sys2Proof.Proofs
end

section
/-! PROOF. The statement on the enable sequence (R182, R254). -/

namespace Sys2Proof.Proofs
open Sys2Proof.Machine

/-! ### An enabling that ends on an axis with a slave (R182, R254)

The statement keeps of every other axis all but its gear. The end of an enabling releases the slaves of the axis, and a released slave
also records the frame of its release. -/

/-- Axis 0 enabling at its injection since frame 0, and axis 1 its slave, at frame 400. -/
def injectingMaster : State :=
  ({ State.reset with frame64 := 400 }.onAx 0 (fun x => { x with state := .enabling, enabling := some { step := .injection, since := 0 } })).onAx 1
    (fun x => { x with gear := some { master := 0, ratio := 65536, offset := 0 } })

/-- The slave has not been released, and is at frame 400 when the enabling is given up. -/
theorem releasedAt_injectingMaster : (injectingMaster.ax 1).releasedAt = none ∧
    ((ranNext (exec (.comInjConverge 0) injectingMaster) injectingMaster).ax 1).releasedAt = some 400 := by
  decide +kernel

/-- Refutes O37: the release of the slave is recorded in its slot. -/
theorem not_enableSequence : ¬ Obligations.EnableSequence := by
  rintro ⟨-, -, hinjection, -⟩
  obtain ⟨-, hgiveUp⟩ := hinjection 0 { step := .injection, since := 0 } injectingMaster (by decide +kernel) rfl
  obtain ⟨t, hexec, -, hothers, -⟩ := hgiveUp (by decide +kernel) (by decide +kernel) (by decide +kernel)
  obtain ⟨hbefore, hafter⟩ := releasedAt_injectingMaster
  rw [hexec, ranNext, hothers 1 (by decide)] at hafter
  exact absurd (hbefore.symm.trans hafter) (by decide)

end Sys2Proof.Proofs
end

section
/-! PROOF. The statement on motor identification and the index pulse (R186, R196, R197). -/

namespace Sys2Proof.Proofs
open Sys2Proof.Machine

/-! ### MOTOR_IDENTIFY (R196) -/

/-- Its checks. -/
def identifyChecks (s : State) (a : Fin 16) (steps : Byte) : List (Bool × Nat) :=
  [(decide (steps.toNat < 1 ∨ 15 < steps.toNat) || s.stepperAt a, Status.badParameter),
   (decide ((s.ax a).state ≠ .disabled) || (s.ax a).identify.isSome || decide (s.saf.state = .testing), Status.busy)]

/-- The axis slot that an identification begins with. -/
def identifying (k : Fin 8) (seq : Half) (n : Long) (steps : Byte) (x : Axis) : Axis :=
  { x with identify := some { steps := steps.toNat, since := n, slot := some k, seq := seq }
           com := { x.com with idDone := 0, idFail := 0, intD := 0, intQ := 0 } }

theorem exec_motorIdentify {r : Req} {axis steps : Byte} {a : Fin 16} {k : Fin 8} {s : State} (h : s.admits 0x45 r k = true)
    (ha : s.axisArg axis = some a) : exec (.motorIdentify r axis steps) s = .next (s.checked r 0x45 (identifyChecks s a steps) (fun s =>
      (((s.clearFault 0x0609 a.val).onAx a (identifying k r.seq s.frame64 steps)).bayEnabled a).answer r 0x45 Status.pending .bare)) :=
  congrArg Host.Outcome.next (onAxis_of_admits h ha _)

theorem bayEnabled_frame (s : State) (b : Fin 16) : s.bayEnabled b = { s with pwm := { s.pwm with hbs := (s.bayEnabled b).pwm.hbs } } := rfl

theorem motorIdentify_accepted {r : Req} {axis steps : Byte} {a : Fin 16} {k : Fin 8} {s : State} (h : s.admits 0x45 r k = true)
    (ha : s.axisArg axis = some a) (hpass : firstFail (identifyChecks s a steps) = none) :
    Answers (exec (.motorIdentify r axis steps) s) (fun t =>
      t = { s with motion := { s.motion with axes := t.motion.axes }, pwm := { s.pwm with hbs := t.pwm.hbs }, faults := t.faults
                   log := t.log, cmd := (s.withReply (replyOf r k 0x45 Status.pending .bare)).cmd } ∧
      (∀ h : Fin 48, t.hb h = (if bayOfHb h = a then { s.hb h with release := .no } else s.hb h)) ∧
      (∀ b : Fin 16, b ≠ a → t.ax b = s.ax b) ∧ t.isActive 0x0609 a.val = false ∧
      t.ax a = identifying k r.seq s.frame64 steps (s.ax a)) := by
  rw [exec_motorIdentify h ha, State.checked_pass hpass]
  have hclear := State.clearFault_frame s 0x0609 a.val
  have hgone := isActive_clearFault s 0x0609 a.val
  have hslot := State.slotOf_of_admits h
  generalize s.clearFault 0x0609 a.val = u at hclear hgone
  have hmotion : u.motion = s.motion := by rw [hclear]
  have hpwm : u.pwm = s.pwm := by rw [hclear]
  have hucmd : u.cmd = s.cmd := by rw [hclear]
  have hax : ∀ b, u.ax b = s.ax b := fun b => congrArg (fun m : Motion => m.axes[b]) hmotion
  have hhb : ∀ x, u.hb x = s.hb x := fun x => congrArg (fun p : Pwm => p.hbs[x]) hpwm
  have hon : ∀ x, (u.onAx a (identifying k r.seq s.frame64 steps)).hb x = s.hb x := hhb
  have hframe : u.onAx a (identifying k r.seq s.frame64 steps) =
      { s with motion := (u.onAx a (identifying k r.seq s.frame64 steps)).motion, faults := u.faults, log := u.log } := by
    rw [State.onAx, hclear]
  have hown := State.onAx_ax u a (identifying k r.seq s.frame64 steps)
  have hothers := fun b (hb : b ≠ a) => State.onAx_ax_of_ne u (identifying k r.seq s.frame64 steps) hb
  have honly : (u.onAx a (identifying k r.seq s.frame64 steps)).motion =
      { s.motion with axes := (u.onAx a (identifying k r.seq s.frame64 steps)).motion.axes } := by rw [State.onAx, hmotion]
  have hgoneOn : (u.onAx a (identifying k r.seq s.frame64 steps)).isActive 0x0609 a.val = false := hgone
  generalize u.onAx a (identifying k r.seq s.frame64 steps) = v at hon hframe hown hothers honly hgoneOn ⊢
  have hcmd : (v.bayEnabled a).cmd = s.cmd := by rw [bayEnabled_frame, hframe]
  have hreply : (v.bayEnabled a).answer r 0x45 Status.pending .bare =
      { v.bayEnabled a with cmd := (s.withReply (replyOf r k 0x45 Status.pending .bare)).cmd } := by
    rw [answer_of_sessions hslot (congrArg Commands.sessions hcmd), State.withReply, hcmd]
    rfl
  have henabled := fun x => bayEnabled_hb v a x
  rw [hreply]
  refine ⟨_, rfl, ?_, fun x => (henabled x).trans (by rw [hon]), fun b hb => (hothers b hb).trans (hax b), hgoneOn, hown.trans (by rw [hax])⟩
  rw [bayEnabled_frame, hframe, honly]

/-! ### Results (R197) -/

/-- The results of a step stored one by one. -/
def stored (s : State) (a : Fin 16) (l : List ((Nat × Nat) × Int)) : State := s.each l (fun x t => t.storeResult a x.1.1 x.2)

/-- What storing results changes: parameters, and the encoder lines of the axis. -/
def StoredOnly (a : Fin 16) (s t : State) : Prop :=
  t = { s with motion := { s.motion with axes := t.motion.axes }, regs := t.regs } ∧ (∀ b : Fin 16, b ≠ a → t.ax b = s.ax b) ∧
  t.ax a = { s.ax a with com := { (s.ax a).com with idLines := (t.ax a).com.idLines } } ∧
  (Sparse.wf regDefault s.regs = true → Sparse.wf regDefault t.regs = true)

theorem StoredOnly.trans {a : Fin 16} {s t u : State} (h : StoredOnly a s t) (h' : StoredOnly a t u) : StoredOnly a s u := by
  obtain ⟨hframe, hother, hown, hwf⟩ := h
  obtain ⟨hframe', hother', hown', hwf'⟩ := h'
  refine ⟨?_, fun b hb => (hother' b hb).trans (hother b hb), ?_, fun h => hwf' (hwf h)⟩
  · rw [hframe', hframe]
  · rw [hown', hown]

theorem storedOnly_storeResult (s : State) (a : Fin 16) (q : Nat) (v : Int) : StoredOnly a s (s.storeResult a q v) := by
  unfold State.storeResult
  split
  · refine ⟨rfl, fun b hb => State.onAx_ax_of_ne s _ hb, ?_, id⟩
    rw [State.onAx_ax]
  · exact ⟨rfl, fun _ _ => rfl, rfl, fun h => setPar_wf q a.val h v⟩

theorem storedOnly_stored (s : State) (a : Fin 16) (l : List ((Nat × Nat) × Int)) : StoredOnly a s (stored s a l) := by
  unfold stored State.each
  induction l generalizing s with
  | nil => exact ⟨rfl, fun _ _ => rfl, rfl, id⟩
  | cons x l ih => exact (storedOnly_storeResult s a x.1.1 x.2).trans (ih _)

/-- A result is stored in its own parameter, as `w` has it, or in the encoder lines. -/
def holdsResult (w : Prop) (s : State) (a : Fin 16) (q : Nat) (v : Int) : Prop :=
  (w → q ≠ 0 → s.par q a.val = v) ∧ (q = 0 → (s.ax a).com.idLines = v.toNat)

section
variable {w : Prop}

theorem holdsResult_storeResult {s : State} (a : Fin 16) (q : Nat) (v : Int) (h : w → Sparse.wf regDefault s.regs = true) :
    holdsResult w (s.storeResult a q v) a q v := by
  unfold State.storeResult
  refine ⟨fun hw hq => ?_, fun hq => ?_⟩
  · rw [if_neg hq, setPar_par_same _ _ (h hw)]
  · rw [if_pos hq, State.onAx_ax]

/-- Storing another result leaves it. -/
theorem holdsResult_other {s : State} {a : Fin 16} {q p : Nat} {v x : Int} (h : w → Sparse.wf regDefault s.regs = true) (hne : q ≠ p)
    (hq : holdsResult w s a q v) : holdsResult w (s.storeResult a p x) a q v := by
  obtain ⟨hpar, hlines⟩ := hq
  unfold State.storeResult
  by_cases hp : p = 0
  · rw [if_pos hp]
    exact ⟨hpar, fun h0 => absurd (h0.trans hp.symm) hne⟩
  · rw [if_neg hp]
    have hkey : regKey q a.val ≠ regKey p a.val := by
      simp only [regKey]
      omega
    exact ⟨fun hw h0 => (setPar_par_of_ne (h hw) hkey x).trans (hpar hw h0), hlines⟩

theorem holdsResult_stored {s : State} {a : Fin 16} {q : Nat} {v : Int} {l : List ((Nat × Nat) × Int)}
    (h : w → Sparse.wf regDefault s.regs = true) (hl : q ∉ l.map (fun x => x.1.1)) (hq : holdsResult w s a q v) :
    holdsResult w (stored s a l) a q v := by
  unfold stored State.each
  induction l generalizing s with
  | nil => exact hq
  | cons x l ih =>
    obtain ⟨hx, hl⟩ := not_or.mp (mt List.mem_cons.mpr hl)
    exact ih (fun hw => (storedOnly_storeResult s a x.1.1 x.2).2.2.2 (h hw)) hl (holdsResult_other h hx hq)

/-- With targets of their own, every result is held in the end. -/
theorem stored_holds {s : State} {a : Fin 16} {l : List ((Nat × Nat) × Int)} (h : w → Sparse.wf regDefault s.regs = true)
    (hl : (l.map (fun x => x.1.1)).Nodup) : ∀ x ∈ l, holdsResult w (stored s a l) a x.1.1 x.2 := by
  induction l generalizing s with
  | nil => exact fun x hx => by simp at hx
  | cons y l ih =>
    obtain ⟨hy, hl⟩ := List.nodup_cons.mp hl
    obtain ⟨-, -, -, hkept⟩ := storedOnly_storeResult s a y.1.1 y.2
    have hwf : w → Sparse.wf regDefault (s.storeResult a y.1.1 y.2).regs = true := fun hw => hkept (h hw)
    have hcons : stored s a (y :: l) = stored (s.storeResult a y.1.1 y.2) a l := rfl
    rw [hcons]
    intro x hx
    rcases List.mem_cons.mp hx with rfl | hx
    · exact holdsResult_stored hwf hy (holdsResult_storeResult a x.1.1 x.2 h)
    · exact ih hwf hl x hx

end

/-- The targets of a step, with its results. -/
def targets (s : State) (a : Fin 16) (b : Nat) (results : List Int) : List ((Nat × Nat) × Int) :=
  (identifyTargets b).zip (s.identifyValues a b results)

theorem zip_map_fst_sublist (l : List (Nat × Nat)) (m : List Int) : ((l.zip m).map (fun x => x.1.1)).Sublist (l.map Prod.fst) := by
  induction l generalizing m with
  | nil => exact List.Sublist.slnil
  | cons x l ih =>
    cases m with
    | nil => exact List.nil_sublist _
    | cons y m => exact (ih m).cons_cons x.1

theorem targets_nodup (s : State) (a : Fin 16) (b : Nat) (results : List Int) : ((targets s a b results).map (fun x => x.1.1)).Nodup := by
  have hall : ((identifyTargets b).map Prod.fst).Nodup := by
    unfold identifyTargets
    split <;> decide
  exact hall.sublist (zip_map_fst_sublist ..)

/-! ### IDENTIFY_STEP_DONE (R196, R197) -/

/-- The next selected step of an identification. -/
theorem identifyStep_eq {x : Axis} {i : Identify} {b : Nat} (hi : x.identify = some i) (hb : b < 4) (hselected : i.steps.testBit b = true)
    (hnot : x.com.idDone.testBit b = false) (hfirst : ∀ c < b, i.steps.testBit c = true → x.com.idDone.testBit c = true) :
    x.identifyStep = some b := by
  simp only [Axis.identifyStep, hi]
  refine List.find?_range_eq_some.mpr ⟨by rw [hselected, hnot]; rfl, List.mem_range.mpr hb, fun c hc => ?_⟩
  cases hs : i.steps.testBit c
  · rfl
  · rw [hfirst c hc hs]
    rfl

/-- A step that has failed. -/
def identifyFailed (s : State) (a : Fin 16) (i : Identify) (b : Nat) : State :=
  ((s.raise 0x0609 a.val).onAx a (fun x => { x with identify := none, com := { x.com with idFail := 2 ^ b } })).complete
    i.slot i.seq 0x45 Status.faultLatched

/-- A step whose results have been stored. -/
def identifyAdvanced (s : State) (a : Fin 16) (b : Nat) (results : List Int) : State :=
  (stored s a (targets s a b results)).onAx a (fun x => { x with
    identify := x.identify.map (fun j => { j with since := s.frame64 })
    com := { x.com with idDone := (s.ax a).com.idDone + 2 ^ b, intD := 0, intQ := 0 } })

theorem exec_identifyStepDone {a : Fin 16} {turns : Nat} {results : List Int} {s : State} {i : Identify} {b : Nat}
    (hi : (s.ax a).identify = some i) (hb : (s.ax a).identifyStep = some b) : exec (.identifyStepDone a turns results) s = .next (
      if turns ≤ s.parN 0x0670 a.val ∧ (s.frame64 - i.since).toNat < identifyFrames b then s
      else if s.parN 0x0670 a.val < turns ∨ (targets s a b results).any (fun x => !inRange x.1.2 x.2) then identifyFailed s a i b
      else if (s.ax a).com.idDone + 2 ^ b = i.steps then
        ((identifyAdvanced s a b results).onAx a (fun x => { x with identify := none })).complete i.slot i.seq 0x45 Status.ok
      else identifyAdvanced s a b results) := by
  refine congrArg Host.Outcome.next ?_
  simp only [hi, hb]
  rfl

/-- A completed request is logged (R68). -/
theorem complete_log (s : State) (slot : Option (Fin 8)) (seq : Half) (op status : Nat) :
    ∃ e, (s.complete slot seq op status).log = { s.log with fresh := s.log.fresh ++ [e] } ∧ e.code = 0x0280 ∧ e.detail = status ∧
      e.extra = seq.toNat := ⟨_, rfl, rfl, rfl, rfl⟩

theorem identifyFailed_facts (s : State) (a : Fin 16) (i : Identify) (b : Nat) :
    (fun t : State => t = { s with motion := { s.motion with axes := t.motion.axes }, faults := t.faults, log := t.log } ∧
      (∀ b : Fin 16, b ≠ a → t.ax b = s.ax b) ∧ t.isActive 0x0609 a.val = true ∧
      t.ax a = { s.ax a with identify := none, com := { (s.ax a).com with idFail := 2 ^ b } } ∧
      ∃ e, e ∈ t.log.fresh ∧ e.code = 0x0280 ∧ e.detail = Status.faultLatched ∧ e.extra = i.seq.toNat) (identifyFailed s a i b) := by
  have hframe := State.raise_frame s 0x0609 a.val
  have hactive : (s.raise 0x0609 a.val).isActive 0x0609 a.val = true := isActive_raise (by decide)
  unfold identifyFailed
  generalize s.raise 0x0609 a.val = u at hframe hactive ⊢
  have hmotion : u.motion = s.motion := by rw [hframe]
  have hax : ∀ b, u.ax b = s.ax b := fun b => congrArg (fun m : Motion => m.axes[b]) hmotion
  refine ⟨?_, fun b hb => (State.onAx_ax_of_ne u _ hb).trans (hax b), hactive, (State.onAx_ax u a _).trans (by rw [hax]),
    _, List.mem_append_right _ (List.mem_singleton_self _), rfl, rfl, rfl⟩
  unfold State.complete State.event State.onAx
  rw [hframe]

theorem identifyAdvanced_facts (s : State) (a : Fin 16) (b : Nat) (results : List Int) :
    (fun t : State => t = { s with motion := { s.motion with axes := t.motion.axes }, regs := t.regs } ∧
      (∀ b : Fin 16, b ≠ a → t.ax b = s.ax b) ∧ (t.ax a).com.idDone = (s.ax a).com.idDone + 2 ^ b ∧
      (t.ax a).identify = (s.ax a).identify.map (fun j => { j with since := s.frame64 }) ∧
      ∀ x ∈ targets s a b results, holdsResult (s.canonical = true) t a x.1.1 x.2) (identifyAdvanced s a b results) := by
  obtain ⟨hframe, hother, hown, -⟩ := storedOnly_stored s a (targets s a b results)
  have hholds := stored_holds (w := s.canonical = true) (s := s) (a := a) (fun h => (canonical_iff.mp h).1) (targets_nodup s a b results)
  unfold identifyAdvanced
  generalize stored s a (targets s a b results) = u at hframe hother hown hholds ⊢
  refine ⟨?_, fun b hb => (State.onAx_ax_of_ne u _ hb).trans (hother b hb), by rw [State.onAx_ax], by rw [State.onAx_ax, hown], fun x hx => ?_⟩
  · rw [State.onAx, hframe]
  · obtain ⟨hpar, hlines⟩ := hholds x hx
    exact ⟨hpar, fun h0 => by rw [State.onAx_ax]; exact hlines h0⟩

/-- The target without a parameter has a range from 0 up. -/
theorem nonneg_of_lines {s : State} {a : Fin 16} {b : Nat} {results : List Int} {x : (Nat × Nat) × Int} (hx : x ∈ targets s a b results)
    (h0 : x.1.1 = 0) (hrange : inRange x.1.2 x.2 = true) : 0 ≤ x.2 := by
  have hall : ∀ y ∈ identifyTargets b, y.1 = 0 → y.2 = 0x0642 := by
    unfold identifyTargets
    split <;> decide
  have hrow : x.1.2 = 0x0642 := hall x.1 (List.of_mem_zip (a := x.1) (b := x.2) hx).1 h0
  have hlow : inRange 0x0642 x.2 = (decide (16 ≤ x.2) && decide (x.2 ≤ 65536)) := by rfl
  rw [hrow, hlow, Bool.and_eq_true, decide_eq_true_eq, decide_eq_true_eq] at hrange
  omega

/-- A step that ends in time with results in their ranges. -/
theorem identifyStepDone_stored {a : Fin 16} {turns : Nat} {results : List Int} {s : State} {i : Identify} {b : Nat}
    (hi : (s.ax a).identify = some i) (hb : (s.ax a).identifyStep = some b) (hturns : turns ≤ s.parN 0x0670 a.val)
    (hframes : identifyFrames b ≤ (s.frame64 - i.since).toNat) (hrange : ∀ x ∈ targets s a b results, inRange x.1.2 x.2 = true) :
    Answers (exec (.identifyStepDone a turns results) s) (fun t =>
      t = { s with motion := { s.motion with axes := t.motion.axes }, regs := t.regs, log := t.log } ∧
      (∀ b : Fin 16, b ≠ a → t.ax b = s.ax b) ∧ (t.ax a).com.idDone = (s.ax a).com.idDone + 2 ^ b ∧
      (s.canonical = true → ∀ x ∈ targets s a b results, x.1.1 ≠ 0 → t.par x.1.1 a.val = x.2) ∧
      (∀ x ∈ targets s a b results, x.1.1 = 0 → ((t.ax a).com.idLines : Int) = x.2) ∧
      (i.steps ≠ (s.ax a).com.idDone + 2 ^ b → (t.ax a).identify = some { i with since := s.frame64 } ∧ t.log = s.log) ∧
      (i.steps = (s.ax a).com.idDone + 2 ^ b → (t.ax a).identify = none ∧
        ∃ e, t.log = { s.log with fresh := s.log.fresh ++ [e] } ∧ e.code = 0x0280 ∧ e.detail = Status.ok ∧ e.extra = i.seq.toNat)) := by
  have hin : (targets s a b results).any (fun x => !inRange x.1.2 x.2) = false :=
    List.any_eq_false.mpr fun x hx => by rw [hrange x hx]; decide
  obtain ⟨hframe, hother, hdone, hident, hholds⟩ := identifyAdvanced_facts s a b results
  have hlines : ∀ x ∈ targets s a b results, x.1.1 = 0 → (((identifyAdvanced s a b results).ax a).com.idLines : Int) = x.2 := fun x hx h0 => by
    rw [(hholds x hx).2 h0]
    exact Int.toNat_of_nonneg (nonneg_of_lines hx h0 (hrange x hx))
  rw [exec_identifyStepDone hi hb, if_neg (by omega), hin, if_neg (by simpa using hturns)]
  rw [hi, Option.map_some] at hident
  by_cases hlast : (s.ax a).com.idDone + 2 ^ b = i.steps
  · rw [if_pos hlast]
    generalize identifyAdvanced s a b results = u at hframe hother hdone hident hholds hlines ⊢
    have hlog : u.log = s.log := by rw [hframe]
    refine ⟨_, rfl, ?_, fun c hc => (State.onAx_ax_of_ne u _ hc).trans (hother c hc), ?_, fun h x hx h0 => (hholds x hx).1 h h0, fun x hx h0 => ?_,
      fun hne => absurd hlast.symm hne, fun _ => ⟨?_, ?_⟩⟩
    · unfold State.complete State.event State.onAx
      rw [hframe]
    · exact (congrArg (fun x : Axis => x.com.idDone) (State.onAx_ax u a _)).trans hdone
    · exact (congrArg (fun x : Axis => (x.com.idLines : Int)) (State.onAx_ax u a _)).trans (hlines x hx h0)
    · exact congrArg Axis.identify (State.onAx_ax u a _)
    · rw [← hlog]
      exact complete_log (u.onAx a _) ..
  · rw [if_neg hlast]
    refine ⟨_, rfl, ?_, hother, hdone, fun h x hx h0 => (hholds x hx).1 h h0, hlines, fun _ => ⟨hident, by rw [hframe]⟩,
      fun h => absurd h.symm hlast⟩
    generalize identifyAdvanced s a b results = u at hframe ⊢
    rw [hframe]

/-! ### COM_ENC_INDEX (R186) -/

theorem comEncIndex_facts (a : Fin 16) (count : Word) (s : State) :
    ((s.ax a).com.aligned = false → exec (.comEncIndex a count) s = .next s) ∧
    ((s.ax a).com.aligned = true →
      ((s.ax a).com.zCount = none → Answers (exec (.comEncIndex a count) s) (fun t => OnAxis s t a ∧
        t.ax a = { s.ax a with com := { (s.ax a).com with zCount := some count } })) ∧
      (∀ z, (s.ax a).com.zCount = some z →
        ((count - z).toInt.natAbs ≤ s.parN 0x0643 a.val → exec (.comEncIndex a count) s = .next s) ∧
        (s.parN 0x0643 a.val < (count - z).toInt.natAbs → Answers (exec (.comEncIndex a count) s) (fun t =>
          OnAxisRaised s t a 0x0605 a.val ∧ t.ax a = { s.ax a with com := { (s.ax a).com with aligned := false } })))) := by
  refine ⟨fun h => congrArg Host.Outcome.next ?_, fun h => ⟨fun hz => ⟨s.onAx a (fun x => { x with com := { x.com with zCount := some count } }),
    congrArg Host.Outcome.next ?_, onAxis_onAx .., State.onAx_ax ..⟩, fun z hz => ⟨fun hle => congrArg Host.Outcome.next ?_, fun hlt =>
    ⟨(s.raise 0x0605 a.val).onAx a (fun x => { x with com := { x.com with aligned := false } }), congrArg Host.Outcome.next ?_,
      onAxisRaised_raise s _ a _ (by decide)⟩⟩⟩⟩
  · simp only [h, Bool.not_false, if_true]
  · simp only [h, Bool.not_true, Bool.false_eq_true, if_false, hz]
  · simp only [h, Bool.not_true, Bool.false_eq_true, if_false, hz]
    exact if_neg (by omega)
  · simp only [h, Bool.not_true, Bool.false_eq_true, if_false, hz]
    exact if_pos hlt

/-- Settles O39: the checks of an identification, what its steps store, and the index pulse. -/
theorem identifyAndIndex : Obligations.IdentifyAndIndex := by
  refine ⟨fun r axis steps a k s h ha => ⟨fun hbad => ?_, fun hlow hhigh hservo => ⟨fun hbusy => ?_, fun hstate hident htest => ?_⟩⟩,
    fun a turns results s => ⟨fun hi => congrArg Host.Outcome.next (by simp only [hi]), fun i b hi hb hselected hnot hfirst => ?_⟩,
    comEncIndex_facts⟩
  · have hfail : firstFail (identifyChecks s a steps) = some Status.badParameter := by
      have hsteps : (decide (steps.toNat < 1 ∨ 15 < steps.toNat) || s.stepperAt a) = true := by
        rcases hbad with rfl | hbad | hbad
        · rfl
        · rw [decide_eq_true (.inr (by omega)), Bool.true_or]
        · rw [hbad, Bool.or_true]
      rw [identifyChecks, hsteps, firstFail_true]
    rw [exec_motorIdentify h ha, State.checked_fail hfail]
    exact congrArg Host.Outcome.next (answer_of_admits h ..)
  · have hfail : firstFail (identifyChecks s a steps) = some Status.busy := by
      have hrunning : (decide ((s.ax a).state ≠ .disabled) || (s.ax a).identify.isSome || decide (s.saf.state = .testing)) = true := by
        simpa [or_assoc] using hbusy
      rw [identifyChecks, hservo, decide_eq_false (by omega), Bool.or_self, firstFail_false, hrunning, firstFail_true]
    rw [exec_motorIdentify h ha, State.checked_fail hfail]
    exact congrArg Host.Outcome.next (answer_of_admits h ..)
  · refine motorIdentify_accepted h ha ?_
    rw [identifyChecks, hservo, decide_eq_false (by omega), hstate, hident, decide_eq_false htest]
    rfl
  · have hstep := identifyStep_eq hi hb hselected hnot hfirst
    refine ⟨fun hturns hframes => ?_, fun hfail => ?_, fun hturns hframes hrange => identifyStepDone_stored hi hstep hturns hframes hrange⟩
    · rw [exec_identifyStepDone hi hstep, if_pos ⟨hturns, hframes⟩]
    · have hbad : s.parN 0x0670 a.val < turns ∨ (targets s a b results).any (fun x => !inRange x.1.2 x.2) = true :=
        hfail.imp id fun ⟨_, x, hx, hrange⟩ => List.any_eq_true.mpr ⟨x, hx, by rw [hrange]; rfl⟩
      have hlate : ¬(turns ≤ s.parN 0x0670 a.val ∧ (s.frame64 - i.since).toNat < identifyFrames b) := by
        rintro ⟨hle, hlt⟩
        rcases hfail with h | ⟨h, -⟩ <;> omega
      rw [exec_identifyStepDone hi hstep, if_neg hlate, if_pos hbad]
      exact ⟨_, rfl, identifyFailed_facts s a i b⟩

end Sys2Proof.Proofs
end

section
/-! PROOF. Sparse memories: what filters and writes leave, and the bytes of a range. -/

namespace Sys2Proof.Proofs
open Sys2Proof.Machine

section
variable {α : Type} {d : Nat → α}

/-- A filter by keys keeps the values of the keys it keeps, whatever the order of the list. -/
theorem read_filter (p : Nat → Bool) (m : List (Nat × α)) (k : Nat) :
    Sparse.read d (m.filter (fun c => p c.1)) k = if p k then Sparse.read d m k else d k := by
  induction m with
  | nil => simp only [List.filter_nil, Sparse.read, ite_self]
  | cons c m ih =>
    by_cases hc : p c.1 = true
    · rw [List.filter_cons_of_pos (p := fun c : Nat × α => p c.1) hc]
      simp only [Sparse.read]
      by_cases hk : c.1 = k
      · rw [if_pos hk, ← hk, if_pos hc, if_pos rfl]
      · rw [if_neg hk, if_neg hk, ih]
    · rw [List.filter_cons_of_neg (p := fun c : Nat × α => p c.1) hc, ih]
      simp only [Sparse.read]
      by_cases hk : c.1 = k
      · rw [← hk, if_neg hc, if_neg hc]
      · rw [if_neg hk]

theorem okFrom_filter [DecidableEq α] (p : Nat × α → Bool) {m : List (Nat × α)} {lo : Option Nat} (h : Sparse.okFrom d lo m = true) :
    Sparse.okFrom d lo (m.filter p) = true := by
  induction m generalizing lo with
  | nil => exact h
  | cons c m ih =>
    simp only [Sparse.okFrom, Bool.and_eq_true] at h
    obtain ⟨⟨hlo, hd⟩, hm⟩ := h
    by_cases hc : p c = true
    · rw [List.filter_cons_of_pos hc]
      simp only [Sparse.okFrom, Bool.and_eq_true]
      exact ⟨⟨hlo, hd⟩, ih hm⟩
    · rw [List.filter_cons_of_neg hc]
      refine ih (Sparse.okFrom_tail hm fun l hl => ?_)
      rw [hl] at hlo
      exact of_decide_eq_true hlo

theorem wf_filter [DecidableEq α] (p : Nat × α → Bool) {m : List (Nat × α)} (h : Sparse.wf d m = true) : Sparse.wf d (m.filter p) = true :=
  okFrom_filter p h

theorem read_erase_of_ne {k j : Nat} (h : j ≠ k) (m : List (Nat × α)) : Sparse.read d (Sparse.erase k m) j = Sparse.read d m j := by
  induction m with
  | nil => rfl
  | cons c m ih =>
    simp only [Sparse.erase]
    split
    · next hc => simp only [Sparse.read, hc, if_neg (Ne.symm h)]
    · simp only [Sparse.read, ih]

/-- A write leaves every other key, whatever the order of the list. -/
theorem read_write_of_ne [DecidableEq α] {k j : Nat} (h : j ≠ k) (m : List (Nat × α)) (v : α) : Sparse.read d (Sparse.write d m k v) j = Sparse.read d m j := by
  unfold Sparse.write
  split
  · exact read_erase_of_ne h m
  · rw [Sparse.read_insert, if_neg h]

end

theorem read_writeBytes_outside {d : Nat → Byte} (m : Memory) {a : Nat} {bs : List Byte} {j : Nat} (h : j < a ∨ a + bs.length ≤ j) :
    Sparse.read d (Memory.writeBytes d m a bs) j = Sparse.read d m j := by
  induction bs generalizing m a with
  | nil => rfl
  | cons b bs ih =>
    rw [List.length_cons] at h
    exact (ih (Sparse.write d m a b) (by omega)).trans (read_write_of_ne (by omega) m b)

/-! ### The bytes of a range -/

theorem readBytes_length (d : Nat → Byte) (m : Memory) (a n : Nat) : (Memory.readBytes d m a n).length = n := by
  induction n generalizing a with
  | zero => rfl
  | succ n ih => simp only [Memory.readBytes, List.length_cons, ih]

theorem readBytes_one (d : Nat → Byte) (m : Memory) (a : Nat) : Memory.readBytes d m a 1 = [Sparse.read d m a] := rfl

theorem readBytes_getElem (d : Nat → Byte) (m : Memory) (a n : Nat) {k : Nat} (hk : k < (Memory.readBytes d m a n).length) :
    (Memory.readBytes d m a n)[k] = Sparse.read d m (a + k) := by
  induction n generalizing a k with
  | zero => exact absurd hk (Nat.not_lt_zero k)
  | succ n ih =>
    cases k with
    | zero => rfl
    | succ k =>
      simp only [Memory.readBytes, List.getElem_cons_succ]
      rw [ih]
      congr 1
      omega

theorem readBytes_drop (d : Nat → Byte) (m : Memory) (a n k : Nat) : (Memory.readBytes d m a n).drop k = Memory.readBytes d m (a + k) (n - k) := by
  induction k generalizing a n with
  | zero => rfl
  | succ k ih =>
    cases n with
    | zero => simp only [Memory.readBytes, List.drop_nil, Nat.zero_sub]
    | succ n =>
      simp only [Memory.readBytes, List.drop_succ_cons]
      rw [ih]
      congr 1 <;> omega

theorem readBytes_take (d : Nat → Byte) (m : Memory) (a n k : Nat) : (Memory.readBytes d m a n).take k = Memory.readBytes d m a (min k n) := by
  induction k generalizing a n with
  | zero => rw [List.take_zero, Nat.zero_min]; rfl
  | succ k ih =>
    cases n with
    | zero => rfl
    | succ n =>
      rw [Nat.succ_min_succ]
      simp only [Memory.readBytes, List.take_succ_cons]
      rw [ih]

/-- A field of the bytes of a range. -/
theorem field_readBytes (d : Nat → Byte) (m : Memory) (a : Nat) {n off len : Nat} (h : off + len ≤ n) :
    field off len (Memory.readBytes d m a n) = ofLe (Memory.readBytes d m (a + off) len) := by
  unfold field slice
  simp only [readBytes_drop, readBytes_take, Nat.min_eq_left (show len ≤ n - off by omega), readBytes_length, Nat.sub_self,
    List.replicate_zero, List.append_nil]

/-- The same values at the addresses of a range give the same bytes. -/
theorem readBytes_congr {d e : Nat → Byte} {m l : Memory} {a n : Nat} (h : ∀ x, a ≤ x → x < a + n → Sparse.read d m x = Sparse.read e l x) :
    Memory.readBytes d m a n = Memory.readBytes e l a n := by
  induction n generalizing a with
  | zero => rfl
  | succ n ih =>
    simp only [Memory.readBytes]
    rw [h a (Nat.le_refl a) (by omega), ih fun x hx hx' => h x (by omega) (by omega)]

end Sys2Proof.Proofs
end

section
/-! PROOF. The statement on template commands and saves (R291 to R294). -/

namespace Sys2Proof.Proofs
open Sys2Proof.Machine

/-! ### TEMPLATE_LEARN (R291) -/

/-- Its checks. -/
def learnChecks (s : State) (a : Fin 16) (mode : Byte) (cycles : Half) : List (Bool × Nat) :=
  [(decide (1 < mode.toNat) || (decide (mode = 0) && decide (cycles ≠ 0)), Status.badParameter),
   (decide (mode = 1) && decide (cycles.toNat < 1 ∨ 1000 < cycles.toNat), Status.outOfRange),
   (decide (s.power.mode = .limp) || !(s.ax a).homed || (s.ax a).template.frozen, Status.learnGated),
   (decide (mode = 1) && (s.ax a).template.teach.isSome, Status.busy)]

/-- The axis slot of a TEACH that begins. -/
def teaching (k : Fin 8) (seq : Half) (cycles : Half) (x : Axis) : Axis :=
  { x with template := { x.template with teach := some (cycles.toNat, cycles.toNat), teachSlot := some k, teachSeq := seq } }

theorem exec_templateLearn {r : Req} {axis mode : Byte} {cycles : Half} {a : Fin 16} {k : Fin 8} {s : State} (h : s.admits 0xC2 r k = true)
    (ha : s.axisArg axis = some a) : exec (.templateLearn r axis mode cycles) s = .next (s.checked r 0xC2 (learnChecks s a mode cycles) (fun s =>
      if mode = 0 then (s.endTeach a Status.txnAborted).answer r 0xC2 Status.ok .bare
      else (s.onAx a (teaching k r.seq cycles)).answer r 0xC2 Status.pending .bare)) :=
  congrArg Host.Outcome.next (onAxis_of_admits h ha _)

theorem templateLearn_refused {r : Req} {axis mode : Byte} {cycles : Half} {a : Fin 16} {k : Fin 8} {s : State} {status : Nat}
    (h : s.admits 0xC2 r k = true) (ha : s.axisArg axis = some a) (hfail : firstFail (learnChecks s a mode cycles) = some status) :
    exec (.templateLearn r axis mode cycles) s = .next (s.withReply (replyOf r k 0xC2 status .bare)) := by
  rw [exec_templateLearn h ha, State.checked_fail hfail]
  exact congrArg Host.Outcome.next (answer_of_admits h ..)

/-- The checks in the order of R291. -/
theorem firstFail_learnChecks (s : State) (a : Fin 16) (mode : Byte) (cycles : Half) :
    (1 < mode.toNat ∨ (mode = 0 ∧ cycles ≠ 0) → firstFail (learnChecks s a mode cycles) = some Status.badParameter) ∧
    (mode = 1 → cycles = 0 ∨ 1000 < cycles.toNat → firstFail (learnChecks s a mode cycles) = some Status.outOfRange) ∧
    ((mode = 0 ∧ cycles = 0) ∨ (mode = 1 ∧ 1 ≤ cycles.toNat ∧ cycles.toNat ≤ 1000) →
      (s.power.mode = .limp ∨ (s.ax a).homed = false ∨ (s.ax a).template.frozen = true →
        firstFail (learnChecks s a mode cycles) = some Status.learnGated) ∧
      (s.power.mode ≠ .limp → (s.ax a).homed = true → (s.ax a).template.frozen = false →
        firstFail (learnChecks s a mode cycles) = firstFail [(decide (mode = 1) && (s.ax a).template.teach.isSome, Status.busy)])) := by
  unfold learnChecks
  refine ⟨fun hform => ?_, fun hmode hcycles => ?_, fun hgood => ?_⟩
  · have hbad : (decide (1 < mode.toNat) || (decide (mode = 0) && decide (cycles ≠ 0))) = true := by simpa using hform
    rw [hbad, firstFail_true]
  · have hcount : cycles.toNat < 1 ∨ 1000 < cycles.toNat := hcycles.imp (fun h => by rw [h]; decide) id
    subst hmode
    rw [decide_eq_true hcount]
    rfl
  · have hform : (decide (1 < mode.toNat) || (decide (mode = 0) && decide (cycles ≠ 0))) = false := by
      rcases hgood with ⟨rfl, rfl⟩ | ⟨rfl, -⟩ <;> rfl
    have hcount : (decide (mode = 1) && decide (cycles.toNat < 1 ∨ 1000 < cycles.toNat)) = false := by
      rcases hgood with ⟨rfl, rfl⟩ | ⟨rfl, hlow, hhigh⟩
      · rfl
      · rw [decide_eq_false (p := cycles.toNat < 1 ∨ 1000 < cycles.toNat) (by omega), Bool.and_false]
    rw [hform, hcount, firstFail_false, firstFail_false]
    refine ⟨fun hgated => ?_, fun hmode hhomed hfrozen => ?_⟩
    · have hbad : (decide (s.power.mode = .limp) || !(s.ax a).homed || (s.ax a).template.frozen) = true := by
        simpa [or_assoc] using hgated
      rw [hbad, firstFail_true]
    · rw [decide_eq_false hmode, hhomed, hfrozen]
      rfl

/-- The end of a TEACH in progress. -/
theorem endTeach_running {s : State} {a : Fin 16} (status : Nat) (h : (s.ax a).template.teach.isSome = true) :
    s.endTeach a status = (s.onAx a (fun x => { x with template := { x.template with teach := none } })).complete
      (s.ax a).template.teachSlot (s.ax a).template.teachSeq 0xC2 status := if_pos h

theorem endTeach_none {s : State} {a : Fin 16} (status : Nat) (h : (s.ax a).template.teach = none) : s.endTeach a status = s :=
  if_neg (by rw [h]; decide)

/-- Ending a TEACH changes the axis and the log alone. -/
theorem endTeach_facts (s : State) (a : Fin 16) (status : Nat) :
    s.endTeach a status = { s with motion := { s.motion with axes := (s.endTeach a status).motion.axes }, log := (s.endTeach a status).log } ∧
    (∀ b, b ≠ a → (s.endTeach a status).ax b = s.ax b) ∧
    (s.endTeach a status).ax a = { s.ax a with template := { (s.ax a).template with teach := none } } := by
  rcases hteach : (s.ax a).template.teach with _ | t
  · rw [endTeach_none status hteach]
    refine ⟨rfl, fun _ _ => rfl, ?_⟩
    rw [← hteach]
  · rw [endTeach_running status (by rw [hteach]; rfl)]
    exact ⟨rfl, fun b hb => State.onAx_ax_of_ne s _ hb, State.onAx_ax ..⟩

/-! ### TEMPLATE_FREEZE (R292) -/

theorem exec_templateFreeze {r : Req} {axis freeze : Byte} {a : Fin 16} {k : Fin 8} {s : State}
    (h : s.direct 0xC3 r k (.templateFreeze r axis freeze) = true) (ha : s.axisArg axis = some a) (hform : freeze.toNat ≤ 1) :
    exec (.templateFreeze r axis freeze) s = .next ((s.freezeAxis a (freeze = 1)).answer r 0xC3 Status.ok .bare) := by
  obtain ⟨hadmits, htag, hunclaimed⟩ := State.direct_facts h
  refine congrArg Host.Outcome.next ((onAxis_of_admits hadmits ha _).trans ((State.checked_pass ?_ _).trans ?_))
  · rw [decide_eq_false (by omega)]
    rfl
  · exact State.stageOr_direct htag (State.claimed_of_unclaimed hunclaimed)

theorem freezeAxis_eq (s : State) (a : Fin 16) (freeze : Bool) : s.freezeAxis a freeze =
    (if freeze then s.endTeach a Status.learnGated else s).onAx a (fun y => { y with template := { y.template with frozen := freeze } }) := rfl

theorem freezeAxis_facts (s : State) (a : Fin 16) (freeze : Bool) :
    s.freezeAxis a freeze = { s with motion := { s.motion with axes := (s.freezeAxis a freeze).motion.axes }, log := (s.freezeAxis a freeze).log } ∧
    (∀ b, b ≠ a → (s.freezeAxis a freeze).ax b = s.ax b) ∧ ((s.freezeAxis a freeze).ax a).template.frozen = freeze ∧
    ((s.freezeAxis a freeze).ax a).template.teach = (if freeze then none else (s.ax a).template.teach) ∧
    (s.freezeAxis a freeze).log = (if freeze then s.endTeach a Status.learnGated else s).log := by
  obtain ⟨hframe, hother, hown⟩ := endTeach_facts s a Status.learnGated
  rw [freezeAxis_eq]
  cases freeze
  · simp only [Bool.false_eq_true, if_false]
    exact ⟨rfl, fun b hb => State.onAx_ax_of_ne s _ hb, by rw [State.onAx_ax], by rw [State.onAx_ax], rfl⟩
  · simp only [if_true]
    generalize s.endTeach a Status.learnGated = u at hframe hother hown ⊢
    refine ⟨?_, fun b hb => (State.onAx_ax_of_ne u _ hb).trans (hother b hb), by rw [State.onAx_ax], by rw [State.onAx_ax, hown], rfl⟩
    rw [State.onAx, hframe]

/-! ### TEMPLATE_RESET (R293) -/

/-- The entries of an axis in a direction. -/
def inTable (a : Fin 16) (closing : Bool) (k : Nat) : Bool := binKey a closing 0 ≤ k && k < binKey a closing 0 + 512

theorem inTable_iff {a b : Fin 16} {c e : Bool} {n : Nat} (hn : n < 512) : inTable a c (binKey b e n) = true ↔ b = a ∧ e = c := by
  have ha := a.isLt
  have hb := b.isLt
  simp only [inTable, binKey, Bool.and_eq_true, Fin.ext_iff]
  cases c <;> cases e <;> simp <;> omega

theorem clearBins_binAt (s : State) (a : Fin 16) (closing : Bool) (k : Nat) :
    (s.clearBins a closing).binAt k = if inTable a closing k then {} else s.binAt k := by
  refine (read_filter (fun k => !inTable a closing k) s.motion.bins k).trans ?_
  cases inTable a closing k <;> rfl

/-- The directions of the mask cleared. -/
def resetBins (s : State) (a : Fin 16) (directions : Byte) : State :=
  let t := if directions.toNat.testBit 0 then s.clearBins a false else s
  if directions.toNat.testBit 1 then t.clearBins a true else t

theorem resetBins_facts (s : State) (a : Fin 16) (directions : Byte) :
    resetBins s a directions = { s with motion := { s.motion with bins := (resetBins s a directions).motion.bins } } ∧
    ∀ (b : Fin 16) (closing : Bool) (n : Nat), n < 512 → (resetBins s a directions).binAt (binKey b closing n) =
      (if b = a ∧ directions.toNat.testBit (if closing then 1 else 0) then {} else s.binAt (binKey b closing n)) := by
  refine ⟨?_, fun b closing n hn => ?_⟩
  · simp only [resetBins]
    split <;> split <;> rfl
  · have hit : ∀ c, inTable a c (binKey b closing n) = decide (b = a ∧ closing = c) := fun c => by
      rw [Bool.eq_iff_iff, inTable_iff hn, decide_eq_true_eq]
    simp only [resetBins]
    cases h0 : directions.toNat.testBit 0 <;> cases h1 : directions.toNat.testBit 1 <;> cases closing <;>
      simp only [Bool.false_eq_true, if_false, if_true, clearBins_binAt, hit, h0, h1, and_true, and_false, decide_false, reduceCtorEq] <;>
      by_cases hb : b = a <;> simp [hb]

/-! ### Saves (R294) -/

/-- Whether an address lies in the slot of a save. -/
def inSlot (k : Fin 2) (x : Nat) : Prop := templateBase k ≤ x ∧ x < templateBase k + 0x20000

theorem flashErase_flash (s : State) (a n x : Nat) : Sparse.read flashDefault (s.flashErase a n).flash x =
    if a ≤ x ∧ x < a + n then flashDefault x else Sparse.read flashDefault s.flash x := by
  refine (read_filter (fun y => !(decide (a ≤ y) && decide (y < a + n))) s.flash x).trans ?_
  rw [← Bool.decide_and]
  by_cases h : a ≤ x ∧ x < a + n
  · rw [decide_eq_true h, if_pos h]
    rfl
  · rw [decide_eq_false h, if_neg h]
    rfl

/-- The slot erased and the save ended. -/
def saveEnded (s : State) : State :=
  { s.flashErase (templateBase s.templateTarget) 0x20000 with
    motion := { s.motion with saving := false, badSlot := s.motion.badSlot.set s.templateTarget false }
    cfg := { s.cfg with flash := none } }

/-- The image programmed and found good. -/
def saveVerified (s : State) (image : List Byte) : State :=
  ((saveEnded s).flashProgram (templateBase s.templateTarget) image).clearFault 0x0B04 255

theorem exec_templateSaveComplete {report : FlashReport} {s : State} (h : s.cfg.flash = some .templateSave) :
    exec (.templateSaveComplete report) s = .next (
      if report.verified then
        State.event { saveVerified s (s.dramRead templateCopy 102400) with
          motion := { (saveVerified s (s.dramRead templateCopy 102400)).motion with
            saveGeneration := field 4 4 (s.dramRead templateCopy 102400) } }
          { code := 0x0B80, inst := 255, kind := 2, cls := 3, data := leBytes 4 (field 4 4 (s.dramRead templateCopy 102400)), frame := s.frame64 }
      else (saveEnded s).raise 0x0B04 255) :=
  congrArg Host.Outcome.next (if_pos h)

theorem saveVerified_frame (s : State) (image : List Byte) : saveVerified s image =
    { saveEnded s with flash := Memory.writeBytes flashDefault (saveEnded s).flash (templateBase s.templateTarget) image,
                       badFlash := (saveVerified s image).badFlash, faults := (saveVerified s image).faults, log := (saveVerified s image).log } := by
  unfold saveVerified
  rw [State.clearFault_frame]
  rfl

/-- Outside its slot a save leaves the flash as it was. -/
theorem saveEnded_outside {s : State} {x : Nat} (h : ¬inSlot s.templateTarget x) :
    Sparse.read flashDefault (saveEnded s).flash x = Sparse.read flashDefault s.flash x :=
  (flashErase_flash s _ 0x20000 x).trans (if_neg h)

theorem saveVerified_flash (s : State) {image : List Byte} (hlen : image.length = 102400) :
    (∀ x, ¬inSlot s.templateTarget x → Sparse.read flashDefault (saveVerified s image).flash x = Sparse.read flashDefault s.flash x) ∧
    (s.canonical = true → ∀ (x : Nat) (hx : x < image.length),
      Sparse.read flashDefault (saveVerified s image).flash (templateBase s.templateTarget + x) = image[x]) := by
  rw [saveVerified_frame]
  refine ⟨fun x hx => (read_writeBytes_outside _ ?_).trans (saveEnded_outside hx), fun hcanonical x hx => ?_⟩
  · unfold inSlot at hx
    omega
  · exact Memory.read_writeBytes_inside (wf_filter _ (canonical_iff.mp hcanonical).2.2) _ _ hx

theorem flashRead_one (s : State) (x : Nat) : s.flashRead x 1 = [Sparse.read flashDefault s.flash x] := rfl

theorem not_inSlot {k : Fin 2} {x : Nat} (h : x < templateBase k ∨ templateBase k + 0x20000 ≤ x) : ¬inSlot k x := by
  unfold inSlot
  omega

/-- A save that has failed. -/
theorem templateSave_failed {report : FlashReport} {s : State} (hflash : s.cfg.flash = some .templateSave) (h : report.verified = false) :
    Answers (exec (.templateSaveComplete report) s) (fun t =>
      t.cfg.flash = none ∧ t.motion.saving = false ∧ Raised s t 0x0B04 255 ∧ t.dram = s.dram ∧
      ∀ x : Nat, x < templateBase s.templateTarget ∨ templateBase s.templateTarget + 0x20000 ≤ x → t.flashRead x 1 = s.flashRead x 1) := by
  have hraised : Raised s ((saveEnded s).raise 0x0B04 255) 0x0B04 255 := raised_raise (saveEnded s) 255 (by decide)
  have hframe := State.raise_frame (saveEnded s) 0x0B04 255
  rw [exec_templateSaveComplete hflash, h, if_neg Bool.false_ne_true]
  generalize (saveEnded s).raise 0x0B04 255 = t at hraised hframe ⊢
  refine ⟨t, rfl, by rw [hframe]; rfl, by rw [hframe]; rfl, hraised, by rw [hframe]; rfl, fun x hx => ?_⟩
  rw [flashRead_one, flashRead_one, hframe]
  exact congrArg (· :: []) (saveEnded_outside (not_inSlot hx))

/-- A save that has been verified. -/
theorem templateSave_verified {report : FlashReport} {s : State} (hflash : s.cfg.flash = some .templateSave) (h : report.verified = true) :
    Answers (exec (.templateSaveComplete report) s) (fun t =>
      t.cfg.flash = none ∧ t.motion.saving = false ∧ t.isActive 0x0B04 255 = false ∧ t.dram = s.dram ∧
      t.motion.saveGeneration = ofLe (s.dramRead (templateCopy + 4) 4) ∧
      (s.canonical = true → ∀ x : Nat, x < 102400 → t.flashRead (templateBase s.templateTarget + x) 1 = s.dramRead (templateCopy + x) 1) ∧
      (∀ x : Nat, x < templateBase s.templateTarget ∨ templateBase s.templateTarget + 0x20000 ≤ x → t.flashRead x 1 = s.flashRead x 1)) := by
  have hlen : (s.dramRead templateCopy 102400).length = 102400 := readBytes_length ..
  obtain ⟨houtside, hinside⟩ := saveVerified_flash s hlen
  have hgone : (saveVerified s (s.dramRead templateCopy 102400)).isActive 0x0B04 255 = false := isActive_clearFault ..
  have hgeneration : field 4 4 (s.dramRead templateCopy 102400) = ofLe (s.dramRead (templateCopy + 4) 4) := field_readBytes _ _ _ (by omega)
  have hbyte : ∀ (x : Nat) (hx : x < (s.dramRead templateCopy 102400).length),
      (s.dramRead templateCopy 102400)[x] = Sparse.read dramDefault s.dram (templateCopy + x) := fun x hx => readBytes_getElem _ _ _ _ hx
  have hframe := saveVerified_frame s (s.dramRead templateCopy 102400)
  rw [exec_templateSaveComplete hflash, h, if_pos rfl, hgeneration]
  generalize s.dramRead templateCopy 102400 = image at hlen houtside hinside hgone hbyte hframe ⊢
  have hcfg : (saveVerified s image).cfg = (saveEnded s).cfg := by rw [hframe]
  have hmotion : (saveVerified s image).motion = (saveEnded s).motion := by rw [hframe]
  have hdram : (saveVerified s image).dram = (saveEnded s).dram := by rw [hframe]
  generalize saveVerified s image = u at houtside hinside hgone hcfg hmotion hdram ⊢
  refine ⟨_, rfl, congrArg Config.flash hcfg, ?_, hgone, hdram, rfl, fun hcanonical x hx => ?_, fun x hx => ?_⟩
  · exact congrArg Motion.saving hmotion
  · exact congrArg (· :: []) ((hinside hcanonical x (by omega)).trans (hbyte x (by omega)))
  · exact congrArg (· :: []) (houtside x (not_inSlot hx))

/-- Settles O42: the checks and effects of the three template commands, and the two ends of a save. -/
theorem templateCommands : Obligations.TemplateCommands := by
  refine ⟨fun r axis mode cycles a k s h ha => ?_, fun r axis freeze a k s ha => ⟨fun h hform => ?_, fun h hform => ?_⟩,
    fun r axis directions a k s h ha => ⟨fun hbad => ?_, fun hlow hhigh => ?_⟩,
    fun report s => ⟨fun h => congrArg Host.Outcome.next (if_neg h), templateSave_failed, templateSave_verified⟩⟩
  · obtain ⟨hform, hcount, hstate⟩ := firstFail_learnChecks s a mode cycles
    refine ⟨fun hbad => templateLearn_refused h ha (hform hbad), fun hmode hcycles => templateLearn_refused h ha (hcount hmode hcycles),
      fun hgood => ⟨fun hgated => templateLearn_refused h ha ((hstate hgood).1 hgated), fun hlimp hhomed hfrozen => ?_⟩⟩
    have hlast := (hstate hgood).2 hlimp hhomed hfrozen
    have hpass : (s.ax a).template.teach = none ∨ mode = 0 → firstFail (learnChecks s a mode cycles) = none := fun hok => by
      rw [hlast]
      rcases hok with hok | rfl
      · rw [hok, Option.isSome_none, Bool.and_false]
        rfl
      · rfl
    refine ⟨fun hmode hteach => templateLearn_refused h ha (by rw [hlast, hmode, hteach]; rfl), fun hmode hteach => ?_, fun hmode hteach => ?_,
      fun hmode hteach => ?_⟩ <;> rw [exec_templateLearn h ha, State.checked_pass (hpass (by simp [hteach, hmode]))]
    · rw [if_neg (by rw [hmode]; decide)]
      refine ⟨_, congrArg Host.Outcome.next (answer_of_sessions (s := s) (t := s.onAx a _) (State.slotOf_of_admits h) rfl _ _ _), rfl,
        fun b hb => State.onAx_ax_of_ne s _ hb, State.onAx_ax ..⟩
    · rw [if_pos hmode, endTeach_none _ hteach]
      exact congrArg Host.Outcome.next (answer_of_admits h ..)
    · obtain ⟨hframe, hother, hown⟩ := endTeach_facts s a Status.txnAborted
      have hlog : ∃ e, (s.endTeach a Status.txnAborted).log = { s.log with fresh := s.log.fresh ++ [e] } ∧ e.code = 0x0280 ∧
          e.detail = Status.txnAborted ∧ e.extra = (s.ax a).template.teachSeq.toNat := by
        rw [endTeach_running _ hteach]
        exact complete_log (s.onAx a _) ..
      rw [if_pos hmode]
      generalize s.endTeach a Status.txnAborted = u at hframe hother hown hlog ⊢
      have hcmd : u.cmd = s.cmd := by rw [hframe]
      refine ⟨_, congrArg Host.Outcome.next (answer_of_sessions (State.slotOf_of_admits h) (congrArg Commands.sessions hcmd) _ _ _), ?_, hother,
        congrArg (fun x : Axis => x.template.teach) hown, hlog⟩
      rw [State.withReply, hframe]
      rfl
  · have hexec : exec (.templateFreeze r axis freeze) s = .next (s.refuse r 0xC3 Status.badParameter) := by
      refine congrArg Host.Outcome.next ((onAxis_of_admits h ha _).trans (State.checked_fail ?_ _))
      rw [decide_eq_true hform]
      rfl
    rw [hexec]
    exact congrArg Host.Outcome.next (answer_of_admits h ..)
  · obtain ⟨hframe, hother, hfrozen, hteach, hlog⟩ := freezeAxis_facts s a (freeze = 1)
    rw [exec_templateFreeze h ha hform]
    have hadmits := (State.direct_facts h).1
    generalize s.freezeAxis a (freeze = 1) = u at hframe hother hfrozen hteach hlog ⊢
    have hcmd : u.cmd = s.cmd := by rw [hframe]
    simp only [decide_eq_true_eq] at hteach hlog
    refine ⟨_, congrArg Host.Outcome.next (answer_of_sessions (State.slotOf_of_admits hadmits) (congrArg Commands.sessions hcmd) _ _ _), ?_, hother,
      hfrozen, hteach, fun hone hrun => ?_, fun hnot => ?_⟩
    · rw [State.withReply, hframe]
      rfl
    · obtain ⟨e, he, hcode, hdetail, -⟩ := complete_log (s.onAx a (fun x => { x with template := { x.template with teach := none } }))
        (s.ax a).template.teachSlot (s.ax a).template.teachSeq 0xC2 Status.learnGated
      refine ⟨e, hlog.trans ?_, hcode, hdetail⟩
      rw [if_pos hone, endTeach_running _ hrun]
      exact he
    · refine hlog.trans ?_
      split
      · next hone =>
        rw [endTeach_none _ (hnot.resolve_left (by rw [hone]; decide))]
      · rfl
  · have hexec : exec (.templateReset r axis directions) s = .next (s.refuse r 0xC4 Status.badParameter) := by
      refine congrArg Host.Outcome.next ((onAxis_of_admits h ha _).trans (State.checked_fail ?_ _))
      rw [decide_eq_true (hbad.imp (fun h => by rw [h]; decide) id)]
      rfl
    rw [hexec]
    exact congrArg Host.Outcome.next (answer_of_admits h ..)
  · have hexec : exec (.templateReset r axis directions) s = .next ((resetBins s a directions).answer r 0xC4 Status.ok .bare) := by
      refine congrArg Host.Outcome.next ((onAxis_of_admits h ha _).trans (State.checked_pass ?_ _))
      rw [decide_eq_false (by omega)]
      rfl
    obtain ⟨hframe, hbins⟩ := resetBins_facts s a directions
    rw [hexec]
    generalize resetBins s a directions = u at hframe hbins ⊢
    have hcmd : u.cmd = s.cmd := by rw [hframe]
    refine ⟨_, congrArg Host.Outcome.next (answer_of_sessions (State.slotOf_of_admits h) (congrArg Commands.sessions hcmd) _ _ _), ?_, hbins⟩
    rw [State.withReply, hframe]
    rfl

end Sys2Proof.Proofs
end

section
/-! PROOF. The statement on the data port (R354 to R362). -/

namespace Sys2Proof.Proofs
open Sys2Proof.Machine

/-! ### DATA_OPEN (R354, R355, R358) -/

theorem binWrites_frame (s : State) (l : List (Nat × Bin)) :
    s.each l (fun x t => t.dramWrite (templateSpace + 8 * x.1) (binRow x.2)) =
      { s with dram := (s.each l (fun x t => t.dramWrite (templateSpace + 8 * x.1) (binRow x.2))).dram
               badDram := (s.each l (fun x t => t.dramWrite (templateSpace + 8 * x.1) (binRow x.2))).badDram } := by
  unfold State.each
  induction l generalizing s with
  | nil => rfl
  | cons x l ih =>
    simp only [List.foldl_cons]
    rw [ih]
    rfl

theorem copyTable_frame (s : State) : s.copyTable = { s with dram := s.copyTable.dram, badDram := s.copyTable.badDram } := by
  unfold State.copyTable
  extract_lets t
  exact (binWrites_frame t s.motion.binsLast).trans rfl

/-- The handles that a session has open. -/
def ownHandles (s : State) (k : Fin 8) : List (Fin 8) :=
  (allFin 8).filter (fun i => match s.hp.handles[i] with | some h => h.owner = k && !h.ended | none => false)

/-- Whether an open handle has a property. -/
def anyHandle (s : State) (p : Handle → Bool) : Bool := s.hp.handles.toList.any (fun o => match o with | some h => p h | none => false)

/-- The first free handle. -/
def freeHandle (s : State) : Option (Fin 8) := (allFin 8).find? (fun i => (s.hp.handles[i]).isNone)

/-- The checks of DATA_OPEN. -/
def openChecks (s : State) (k : Fin 8) (space flags : Byte) (address length : Word) : List (Bool × Nat) :=
  [(decide (4 < space.toNat ∨ 2 ≤ flags.toNat) || (flags.getLsbD 0 && space != 1), Status.badParameter),
   (decide (length.toNat = 0 ∨ (s.spaceSize space.toNat).getD 0 < address.toNat + length.toNat), Status.outOfRange),
   ((freeHandle s).isNone || decide (4 ≤ (ownHandles s k).length), Status.busy),
   (flags.getLsbD 0 && anyHandle s (fun h => h.space = 1 && h.write), Status.busy),
   (space = 3 && anyHandle s (fun h => h.space = 3), Status.busy),
   (flags.getLsbD 0 && (match s.cfg.flashRange with | some (o, n) => overlaps o n address.toNat length.toNat | none => false), Status.busy),
   (space = 4 && !decide (s.power.mode = .service), Status.wrongMode)]

theorem anyHandle_false {s : State} {p : Handle → Bool} (h : ∀ (j : Fin 8) x, s.hp.handles[j] = some x → p x = false) : anyHandle s p = false := by
  refine List.any_eq_false.mpr fun o ho => ?_
  obtain ⟨j, hj, rfl⟩ := List.getElem_of_mem ho
  have hj8 : j < 8 := by simpa using hj
  rcases hx : s.hp.handles[(⟨j, hj8⟩ : Fin 8)] with _ | x
  · have : s.hp.handles.toList[j] = none := by simpa using hx
    rw [this]
    exact Bool.false_ne_true
  · have hsome : s.hp.handles.toList[j] = some x := by simpa using hx
    rw [hsome]
    simp only [h ⟨j, hj8⟩ x hx, Bool.false_eq_true, not_false_eq_true]

theorem find_allFin {n : Nat} {p : Fin n → Bool} {i : Fin n} (hi : p i = true) (hfirst : ∀ j : Fin n, j < i → p j = false) :
    (allFin n).find? p = some i := by
  refine List.find?_eq_some_iff_getElem.mpr ⟨hi, i.val, by simp [allFin], by simp [allFin], fun j hj => ?_⟩
  have hjn : (⟨j, Nat.lt_trans hj i.isLt⟩ : Fin n) < i := hj
  simpa [allFin] using hfirst ⟨j, Nat.lt_trans hj i.isLt⟩ hjn

theorem getLsbD_zero_of_flag {flags : Byte} (h : flags.toNat < 2) : flags.getLsbD 0 = decide (flags = 1) := by
  have : flags = 0 ∨ flags = 1 := by bv_omega
  rcases this with rfl | rfl <;> rfl

/-- The row under which DATA_OPEN runs (R103, Table 3.6). -/
def openRow (flags : Byte) : OpRow := ⟨0x60, if flags.getLsbD 0 then .control else .observer, .rs, false, .refused, flags.getLsbD 0⟩

/-- What an opened handle leaves. -/
def opened (s : State) (k : Fin 8) (space flags : Byte) (address length : Word) (i : Fin 8) : State :=
  (if space = 3 then s.copyTable else s).setHandle i (some { owner := k, space := space.toNat, write := flags.getLsbD 0
                                                             base := address.toNat, length := length.toNat })

theorem exec_dataOpen {r : Req} {k : Fin 8} {space flags : Byte} {address length : Word} {s : State} {x : Session} {i : Fin 8}
    (hslot : s.slotOf r.src = some k) (hx : s.session k = some x) (hadmission : s.admission (openRow flags) r x.role = none)
    (hpass : firstFail (openChecks s k space flags address length) = none) (hfree : freeHandle s = some i) :
    exec (.dataOpen r space flags address length) s =
      .next ((opened s k space flags address length i).answer r 0x60 Status.ok (.bytes (leBytes 1 (i.val + 1) ++ [0, 0, 0]))) := by
  refine congrArg Host.Outcome.next ?_
  unfold State.requestRow
  simp only [hslot, hx]
  rw [show s.admission ⟨0x60, if flags.getLsbD 0 then .control else .observer, .rs, false, .refused, flags.getLsbD 0⟩ r x.role = none from hadmission]
  refine (State.checked_pass hpass _).trans ?_
  unfold freeHandle at hfree
  rw [hfree]
  rfl

/-- A session that may send DATA_OPEN, with CONTROL and no hold where it asks for write access. -/
theorem admission_openRow {r : Req} {k : Fin 8} {flags : Byte} {s : State} {x : Session} (h : s.admits 0x60 r k = true)
    (hx : s.session k = some x) (hwrite : flags.getLsbD 0 = true → x.role = .control ∧ s.mtr.hold = false) :
    s.admission (openRow flags) r x.role = none := by
  obtain ⟨-, op, y, hop, hy, hadmission⟩ := State.admits_facts h
  cases hx.symm.trans hy
  have hrow : op = openRow 0 := by
    have : opRow 0x60 = some (openRow 0) := by rfl
    exact Option.some.inj (hop.symm.trans this)
  rw [hrow] at hadmission
  cases hflag : flags.getLsbD 0
  · rw [openRow, hflag]
    exact hadmission
  · obtain ⟨hrole, hhold⟩ := hwrite hflag
    rw [openRow, hflag]
    unfold State.admission at hadmission ⊢
    rw [hrole] at hadmission ⊢
    rw [hhold] at hadmission ⊢
    exact hadmission

/-- The checks of DATA_OPEN on a request that the statement describes. -/
theorem openChecks_pass {s : State} {k : Fin 8} {space flags : Byte} {address length : Word} {i : Fin 8} {size : Nat}
    (hsize : s.spaceSize space.toNat = some size) (hflags : flags.toNat < 2)
    (hwrite : flags = 1 → space = 1 ∧ s.cfg.flashRange = none ∧ ∀ (j : Fin 8) h, s.hp.handles[j] = some h → ¬(h.space = 1 ∧ h.write = true))
    (htemplate : space = 3 → ∀ (j : Fin 8) h, s.hp.handles[j] = some h → h.space ≠ 3) (hflash : space = 4 → s.power.mode = .service)
    (hlength : length ≠ 0) (hrange : address.toNat + length.toNat ≤ size) (hfree : freeHandle s = some i) (hmine : (ownHandles s k).length < 4) :
    firstFail (openChecks s k space flags address length) = none := by
  have hspace : ¬4 < space.toNat := fun hbig => by
    have : s.spaceSize space.toNat = none := by
      unfold State.spaceSize
      split <;> first | omega | rfl
    rw [this] at hsize
    cases hsize
  have hlen : length.toNat ≠ 0 := fun h => hlength (BitVec.eq_of_toNat_eq h)
  have hflag := getLsbD_zero_of_flag hflags
  unfold openChecks
  rw [hsize, hfree, Option.getD_some, hflag]
  have hform : (decide (4 < space.toNat ∨ 2 ≤ flags.toNat) || (decide (flags = 1) && space != 1)) = false := by
    rw [decide_eq_false (p := _ ∨ _) (by omega), Bool.false_or]
    by_cases h1 : flags = 1
    · simp [h1, (hwrite h1).1]
    · rw [decide_eq_false h1, Bool.false_and]
  have hfits : decide (length.toNat = 0 ∨ size < address.toNat + length.toNat) = false := decide_eq_false (by omega)
  have hplace : ((some i).isNone || decide (4 ≤ (ownHandles s k).length)) = false := by
    rw [decide_eq_false (by omega)]
    rfl
  have hone : (decide (flags = 1) && anyHandle s (fun h => h.space = 1 && h.write)) = false := by
    by_cases h1 : flags = 1
    · rw [anyHandle_false fun j h hj => ?_, Bool.and_false]
      simpa using (hwrite h1).2.2 j h hj
    · rw [decide_eq_false h1, Bool.false_and]
  have htpl : (decide (space = 3) && anyHandle s (fun h => h.space = 3)) = false := by
    by_cases h3 : space = 3
    · rw [anyHandle_false fun j h hj => ?_, Bool.and_false]
      simpa using htemplate h3 j h hj
    · rw [decide_eq_false h3, Bool.false_and]
  have hclear : (decide (flags = 1) && (match s.cfg.flashRange with | some (o, n) => overlaps o n address.toNat length.toNat | none => false)) = false := by
    by_cases h1 : flags = 1
    · rw [(hwrite h1).2.1, Bool.and_false]
    · rw [decide_eq_false h1, Bool.false_and]
  have hservice : (decide (space = 4) && !decide (s.power.mode = .service)) = false := by
    by_cases h4 : space = 4
    · simp [h4, hflash h4]
    · rw [decide_eq_false h4, Bool.false_and]
  simp only [hform, hfits, hplace, hone, htpl, hclear, hservice, firstFail_false, firstFail_nil]

/-! ### DATA_READ, DATA_WRITE and DATA_CLOSE (R356, R357) -/

theorem setHandle_frame (s : State) (i : Fin 8) (o : Option Handle) :
    s.setHandle i o = { s with hp := { s.hp with handles := s.hp.handles.set i o } } := rfl

theorem portRead_good {s : State} {h : Handle} {a n : Nat} (hbad : s.spaceBad h a n = []) : s.portRead h a n = (s, some (s.spaceRead h a n)) := by
  simp only [State.portRead, hbad, if_true]

/-- The checks of DATA_READ. -/
def readChecks (s : State) (i : Fin 8) (h : Handle) (length : Half) : List (Bool × Nat) :=
  [(decide (length.toNat < 1 ∨ 1016 < length.toNat), Status.outOfRange), (s.bursting i, Status.busy),
   (decide (min length.toNat h.left = 0), Status.outOfRange)]

/-- What DATA_READ does behind its checks. -/
def readHandle (r : Req) (i : Fin 8) (h : Handle) (length : Half) (s : State) : State :=
  match s.portRead h h.at_ (min length.toNat h.left) with
  | (t, some bs) =>
    (t.setHandle i (some { h with moved := h.moved + min length.toNat h.left })).answer r 0x61 Status.ok (.bytes (leBytes 4 h.at_ ++ bs))
  | (t, none) => t.refuse r 0x61 Status.internal

theorem exec_dataRead {r : Req} {k : Fin 8} {handle : Byte} {n : Half} {i : Fin 8} {h : Handle} {s : State} (hadmits : s.admits 0x61 r k = true)
    (hh : s.handle k handle = some (i, h)) :
    exec (.dataRead r handle n) s = .next (s.checked r 0x61 (readChecks s i h n) (readHandle r i h n)) := by
  refine congrArg Host.Outcome.next ((State.request_of_admits hadmits _).trans ?_)
  simp only [hh]
  rfl

/-- The checks of DATA_WRITE. -/
def storeChecks (s : State) (i : Fin 8) (h : Handle) (bytes : List Byte) : List (Bool × Nat) :=
  [(!h.write, Status.badParameter), (s.bursting i, Status.busy), (decide (h.left < bytes.length), Status.outOfRange)]

theorem exec_dataWrite {r : Req} {k : Fin 8} {handle : Byte} {bytes : List Byte} {i : Fin 8} {h : Handle} {s : State}
    (hadmits : s.admits 0x62 r k = true) (hh : s.handle k handle = some (i, h)) :
    exec (.dataWrite r handle bytes) s = .next (s.checked r 0x62 (storeChecks s i h bytes) (fun s =>
      ((s.dramWrite (0x6000000 + h.at_) bytes).setHandle i (some { h with moved := h.moved + bytes.length })).answer r 0x62 Status.ok
        (.bytes (leBytes 4 (h.at_ + bytes.length))))) := by
  refine congrArg Host.Outcome.next ((State.request_of_admits hadmits _).trans ?_)
  simp only [hh]
  rfl

theorem exec_dataClose {r : Req} {k : Fin 8} {handle : Byte} {i : Fin 8} {h : Handle} {s : State} (hadmits : s.admits 0x63 r k = true)
    (hh : s.handle k handle = some (i, h)) :
    (s.bursting i = true → exec (.dataClose r handle) s = .next (s.refuse r 0x63 Status.busy)) ∧
    (s.bursting i = false → s.spaceBad h h.base h.moved = [] → exec (.dataClose r handle) s = .next ((s.setHandle i none).answer r 0x63 Status.ok
      (.bytes (leBytes 4 h.moved ++ leBytes 4 (crc32c (s.spaceRead h h.base h.moved)).toNat)))) := by
  refine ⟨fun hburst => congrArg Host.Outcome.next ((State.request_of_admits hadmits _).trans ?_), fun hburst hbad =>
    congrArg Host.Outcome.next ((State.request_of_admits hadmits _).trans ?_)⟩
  · simp only [hh, hburst, if_true]
  · simp only [hh, hburst, portRead_good hbad, Bool.false_eq_true, if_false]

/-- A request on a handle that the session does not hold. -/
theorem noHandle_refused {r : Req} {k : Fin 8} {handle : Byte} {s : State} (hh : s.handle k handle = none) :
    (s.admits 0x61 r k = true → ∀ n, exec (.dataRead r handle n) s = .next (s.withReply (replyOf r k 0x61 Status.badParameter .bare))) ∧
    (s.admits 0x62 r k = true → ∀ b, exec (.dataWrite r handle b) s = .next (s.withReply (replyOf r k 0x62 Status.badParameter .bare))) ∧
    (s.admits 0x63 r k = true → exec (.dataClose r handle) s = .next (s.withReply (replyOf r k 0x63 Status.badParameter .bare))) := by
  refine ⟨fun h n => ?_, fun h b => ?_, fun h => ?_⟩ <;>
    refine congrArg Host.Outcome.next ((State.request_of_admits h _).trans (Eq.trans ?_ (answer_of_admits h ..))) <;> simp only [hh] <;> rfl

/-- Bytes written to DRAM are read back, and no other byte has changed. -/
theorem dramWrite_reads (s : State) (a : Nat) (bytes : List Byte) (t : State) (ht : t.dram = (s.dramWrite a bytes).dram) :
    (s.canonical = true → t.dramRead a bytes.length = bytes) ∧
    ∀ x : Nat, x < a ∨ a + bytes.length ≤ x → t.dramRead x 1 = s.dramRead x 1 := by
  have hdram : t.dram = Memory.writeBytes dramDefault s.dram a bytes := ht
  refine ⟨fun hcanonical => ?_, fun x hx => ?_⟩
  · obtain ⟨-, hwf, -⟩ := canonical_iff.mp hcanonical
    refine List.ext_getElem (readBytes_length ..) fun k hk hk' => ?_
    refine (readBytes_getElem ..).trans ?_
    rw [hdram]
    exact Memory.read_writeBytes_inside hwf a bytes hk'
  · rw [State.dramRead, State.dramRead, readBytes_one, readBytes_one, hdram, read_writeBytes_outside _ hx]

/-! ### Raw bursts (R359 to R361) -/

/-- A frame that meets R348 and R350. -/
structure GoodFrame (s : State) (f : SpiFrame) : Prop where
  up : s.portUp = true
  ready : s.rdy f.fell = true
  type : f.otherType = false
  whole : f.cut = false
  timing : f.timingOk = true
  quad : f.quad = true → s.dev 0x0E00 ≠ 0

/-- The pins as a frame leaves them, with RDY rising at a count. -/
def seenFrame (s : State) (f : SpiFrame) (c : Option Nat) : State :=
  s.onPins (fun p => { p with fell := f.fell, rose := f.rose, readyAt := c, burst := none })

theorem not_keep_of_portUp {s : State} (h : s.portUp = true) : s.power.mode ≠ .keep := fun hk => by
  unfold State.portUp at h
  rw [hk] at h
  simp at h

/-- What a good frame runs: a write frame at once, a read frame with its data ready after a free time. -/
theorem spiFrame_good {s : State} {f : SpiFrame} (h : GoodFrame s f) : (∀ act, s.spiFrame f none act = act (seenFrame s f none)) ∧
    ∀ most : Nat, ∃ n ≤ most, ∀ act, s.spiFrame f (some most) act = act (seenFrame { s with free := s.free + 1 } f (some (f.headed + n))) := by
  have hquad : (f.quad && decide (s.dev 0x0E00 = 0)) = false := by
    rcases hq : f.quad with _ | _
    · rfl
    · rw [decide_eq_false (h.quad hq), Bool.and_false]
  have hgood : (!s.rdy f.fell || f.otherType || f.cut || !f.timingOk || (f.quad && decide (s.dev 0x0E00 = 0))) = false := by
    rw [hquad, h.ready, h.type, h.whole, h.timing]
    rfl
  have hrun : ∀ delay act, s.spiFrame f delay act = (match delay with
      | none => act (seenFrame s f none)
      | some most => act (seenFrame (s.within most).2 f (some (f.headed + (s.within most).1)))) := fun delay act => by
    unfold State.spiFrame
    rw [if_neg (not_keep_of_portUp h.up), if_neg (by rw [hgood]; exact Bool.false_ne_true)]
    rfl
  refine ⟨hrun none, fun most => ⟨(Config.freeInt s.free).toNat % (most + 1), ?_, fun act => hrun (some most) act⟩⟩
  exact Nat.le_of_lt_succ (Nat.mod_lt _ (Nat.succ_pos most))

/-- The check of a raw burst that the statement describes, on any state with the same sessions, handles and mode. -/
theorem burstCheck_pass {s t : State} {k i : Fin 8} {handle : Byte} {h : Handle} {n : Nat} {write : Bool} (hh : s.handle k handle = some (i, h))
    (hslot : s.slotOf { port := .spi } = some k) (hmode : s.power.mode ≠ .dormant) (hwrite : write = true → h.write = true)
    (hn : 1 ≤ n ∧ n ≤ 65536 ∧ n ≤ h.left) (hsessions : t.cmd.sessions = s.cmd.sessions) (hhandles : t.hp.handles = s.hp.handles)
    (hpower : t.power = s.power) : t.burstCheck handle n write = .inr (i, h) := by
  have hspi : t.spiSlot = some k := (State.slotOf_congr hsessions _).trans hslot
  have hfound : t.handle k handle = some (i, h) := by
    unfold State.handle at hh ⊢
    rw [hhandles]
    exact hh
  have hlength : ¬(n < 1 ∨ 65536 < n ∨ h.left < n) := by omega
  have hmay : (write && !h.write) = false := by
    rcases hw : write with _ | _
    · rfl
    · rw [hwrite hw]
      rfl
  simp only [State.burstCheck, hspi, Option.bind_some, hfound, hpower, if_neg hmode, hmay, Bool.false_eq_true, if_false, if_neg hlength]

/-- The bytes of a RAW_READ: its header, the data and their CRC. -/
def rawBytes (s : State) (h : Handle) (n : Nat) : List Byte :=
  leBytes 4 0 ++ leBytes 4 h.at_ ++ s.spaceRead h h.at_ n ++
    leBytes 4 (crc32c (leBytes 4 0 ++ leBytes 4 h.at_ ++ s.spaceRead h h.at_ n)).toNat

/-- RAW_READ of a range without bad words (R359, R360). -/
theorem exec_rawRead {s : State} {f : SpiFrame} {k i : Fin 8} {handle : Byte} {h : Handle} {n : Word} (hh : s.handle k handle = some (i, h))
    (hslot : s.slotOf { port := .spi } = some k) (hmode : s.power.mode ≠ .dormant) (hgood : GoodFrame s f) (hcomplete : f.complete = true)
    (hn : 1 ≤ n.toNat ∧ n.toNat ≤ 65536 ∧ n.toNat ≤ h.left) (hbad : s.spaceBad h h.at_ n.toNat = []) :
    ∃ d ≤ 1000, exec (.rawRead f handle n) s =
      .next (((((seenFrame { s with free := s.free + 1 } f (some (f.headed + d))).onPins (fun p => { p with burst := some i })).setHandle i
        (some { h with moved := h.moved + n.toNat })).setBurst Status.ok).driveOut (rawBytes s h n.toNat)) := by
  obtain ⟨-, hrun⟩ := spiFrame_good hgood
  obtain ⟨d, hd, heq⟩ := hrun 1000
  have hcheck : (seenFrame { s with free := s.free + 1 } f (some (f.headed + d))).burstCheck handle n.toNat false = .inr (i, h) :=
    burstCheck_pass hh hslot hmode (fun h => absurd h Bool.false_ne_true) hn rfl rfl rfl
  have hread : ((seenFrame { s with free := s.free + 1 } f (some (f.headed + d))).onPins (fun p => { p with burst := some i })).portRead
      h h.at_ n.toNat = ((seenFrame { s with free := s.free + 1 } f (some (f.headed + d))).onPins (fun p => { p with burst := some i }),
        some (s.spaceRead h h.at_ n.toNat)) := portRead_good hbad
  refine ⟨d, hd, congrArg Host.Outcome.next ((heq _).trans ?_)⟩
  generalize seenFrame { s with free := s.free + 1 } f (some (f.headed + d)) = u at hcheck hread ⊢
  simp only [hcheck, hread, hcomplete, if_true, clocked]
  rfl

/-- A burst that has driven its bytes leaves the pins of a read frame. -/
theorem readFrame_burst {s : State} {f : SpiFrame} {i : Fin 8} {o : Option Handle} {d : Nat} (hd : d ≤ 1000) (bs : List Byte) :
    ReadFrame { s with hp := { s.hp with handles := s.hp.handles.set i o, burstStatus := 0 } }
      (((((seenFrame { s with free := s.free + 1 } f (some (f.headed + d))).onPins (fun p => { p with burst := some i })).setHandle i o).setBurst
        Status.ok).driveOut bs) f 1000 { s.hp.pins with burst := some i } bs := by
  simp only [seenFrame, State.onPins, State.setHandle, State.setBurst, State.driveOut]
  exact ⟨rfl, f.headed + d, rfl, Nat.le_add_right .., Nat.add_le_add_left hd _⟩

/-- What a RAW_WRITE leaves of the pins. -/
def writtenPins (s : State) (f : SpiFrame) (i : Fin 8) (d : Nat) : SpiPins :=
  { s.hp.pins with fell := f.fell, rose := f.rose, readyAt := none, burst := some i, busyTo := f.rose + d }

/-- What a burst whose CRC fails leaves (R361). -/
def badBurst (s : State) : State := ((s.count 0x0E12 255).stick 0x0E10 255 1).setBurst Status.badCrc

theorem badBurst_frame (s : State) :
    badBurst s = { s with regs := (badBurst s).regs, saturated := (badBurst s).saturated, faults := (badBurst s).faults, log := (badBurst s).log
                          hp := { s.hp with burstStatus := BitVec.ofNat 8 Status.badCrc } } := by
  unfold badBurst State.setBurst State.stick State.setPar
  rw [count_frame]

/-- A free time of at most `most` counts is drawn. -/
theorem within_draws (s : State) (most : Nat) : ∃ n t, s.within most = (n, t) ∧ n ≤ most ∧ t = { s with free := s.free + 1 } :=
  ⟨_, _, rfl, Nat.le_of_lt_succ (Nat.mod_lt _ (Nat.succ_pos most)), rfl⟩

/-- RAW_WRITE of a complete burst (R361). -/
theorem exec_rawWrite {s : State} {f : SpiFrame} {k i : Fin 8} {handle : Byte} {h : Handle} {n : Word} {bytes : List Byte} {crc : Word}
    (hh : s.handle k handle = some (i, h)) (hslot : s.slotOf { port := .spi } = some k) (hmode : s.power.mode ≠ .dormant) (hgood : GoodFrame s f)
    (hcomplete : f.complete = true) (hn : 1 ≤ n.toNat ∧ n.toNat ≤ 65536 ∧ n.toNat ≤ h.left) (hwrite : h.write = true) (hlength : bytes.length = n.toNat) :
    ∃ d ≤ 400, ∃ u : State, u = { s with free := s.free + 1, hp := { s.hp with pins := writtenPins s f i d } } ∧
      (crc32c ([handle, 0, 0, 0] ++ leBytes 4 n.toNat ++ bytes) = crc → exec (.rawWrite f handle n bytes crc) s =
        .next (((u.dramWrite (0x6000000 + h.at_) bytes).setHandle i (some { h with moved := h.moved + n.toNat })).setBurst Status.ok)) ∧
      (crc32c ([handle, 0, 0, 0] ++ leBytes 4 n.toNat ++ bytes) ≠ crc → ∃ content : List Byte, content.length = n.toNat ∧
        exec (.rawWrite f handle n bytes crc) s =
          .next (badBurst { u.dramWrite (0x6000000 + h.at_) content with free := u.free + n.toNat })) := by
  obtain ⟨hrun, -⟩ := spiFrame_good hgood
  obtain ⟨d, u, hdraw, hd, hu⟩ := within_draws (seenFrame s f none) 400
  have hcheck : (u.onPins (fun p => { p with busyTo := f.rose + d })).burstCheck handle n.toNat true = .inr (i, h) := by
    rw [hu]
    exact burstCheck_pass hh hslot hmode (fun _ => hwrite) hn rfl rfl rfl
  refine ⟨d, hd, (u.onPins (fun p => { p with busyTo := f.rose + d })).onPins (fun p => { p with burst := some i }),
    by simp only [hu, seenFrame, State.onPins, writtenPins],
    fun hcrc => congrArg Host.Outcome.next ((hrun _).trans ?_), fun hcrc =>
    ⟨freeBytes u.free n.toNat, by simp [freeBytes], congrArg Host.Outcome.next ((hrun _).trans ?_)⟩⟩
  · simp only [hdraw, hcheck, hcomplete, hlength, hcrc, decide_true, Bool.and_self, if_true]
    rfl
  · simp only [hdraw, hcheck, hcomplete, hlength, decide_eq_false hcrc, Bool.and_false, Bool.false_eq_true, if_false]
    rfl

/-- A DATA_READ of a range without bad words. -/
theorem dataRead_pass {r : Req} {k i : Fin 8} {handle : Byte} {n : Half} {h : Handle} {s : State} (hadmits : s.admits 0x61 r k = true)
    (hh : s.handle k handle = some (i, h)) (hburst : s.bursting i = false) (hn : 1 ≤ n.toNat) (hn' : n.toNat ≤ 1016) (hleft : h.moved < h.length)
    (hbad : s.spaceBad h h.at_ (min n.toNat h.left) = []) :
    exec (.dataRead r handle n) s = .next (State.withReply
      { s with hp := { s.hp with handles := s.hp.handles.set i (some { h with moved := h.moved + min n.toNat h.left }) } }
      (replyOf r k 0x61 Status.ok (.bytes (leBytes 4 h.at_ ++ s.spaceRead h h.at_ (min n.toNat h.left))))) := by
  have hsome : min n.toNat h.left ≠ 0 := by
    unfold Handle.left
    omega
  have hpass : firstFail (readChecks s i h n) = none := by
    unfold readChecks
    simp only [decide_eq_false (p := n.toNat < 1 ∨ 1016 < n.toNat) (by omega), hburst, decide_eq_false hsome, firstFail_false, firstFail_nil]
  rw [exec_dataRead hadmits hh, State.checked_pass hpass, readHandle]
  simp only [portRead_good hbad]
  exact congrArg Host.Outcome.next (answer_of_sessions (s := s) (t := State.setHandle _ i _) (State.admits_facts hadmits).1 rfl ..)

/-- A DATA_WRITE within its handle's range. -/
theorem dataWrite_pass {r : Req} {k i : Fin 8} {handle : Byte} {bytes : List Byte} {h : Handle} {s : State} (hadmits : s.admits 0x62 r k = true)
    (hh : s.handle k handle = some (i, h)) (hburst : s.bursting i = false) (hwrite : h.write = true) (hfits : bytes.length ≤ h.left) :
    Answers (exec (.dataWrite r handle bytes) s) (fun t =>
      t = { s with dram := t.dram, badDram := t.badDram
                   hp := { s.hp with handles := s.hp.handles.set i (some { h with moved := h.moved + bytes.length }) }
                   cmd := (s.withReply (replyOf r k 0x62 Status.ok (.bytes (leBytes 4 (h.at_ + bytes.length))))).cmd } ∧
      (s.canonical = true → t.dramRead (0x6000000 + h.at_) bytes.length = bytes) ∧
      ∀ x : Nat, x < 0x6000000 + h.at_ ∨ 0x6000000 + h.at_ + bytes.length ≤ x → t.dramRead x 1 = s.dramRead x 1) := by
  have hpass : firstFail (storeChecks s i h bytes) = none := by
    unfold storeChecks
    simp only [hwrite, hburst, decide_eq_false (Nat.not_lt.mpr hfits), Bool.not_true, firstFail_false, firstFail_nil]
  rw [exec_dataWrite hadmits hh, State.checked_pass hpass, answer_of_sessions (s := s) (t := State.setHandle (State.dramWrite _ _ bytes) i _) (State.admits_facts hadmits).1 rfl]
  exact ⟨_, rfl, rfl, dramWrite_reads s _ bytes _ rfl⟩

/-- A DATA_OPEN that passes its checks. -/
theorem dataOpen_pass {r : Req} {k : Fin 8} {space flags : Byte} {address length : Word} {s : State} {x : Session} {i : Fin 8}
    (hslot : s.slotOf r.src = some k) (hx : s.session k = some x) (hadmission : s.admission (openRow flags) r x.role = none)
    (hflags : flags.toNat < 2) (hpass : firstFail (openChecks s k space flags address length) = none) (hfree : freeHandle s = some i) :
    exec (.dataOpen r space flags address length) s = .next (State.withReply
      { (if space = 3 then s.copyTable else s) with
        hp := { s.hp with handles := s.hp.handles.set i (some { owner := k, space := space.toNat, write := decide (flags = 1)
                                                                base := address.toNat, length := length.toNat }) } }
      (replyOf r k 0x60 Status.ok (.bytes (leBytes 1 (i.val + 1) ++ [0, 0, 0])))) := by
  rw [exec_dataOpen hslot hx hadmission hpass hfree, ← getLsbD_zero_of_flag hflags]
  have hopened : opened s k space flags address length i =
      { (if space = 3 then s.copyTable else s) with
        hp := { s.hp with handles := s.hp.handles.set i (some { owner := k, space := space.toNat, write := flags.getLsbD 0
                                                                base := address.toNat, length := length.toNat }) } } := by
    unfold opened
    split
    · rw [copyTable_frame]
      rfl
    · rfl
  have hsessions : (opened s k space flags address length i).cmd.sessions = s.cmd.sessions := by
    rw [hopened]
    split
    · rw [copyTable_frame]
    · rfl
  rw [answer_of_sessions hslot hsessions, hopened]

theorem busy_refused {r : Req} {k i : Fin 8} {handle : Byte} {h : Handle} {s : State} (hh : s.handle k handle = some (i, h))
    (hburst : s.bursting i = true) :
    (s.admits 0x61 r k = true → ∀ n : Half, 1 ≤ n.toNat → n.toNat ≤ 1016 →
      exec (.dataRead r handle n) s = .next (s.withReply (replyOf r k 0x61 Status.busy .bare))) ∧
    (s.admits 0x62 r k = true → ∀ b, exec (.dataWrite r handle b) s =
      .next (s.withReply (replyOf r k 0x62 (if h.write then Status.busy else Status.badParameter) .bare))) ∧
    (s.admits 0x63 r k = true → exec (.dataClose r handle) s = .next (s.withReply (replyOf r k 0x63 Status.busy .bare))) := by
  refine ⟨fun hadmits n hn hn' => ?_, fun hadmits b => ?_, fun hadmits => ?_⟩
  · have hfail : firstFail (readChecks s i h n) = some Status.busy := by
      unfold readChecks
      simp only [decide_eq_false (p := n.toNat < 1 ∨ 1016 < n.toNat) (by omega), hburst, firstFail_false, firstFail_true]
    rw [exec_dataRead hadmits hh, State.checked_fail hfail]
    exact congrArg Host.Outcome.next (answer_of_admits hadmits ..)
  · have hfail : firstFail (storeChecks s i h b) = some (if h.write then Status.busy else Status.badParameter) := by
      unfold storeChecks
      cases h.write <;> simp only [hburst, Bool.not_true, Bool.not_false, firstFail_false, firstFail_true, if_true, Bool.false_eq_true, if_false]
    rw [exec_dataWrite hadmits hh, State.checked_fail hfail]
    exact congrArg Host.Outcome.next (answer_of_admits hadmits ..)
  · rw [(exec_dataClose hadmits hh).1 hburst]
    exact congrArg Host.Outcome.next (answer_of_admits hadmits ..)

/-- Settles O44: each DATA request runs behind its checks, and a raw burst behind the check of its handle. -/
theorem dataPortMovesBytes : Obligations.DataPortMovesBytes := by
  unfold Obligations.DataPortMovesBytes
  refine ⟨fun r k handle s hh => noHandle_refused hh, ?_, ?_⟩
  · intro r k space flags address length i x size s hadmits hx hsize hflags hwrite htemplate hflash hlength hrange hfree hbefore hmine
    have hfirst : freeHandle s = some i := find_allFin (by rw [hfree]; rfl) fun j hj => by
      rw [Option.isNone_eq_false_iff]
      exact hbefore j hj
    refine dataOpen_pass (State.admits_facts hadmits).1 hx (admission_openRow hadmits hx fun hflag => ?_) hflags
      (openChecks_pass hsize hflags (fun h1 => ?_) htemplate hflash hlength hrange hfirst hmine) hfirst
    · rw [getLsbD_zero_of_flag hflags] at hflag
      obtain ⟨hrole, hhold, -⟩ := hwrite (of_decide_eq_true hflag)
      exact ⟨hrole, hhold⟩
    · obtain ⟨-, -, hstaging⟩ := hwrite h1
      exact hstaging
  · intro r k handle i h s hh
    refine ⟨busy_refused hh, fun n hadmits hn => ?_, fun n hburst hadmits hn hn' hleft hbad => dataRead_pass hadmits hh hburst hn hn' hleft hbad,
      fun bytes hburst hadmits hwrite hfits => dataWrite_pass hadmits hh hburst hwrite hfits, fun hburst hadmits hbad => ?_, ?_⟩
    · have hfail : firstFail (readChecks s i h n) = some Status.outOfRange := by
        unfold readChecks
        simp only [decide_eq_true hn, firstFail_true]
      rw [exec_dataRead hadmits hh, State.checked_fail hfail]
      exact congrArg Host.Outcome.next (answer_of_admits hadmits ..)
    · rw [(exec_dataClose hadmits hh).2 hburst hbad]
      exact congrArg Host.Outcome.next (answer_of_sessions (s := s) (t := State.setHandle _ i _) (State.admits_facts hadmits).1 rfl ..)
    · intro f n hup hready htype hwhole htiming hquad hcomplete hmode hslot hn hn' hleft
      have hgood : GoodFrame s f := ⟨hup, hready, htype, hwhole, htiming, hquad⟩
      refine ⟨fun hbad => ?_, fun bytes crc hwrite hlength => ?_⟩
      · obtain ⟨d, hd, hrun⟩ := exec_rawRead hh hslot hmode hgood hcomplete ⟨hn, hn', hleft⟩ hbad
        exact ⟨_, hrun, readFrame_burst hd (rawBytes s h n.toNat)⟩
      obtain ⟨d, hd, u, hu, hmatch, hmismatch⟩ := exec_rawWrite (crc := crc) hh hslot hmode hgood hcomplete ⟨hn, hn', hleft⟩ hwrite hlength
      refine ⟨fun hcrc => ⟨_, hmatch hcrc, ?_⟩, fun hcrc => ?_⟩
      · subst hu
        refine ⟨rfl, Nat.le_add_right .., Nat.add_le_add_left hd _, ?_⟩
        rw [← hlength]
        exact dramWrite_reads s _ bytes _ rfl
      · obtain ⟨content, hcontent, hrun⟩ := hmismatch hcrc
        have hreads := (dramWrite_reads s (0x6000000 + h.at_) content _ rfl).2
        rw [hcontent] at hreads
        refine ⟨_, hrun, ?_⟩
        rw [badBurst_frame]
        subst hu
        exact ⟨rfl, Nat.le_add_right .., Nat.add_le_add_left hd _, hreads⟩

end Sys2Proof.Proofs
end

section
/-! PROOF. The statement on the debug port (R492 to R494). -/

namespace Sys2Proof.Proofs
open Sys2Proof.Machine

theorem selects_up {s : State} (h : s.power.mode ≠ .keep) (code : Nat) (dr : List Byte) :
    s.selects code dr = { s with dbg := { s.dbg with selected := code, dr := dr } } := by
  unfold State.selects State.debugUp
  rw [decide_eq_false h]
  rfl

theorem selects_keep {s : State} (h : s.power.mode = .keep) (code : Nat) (dr : List Byte) : s.selects code dr = s := by
  unfold State.selects State.debugUp
  rw [decide_eq_true h]
  rfl

theorem debugUp_eq {s : State} (h : s.power.mode ≠ .keep) : s.debugUp = true := by
  unfold State.debugUp
  rw [decide_eq_false h]
  rfl

/-! ### The instructions without a token -/

theorem port_keep {s : State} (h : s.power.mode = .keep) :
    exec .idcode s = .next s ∧ exec .challenge s = .next s ∧ exec .dbgStatus s = .next s ∧ exec .bypass s = .next s ∧
    (∀ token, exec (.unlock token) s = .next s) ∧ ∀ bit, exec (.debugReset bit) s = .next s := by
  have hdown : s.debugUp = false := by
    unfold State.debugUp
    rw [decide_eq_true h]
    rfl
  refine ⟨congrArg _ (selects_keep h ..), congrArg _ (selects_keep h ..), congrArg _ (selects_keep h ..), congrArg _ (selects_keep h ..), fun token =>
    congrArg Host.Outcome.next ?_, fun bit => congrArg Host.Outcome.next (if_neg fun hup => ?_)⟩
  · rw [selects_keep h, hdown]
    rfl
  · rw [hdown] at hup
    exact Bool.false_ne_true hup.2

theorem unlock_starts {s : State} (h : s.power.mode ≠ .keep) (token : List Byte) :
    (s.dbg.failures < 3 → exec (.unlock token) s =
      .next { s with dbg := { s.dbg with selected := 9, dr := [], token := some (slice 0 108 token) } }) ∧
    (3 ≤ s.dbg.failures → exec (.unlock token) s = .next { s with dbg := { s.dbg with selected := 9, dr := [] } }) := by
  have hup := debugUp_eq h
  refine ⟨fun hfew => congrArg Host.Outcome.next ?_, fun hmany => congrArg Host.Outcome.next ?_⟩
  · rw [selects_up h]
    exact if_neg (by simp only [hup, Bool.not_true, Bool.false_eq_true, false_or]; omega)
  · rw [selects_up h]
    exact if_pos (Or.inr hmany)

/-! ### The check of a token (R493) -/

theorem tokenCheck {s : State} {b : List Byte} (h : s.dbg.token = some b) :
    (s.tokenOk b = true → Answers (exec .tokenCheckDone s) (fun t => Raised s t 0x0002 255 ∧ t.unlocked = true ∧
      t = { s with dbg := { s.dbg with token := none, scope := field 36 4 b }, faults := t.faults, log := t.log })) ∧
    (s.tokenOk b = false → Answers (exec .tokenCheckDone s) (fun t => Raised s t 0x0003 255 ∧
      t = { s with dbg := { s.dbg with token := none, failures := s.dbg.failures + 1 }, faults := t.faults, log := t.log })) := by
  have hrun : exec .tokenCheckDone s = .next (if s.tokenOk b then
      ({ s with dbg := { s.dbg with token := none, scope := field 36 4 b } } : State).raise 0x0002 255
      else ({ s with dbg := { s.dbg with token := none, failures := s.dbg.failures + 1 } } : State).raise 0x0003 255) := by
    refine congrArg Host.Outcome.next ?_
    simp only [h]
    rfl
  refine ⟨fun hok => ⟨_, hrun.trans (congrArg _ (if_pos hok)), ?_, isActive_raise (by decide), ?_⟩,
    fun hbad => ⟨_, hrun.trans (congrArg _ (if_neg (by rw [hbad]; exact Bool.false_ne_true))), ?_, ?_⟩⟩
  · exact raised_raise ({ s with dbg := { s.dbg with token := none, scope := field 36 4 b } } : State) 255 (by decide)
  · rw [State.raise_frame]
  · exact raised_raise ({ s with dbg := { s.dbg with token := none, failures := s.dbg.failures + 1 } } : State) 255 (by decide)
  · rw [State.raise_frame]

/-! ### CORE_ACCESS (R494) -/

/-- A locked port reaches no core and no memory. -/
theorem coreAccess_locked {s : State} (h : s.unlocked = false) (lane : Fin 2) (op : CoreOp) : exec (.coreAccess lane op) s = .next s := by
  refine congrArg Host.Outcome.next ?_
  cases op with
  | memoryRead m a n => cases m <;> simp only [h, Bool.false_and, Bool.false_eq_true, false_and, if_false]
  | _ => simp only [h, Bool.false_and, Bool.false_eq_true, false_and, if_false]

/-- What CORE_ACCESS leaves selected. -/
def coreSelected (s : State) : State := { s with dbg := { s.dbg with selected := 0xC } }

/-- Out of its scope an open port selects CORE_ACCESS and does nothing more. -/
theorem coreAccess_outOfScope {s : State} (hopen : s.unlocked = true) (hmode : s.power.mode ≠ .keep) {lane : Fin 2}
    (hlane : s.dbg.scope.testBit lane.val = false) (hmem : s.dbg.scope.testBit 2 = false) (op : CoreOp) :
    exec (.coreAccess lane op) s = .next (coreSelected s) := by
  refine congrArg Host.Outcome.next ?_
  have hsel : s.selects 0xC s.dbg.dr = coreSelected s := selects_up hmode ..
  cases op with
  | memoryRead m a n => cases m <;> simp only [hopen, hlane, hmem, Bool.and_false, if_true, if_false, hsel, Bool.false_eq_true, false_and, and_false]
  | _ => simp only [hopen, hlane, Bool.and_false, false_and, if_true, if_false, hsel, Bool.false_eq_true]

/-- In its scope an open port halts and resumes a core. -/
theorem coreAccess_halt {s : State} (hopen : s.unlocked = true) (hmode : s.power.mode ≠ .keep) {lane : Fin 2}
    (hlane : s.dbg.scope.testBit lane.val = true) (core : Fin 2) :
    exec (.coreAccess lane (.halt core)) s = .next ((coreSelected s).onDbg (fun x => x.setHalted (coreNumber lane core) true)) ∧
    exec (.coreAccess lane (.resume core)) s =
      .next ((coreSelected s).onDbg (fun x => (x.setHalted (coreNumber lane core) false).runs lane core)) := by
  have hsel : s.selects 0xC s.dbg.dr = coreSelected s := selects_up hmode ..
  refine ⟨congrArg Host.Outcome.next ?_, congrArg Host.Outcome.next ?_⟩ <;>
    simp only [hsel, hopen, hlane, Bool.and_self, if_true]

theorem laneHalted_set (d : Debug) (lane core : Fin 2) : (d.setHalted (coreNumber lane core) true).laneHalted lane = true := by
  unfold Debug.laneHalted Debug.setHalted coreNumber
  match core with
  | 0 => simp
  | 1 => simp

/-- A register written into a halted core is read back. -/
theorem register_readsBack {s : State} (hopen : s.unlocked = true) (hmode : s.power.mode ≠ .keep) {lane core : Fin 2} (n v : Nat)
    (hlane : s.dbg.scope.testBit lane.val = true) (hhalted : s.dbg.halted[coreNumber lane core] = true) :
    Answers (exec (.coreAccess lane (.registerWrite core n v)) s) (fun t => t = { s with dbg := t.dbg } ∧
      Answers (exec (.coreAccess lane (.registerRead core n)) t) (fun u => u.dbg.dr = leBytes 4 v)) := by
  have hsel : s.selects 0xC s.dbg.dr = coreSelected s := selects_up hmode ..
  refine ⟨(coreSelected s).onDbg (fun x => x.writeReg (coreNumber lane core) n v), congrArg Host.Outcome.next ?_, rfl, ?_⟩
  · simp only [hsel, hopen, hlane, hhalted, Bool.and_self, and_self, if_true]
  · refine ⟨_, rfl, ?_⟩
    have hopen' : ((coreSelected s).onDbg (fun x => x.writeReg (coreNumber lane core) n v)).unlocked = true := hopen
    have hlane' : ((coreSelected s).onDbg (fun x => x.writeReg (coreNumber lane core) n v)).dbg.scope.testBit lane.val = true := hlane
    have hhalted' : ((coreSelected s).onDbg (fun x => x.writeReg (coreNumber lane core) n v)).dbg.halted[coreNumber lane core] = true := hhalted
    simp only [hopen', hlane', hhalted', Bool.and_self, if_true]
    simp [State.onDbg, Debug.writeReg, heldOr, upd]

/-- A read of DRAM or flash through the port that meets no uncorrectable word. -/
theorem coreRead_clean {s : State} {flash : Bool} {a n : Nat} (h : s.badWords flash a n = []) :
    s.coreRead flash a n = { s with free := s.free + n, dbg := { s.dbg with dr := if flash then s.flashRead a n else s.dramRead a n } } := by
  have hmeet : s.meetBad flash a n = s := by
    unfold State.meetBad
    rw [h]
    rfl
  unfold State.coreRead
  rw [h, hmeet]
  have hshown : ∀ bs : List Byte, (bs.zip (List.range bs.length)).map (fun x => if ([] : List Nat).contains ((a + x.2) / 8) then
      BitVec.ofInt 8 (Config.freeInt (s.free + x.2)) else x.1) = bs := fun bs => by
    simpa using List.map_fst_zip (l₁ := bs) (l₂ := List.range bs.length) (by simp)
  simp only [hshown]
  rfl

/-- Reads of DRAM and flash through an open port with scope bit 2; the key store it does not reach. -/
theorem coreAccess_memory {s : State} (hopen : s.unlocked = true) (hmode : s.power.mode ≠ .keep) (lane : Fin 2) (a n : Nat)
    (hmem : s.dbg.scope.testBit 2 = true) :
    exec (.coreAccess lane (.memoryRead .dram a n)) s = .next ((coreSelected s).coreRead false a n) ∧
    (meetsKeys a n = true → exec (.coreAccess lane (.memoryRead .flash a n)) s = .next (coreSelected s)) ∧
    (meetsKeys a n = false → exec (.coreAccess lane (.memoryRead .flash a n)) s = .next ((coreSelected s).coreRead true a n)) := by
  have hsel : s.selects 0xC s.dbg.dr = coreSelected s := selects_up hmode ..
  refine ⟨congrArg Host.Outcome.next ?_, fun hkeys => congrArg Host.Outcome.next ?_, fun hkeys => congrArg Host.Outcome.next ?_⟩
  · simp only [hopen, hmem, hsel, and_self, if_true]
  · simp only [hopen, hmem, hsel, hkeys, Bool.not_true, Bool.false_eq_true, and_false, if_true, if_false]
  · simp only [hopen, hmem, hsel, hkeys, Bool.not_false, and_self, if_true]

/-! ### DEBUG_RESET -/

/-- A restart keeps the flash and notes its cause. -/
theorem restart_facts (s : State) {cause : Nat} (hcause : (cause : Int) ≠ regDefault (regKey 0x0010 255)) :
    (s.restart cause).power.booting = true ∧ (s.restart cause).frame64 = 0 ∧ (s.restart cause).flash = s.flash ∧
    (s.restart cause).torqueOff = true ∧ (s.restart cause).dbg.scope = 0 ∧ (s.restart cause).dbg.nonces = s.dbg.nonces + 1 ∧
    (s.restart cause).dev 0x0010 = cause := by
  refine ⟨rfl, rfl, rfl, rfl, rfl, rfl, ?_⟩
  unfold State.restart State.setDev State.dev State.setPar State.par Sparse.write
  simp only [if_neg hcause, Sparse.read_insert, if_true]

/-- Settles O60: each instruction of the port, by its token and its scope. -/
theorem debugPort : Obligations.DebugPort := by
  unfold Obligations.DebugPort
  intro s
  refine ⟨port_keep, fun hmode => ?_, fun hnone => ?_, fun b hb => tokenCheck hb, fun hlocked => ⟨coreAccess_locked hlocked, fun bit => ?_⟩,
    fun hopen hmode => ?_⟩
  · exact ⟨congrArg _ (selects_up hmode ..), congrArg _ (selects_up hmode ..), congrArg _ (selects_up hmode ..), congrArg _ (selects_up hmode ..),
      unlock_starts hmode⟩
  · refine congrArg Host.Outcome.next ?_
    simp only [hnone]
  · refine congrArg Host.Outcome.next (if_neg fun hup => ?_)
    rw [hlocked] at hup
    exact Bool.false_ne_true hup.1
  · refine ⟨fun lane hlane core => ?_, fun lane op hlane hmem => ⟨_, coreAccess_outOfScope hopen hmode hlane hmem op, rfl, rfl, rfl⟩,
      fun lane core n v hlane hhalted => register_readsBack hopen hmode n v hlane hhalted, fun lane a n hmem => ?_,
      congrArg Host.Outcome.next ?_, (s.selects 0xD []).restart 5, congrArg Host.Outcome.next ?_, ?_⟩
    · obtain ⟨hhalt, hresume⟩ := coreAccess_halt hopen hmode hlane core
      exact ⟨⟨_, hhalt, rfl, rfl, rfl, laneHalted_set _ lane core⟩, _, hresume, rfl, rfl⟩
    · obtain ⟨hdram, hkeys, hflash⟩ := coreAccess_memory hopen hmode lane a n hmem
      refine ⟨⟨_, hdram, fun hclean => ?_⟩, fun hmeets => ⟨_, hkeys hmeets, rfl, rfl⟩, fun hmeets => ⟨_, hflash hmeets, fun hclean => ?_⟩⟩
      · rw [coreRead_clean (s := coreSelected s) (flash := false) hclean]
        exact ⟨rfl, rfl⟩
      · rw [coreRead_clean (s := coreSelected s) (flash := true) hclean]
        exact ⟨rfl, rfl⟩
    · rw [if_pos ⟨hopen, debugUp_eq hmode⟩]
      exact selects_up hmode ..
    · exact (if_pos ⟨hopen, debugUp_eq hmode⟩).trans (if_pos rfl)
    · rw [selects_up hmode]
      exact restart_facts ({ s with dbg := { s.dbg with selected := 0xD, dr := [] } } : State) (by decide)

end Sys2Proof.Proofs
end

section
/-! PROOF. The statement on lane swaps and state copies (R333 to R335, R338, R339). -/

namespace Sys2Proof.Proofs
open Sys2Proof.Machine

/-! ### Divergence (R333, R340) -/

/-- The history of a lane with a divergence of this frame. -/
def historyWith (s : State) (lane : Nat) : List Long := (s.frame64 :: s.divergences lane).take 3

/-- What a divergence records. -/
def divergedLanes (s : State) (lane cause : Nat) (bays : Half) : Lanes :=
  { s.lanes with
    historyA := if lane = 0 then historyWith s lane else s.lanes.historyA
    historyB := if lane = 0 then s.lanes.historyB else historyWith s lane
    lastFrame := some s.frame32, lastBays := bays, lastCause := cause, lastLane := lane, copyAtTick := true }

/-- What a divergence changes: its record, its sticky bit and counter, and at the third LANE_FAULTY. -/
theorem diverges_facts (s : State) (lane cause : Nat) (bays : Half) :
    s.diverges lane cause bays = { s with
      lanes := (s.diverges lane cause bays).lanes, regs := (s.diverges lane cause bays).regs, saturated := (s.diverges lane cause bays).saturated
      faults := (s.diverges lane cause bays).faults, log := (s.diverges lane cause bays).log } ∧
    (s.diverges lane cause bays).lanes = (if (historyWith s lane).length = 3 then
      { divergedLanes s lane cause bays with redundancyLost := true, byImage := false } else divergedLanes s lane cause bays) ∧
    ∀ inst code, code ≠ (counterSaturation 0x0D12).2.2 → s.isActive code inst = true → (s.diverges lane cause bays).isActive code inst = true := by
  have hframe := count_frame (s.stick 0x0D10 255 7) 0x0D12 255
  have hactive : ∀ inst code, code ≠ (counterSaturation 0x0D12).2.2 → s.isActive code inst = true →
      ((s.stick 0x0D10 255 7).count 0x0D12 255).isActive code inst = true := fun inst code hcode h => isActive_count h hcode.symm
  have hdef : s.diverges lane cause bays = (if (historyWith s lane).length = 3 then
      (({ (s.stick 0x0D10 255 7).count 0x0D12 255 with lanes := divergedLanes s lane cause bays } : State).raise 0x0D04 lane).onLanes
        (fun x => { x with redundancyLost := true, byImage := false })
      else { (s.stick 0x0D10 255 7).count 0x0D12 255 with lanes := divergedLanes s lane cause bays }) := by
    unfold State.diverges
    generalize (s.stick 0x0D10 255 7).count 0x0D12 255 = u at hframe
    have hlanes : u.lanes = s.lanes := by rw [hframe]; rfl
    simp only [State.onLanes, hlanes]
    rfl
  generalize (s.stick 0x0D10 255 7).count 0x0D12 255 = u at hframe hactive hdef
  rw [hdef]
  split
  · have hraise := State.raise_frame ({ u with lanes := divergedLanes s lane cause bays } : State) 0x0D04 lane
    refine ⟨?_, ?_, fun inst code hcode h => isActive_raise_of_active 0x0D04 lane (hactive inst code hcode h)⟩
    · generalize ({ u with lanes := divergedLanes s lane cause bays } : State).raise 0x0D04 lane = v at hraise
      rw [hraise, hframe]
      rfl
    · rw [State.onLanes, hraise]
  · refine ⟨?_, rfl, hactive⟩
    rw [hframe]
    rfl

/-- The fields of the divergence record, whether or not the lane is faulty now. -/
theorem diverges_lanes (s : State) (lane cause : Nat) (bays : Half) :
    ∃ redundancyLost byImage, (s.diverges lane cause bays).lanes = { divergedLanes s lane cause bays with redundancyLost, byImage } := by
  obtain ⟨-, hlanes, -⟩ := diverges_facts s lane cause bays
  rw [hlanes]
  split
  · exact ⟨_, _, rfl⟩
  · exact ⟨_, _, rfl⟩

/-! ### LANE_SWAP (R339) -/

theorem completeSwap_frame (s : State) (req : Option (Option (Fin 8) × Half)) (status : Nat) :
    s.completeSwap req status = { s with log := (s.completeSwap req status).log } ∧
    (∀ e ∈ s.log.fresh, e ∈ (s.completeSwap req status).log.fresh) ∧
    ∀ slot seq, req = some (slot, seq) → ∃ e, e ∈ (s.completeSwap req status).log.fresh ∧ e.code = 0x0280 ∧ e.detail = status ∧ e.extra = seq.toNat := by
  rcases req with _ | ⟨slot, seq⟩
  · exact ⟨rfl, fun e he => he, nofun⟩
  · refine ⟨rfl, fun e he => List.mem_append_left _ he, fun slot' seq' h => ?_⟩
    obtain ⟨e, hlog, hcode, hdetail, hextra⟩ := complete_log s slot seq 0xC1 status
    cases h
    exact ⟨e, by rw [show s.completeSwap (some (slot, seq)) status = s.complete slot seq 0xC1 status from rfl, hlog]; simp, hcode, hdetail, hextra⟩

/-- The checks of LANE_SWAP. -/
def swapChecks (s : State) (flags : Byte) : List (Bool × Nat) :=
  [(2 ≤ flags.toNat, Status.badParameter), (s.power.mode = .limp, Status.wrongMode),
   (!(s.lanes.standby = .comparing) || s.lanes.redundancyLost, Status.faultLatched), (!(flags &&& 1 = 1) && !s.swapConditions, Status.busy)]

/-- The requests that wait after an accepted LANE_SWAP. -/
def swapAccepted (s : State) (flags : Byte) (req : Option (Option (Fin 8) × Half)) : State :=
  ((s.completeSwap s.lanes.swapWaiting Status.busy).completeSwap s.lanes.swapNow Status.busy).onLanes (fun x =>
    if flags &&& 1 = 1 then { x with swapWaiting := req, swapNow := none } else { x with swapWaiting := none, swapNow := req })

theorem exec_laneSwap {r : Req} {k : Fin 8} {flags : Byte} {s : State} (h : s.admits 0xC1 r k = true) :
    exec (.laneSwap r flags) s = .next (s.checked r 0xC1 (swapChecks s flags) (fun s => (swapAccepted s flags (some (some k, r.seq))).answer r 0xC1 Status.pending .bare)) := by
  refine congrArg Host.Outcome.next ((State.request_of_admits h _).trans ?_)
  rfl

/-- A LANE_SWAP that a check refuses. -/
theorem laneSwap_refused {r : Req} {k : Fin 8} {flags : Byte} {s : State} {status : Nat} (h : s.admits 0xC1 r k = true)
    (hfail : firstFail (swapChecks s flags) = some status) :
    exec (.laneSwap r flags) s = .next (s.withReply (replyOf r k 0xC1 status .bare)) := by
  rw [exec_laneSwap h, State.checked_fail hfail]
  exact congrArg Host.Outcome.next (answer_of_admits h ..)

/-- A LANE_SWAP that passes every check. -/
theorem laneSwap_accepted {r : Req} {k : Fin 8} {flags : Byte} {s : State} (h : s.admits 0xC1 r k = true)
    (hpass : firstFail (swapChecks s flags) = none) :
    exec (.laneSwap r flags) s = .next ((swapAccepted s flags (some (some k, r.seq))).withReply (replyOf r k 0xC1 Status.pending .bare)) := by
  rw [exec_laneSwap h, State.checked_pass hpass]
  refine congrArg Host.Outcome.next (answer_of_sessions (s := s) (State.admits_facts h).1 ?_ ..)
  obtain ⟨hframe, -, -⟩ := completeSwap_frame s s.lanes.swapWaiting Status.busy
  obtain ⟨hframe', -, -⟩ := completeSwap_frame (s.completeSwap s.lanes.swapWaiting Status.busy) s.lanes.swapNow Status.busy
  unfold swapAccepted State.onLanes
  rw [hframe', hframe]

theorem flags_of_le_one {flags : Byte} (h : flags.toNat ≤ 1) : flags = 0 ∨ flags = 1 := by bv_omega

/-- A LANE_SWAP in place of one that waits already: that one completes with BUSY. -/
theorem swapAccepted_replaces {s : State} {waits : Option (Option (Fin 8) × Half)} (hwaits : waits ∈ [s.lanes.swapNow, s.lanes.swapWaiting])
    {slot : Option (Fin 8)} {seq : Half} (hsome : waits = some (slot, seq)) (flags : Byte) (req : Option (Option (Fin 8) × Half)) :
    swapAccepted s flags req = { s with
      lanes := { s.lanes with swapNow := (swapAccepted s flags req).lanes.swapNow, swapWaiting := (swapAccepted s flags req).lanes.swapWaiting }
      log := (swapAccepted s flags req).log } ∧
    ∃ e, e ∈ (swapAccepted s flags req).log.fresh ∧ e.code = 0x0280 ∧ e.detail = Status.busy ∧ e.extra = seq.toNat := by
  obtain ⟨hframe, hkeep, hdone⟩ := completeSwap_frame s s.lanes.swapWaiting Status.busy
  obtain ⟨hframe', hkeep', hdone'⟩ := completeSwap_frame (s.completeSwap s.lanes.swapWaiting Status.busy) s.lanes.swapNow Status.busy
  unfold swapAccepted
  generalize (s.completeSwap s.lanes.swapWaiting Status.busy).completeSwap s.lanes.swapNow Status.busy = v at hframe' hkeep' hdone' ⊢
  generalize s.completeSwap s.lanes.swapWaiting Status.busy = u at hframe hkeep hdone hframe' hkeep'
  refine ⟨?_, ?_⟩
  · rw [hframe', hframe]
    unfold State.onLanes
    split <;> rfl
  · simp only [List.mem_cons, List.not_mem_nil, or_false] at hwaits
    rcases hwaits with rfl | rfl
    · exact hdone' slot seq hsome
    · obtain ⟨e, he, hfacts⟩ := hdone slot seq hsome
      exact ⟨e, hkeep' e he, hfacts⟩

theorem swapAccepted_alone {s : State} (hwaiting : s.lanes.swapWaiting = none) (hnow : s.lanes.swapNow = none) (req : Option (Option (Fin 8) × Half)) :
    swapAccepted s 0 req = { s with lanes := { s.lanes with swapNow := req } } ∧
    swapAccepted s 1 req = { s with lanes := { s.lanes with swapWaiting := req } } := by
  unfold swapAccepted
  rw [hwaiting, hnow]
  refine ⟨?_, ?_⟩
  · rw [show s = { s with lanes := { s.lanes with swapWaiting := s.lanes.swapWaiting } } from rfl, hwaiting]
    rfl
  · rw [show s = { s with lanes := { s.lanes with swapNow := s.lanes.swapNow } } from rfl, hnow]
    rfl

theorem laneSwap_facts {r : Req} {k : Fin 8} {flags : Byte} {s : State} (hadmits : s.admits 0xC1 r k = true) :
    (2 ≤ flags.toNat → exec (.laneSwap r flags) s = .next (s.withReply (replyOf r k 0xC1 Status.badParameter .bare))) ∧
    (flags.toNat ≤ 1 → s.power.mode = .limp → exec (.laneSwap r flags) s = .next (s.withReply (replyOf r k 0xC1 Status.wrongMode .bare))) ∧
    (flags.toNat ≤ 1 → s.power.mode ≠ .limp → s.lanes.standby ≠ .comparing ∨ s.lanes.redundancyLost = true →
      exec (.laneSwap r flags) s = .next (s.withReply (replyOf r k 0xC1 Status.faultLatched .bare))) ∧
    (s.power.mode ≠ .limp → s.lanes.standby = .comparing → s.lanes.redundancyLost = false →
      (flags = 0 → s.swapConditions = false → exec (.laneSwap r flags) s = .next (s.withReply (replyOf r k 0xC1 Status.busy .bare))) ∧
      ((flags = 0 ∧ s.swapConditions = true) ∨ flags = 1 → exec (.laneSwap r flags) s =
        .next ((swapAccepted s flags (some (some k, r.seq))).withReply (replyOf r k 0xC1 Status.pending .bare)))) := by
  have hform : flags.toNat ≤ 1 → decide (2 ≤ flags.toNat) = false := fun h => decide_eq_false (by omega)
  refine ⟨fun h => laneSwap_refused hadmits ?_, fun h hmode => laneSwap_refused hadmits ?_, fun h hmode hlost => laneSwap_refused hadmits ?_,
    fun hmode hstandby hlost => ⟨fun h hconditions => laneSwap_refused hadmits ?_, fun h => laneSwap_accepted hadmits ?_⟩⟩
  · rw [swapChecks, decide_eq_true h, firstFail_true]
  · rw [swapChecks, hform h, firstFail_false, decide_eq_true hmode, firstFail_true]
  · have hbad : (!decide (s.lanes.standby = .comparing) || s.lanes.redundancyLost) = true := by
      rcases hlost with h | h
      · rw [decide_eq_false h]
        rfl
      · rw [h, Bool.or_true]
    rw [swapChecks, hform h, firstFail_false, decide_eq_false hmode, firstFail_false, hbad, firstFail_true]
  · rw [swapChecks, h, decide_eq_false (p := 2 ≤ (0 : Byte).toNat) (by decide), firstFail_false, decide_eq_false hmode, firstFail_false, hstandby, hlost, hconditions]
    rfl
  · rw [swapChecks, decide_eq_false hmode, hstandby, hlost]
    rcases h with ⟨h, hconditions⟩ | h
    · rw [h, hconditions]
      rfl
    · rw [h]
      rfl

/-! ### The proof swap (R338) -/

/-- A failed swap of a promoted lane counts a divergence with cause 6, and reports LANE_SWAP_FAIL. -/
theorem swapFails_facts {s : State} {f : Long} {req : Option (Option (Fin 8) × Half)} (h : s.lanes.swapping = some (f, req)) (lane : Nat) :
    (s.swapFails lane true true).lanes.swapping = none ∧ (s.swapFails lane true true).lanes.swapAtTick = true ∧
    (s.swapFails lane true true).lanes.lastCause = 6 ∧ (s.swapFails lane true true).lanes.lastLane = lane ∧
    (s.swapFails lane true true).isActive 0x0D07 lane = true ∧ (s.swapFails lane true true).lanes.activeB = s.lanes.activeB ∧
    (s.swapFails lane true true).motion = s.motion ∧ (s.swapFails lane true true).pwm = s.pwm := by
  have hraise := State.raise_frame s 0x0D07 lane
  have hraised : (s.raise 0x0D07 lane).isActive 0x0D07 lane = true := isActive_raise (by decide)
  have hdef : s.swapFails lane true true = (((s.raise 0x0D07 lane).diverges lane 6 0).onLanes
      (fun x => { x with swapping := none, swapAtTick := x.swapAtTick || true })).completeSwap req 0x31 := by
    unfold State.swapFails
    simp only [h, if_true]
  rw [hdef]
  generalize s.raise 0x0D07 lane = u at hraise hraised
  obtain ⟨hframe, -, hactive⟩ := diverges_facts u lane 6 0
  obtain ⟨lost, image, hlanes⟩ := diverges_lanes u lane 6 0
  have hstays := hactive lane 0x0D07 (by decide) hraised
  generalize u.diverges lane 6 0 = v at hframe hlanes hstays
  obtain ⟨hlast, -, -⟩ := completeSwap_frame (v.onLanes (fun x => { x with swapping := none, swapAtTick := x.swapAtTick || true })) req 0x31
  rw [hlast]
  have hmotion : v.motion = s.motion := by rw [hframe, hraise]
  have hpwm : v.pwm = s.pwm := by rw [hframe, hraise]
  have hold : v.lanes.activeB = s.lanes.activeB := by
    rw [hlanes, hraise]
    rfl
  refine ⟨rfl, Bool.or_true _, ?_, ?_, hstays, hold, hmotion, hpwm⟩
  · exact (congrArg Lanes.lastCause hlanes :)
  · exact (congrArg Lanes.lastLane hlanes :)

/-- What a proof swap does at its tick: the roles change. -/
def swapped (s : State) : State :=
  s.onLanes (fun x => { x with
    activeB := !x.activeB, swapping := some (s.frame64, if s.lanes.swapNow.isSome then s.lanes.swapNow else s.lanes.swapWaiting)
    dwellRun := 0, swapNow := none, swapWaiting := if x.swapNow.isSome then x.swapWaiting else none })

theorem exec_proofSwap (s : State) (ok : Bool) :
    (s.lanes.swapping.isSome = true ∨ ((s.lanes.swapNow = none ∨ s.swapConditions = false ∨ s.power.mode = .limp) ∧ s.swapAutomatic = false) →
      exec (.proofSwap ok) s = .next s) ∧
    (s.lanes.swapping = none → (s.lanes.swapNow.isSome = true ∧ s.swapConditions = true ∧ s.power.mode ≠ .limp) ∨ s.swapAutomatic = true →
      exec (.proofSwap ok) s = .next (if ok then swapped s else (swapped s).swapFails (swapped s).activeLane true true)) := by
  refine ⟨fun h => congrArg Host.Outcome.next ?_, fun hnone h => congrArg Host.Outcome.next ?_⟩
  · rcases h with h | ⟨h, hauto⟩
    · exact if_pos h
    · have hno : (s.lanes.swapNow.isSome && s.swapConditions && !decide (s.power.mode = .limp)) = false := by
        rcases h with h | h | h
        · rw [h]
          rfl
        · rw [h, Bool.and_false]
          rfl
        · rw [decide_eq_true h, Bool.not_true, Bool.and_false]
      rw [hno, hauto]
      exact ite_self s
  · have hyes : (s.lanes.swapNow.isSome && s.swapConditions && !decide (s.power.mode = .limp) || s.swapAutomatic) = true := by
      rcases h with ⟨hnow, hconditions, hmode⟩ | h
      · rw [hnow, hconditions, decide_eq_false hmode]
        rfl
      · rw [h, Bool.or_true]
    rw [if_neg (by rw [hnone]; exact Bool.false_ne_true), if_pos hyes]
    rfl

theorem activeLane_swapped (s : State) : (swapped s).activeLane = 1 - s.activeLane := by
  unfold State.activeLane
  rw [show (swapped s).lanes.activeB = !s.lanes.activeB from rfl]
  cases s.lanes.activeB <;> rfl

/-- The result of a proof swap (R338): a pass needs 16 clean frames. -/
theorem proofSwapResult_facts {s : State} {f : Long} {req : Option (Option (Fin 8) × Half)} (h : s.lanes.swapping = some (f, req)) :
    ((s.frame64 - f).toNat < 16 → exec (.proofSwapResult true) s = .next s) ∧
    (16 ≤ (s.frame64 - f).toNat → Answers (exec (.proofSwapResult true) s) (fun t =>
      t = { s with lanes := { s.lanes with swapping := none }, regs := t.regs, faults := t.faults, log := t.log } ∧
      (s.canonical = true → t.devN 0x0D11 = 0) ∧ t.isActive 0x0D08 255 = false ∧
      ∀ slot seq, req = some (slot, seq) → ∃ e, e ∈ t.log.fresh ∧ e.code = 0x0280 ∧ e.detail = Status.ok ∧ e.extra = seq.toNat)) ∧
    exec (.proofSwapResult false) s = .next (s.swapFails s.activeLane true true) := by
  refine ⟨fun hfew => congrArg Host.Outcome.next ?_, fun hmany => ?_, congrArg Host.Outcome.next ?_⟩
  · simp only [h, Bool.not_true, Bool.false_eq_true, if_false, if_neg (Nat.not_le.mpr hfew)]
  · have hcleared := isActive_clearFault (s.setDev 0x0D11 0) 0x0D08 255
    have hframe := State.clearFault_frame (s.setDev 0x0D11 0) 0x0D08 255
    have hrun : exec (.proofSwapResult true) s = .next ((((s.setDev 0x0D11 0).clearFault 0x0D08 255).onLanes
        (fun x => { x with swapping := none })).completeSwap req 0x00) := by
      refine congrArg Host.Outcome.next ?_
      simp only [h, Bool.not_true, Bool.false_eq_true, if_false, if_pos hmany]
    generalize (s.setDev 0x0D11 0).clearFault 0x0D08 255 = u at hcleared hframe hrun
    obtain ⟨hlast, -, hdone⟩ := completeSwap_frame (u.onLanes (fun x => { x with swapping := none })) req 0x00
    refine ⟨_, hrun, ?_, fun hcanonical => ?_, ?_, hdone⟩
    · rw [hlast, hframe]
      rfl
    · have hregs : ((u.onLanes (fun x => { x with swapping := none })).completeSwap req 0x00).regs = (s.setDev 0x0D11 0).regs := by
        rw [hlast, hframe]
        rfl
      have hzero : (s.setDev 0x0D11 0).par 0x0D11 255 = 0 := setPar_par_same _ _ (canonical_iff.mp hcanonical).1 0
      unfold State.devN State.dev State.par at *
      rw [hregs, hzero]
      rfl
    · rw [hlast]
      exact hcleared
  · simp only [h, Bool.not_false, if_true]

/-! ### State copies (R333 to R335) -/

theorem copyRelease_facts {s : State} (hcopying : s.lanes.standby = .copying) (hfinal : s.lanes.finalPhase = true) :
    Answers (exec .copyRelease s) (fun t =>
      t = { s with lanes := { s.lanes with standby := .comparing, finalPhase := false, dirty := 0, apart := none }, regs := t.regs
                   saturated := t.saturated, faults := t.faults, log := t.log
                   dbg := { s.dbg with sram := s.dbg.sram.set (Fin.ofNat 2 s.standbyLane) [] } }) := by
  refine ⟨_, congrArg Host.Outcome.next (if_pos ⟨hcopying, hfinal⟩), ?_⟩
  rw [count_frame]
  rfl

/-- A failed copy is a divergence of its lane with cause 5, and the copy starts again unless the lane is faulty. -/
theorem laneCopyFail_facts {s : State} (hcopying : s.lanes.standby = .copying) (hfinal : s.lanes.finalPhase = false)
    (hlong : s.devN 0x0D04 ≤ (s.frame64 - s.lanes.copySince).toNat) :
    Answers (exec .laneCopyFail s) (fun t => t.lanes.lastCause = 5 ∧ t.lanes.lastLane = s.standbyLane ∧
      t.isActive 0x0D03 s.standbyLane = true ∧ t.lanes.copySince = s.frame64 ∧ (t.lanes.standby = .copying ∨ t.lanes.standby = .faulty) ∧
      ((s.divergences s.standbyLane).length < 2 → s.lanes.redundancyLost = false → t.lanes.standby = .copying) ∧
      t = { s with lanes := t.lanes, regs := t.regs, saturated := t.saturated, faults := t.faults, log := t.log }) := by
  refine ⟨_, congrArg Host.Outcome.next (if_pos ⟨hcopying, by rw [hfinal]; exact Bool.false_ne_true, hlong⟩), ?_⟩
  have hraise := State.raise_frame s 0x0D03 s.standbyLane
  have hraised : (s.raise 0x0D03 s.standbyLane).isActive 0x0D03 s.standbyLane = true := isActive_raise (by decide)
  generalize s.standbyLane = lane at hraise hraised ⊢
  generalize s.raise 0x0D03 lane = u at hraise hraised
  obtain ⟨hframe, hfull, hactive⟩ := diverges_facts u lane 5 0
  obtain ⟨lost, image, hlanes⟩ := diverges_lanes u lane 5 0
  have hstays := hactive lane 0x0D03 (by decide) hraised
  have hhistory : (historyWith u lane).length = 3 ↔ 2 ≤ (s.divergences lane).length := by
    have hsame : u.divergences lane = s.divergences lane := by
      unfold State.divergences
      rw [hraise]
    rw [historyWith, List.length_take, List.length_cons, hsame]
    omega
  generalize u.diverges lane 5 0 = v at hframe hfull hlanes hstays
  have hframe64 : v.frame64 = s.frame64 := by rw [hframe, hraise]
  refine ⟨?_, ?_, hstays, hframe64, ?_, fun hfew hkept => ?_, ?_⟩
  · exact (congrArg Lanes.lastCause hlanes :)
  · exact (congrArg Lanes.lastLane hlanes :)
  · rcases hlost : v.lanes.redundancyLost with _ | _
    · exact .inl (if_neg (by rw [hlost]; exact Bool.false_ne_true))
    · exact .inr (if_pos hlost)
  · have hnotLost : v.lanes.redundancyLost = false := by
      rw [hfull, if_neg (by rw [hhistory]; omega), divergedLanes, hraise]
      exact hkept
    exact if_neg (by rw [hnotLost]; exact Bool.false_ne_true)
  · rw [State.startCopy, State.onLanes, hframe, hraise]

/-- Settles O55: a request waits or replaces one that waits, a swap ends by its read-back and its clean frames, and a copy by its last
phase or its time. -/
theorem laneSwapsAndCopies : Obligations.LaneSwapsAndCopies := by
  unfold Obligations.LaneSwapsAndCopies
  refine ⟨fun r k flags s hadmits => ?_, fun s => ⟨fun ok => (exec_proofSwap s ok).1, fun hnone hdue => ?_, fun clean hnone => ?_, fun f req hreq => ?_,
    fun hyoung => ?_, fun hold => ?_, fun dirty => ⟨fun hno => ?_, fun hcopying hfinal => ?_⟩, fun hno => ?_, copyRelease_facts, fun hno => ?_,
    laneCopyFail_facts⟩⟩
  · obtain ⟨hform, hlimp, hlatched, hrun⟩ := laneSwap_facts (flags := flags) hadmits
    refine ⟨hform, hlimp, hlatched, fun hmode hstandby hlost => ?_⟩
    obtain ⟨hbusy, haccepted⟩ := hrun hmode hstandby hlost
    refine ⟨hbusy, fun waits hwaits slot seq hsome hmay => ⟨_, haccepted hmay, ?_⟩, fun hwaiting hnow => ⟨fun h hconditions => ?_, fun h => ?_⟩⟩
    · obtain ⟨hframe, hdone⟩ := swapAccepted_replaces hwaits hsome flags (some (some k, r.seq))
      refine ⟨?_, hdone⟩
      generalize swapAccepted s flags (some (some k, r.seq)) = u at hframe
      rw [hframe]
      rfl
    · rw [haccepted (.inl ⟨h, hconditions⟩), h, (swapAccepted_alone hwaiting hnow _).1]
    · rw [haccepted (.inr h), h, (swapAccepted_alone hwaiting hnow _).2]
  · obtain ⟨-, hpass⟩ := exec_proofSwap s true
    obtain ⟨-, hfail⟩ := exec_proofSwap s false
    obtain ⟨hended, hback, hcause, -, hraised, hroles, hmotion, hpwm⟩ := swapFails_facts (s := swapped s) rfl (swapped s).activeLane
    rw [activeLane_swapped] at hraised
    refine ⟨⟨swapped s, hpass hnone hdue, rfl, rfl⟩, _, hfail hnone hdue, hroles, hended, hback, hcause, ?_, hmotion, hpwm⟩
    rw [if_neg Bool.false_ne_true, activeLane_swapped]
    rw [activeLane_swapped] at *
    exact hraised
  · refine congrArg Host.Outcome.next ?_
    simp only [hnone]
  · obtain ⟨hwait, hpass, hfail⟩ := proofSwapResult_facts hreq
    obtain ⟨hended, hback, hcause, hlane, hraised, hroles, -, -⟩ := swapFails_facts hreq s.activeLane
    exact ⟨hwait, hpass, _, hfail, hended, hback, hcause, hlane, hraised, hroles⟩
  · exact congrArg Host.Outcome.next (if_neg (Nat.not_lt.mpr hyoung))
  · exact ⟨_, congrArg Host.Outcome.next (if_pos hold), onlyRaised_raise s 255 (by decide)⟩
  · refine congrArg Host.Outcome.next (if_neg fun h => ?_)
    rcases hno with hno | hno
    · exact hno h.1
    · exact h.2 hno
  · exact congrArg Host.Outcome.next (if_pos ⟨hcopying, by rw [hfinal]; exact Bool.false_ne_true⟩)
  · refine congrArg Host.Outcome.next (if_neg fun h => ?_)
    rcases hno with hno | hno
    · exact hno h.1
    · exact Bool.false_ne_true (hno.symm.trans h.2)
  · refine congrArg Host.Outcome.next (if_neg fun h => ?_)
    obtain ⟨hcopying, hfinal, hlong⟩ := h
    rcases hno with hno | hno | hno
    · exact hno hcopying
    · exact hfinal hno
    · omega

end Sys2Proof.Proofs
end

section
/-! PROOF. The statement on the decision of the lanes (R43, R112, R327 to R332). -/

namespace Sys2Proof.Proofs
open Sys2Proof.Machine

/-! ### What a decision may change -/

/-- A part of the decision: it changes the reports, the lanes, the outputs' failstate and the shadow registers, and clears no fault but
one that a saturated counter raises again. -/
structure Decided (u t : State) : Prop where
  frame : t = { u with regs := t.regs, saturated := t.saturated, faults := t.faults, log := t.log, lanes := t.lanes, pwm := t.pwm, fio := t.fio }
  roles : t.lanes.activeB = u.lanes.activeB
  hbs : ∀ h : Fin 48, t.hb h = { u.hb h with shadow := (t.hb h).shadow }
  keeps : ∀ inst code, code ≠ (counterSaturation 0x0D12).2.2 → u.isActive code inst = true → t.isActive code inst = true

theorem Decided.refl (u : State) : Decided u u := ⟨rfl, rfl, fun _ => rfl, fun _ _ _ h => h⟩

theorem Decided.trans {s t u : State} (h : Decided s t) (h' : Decided t u) : Decided s u where
  frame := by
    rw [h'.frame, h.frame]
  roles := h'.roles.trans h.roles
  hbs x := by
    rw [h'.hbs, h.hbs]
  keeps inst code hcode hactive := h'.keeps inst code hcode (h.keeps inst code hcode hactive)

theorem decided_onLanes (u : State) (f : Lanes → Lanes) (h : (f u.lanes).activeB = u.lanes.activeB) : Decided u (u.onLanes f) :=
  ⟨rfl, h, fun _ => rfl, fun _ _ _ h => h⟩

theorem decided_stick (u : State) (index sub bit : Nat) : Decided u (u.stick index sub bit) := ⟨rfl, rfl, fun _ => rfl, fun _ _ _ h => h⟩

theorem decided_raise (u : State) (code inst : Nat) : Decided u (u.raise code inst) where
  frame := by
    rw [State.raise_frame]
  roles := by rw [State.raise_frame]
  hbs x := by
    rw [State.raise_frame]
    rfl
  keeps _ _ _ h := isActive_raise_of_active code inst h

theorem decided_diverges (u : State) (lane cause : Nat) (bays : Half) : Decided u (u.diverges lane cause bays) := by
  obtain ⟨hframe, -, hkeeps⟩ := diverges_facts u lane cause bays
  obtain ⟨lost, image, hlanes⟩ := diverges_lanes u lane cause bays
  generalize u.diverges lane cause bays = t at hframe hkeeps hlanes ⊢
  refine ⟨?_, by rw [hlanes]; rfl, fun h => ?_, hkeeps⟩
  · rw [hframe]
  · rw [hframe]
    rfl

theorem decided_completeSwap (u : State) (req : Option (Option (Fin 8) × Half)) (status : Nat) : Decided u (u.completeSwap req status) := by
  unfold State.completeSwap
  split
  · exact ⟨rfl, rfl, fun _ => rfl, fun _ _ _ h => h⟩
  · exact .refl u

theorem decided_swapFails (u : State) (lane : Nat) (back counted : Bool) (bays : Half) : Decided u (u.swapFails lane back counted bays) := by
  unfold State.swapFails
  split
  · exact .refl u
  · next f req _ =>
    have hcounted : Decided u (if counted then (u.raise 0x0D07 lane).diverges lane 6 bays else u.raise 0x0D07 lane) := by
      split
      · exact (decided_raise u 0x0D07 lane).trans (decided_diverges ..)
      · exact decided_raise u 0x0D07 lane
    exact (hcounted.trans (decided_onLanes _ (fun x => { x with swapping := none, swapAtTick := x.swapAtTick || back }) rfl)).trans
      (decided_completeSwap ..)

/-! ### The set that loads (R23, R112) -/

/-- A half-bridge whose offered entry the arbiter accepted. -/
def accepted (x : HalfBridge) : HalfBridge := { x with shadow := x.offered }

theorem acceptBay_hb (s : State) (b : Fin 16) (h : Fin 48) : (s.acceptBay b).hb h = if bayOfHb h = b then accepted (s.hb h) else s.hb h :=
  eachOfBay_hb (op := fun x t => t.onHb (hbOf b x) accepted) (F := fun _ => accepted) (fun _ _ => rfl)
    (fun x t h _ => (onHb_hb_ite t _ h _).trans (by
      by_cases hx : h = hbOf b x
      · rw [hx]
      · rw [if_neg hx, if_neg hx])) h

theorem acceptBay_frame (s : State) (b : Fin 16) : BaysOnly s (s.acceptBay b) := by
  have hhbs : BaysOnly s (s.each (allFin 3) (fun x t => t.onHb (hbOf b x) accepted)) := (BaysOnly.refl s).each _ fun _ _ => rfl
  exact hhbs.trans rfl

/-- The bays of a list that no other holds take their offered entries. -/
theorem acceptBays_hb (s : State) (held : Half) (l : List (Fin 16)) (h : Fin 48) :
    (s.each l (fun b t => if held.getLsb b then t else t.acceptBay b)).hb h =
      if bayOfHb h ∈ l ∧ held.getLsb (bayOfHb h) = false then accepted (s.hb h) else s.hb h := by
  unfold State.each
  induction l generalizing s with
  | nil => rw [if_neg fun h => List.not_mem_nil h.1]; rfl
  | cons b l ih =>
    rw [List.foldl_cons, ih]
    dsimp only
    by_cases hheld : held.getLsb b = true
    · rw [if_pos hheld]
      by_cases hb : bayOfHb h = b
      · rw [hb, if_neg (by rw [hheld]; simp), if_neg (by rw [hheld]; simp)]
      · simp only [List.mem_cons, hb, false_or]
    · rw [if_neg hheld, acceptBay_hb]
      by_cases hb : bayOfHb h = b
      · rw [if_pos hb, if_pos (c := bayOfHb h ∈ b :: l ∧ _) ⟨by rw [hb]; exact List.mem_cons_self .., by rw [hb]; simpa using hheld⟩]
        exact ite_self _
      · simp only [List.mem_cons, hb, false_or, if_false]

theorem loadSet_hb (s : State) (held : Half) (h : Fin 48) :
    (s.loadSet held).hb h = if held.getLsb (bayOfHb h) then s.hb h else accepted (s.hb h) := by
  refine (acceptBays_hb s held (allFin 16) h).trans ?_
  have hmem : bayOfHb h ∈ allFin 16 := List.mem_finRange _
  simp only [hmem, true_and]
  cases held.getLsb (bayOfHb h) <;> rfl

theorem loadSet_frame (s : State) (held : Half) : s.loadSet held = { s with pwm := (s.loadSet held).pwm } := by
  have hbays : BaysOnly s (s.each (allFin 16) (fun b t => if held.getLsb b then t else t.acceptBay b)) := (BaysOnly.refl s).each _ fun b u => by
    split
    · exact .refl u
    · exact acceptBay_frame u b
  unfold State.loadSet
  unfold BaysOnly at hbays
  generalize s.each (allFin 16) (fun b t => if held.getLsb b then t else t.acceptBay b) = t at hbays
  rw [hbays]

theorem decided_loadSet (u : State) (held : Half) : Decided u (u.loadSet held) := by
  have hframe := loadSet_frame u held
  have hhb := loadSet_hb u held
  generalize u.loadSet held = t at hframe hhb
  refine ⟨by rw [hframe], by rw [hframe], fun h => ?_, fun _ _ _ h => by rw [hframe]; exact h⟩
  rw [hhb]
  split <;> rfl

theorem pwmSeen_pwm (s : State) (b : Fin 16) (bit code : Nat) : (s.pwmSeen b bit code).pwm = s.pwm := by
  unfold State.pwmSeen
  split
  · rfl
  · rw [State.raise_frame]
    rfl

/-- The transfer of a half-bridge changes its pending entry alone. -/
theorem transferHb_shadow (s : State) (b : Fin 16) (p : Int) (x : Fin 3) (h : Fin 48) : ((s.transferHb b p x).hb h).shadow = (s.hb h).shadow := by
  have hon : ∀ g : HalfBridge → HalfBridge, (∀ y, (g y).shadow = y.shadow) → ((s.onHb (hbOf b x) g).hb h).shadow = (s.hb h).shadow := fun g hg => by
    rw [onHb_hb_ite]
    split
    · next heq => rw [hg, heq]
    · rfl
  have hseen : ∀ (u : State) bit code, ((u.pwmSeen b bit code).hb h).shadow = (u.hb h).shadow := fun u bit code => by
    rw [State.hb, State.hb, pwmSeen_pwm]
  unfold State.transferHb
  split
  · rw [hseen]
    exact hon _ fun _ => rfl
  · extract_lets t
    split
    · rw [hseen]
      exact hon _ fun _ => rfl
    · exact hon _ fun _ => rfl

theorem holdBay_shadow (s : State) (b : Fin 16) (x : Fin 3) : ((s.holdBay b).hb (hbOf b x)).shadow = (s.hb (hbOf b x)).active := by
  have hall := eachOfBay_hb (s := s) (b := b) (op := fun x t => t.onHb (hbOf b x) (fun h => { h with shadow := h.active }))
    (F := fun _ y => { y with shadow := y.active }) (fun _ _ => rfl) (fun x t h _ => (onHb_hb_ite t _ h _).trans (by
      by_cases hx : h = hbOf b x
      · rw [hx]
      · rw [if_neg hx, if_neg hx])) (hbOf b x)
  have hbay : bayOfHb (hbOf b x) = b := by
    simp only [bayOfHb, hbOf, Fin.ext_iff]
    omega
  rw [if_pos hbay] at hall
  exact congrArg HalfBridge.shadow hall

/-- A bay that the set holds repeats at its transfer the entries in force (row 2). -/
theorem transferBay_holds {s : State} {b : Fin 16} (h : s.pwm.loadHold.getLsb b = true) (x : Fin 3) :
    ((s.transferBay b).hb (hbOf b x)).shadow = (s.hb (hbOf b x)).active := by
  unfold State.transferBay
  rw [if_pos h]
  extract_lets u p t
  have hthree : ∀ v : State, ((v.each (allFin 3) (fun x t => t.transferHb b p x)).hb (hbOf b x)).shadow = (v.hb (hbOf b x)).shadow := fun v =>
    (transferHb_shadow _ b p 2 _).trans ((transferHb_shadow _ b p 1 _).trans (transferHb_shadow v b p 0 _))
  exact (hthree t).trans (holdBay_shadow s b x)

/-! ### The deadline (R43) and the decision -/

/-- A deadline without a complete set (R43). -/
def overran (s : State) : State :=
  ((({ s with tb := { s.tb with overran := true } } : State).stick 0x0110 255 4).count 0x0114 255).raise 0x0102 255

theorem overran_facts (s : State) :
    overran s = { s with regs := (overran s).regs, saturated := (overran s).saturated, tb := { s.tb with overran := true }
                         faults := (overran s).faults, log := (overran s).log } ∧ (overran s).isActive 0x0102 255 = true := by
  refine ⟨?_, isActive_raise (by decide)⟩
  unfold overran
  rw [State.raise_frame, count_frame]
  rfl

theorem overrun_eq (s : State) :
    s.overrun false = { s with tb := { s.tb with overran := false } } ∧
    s.overrun true = if s.tb.overran then (overran s).raise 0x0103 255 else overran s := ⟨rfl, rfl⟩

/-- The state of a deadline before its decision. -/
def deadline (s : State) (slack : Nat) (none_ : Bool) : State :=
  ((s.setDev 0x0113 (min (s.dev 0x0113) slack)).onLanes (fun x => { x with sramBad := Vector.replicate 2 false })).overrun none_

theorem deadline_facts (s : State) (slack : Nat) (none_ : Bool) :
    deadline s slack none_ = { s with
      regs := (deadline s slack none_).regs, saturated := (deadline s slack none_).saturated, tb := { s.tb with overran := none_ }
      faults := (deadline s slack none_).faults, log := (deadline s slack none_).log
      lanes := { s.lanes with sramBad := Vector.replicate 2 false } } ∧
    (none_ = true → (deadline s slack none_).isActive 0x0102 255 = true ∧
      (s.tb.overran = true → (deadline s slack none_).isActive 0x0103 255 = true)) := by
  unfold deadline
  generalize hu : (s.setDev 0x0113 (min (s.dev 0x0113) slack)).onLanes (fun x => { x with sramBad := Vector.replicate 2 false }) = u
  have hbase : u = { s with regs := u.regs, lanes := { s.lanes with sramBad := Vector.replicate 2 false } } := by
    rw [← hu]
    rfl
  clear hu
  obtain ⟨hfalse, htrue⟩ := overrun_eq u
  rcases none_ with _ | _
  · rw [hfalse]
    refine ⟨?_, fun h => absurd h Bool.false_ne_true⟩
    rw [hbase]
  · obtain ⟨hframe, hactive⟩ := overran_facts u
    rw [htrue]
    generalize overran u = v at hframe hactive
    have hagain : u.tb.overran = s.tb.overran := by rw [hbase]
    split
    · refine ⟨?_, fun _ => ⟨isActive_raise_of_active _ _ hactive, fun _ => isActive_raise (by decide)⟩⟩
      rw [State.raise_frame, hframe, hbase]
    · next h =>
      refine ⟨?_, fun _ => ⟨hactive, fun h' => absurd (hagain.trans h') h⟩⟩
      rw [hframe, hbase]

/-- The next state of a deadline. -/
theorem exec_laneDeadline (a b : LaneReport) (cmp : Comparison) (slack : Nat) (s : State) (act stb : LaneReport)
    (h : (act, stb) = (if s.lanes.activeB then (s.laneReport 1 b, s.laneReport 0 a) else (s.laneReport 0 a, s.laneReport 1 b))) :
    exec (.laneDeadline a b cmp slack) s =
      .next ((deadline s slack (!(act.complete || (decide (s.lanes.standby = .comparing) && stb.complete)))).arbitrate act stb cmp) := by
  refine congrArg Host.Outcome.next ?_
  have hact : act = if s.lanes.activeB then s.laneReport 1 b else s.laneReport 0 a := by
    cases hB : s.lanes.activeB <;> rw [hB] at h <;> exact (Prod.mk.inj h).1
  have hstb : stb = if s.lanes.activeB then s.laneReport 0 a else s.laneReport 1 b := by
    cases hB : s.lanes.activeB <;> rw [hB] at h <;> exact (Prod.mk.inj h).2
  rw [hact, hstb]
  rfl

/-! ### The rows of Table 14.2 -/

/-- The row of a decision. -/
def ofRow (u : State) (n : Nat) : State := u.onLanes (fun x => { x with row := n })

/-- Whether the standby takes part and is healthy. -/
def standbyHealthy (u : State) (stb : LaneReport) : Bool := decide (u.lanes.standby = .comparing) && !laneUnhealthy stb

/-- Rows 1 to 3: a healthy active lane. -/
def decideHealthy (u : State) (stb : LaneReport) (cmp : Comparison) : State :=
  if !standbyHealthy u stb then
    (if u.lanes.standby = .comparing then (((ofRow u 3).loadSet).raise 0x0D01 (1 - u.activeLane)).diverges (1 - u.activeLane) 4 cmp.bays
      else (ofRow u 3).loadSet).swapFails u.activeLane false true cmp.bays
  else if !(cmp.bays = 0) || (!cmp.signatureEqual || !cmp.scanEqual) then
    if u.lanes.swapping.isSome then (((ofRow u 2).loadSet cmp.bays).raise 0x0D01 u.activeLane).swapFails u.activeLane true true cmp.bays
    else (((ofRow u 2).loadSet cmp.bays).raise 0x0D01 (1 - u.activeLane)).diverges (1 - u.activeLane)
      (if !(cmp.bays = 0) then 1 else if !cmp.signatureEqual then 2 else 3) cmp.bays
  else (ofRow u 1).loadSet

theorem arbitrate_healthy (u : State) {act : LaneReport} (stb : LaneReport) (cmp : Comparison) (h : laneUnhealthy act = false) :
    u.arbitrate act stb cmp = decideHealthy u stb cmp := by
  unfold State.arbitrate decideHealthy standbyHealthy
  simp only [h, Bool.not_false, if_true, decide_eq_true_eq]
  rfl

/-- Whether the standby's set equals a complete one of the active lane. -/
def setsEqual (act : LaneReport) (cmp : Comparison) : Bool := decide (cmp.bays = 0) && act.complete

/-- Whether the lanes differ elsewhere. -/
def elsewhere (cmp : Comparison) : Bool := !cmp.signatureEqual || !cmp.scanEqual

/-- Rows 4 and 5 before the roles change: the set of the standby loads where it equals a complete one. -/
def takeover (u : State) (act : LaneReport) (cmp : Comparison) : State :=
  let t := ofRow u (if setsEqual act cmp && !elsewhere cmp then 4 else 5)
  (((if setsEqual act cmp then t.loadSet else t).stick 0x0D10 255 8).raise 0x0D02 u.activeLane).onLanes
    (fun x => { x with swapAtTick := true, copyAtTick := true })

/-- Rows 4 and 5: a healthy standby takes over. -/
def decideTakeover (u : State) (act : LaneReport) (cmp : Comparison) : State :=
  (if setsEqual act cmp && !elsewhere cmp then takeover u act cmp
    else (takeover u act cmp).diverges u.activeLane
      (if !(cmp.bays = 0) || elsewhere cmp then (if !(cmp.bays = 0) then 1 else if !cmp.signatureEqual then 2 else 3) else 4) cmp.bays).swapFails
    u.activeLane false (setsEqual act cmp && !elsewhere cmp) cmp.bays

theorem arbitrate_unhealthy (u : State) {act : LaneReport} (stb : LaneReport) (cmp : Comparison) (h : laneUnhealthy act = true) :
    u.arbitrate act stb cmp = if standbyHealthy u stb then decideTakeover u act cmp else (ofRow u 6).activeLost := by
  unfold State.arbitrate
  simp only [h, Bool.not_true, Bool.false_eq_true, if_false]
  refine ite_congr rfl (fun _ => ?_) (fun _ => rfl)
  unfold decideTakeover takeover setsEqual elsewhere
  simp only [Bool.not_not]
  rfl

theorem activeLost_facts (u : State) :
    u.activeLost = { u with faults := u.activeLost.faults, log := u.activeLost.log, lanes := { u.lanes with lost := true }, fio := u.activeLost.fio } ∧
    (∀ code inst, u.isActive code inst = true → u.activeLost.isActive code inst = true) ∧
    (u.lanes.lost = false → u.activeLost.isActive 0x0D06 255 = true ∧ u.activeLost.fio.failed = true) := by
  unfold State.activeLost
  split
  · next h =>
    refine ⟨?_, fun _ _ h => h, fun hlost => absurd (h.symm.trans hlost) (by decide)⟩
    rw [← h]
  · next h =>
    have hraise := State.raise_frame u 0x0D06 255
    have hraised : (u.raise 0x0D06 255).isActive 0x0D06 255 = true := isActive_raise (by decide)
    have hkeeps : ∀ code inst, u.isActive code inst = true → (u.raise 0x0D06 255).isActive code inst = true := fun code inst =>
      isActive_raise_of_active 0x0D06 255
    generalize u.raise 0x0D06 255 = v at hraise hraised hkeeps
    have hfail : ∀ w : State, w.doFailstate = { w with fio := w.doFailstate.fio } ∧ w.doFailstate.fio.failed = true := fun w => by
      unfold State.doFailstate
      split
      · next hfailed => exact ⟨rfl, hfailed⟩
      · exact ⟨rfl, rfl⟩
    obtain ⟨hframe, hfailed⟩ := hfail (v.onLanes (fun x => { x with lost := true }))
    have hlanes : v.lanes = u.lanes := by rw [hraise]
    generalize (v.onLanes (fun x => { x with lost := true })).doFailstate = w at hframe hfailed ⊢
    refine ⟨?_, fun code inst hactive => ?_, fun _ => ⟨?_, hfailed⟩⟩
    · rw [hframe, State.onLanes, hlanes, hraise]
    · rw [hframe]
      exact hkeeps code inst hactive
    · rw [hframe]
      exact hraised

theorem decided_activeLost (u : State) : Decided u u.activeLost := by
  obtain ⟨hframe, hkeeps, -⟩ := activeLost_facts u
  generalize u.activeLost = t at hframe hkeeps
  refine ⟨?_, by rw [hframe], fun h => by rw [hframe]; rfl, fun inst code _ h => hkeeps code inst h⟩
  rw [hframe]

theorem decided_ofRow (u : State) (n : Nat) : Decided u (ofRow u n) := decided_onLanes u _ rfl

theorem decided_takeover (u : State) (act : LaneReport) (cmp : Comparison) : Decided u (takeover u act cmp) := by
  have hload : ∀ v : State, Decided v (if setsEqual act cmp then v.loadSet else v) := fun v => by
    split
    · exact decided_loadSet v 0
    · exact .refl v
  exact ((((decided_ofRow u _).trans (hload _)).trans (decided_stick _ 0x0D10 255 8)).trans (decided_raise _ 0x0D02 u.activeLane)).trans
    (decided_onLanes _ (fun x => { x with swapAtTick := true, copyAtTick := true }) rfl)

theorem decided_arbitrate (u : State) (act stb : LaneReport) (cmp : Comparison) : Decided u (u.arbitrate act stb cmp) := by
  have hset : ∀ n held, Decided u ((ofRow u n).loadSet held) := fun n held => (decided_ofRow u n).trans (decided_loadSet _ held)
  rcases hact : laneUnhealthy act with _ | _
  · rw [arbitrate_healthy u stb cmp hact]
    unfold decideHealthy
    split
    · refine Decided.trans ?_ (decided_swapFails ..)
      split
      · exact ((hset 3 0).trans (decided_raise ..)).trans (decided_diverges ..)
      · exact hset 3 0
    · split
      · split
        · exact ((hset 2 cmp.bays).trans (decided_raise ..)).trans (decided_swapFails ..)
        · exact ((hset 2 cmp.bays).trans (decided_raise ..)).trans (decided_diverges ..)
      · exact hset 1 0
  · rw [arbitrate_unhealthy u stb cmp hact]
    split
    · refine Decided.trans ?_ (decided_swapFails ..)
      split
      · exact decided_takeover u act cmp
      · exact (decided_takeover u act cmp).trans (decided_diverges ..)
    · exact (decided_ofRow u 6).trans (decided_activeLost _)

/-! ### The statement, row by row -/

theorem loadSet_flags (u : State) (held : Half) : (u.loadSet held).pwm.loadAll = true ∧ (u.loadSet held).pwm.loadHold = held := ⟨rfl, rfl⟩

theorem loadSet_all (u : State) (h : Fin 48) : ((u.loadSet).hb h).shadow = (u.hb h).offered := by
  rw [loadSet_hb, if_neg (by simp)]
  rfl

/-- A change outside the power stage, the lanes apart. -/
theorem hb_congr {s t : State} (h : t.pwm = s.pwm) (x : Fin 48) : t.hb x = s.hb x := by rw [State.hb, State.hb, h]

theorem raise_diverges_pwm (u : State) (code inst lane cause : Nat) (bays : Half) : ((u.raise code inst).diverges lane cause bays).pwm = u.pwm := by
  obtain ⟨hframe, -, -⟩ := diverges_facts (u.raise code inst) lane cause bays
  rw [hframe, State.raise_frame]

/-- A divergence reported with its fault. -/
theorem raise_diverges_facts (u : State) {code : Nat} (inst lane cause : Nat) (bays : Half) (hcode : (FaultTable.find code).isSome = true)
    (hne : code ≠ (counterSaturation 0x0D12).2.2) :
    ((u.raise code inst).diverges lane cause bays).isActive code inst = true ∧
    ∃ redundancyLost byImage, ((u.raise code inst).diverges lane cause bays).lanes = { divergedLanes u lane cause bays with redundancyLost, byImage } := by
  obtain ⟨-, -, hkeeps⟩ := diverges_facts (u.raise code inst) lane cause bays
  obtain ⟨lost, image, hlanes⟩ := diverges_lanes (u.raise code inst) lane cause bays
  refine ⟨hkeeps inst code hne (isActive_raise hcode), lost, image, hlanes.trans ?_⟩
  unfold divergedLanes historyWith State.divergences State.frame32
  rw [State.raise_frame]

theorem swapFails_none {u : State} (h : u.lanes.swapping = none) (lane : Nat) (back counted : Bool) (bays : Half) :
    u.swapFails lane back counted bays = u := by
  unfold State.swapFails
  rw [h]

section
variable {u : State} {act stb : LaneReport} {cmp : Comparison} (hswap : u.lanes.swapping = none) (hcomparing : u.lanes.standby = .comparing)

include hcomparing in
/-- Row 1: both lanes are healthy and equal. -/
theorem row1 (hact : laneUnhealthy act = false) (hstb : laneUnhealthy stb = false) (hbays : cmp.bays = 0) (hsig : cmp.signatureEqual = true)
    (hscan : cmp.scanEqual = true) : u.arbitrate act stb cmp = (ofRow u 1).loadSet := by
  rw [arbitrate_healthy u stb cmp hact]
  unfold decideHealthy standbyHealthy
  simp only [hcomparing, hstb, hbays, hsig, hscan, decide_true, Bool.not_false, Bool.and_self, Bool.not_true, Bool.or_self, Bool.false_eq_true,
    if_false]

include hswap hcomparing in
/-- Row 2: both lanes are healthy, and bays differ. -/
theorem row2 (hact : laneUnhealthy act = false) (hstb : laneUnhealthy stb = false) (hbays : cmp.bays ≠ 0) :
    u.arbitrate act stb cmp =
      (((ofRow u 2).loadSet cmp.bays).raise 0x0D01 (1 - u.activeLane)).diverges (1 - u.activeLane) 1 cmp.bays := by
  rw [arbitrate_healthy u stb cmp hact]
  unfold decideHealthy standbyHealthy
  simp only [hcomparing, hstb, hswap, decide_eq_false hbays, decide_true, Bool.not_false, Bool.and_self, Bool.not_true, Bool.true_or,
    Bool.false_eq_true, if_false, if_true, Option.isSome_none]

include hswap hcomparing in
/-- Row 3: the standby that took part is unhealthy. -/
theorem row3 (hact : laneUnhealthy act = false) (hstb : laneUnhealthy stb = true) :
    u.arbitrate act stb cmp =
      (((ofRow u 3).loadSet).raise 0x0D01 (1 - u.activeLane)).diverges (1 - u.activeLane) 4 cmp.bays := by
  rw [arbitrate_healthy u stb cmp hact]
  unfold decideHealthy standbyHealthy
  simp only [hcomparing, hstb, decide_true, Bool.not_true, Bool.and_false, Bool.not_false, if_true]
  refine swapFails_none ?_ ..
  obtain ⟨-, lost, image, hlanes⟩ := raise_diverges_facts ((ofRow u 3).loadSet) (1 - u.activeLane) (1 - u.activeLane) 4 cmp.bays
    (show (FaultTable.find 0x0D01).isSome = true by decide) (by decide)
  rw [hlanes]
  exact hswap

/-- What every takeover leaves: the roles change at the next tick, and LANE_SWITCH is reported. -/
theorem takeover_facts (u : State) (act : LaneReport) (cmp : Comparison) :
    (takeover u act cmp).lanes = { u.lanes with row := (if setsEqual act cmp && !elsewhere cmp then 4 else 5), swapAtTick := true, copyAtTick := true } ∧
    (takeover u act cmp).isActive 0x0D02 u.activeLane = true ∧
    (setsEqual act cmp = true → (takeover u act cmp).pwm.loadAll = true ∧ ∀ h, ((takeover u act cmp).hb h).shadow = (u.hb h).offered) ∧
    (setsEqual act cmp = false → (takeover u act cmp).pwm = u.pwm) := by
  unfold takeover
  extract_lets t
  have hload : (if setsEqual act cmp then t.loadSet else t).lanes = t.lanes := by
    split
    · rw [loadSet_frame]
    · rfl
  have hset : setsEqual act cmp = true → (if setsEqual act cmp then t.loadSet else t).pwm.loadAll = true ∧
      ∀ h, ((if setsEqual act cmp then t.loadSet else t).hb h).shadow = (u.hb h).offered := fun h => by
    rw [if_pos h]
    exact ⟨rfl, fun x => loadSet_all t x⟩
  have hkept : setsEqual act cmp = false → (if setsEqual act cmp then t.loadSet else t).pwm = u.pwm := fun h => by
    rw [if_neg (by rw [h]; exact Bool.false_ne_true)]
    rfl
  have ht : t.lanes = { u.lanes with row := (if setsEqual act cmp && !elsewhere cmp then 4 else 5) } := rfl
  generalize (if setsEqual act cmp then t.loadSet else t) = v at hload hset hkept
  have hraise := State.raise_frame (v.stick 0x0D10 255 8) 0x0D02 u.activeLane
  have hraised : ((v.stick 0x0D10 255 8).raise 0x0D02 u.activeLane).isActive 0x0D02 u.activeLane = true := isActive_raise (by decide)
  generalize (v.stick 0x0D10 255 8).raise 0x0D02 u.activeLane = w at hraise hraised
  have hwl : w.lanes = v.lanes := by rw [hraise]; rfl
  have hwp : w.pwm = v.pwm := by rw [hraise]; rfl
  refine ⟨?_, hraised, fun h => ?_, fun h => ?_⟩
  · rw [State.onLanes, hwl, hload, ht]
  · obtain ⟨hall, hshadow⟩ := hset h
    rw [← hwp] at hall
    exact ⟨hall, fun x => (congrArg HalfBridge.shadow (hb_congr (t := w.onLanes _) hwp x)).trans (hshadow x)⟩
  · exact hwp.trans (hkept h)

include hswap hcomparing in
/-- Rows 4 and 5: an unhealthy active lane beside a healthy standby. -/
theorem rows4and5 (hact : laneUnhealthy act = true) (hstb : laneUnhealthy stb = false) :
    (u.arbitrate act stb cmp).lanes.swapAtTick = true ∧ (u.arbitrate act stb cmp).lanes.copyAtTick = true ∧
    (u.arbitrate act stb cmp).isActive 0x0D02 u.activeLane = true ∧
    (cmp.bays = 0 ∧ act.complete = true → (u.arbitrate act stb cmp).pwm.loadAll = true ∧
      ∀ h, ((u.arbitrate act stb cmp).hb h).shadow = (u.hb h).offered) ∧
    (cmp.bays ≠ 0 ∨ act.complete = false → (u.arbitrate act stb cmp).lanes.row = 5 ∧ (u.arbitrate act stb cmp).pwm = u.pwm) ∧
    (cmp.bays = 0 ∧ act.complete = true ∧ cmp.signatureEqual = true ∧ cmp.scanEqual = true → (u.arbitrate act stb cmp).lanes.row = 4) := by
  have hhealthy : standbyHealthy u stb = true := by
    unfold standbyHealthy
    rw [decide_eq_true hcomparing, hstb]
    rfl
  obtain ⟨hlanes, hactive, hset, hkept⟩ := takeover_facts u act cmp
  have hequal : cmp.bays = 0 ∧ act.complete = true → setsEqual act cmp = true := fun ⟨hbays, hcomplete⟩ => by
    rw [setsEqual, decide_eq_true hbays, hcomplete]
    rfl
  have hunequal : cmp.bays ≠ 0 ∨ act.complete = false → setsEqual act cmp = false := fun h => by
    rcases h with h | h
    · rw [setsEqual, decide_eq_false h, Bool.false_and]
    · rw [setsEqual, h, Bool.and_false]
  have hnone : (takeover u act cmp).lanes.swapping = none := by
    rw [hlanes]
    exact hswap
  rw [arbitrate_unhealthy u stb cmp hact, if_pos hhealthy, decideTakeover]
  generalize takeover u act cmp = v at hlanes hactive hset hkept hnone ⊢
  by_cases hclean : (setsEqual act cmp && !elsewhere cmp) = true
  · rw [if_pos hclean, swapFails_none hnone, hlanes]
    refine ⟨rfl, rfl, hactive, fun h => hset (hequal h), fun h => ?_, fun _ => if_pos hclean⟩
    rw [hunequal h] at hclean
    exact absurd hclean Bool.false_ne_true
  · rw [if_neg hclean] at hlanes ⊢
    generalize (if !(cmp.bays = 0) || elsewhere cmp then (if !(cmp.bays = 0) then 1 else if !cmp.signatureEqual then 2 else 3) else 4) = cause
    obtain ⟨hframe, -, hkeeps⟩ := diverges_facts v u.activeLane cause cmp.bays
    obtain ⟨lost, image, hdiverged⟩ := diverges_lanes v u.activeLane cause cmp.bays
    have hstays := hkeeps u.activeLane 0x0D02 (by decide) hactive
    generalize v.diverges u.activeLane cause cmp.bays = w at hframe hdiverged hstays
    have hpwm : w.pwm = v.pwm := by rw [hframe]
    rw [swapFails_none (by rw [hdiverged]; exact hnone), hdiverged, divergedLanes, hlanes]
    refine ⟨rfl, rfl, hstays, fun h => ?_, fun h => ⟨rfl, hpwm.trans (hkept (hunequal h))⟩, fun ⟨hbays, hcomplete, hsig, hscan⟩ => ?_⟩
    · rw [hpwm]
      obtain ⟨hall, hshadow⟩ := hset (hequal h)
      exact ⟨hall, fun x => (congrArg HalfBridge.shadow (hb_congr hpwm x)).trans (hshadow x)⟩
    · rw [hequal ⟨hbays, hcomplete⟩, elsewhere, hsig, hscan] at hclean
      exact absurd rfl hclean

/-- Row 6: no healthy lane. -/
theorem row6 (hact : laneUnhealthy act = true) (h : u.lanes.standby ≠ .comparing ∨ laneUnhealthy stb = true) :
    u.arbitrate act stb cmp = (ofRow u 6).activeLost := by
  have hhealthy : standbyHealthy u stb = false := by
    unfold standbyHealthy
    rcases h with h | h
    · rw [decide_eq_false h, Bool.false_and]
    · rw [h, Bool.not_true, Bool.and_false]
  rw [arbitrate_unhealthy u stb cmp hact, if_neg (by rw [hhealthy]; exact Bool.false_ne_true)]

end

/-- Settles O54: the deadline is noted, and the decision is the one of its row. -/
theorem laneDecision : Obligations.LaneDecision := by
  unfold Obligations.LaneDecision
  intro a b cmp slack s act stb h
  refine ⟨_, exec_laneDeadline a b cmp slack s act stb h, ?_⟩
  generalize hnone : (!(act.complete || (decide (s.lanes.standby = .comparing) && stb.complete))) = none_
  obtain ⟨hframe, hreports⟩ := deadline_facts s slack none_
  generalize deadline s slack none_ = u at hframe hreports ⊢
  have hlanes : u.lanes = { s.lanes with sramBad := Vector.replicate 2 false } := by rw [hframe]
  have hpwm : u.pwm = s.pwm := by rw [hframe]
  have hfio : u.fio = s.fio := by rw [hframe]
  have hoverran : u.tb.overran = none_ := by rw [hframe]
  have htb : u.tb = { s.tb with overran := none_ } := by rw [hframe]
  have hlane : u.activeLane = s.activeLane := by rw [State.activeLane, hlanes]; rfl
  have hhb : ∀ x, u.hb x = s.hb x := hb_congr hpwm
  have hdecided := decided_arbitrate u act stb cmp
  have htb' : (u.arbitrate act stb cmp).tb = u.tb := by rw [hdecided.frame]
  refine ⟨?_, hdecided.roles.trans (by rw [hlanes]), ?_, fun hover => ?_, fun x => ?_, fun hswap hcomparing => ?_, fun hact hstb => ?_⟩
  · have hwhole := hdecided.frame
    generalize u.arbitrate act stb cmp = t at hwhole htb'
    rw [htb', htb]
    rw [hwhole, hframe]
  · rw [htb', hoverran, ← hnone, Bool.not_or]
  · rw [htb', hoverran] at hover
    obtain ⟨hfirst, hagain⟩ := hreports hover
    exact ⟨hdecided.keeps _ _ (by decide) hfirst, fun h => hdecided.keeps _ _ (by decide) (hagain h)⟩
  · rw [← hhb]
    exact hdecided.hbs x
  · have hswap' : u.lanes.swapping = none := by rw [hlanes]; exact hswap
    have hcomparing' : u.lanes.standby = .comparing := by rw [hlanes]; exact hcomparing
    rw [← hlane]
    refine ⟨fun hact hstb hbays hsig hscan => ?_, fun hact hstb hbays => ?_, fun hact hstb => ?_, fun hact hstb => ?_⟩
    · rw [row1 hcomparing' hact hstb hbays hsig hscan]
      refine ⟨?_, rfl, rfl, fun x => (loadSet_all (ofRow u 1) x).trans (congrArg HalfBridge.offered (hhb x)), ?_⟩
      · rw [loadSet_frame, ofRow, State.onLanes, hlanes]
      · rw [loadSet_frame]
        exact hfio
    · rw [row2 hswap' hcomparing' hact hstb hbays]
      obtain ⟨hraised, lost, image, hdiverged⟩ := raise_diverges_facts ((ofRow u 2).loadSet cmp.bays) (1 - u.activeLane) (1 - u.activeLane) 1 cmp.bays
        (show (FaultTable.find 0x0D01).isSome = true by decide) (by decide)
      have hpwm' := raise_diverges_pwm ((ofRow u 2).loadSet cmp.bays) 0x0D01 (1 - u.activeLane) (1 - u.activeLane) 1 cmp.bays
      have hload := loadSet_hb (ofRow u 2) cmp.bays
      have hsl : ((ofRow u 2).loadSet cmp.bays).lanes = { u.lanes with row := 2 } := by rw [loadSet_frame]; rfl
      have hflags := loadSet_flags (ofRow u 2) cmp.bays
      generalize (ofRow u 2).loadSet cmp.bays = v at hraised hdiverged hpwm' hload hsl hflags ⊢
      generalize (v.raise 0x0D01 (1 - u.activeLane)).diverges (1 - u.activeLane) 1 cmp.bays = w at hraised hdiverged hpwm' ⊢
      rw [hdiverged, divergedLanes, hsl, hpwm', hlanes]
      have hbay : ∀ (y : Fin 16) (x : Fin 3), bayOfHb (hbOf y x) = y := fun y x => by
        simp only [bayOfHb, hbOf, Fin.ext_iff]
        omega
      have hwhb : ∀ y x, w.hb (hbOf y x) = if cmp.bays.getLsb y then s.hb (hbOf y x) else accepted (s.hb (hbOf y x)) := fun y x => by
        rw [hb_congr hpwm', hload, hbay]
        exact congrArg (fun b => if cmp.bays.getLsb y then b else accepted b) (hhb _)
      refine ⟨rfl, hflags.1, rfl, rfl, rfl, rfl, hraised, hflags.2, fun y x => ⟨fun hy => ?_, fun hy => ⟨?_, ?_⟩⟩⟩
      · rw [hwhb, if_neg (by rw [hy]; exact Bool.false_ne_true)]
        rfl
      · rw [hwhb, if_pos hy]
      · rw [transferBay_holds (by rw [hpwm', hflags.2]; exact hy), hwhb, if_pos hy]
    · rw [row3 hswap' hcomparing' hact hstb]
      obtain ⟨hraised, lost, image, hdiverged⟩ := raise_diverges_facts ((ofRow u 3).loadSet) (1 - u.activeLane) (1 - u.activeLane) 4 cmp.bays
        (show (FaultTable.find 0x0D01).isSome = true by decide) (by decide)
      have hpwm' := raise_diverges_pwm ((ofRow u 3).loadSet) 0x0D01 (1 - u.activeLane) (1 - u.activeLane) 4 cmp.bays
      have hload := loadSet_all (ofRow u 3)
      have hsl : ((ofRow u 3).loadSet).lanes = { u.lanes with row := 3 } := by rw [loadSet_frame]; rfl
      have hflags := loadSet_flags (ofRow u 3) 0
      generalize (ofRow u 3).loadSet = v at hraised hdiverged hpwm' hload hsl hflags ⊢
      generalize (v.raise 0x0D01 (1 - u.activeLane)).diverges (1 - u.activeLane) 4 cmp.bays = w at hraised hdiverged hpwm' ⊢
      rw [hdiverged, divergedLanes, hsl, hpwm']
      exact ⟨rfl, hflags.1, fun x => ((congrArg HalfBridge.shadow (hb_congr hpwm' x)).trans (hload x)).trans (congrArg HalfBridge.offered (hhb x)),
        rfl, rfl, hraised⟩
    · obtain ⟨hback, hcopy, hraised, hset, hkept, hrow⟩ := rows4and5 (cmp := cmp) hswap' hcomparing' hact hstb
      refine ⟨hback, hcopy, hraised, fun hequal => ?_, fun hne => ?_, hrow⟩
      · obtain ⟨hall, hshadow⟩ := hset hequal
        exact ⟨hall, fun x => (hshadow x).trans (congrArg HalfBridge.offered (hhb x))⟩
      · obtain ⟨hfive, hsame⟩ := hkept hne
        exact ⟨hfive, hsame.trans hpwm⟩
  · have hstandby : u.lanes.standby ≠ .comparing ∨ laneUnhealthy stb = true := by
      rw [hlanes]
      exact hstb
    rw [row6 hact hstandby]
    obtain ⟨hwhole, -, hlost⟩ := activeLost_facts (ofRow u 6)
    have hrowLost : (ofRow u 6).lanes.lost = s.lanes.lost := by rw [ofRow, State.onLanes, hlanes]
    generalize (ofRow u 6).activeLost = t at hwhole hlost
    refine ⟨?_, ?_, fun h => hlost (hrowLost.trans h)⟩
    · rw [hwhole, ofRow, State.onLanes, hlanes]
    · rw [hwhole]
      exact hpwm

end Sys2Proof.Proofs
end

section
/-! PROOF. The statement on the setup, arming and forcing of Quarry (R424 to R426, R431, R436, R439, R440). -/

namespace Sys2Proof.Proofs
open Sys2Proof.Machine

/-! ### QUARRY_SETUP (R424 to R426) -/

/-- The engine after an accepted setup. -/
def setUp (s : State) (b : QuarryBlock) : State :=
  s.onQry (fun q => { q with
    state := .idle, setup := some (s.quarrySizes b), autoRearm := false, fillPre := false
    lastSegment := if (match s.qry.setup with | some o => decide (o.block.segments = b.segments) | none => false) then q.lastSegment else none })

theorem exec_quarrySetup {r : Req} {k : Fin 8} {s : State} (h : s.admits 0x70 r k = true) (b : QuarryBlock) :
    exec (.quarrySetup r b) s = .next (s.checked r 0x70 (s.setupChecks b) (fun s => ((setUp s b).clearFault 0x1201 255).answer r 0x70 Status.ok .bare)) :=
  congrArg Host.Outcome.next (State.request_of_admits h _)

theorem setup_refused {r : Req} {k : Fin 8} {s : State} {b : QuarryBlock} {status : Nat} (h : s.admits 0x70 r k = true)
    (hfail : firstFail (s.setupChecks b) = some status) :
    exec (.quarrySetup r b) s = .next (s.withReply (replyOf r k 0x70 status .bare)) := by
  rw [exec_quarrySetup h, State.checked_fail hfail]
  exact congrArg Host.Outcome.next (answer_of_admits h ..)

/-- A block whose channels, source, kind and numbers lie in their ranges, its row counts and the engine's state apart. -/
structure BlockForm (s : State) (b : QuarryBlock) : Prop where
  channels : ∀ d ∈ b.channels, s.signalOk d = true
  source : b.source ≤ 3
  channelKind : b.source = 1 → b.kind ≤ 3
  inputKind : b.source = 2 → b.kind ≤ 2
  otherKind : (b.source = 0 ∨ b.source = 3) → b.kind = 0
  decimation : b.decimation ≤ 2
  count : 1 ≤ b.count ∧ b.count ≤ 32
  spacing : 1 ≤ b.d ∧ b.d ≤ 65535
  segments : 1 ≤ b.segments ∧ b.segments ≤ 4096
  ringOut : b.ringOut < 8 ∨ b.ringOut = 255
  item : (b.source = 1 → b.item < b.count) ∧ (b.source = 2 → b.item < 32)
  shifts : ∀ d ∈ b.channels, bitField (chSignal d) = true → chWide d = false → chShift d = 0

/-- How many kinds a trigger source has (Table 18.1). -/
def sourceKinds : Nat → Nat
  | 1 => 4
  | 2 => 3
  | _ => 1

theorem sourceKinds_eq (n : Nat) : sourceKinds n = if n = 1 then 4 else if n = 2 then 3 else 1 := by
  unfold sourceKinds
  split
  · rfl
  · rfl
  · next h1 h2 => rw [if_neg h1, if_neg h2]

/-- Whether records of another segment count are held. -/
def heldOtherwise (s : State) (b : QuarryBlock) : Bool :=
  !(s.qry.held = []) && (match s.qry.setup with | some o => decide (o.block.segments ≠ b.segments) | none => false)

/-- The checks of a setup on its row count and the engine. -/
def engineChecks (s : State) (b : QuarryBlock) : List (Bool × Nat) :=
  [(decide ((s.quarrySizes b).rows < 16 ∨ (s.quarrySizes b).rows - 4 < b.pre), Status.outOfRange),
   (decide (s.qry.state = .armed ∨ s.qry.state = .post), Status.busy), (heldOtherwise s b, Status.busy)]

theorem firstFail_of_false {c : Bool} (h : c = false) (status : Nat) (l : List (Bool × Nat)) : firstFail ((c, status) :: l) = firstFail l := by
  rw [h, firstFail_false]

/-- The checks left to a block of that form. -/
theorem setupChecks_form {s : State} {b : QuarryBlock} (h : BlockForm s b) : firstFail (s.setupChecks b) = firstFail (engineChecks s b) := by
  have hchannels : (!b.channels.all s.signalOk) = false := by
    rw [List.all_eq_true.mpr h.channels]
    rfl
  have hkinds : ¬(3 < b.source ∨ sourceKinds b.source ≤ b.kind) := by
    obtain ⟨h1, h2, h3, h4⟩ := And.intro h.source (And.intro h.channelKind (And.intro h.inputKind h.otherKind))
    rw [sourceKinds_eq]
    split
    · omega
    · split <;> omega
  have hshifts : b.channels.any (fun d => bitField (chSignal d) && !chWide d && decide (chShift d ≠ 0)) = false := by
    refine List.any_eq_false.mpr fun d hd hbad => ?_
    simp only [Bool.and_eq_true, Bool.not_eq_true', decide_eq_true_eq] at hbad
    exact hbad.2 (h.shifts d hd hbad.1.1 hbad.1.2)
  have hnumbers : ¬(2 < b.decimation ∨ b.count < 1 ∨ 32 < b.count ∨ b.d < 1 ∨ 65535 < b.d ∨ b.segments < 1 ∨ 4096 < b.segments) := by
    have := h.decimation; have := h.count; have := h.spacing; have := h.segments
    omega
  have hring : ¬(8 ≤ b.ringOut ∧ b.ringOut ≠ 255) := by
    have := h.ringOut
    omega
  have hitem : ¬(b.source = 1 ∧ b.count ≤ b.item ∨ b.source = 2 ∧ 32 ≤ b.item) := by
    have := h.item
    omega
  unfold State.setupChecks
  exact (firstFail_of_false hchannels ..).trans ((firstFail_of_false (decide_eq_false hkinds) ..).trans
    ((firstFail_of_false (decide_eq_false hnumbers) ..).trans ((firstFail_of_false (decide_eq_false hring) ..).trans
      ((firstFail_of_false (decide_eq_false hitem) ..).trans (firstFail_of_false hshifts ..)))))

/-- The sizes of a block with enough rows fit the region (R424). -/
theorem quarrySizes_fit (s : State) (b : QuarryBlock) (hrows : 16 ≤ (s.quarrySizes b).rows) :
    (s.quarrySizes b).rowSize % 8 = 0 ∧ 192 + (s.quarrySizes b).rows * (s.quarrySizes b).rowSize ≤ (s.quarrySizes b).segmentSize ∧
    b.segments * (s.quarrySizes b).segmentSize ≤ s.devN 0x1200 * 1048576 := by
  have hrow : (s.quarrySizes b).rowSize % 8 = 0 := by
    unfold State.quarrySizes rowSizeOf padTo8
    exact Nat.mul_mod_left ..
  have hdef : (s.quarrySizes b).rows = ((s.quarrySizes b).segmentSize - 192) / (s.quarrySizes b).rowSize := rfl
  have hseg : (s.quarrySizes b).segmentSize = s.devN 0x1200 * 1048576 / b.segments / 64 * 64 := rfl
  generalize (s.quarrySizes b).rows = rows at *
  generalize (s.quarrySizes b).rowSize = row at *
  generalize (s.quarrySizes b).segmentSize = seg at *
  have hbound : rows * row ≤ seg - 192 := by
    rw [hdef]
    exact Nat.div_mul_le_self ..
  have hpos : 0 < seg - 192 := by
    rcases Nat.eq_zero_or_pos (seg - 192) with h0 | h0
    · rw [h0, Nat.zero_div] at hdef
      omega
    · exact h0
  refine ⟨hrow, by omega, ?_⟩
  calc b.segments * seg ≤ b.segments * (s.devN 0x1200 * 1048576 / b.segments) := by
        refine Nat.mul_le_mul_left _ ?_
        rw [hseg]
        exact Nat.div_mul_le_self ..
    _ ≤ s.devN 0x1200 * 1048576 := Nat.mul_div_le ..

/-- An accepted setup. -/
theorem setup_accepted {r : Req} {k : Fin 8} {s : State} {b : QuarryBlock} (h : s.admits 0x70 r k = true) (hpass : firstFail (s.setupChecks b) = none) :
    Answers (exec (.quarrySetup r b) s) (fun t =>
      t = { s with qry := t.qry, faults := t.faults, log := t.log, cmd := (s.withReply (replyOf r k 0x70 Status.ok .bare)).cmd } ∧
      t.isActive 0x1201 255 = false ∧
      t.qry = { s.qry with state := .idle, setup := some (s.quarrySizes b), autoRearm := false, fillPre := false, lastSegment := t.qry.lastSegment }) := by
  have hcleared := isActive_clearFault (setUp s b) 0x1201 255
  have hframe := State.clearFault_frame (setUp s b) 0x1201 255
  have hsessions : ((setUp s b).clearFault 0x1201 255).cmd.sessions = s.cmd.sessions := by
    rw [hframe]
    rfl
  rw [exec_quarrySetup h, State.checked_pass hpass, answer_of_sessions (State.admits_facts h).1 hsessions]
  generalize (setUp s b).clearFault 0x1201 255 = u at hcleared hframe
  refine ⟨_, rfl, ?_, hcleared, ?_⟩
  · rw [hframe]
    rfl
  · rw [hframe]
    rfl

/-! ### QUARRY_ARM (R436, R439) -/

theorem exec_quarryArm {r : Req} {k : Fin 8} {flags : Byte} {s : State} (h : s.direct 0x71 r k (.quarryArm r flags) = true) (hflags : flags.toNat < 8) :
    exec (.quarryArm r flags) s = .next ((s.quarryArm flags).1.answer r 0x71 (s.quarryArm flags).2 .bare) := by
  obtain ⟨hadmits, htag, hunclaimed⟩ := State.direct_facts h
  refine congrArg Host.Outcome.next ((State.request_of_admits hadmits _).trans ?_)
  rw [State.checked_pass (by rw [decide_eq_false (by omega), firstFail_false, firstFail_nil])]
  exact State.stageOr_direct htag (State.claimed_of_unclaimed hunclaimed)

theorem leBytes_length (n v : Nat) : (leBytes n v).length = n := by
  induction n generalizing v with
  | zero => rfl
  | succ n ih => rw [leBytes, List.length_cons, ih]

theorem slice_length (k n : Nat) (bs : List Byte) : (slice k n bs).length = n := by
  unfold slice
  rw [List.length_append, List.length_replicate]
  have : ((bs.drop k).take n).length ≤ n := by
    rw [List.length_take]
    omega
  omega

/-- The header of a record has 192 bytes (Table 18.3). -/
theorem recordHeader_length (s : State) (c : QuarrySetup) (x : Record) (done truncated : Bool) : (s.recordHeader c x done truncated).length = 192 := by
  unfold State.recordHeader
  cases x.trigger <;> simp only [List.length_append, leBytes_length, slice_length, pad, List.length_replicate]

theorem firstFail_of_true {c : Bool} (h : c = true) (status : Nat) (l : List (Bool × Nat)) : firstFail ((c, status) :: l) = some status := by
  rw [h, firstFail_true]

/-- A block that names no signal or no source (R426). -/
theorem setupChecks_bad {s : State} {b : QuarryBlock} (h : (∃ d ∈ b.channels, s.signalOk d = false) ∨ 3 < b.source ∨ (b.source = 1 ∧ 4 ≤ b.kind) ∨
    (b.source = 2 ∧ 3 ≤ b.kind) ∨ ((b.source = 0 ∨ b.source = 3) ∧ b.kind ≠ 0)) : firstFail (s.setupChecks b) = some Status.badParameter := by
  unfold State.setupChecks
  rcases hall : b.channels.all s.signalOk with _ | _
  · exact firstFail_of_true rfl ..
  · have hkinds : 3 < b.source ∨ sourceKinds b.source ≤ b.kind := by
      rcases h with ⟨d, hd, hbad⟩ | h
      · rw [List.all_eq_true] at hall
        exact absurd ((hall d hd).symm.trans hbad) (by decide)
      · rw [sourceKinds_eq]
        split
        · omega
        · split <;> omega
    exact (firstFail_of_false rfl ..).trans (firstFail_of_true (decide_eq_true hkinds) ..)

/-- Arming takes a free segment (R436). -/
theorem quarryArm_arms {s : State} {flags : Byte} {c : QuarrySetup} {seg : Nat} (hflags : flags.toNat < 4) (harmed : s.qry.state ≠ .armed)
    (hpost : s.qry.state ≠ .post) (hinit : s.power.quarryInit = false) (hsetup : s.qry.setup = some c) (hfree : s.qry.freeSegment c = some seg) :
    s.quarryArm flags = ((((s.onQry (fun q => { q with autoRearm := flags.getLsbD 0, fillPre := flags.getLsbD 1 })).quarryArmOn c seg).clearFault
      0x1201 255), Status.ok) := by
  have hbit : flags.getLsbD 2 = false := by
    rw [BitVec.getLsbD]
    exact Nat.testBit_lt_two_pow (by omega)
  have hblocked : s.armBlocked = false := by
    unfold State.armBlocked
    simp only [decide_eq_false harmed, decide_eq_false hpost, hinit, hsetup, hfree, Option.isNone_some, Bool.or_self]
  unfold State.quarryArm
  simp only [hbit, hblocked, hsetup, hfree, Bool.false_eq_true, if_false]

theorem quarryArm_blocked {s : State} {flags : Byte} (hflags : flags.toNat < 4) (h : s.qry.state = .armed ∨ s.qry.state = .post ∨ s.power.quarryInit = true ∨
    s.qry.setup = none ∨ (∃ c, s.qry.setup = some c ∧ s.qry.freeSegment c = none)) : s.quarryArm flags = (s, Status.busy) := by
  have hbit : flags.getLsbD 2 = false := by
    rw [BitVec.getLsbD]
    exact Nat.testBit_lt_two_pow (by omega)
  have hblocked : s.armBlocked = true := by
    unfold State.armBlocked
    rcases h with h | h | h | h | ⟨c, h, hfree⟩
    · rw [decide_eq_true h, Bool.true_or, Bool.true_or, Bool.true_or]
    · rw [decide_eq_true h, Bool.or_true, Bool.true_or, Bool.true_or]
    · rw [h, Bool.or_true, Bool.true_or]
    · rw [h, Bool.or_true]
    · simp only [h, hfree, Option.isNone_none, Bool.or_true]
  unfold State.quarryArm
  rw [if_neg (by rw [hbit]; exact Bool.false_ne_true), if_pos hblocked]

/-- The record that arming begins. -/
def armedRecord (s : State) (c : QuarrySetup) (seg : Nat) : Record :=
  { sequence := s.qry.sequence, segment := seg, segmentSize := c.segmentSize, armed := s.frame64, trigger := none }

/-- The engine armed on a segment. -/
def armedQuarry (s : State) (c : QuarrySetup) (seg : Nat) : Quarry :=
  { s.qry with
    state := .armed, lastSegment := some seg, sequence := nextSequence s.qry.sequence, current := some (armedRecord s c seg)
    rowsWritten := 0, triggerRow := 0, gathers := List.replicate c.block.count {}, crossed := false, candidates := [], forced := none }

/-- A record's header is written in its segment alone. -/
theorem putHeader_facts (s : State) (c : QuarrySetup) (x : Record) (done truncated : Bool) :
    s.putHeader c x done truncated = { s with dram := (s.putHeader c x done truncated).dram, badDram := (s.putHeader c x done truncated).badDram } ∧
    ∀ a : Nat, a < x.segment * c.segmentSize ∨ x.segment * c.segmentSize + 192 ≤ a → (s.putHeader c x done truncated).dramRead a 1 = s.dramRead a 1 := by
  refine ⟨by simp only [State.putHeader, State.dramWrite], fun a ha => ?_⟩
  have hreads := (dramWrite_reads s (x.segment * c.segmentSize) (s.recordHeader c x done truncated) (s.putHeader c x done truncated)
    (by rw [State.putHeader])).2 a
  rw [recordHeader_length] at hreads
  exact hreads ha

/-- What arming changes (R436). -/
theorem quarryArmOn_facts (s : State) (c : QuarrySetup) (seg : Nat) :
    s.quarryArmOn c seg = { s with qry := armedQuarry s c seg, regs := (s.quarryArmOn c seg).regs, dram := (s.quarryArmOn c seg).dram
                                   badDram := (s.quarryArmOn c seg).badDram } ∧
    ∀ a : Nat, a < seg * c.segmentSize ∨ seg * c.segmentSize + 192 ≤ a → (s.quarryArmOn c seg).dramRead a 1 = s.dramRead a 1 := by
  obtain ⟨hframe, hreads⟩ := putHeader_facts { s with qry := armedQuarry s c seg } c (armedRecord s c seg) false false
  have hdef : s.quarryArmOn c seg = (({ s with qry := armedQuarry s c seg } : State).putHeader c (armedRecord s c seg) false false).setDev 0x1214
    (s.dev 0x1214 + c.segmentSize) := rfl
  generalize ({ s with qry := armedQuarry s c seg } : State).putHeader c (armedRecord s c seg) false false = u at *
  refine ⟨?_, fun a ha => ?_⟩
  · rw [hdef, hframe]
    rfl
  · rw [hdef]
    exact hreads a ha

theorem quarryEvent_frame (s : State) (x : Record) (held : Bool) : s.quarryEvent x held = { s with log := (s.quarryEvent x held).log } := by
  unfold State.quarryEvent
  cases x.trigger <;> rfl

/-- What closing a record changes (R434, R440). -/
theorem closeRecord_facts (s : State) (c : QuarrySetup) (x : Record) (truncated : Bool) :
    s.closeRecord c x truncated = { s with
      qry := { s.qry with state := .stopped, held := s.qry.held ++ [x], current := none, gathers := [], candidates := [], forced := none }
      dram := (s.closeRecord c x truncated).dram, badDram := (s.closeRecord c x truncated).badDram, log := (s.closeRecord c x truncated).log } := by
  obtain ⟨hframe, -⟩ := putHeader_facts s c x true truncated
  unfold State.closeRecord
  generalize s.putHeader c x true truncated = u at hframe
  rw [quarryEvent_frame, State.onQry, hframe]

/-- The free segment is held by no record. -/
theorem freeSegment_unheld {q : Quarry} {c : QuarrySetup} {seg : Nat} (h : q.freeSegment c = some seg) : ∀ x ∈ q.held, x.segment ≠ seg := by
  intro x hx heq
  have hfree := List.find?_some h
  have hused : seg ∈ q.used := by
    unfold Quarry.used
    exact List.mem_append_left _ (List.mem_map.mpr ⟨x, hx, heq⟩)
  rw [Bool.not_eq_true', List.contains_eq_mem, decide_eq_false_iff_not] at hfree
  exact hfree hused

/-- Disarming ends the record in progress (R436, R439). -/
theorem quarryArm_disarms {s : State} {flags : Byte} (hflags : 4 ≤ flags.toNat) (hflags' : flags.toNat < 8) :
    (∀ c x, s.qry.setup = some c → s.qry.current = some x → s.quarryArm flags = if s.qry.state = .post then
      ((s.closeRecord c x true).onQry (fun q => { q with autoRearm := false }), Status.ok)
      else ((s.freeCurrent x).onQry (fun q => { q with state := .idle, autoRearm := false }), Status.ok)) ∧
    (s.qry.current = none → s.qry.state = .idle → s.quarryArm flags = (s, Status.alreadyDone)) := by
  have hbit : flags.getLsbD 2 = true := by
    rw [BitVec.getLsbD, Nat.testBit_eq_decide_div_mod_eq]
    exact decide_eq_true (by omega)
  refine ⟨fun c x hsetup hcurrent => ?_, fun hcurrent hidle => ?_⟩
  · unfold State.quarryArm
    simp only [hbit, hsetup, hcurrent, if_true]
  · unfold State.quarryArm
    rw [if_pos hbit, hcurrent]
    split
    · next h => cases h
    · rw [if_pos hidle]

/-! ### The statement -/

theorem arms_facts {r : Req} {k : Fin 8} {flags : Byte} {s : State} (h : s.direct 0x71 r k (.quarryArm r flags) = true) (hflags : flags.toNat < 4)
    {c : QuarrySetup} {seg : Nat} (harmed : s.qry.state ≠ .armed) (hpost : s.qry.state ≠ .post) (hinit : s.power.quarryInit = false)
    (hsetup : s.qry.setup = some c) (hfree : s.qry.freeSegment c = some seg) : Answers (exec (.quarryArm r flags) s) (fun t =>
      t = { s with qry := t.qry, regs := t.regs, dram := t.dram, badDram := t.badDram, faults := t.faults, log := t.log
                   cmd := (s.withReply (replyOf r k 0x71 Status.ok .bare)).cmd } ∧
      t.qry.state = .armed ∧ t.qry.autoRearm = flags.getLsbD 0 ∧ t.qry.fillPre = flags.getLsbD 1 ∧ t.qry.held = s.qry.held ∧
      t.qry.current = some { sequence := s.qry.sequence, segment := seg, segmentSize := c.segmentSize, armed := s.frame64, trigger := none } ∧
      t.qry.lastSegment = some seg ∧ t.qry.sequence = nextSequence s.qry.sequence ∧ t.qry.rowsWritten = 0 ∧
      (∀ x ∈ s.qry.held, x.segment ≠ seg) ∧
      ∀ x : Nat, x < seg * c.segmentSize ∨ seg * c.segmentSize + 192 ≤ x → t.dramRead x 1 = s.dramRead x 1) := by
  obtain ⟨hadmits, -, -⟩ := State.direct_facts h
  rw [exec_quarryArm h (by omega), quarryArm_arms hflags harmed hpost hinit hsetup hfree]
  obtain ⟨hwhole, hreads⟩ := quarryArmOn_facts (s.onQry (fun q => { q with autoRearm := flags.getLsbD 0, fillPre := flags.getLsbD 1 })) c seg
  generalize (s.onQry (fun q => { q with autoRearm := flags.getLsbD 0, fillPre := flags.getLsbD 1 })).quarryArmOn c seg = u at hwhole hreads
  have hframe := State.clearFault_frame u 0x1201 255
  have hsessions : (u.clearFault 0x1201 255).cmd.sessions = s.cmd.sessions := by
    rw [hframe, hwhole]
    rfl
  refine ⟨_, congrArg Host.Outcome.next (answer_of_sessions (State.admits_facts hadmits).1 hsessions ..), ?_⟩
  generalize u.clearFault 0x1201 255 = v at hframe
  have hvq : v.qry = armedQuarry (s.onQry (fun q => { q with autoRearm := flags.getLsbD 0, fillPre := flags.getLsbD 1 })) c seg := by
    rw [hframe, hwhole]
  have hvd : v.dram = u.dram := by rw [hframe]
  refine ⟨?_, ?_⟩
  · rw [hframe, hwhole]
    rfl
  · have hsame : (v.withReply (replyOf r k 0x71 Status.ok .bare)).qry = v.qry := rfl
    rw [hsame, hvq]
    refine ⟨rfl, rfl, rfl, rfl, rfl, rfl, rfl, rfl, freeSegment_unheld hfree, fun x hx => (?_ : _ = u.dramRead x 1).trans (hreads x hx)⟩
    unfold State.dramRead
    rw [← hvd]
    rfl

/-- Settles O45: setup and arming run behind their checks, and change the engine and the header of its segment. -/
theorem quarrySetUpAndArming : Obligations.QuarrySetUpAndArming := by
  unfold Obligations.QuarrySetUpAndArming
  refine ⟨fun r k b s hadmits => ⟨fun hbad => setup_refused hadmits (setupChecks_bad hbad), ?_⟩, fun r k flags s => ⟨fun hadmits hflags => ?_,
    fun hdirect hflags => ⟨fun hblocked => ?_, fun c seg harmed hpost hinit hsetup hfree => arms_facts hdirect hflags harmed hpost hinit hsetup hfree⟩,
    fun hdirect hflags hflags' => ?_⟩, fun r k s hadmits => ⟨fun harmed => ?_, fun x u hpost hx hu => ?_, fun harmed hpost => ?_⟩, fun s => rfl⟩
  · intro h1 h2 h3 h4 h5 h6 h7 h8 h9 h10 h11 h12 h13 h14 h15 h16
    have hform : BlockForm s b := ⟨h1, h2, h3, h4, h5, h6, ⟨h7, h8⟩, ⟨h9, h10⟩, ⟨h11, h12⟩, h13, ⟨h14, h15⟩, h16⟩
    refine ⟨fun hrows => setup_refused hadmits ?_, fun hrows hpre => ⟨fun hbusy => setup_refused hadmits ?_, fun harmed hpost hheld => ?_⟩⟩
    · rw [setupChecks_form hform]
      exact firstFail_of_true (decide_eq_true hrows) ..
    · rw [setupChecks_form hform]
      refine (firstFail_of_false (decide_eq_false (by omega)) ..).trans ?_
      by_cases hrunning : s.qry.state = .armed ∨ s.qry.state = .post
      · exact firstFail_of_true (decide_eq_true hrunning) ..
      · refine (firstFail_of_false (decide_eq_false hrunning) ..).trans (firstFail_of_true ?_ ..)
        obtain ⟨hheld, o, ho, hother⟩ := (hbusy.resolve_left fun h => hrunning (.inl h)).resolve_left fun h => hrunning (.inr h)
        simp only [heldOtherwise, ho, decide_eq_false hheld, decide_eq_true hother, Bool.not_false, Bool.and_self]
    · have hother : heldOtherwise s b = false := by
        rcases hheld with hheld | hheld
        · rw [heldOtherwise, decide_eq_true hheld]
          rfl
        · rcases ho : s.qry.setup with _ | o
          · simp only [heldOtherwise, ho, Bool.and_false]
          · simp only [heldOtherwise, ho, decide_eq_false (not_not_intro (hheld o ho)), Bool.and_false]
      have hpass : firstFail (s.setupChecks b) = none := by
        rw [setupChecks_form hform]
        exact (firstFail_of_false (decide_eq_false (by omega)) ..).trans ((firstFail_of_false (decide_eq_false (not_or.mpr ⟨harmed, hpost⟩)) ..).trans
          ((firstFail_of_false hother ..).trans firstFail_nil))
      obtain ⟨t, ht, hwhole, hcleared, hqry⟩ := setup_accepted hadmits hpass
      exact ⟨t, ht, hwhole, hcleared, hqry, rfl, quarrySizes_fit s b hrows⟩
  · refine congrArg Host.Outcome.next ((State.request_of_admits hadmits _).trans ?_)
    rw [State.checked_fail (firstFail_of_true (decide_eq_true hflags) ..)]
    exact answer_of_admits hadmits ..
  · obtain ⟨hadmits, -, -⟩ := State.direct_facts hdirect
    rw [exec_quarryArm hdirect (by omega), quarryArm_blocked hflags hblocked]
    exact congrArg Host.Outcome.next (answer_of_admits hadmits ..)
  · obtain ⟨hadmits, -, -⟩ := State.direct_facts hdirect
    obtain ⟨hends, hidle⟩ := quarryArm_disarms (s := s) hflags hflags'
    have hrun := exec_quarryArm hdirect hflags'
    refine ⟨fun c x hsetup hcurrent hpost => ?_, fun c x hsetup hcurrent hpost => ?_, fun hcurrent hstate => ?_⟩
    · have hclosed := closeRecord_facts s c x true
      rw [hrun, hends c x hsetup hcurrent, if_pos hpost]
      generalize s.closeRecord c x true = u at hclosed
      have hsessions : (u.onQry (fun q => { q with autoRearm := false })).cmd.sessions = s.cmd.sessions := by
        rw [hclosed]
        rfl
      refine ⟨_, congrArg Host.Outcome.next (answer_of_sessions (State.admits_facts hadmits).1 hsessions ..), ?_⟩
      rw [hclosed]
      exact ⟨rfl, rfl, rfl, rfl, rfl⟩
    · rw [hrun, hends c x hsetup hcurrent, if_neg hpost]
      exact ⟨_, congrArg Host.Outcome.next (answer_of_sessions (s := s) (t := State.onQry (State.freeCurrent _ _) _) (State.admits_facts hadmits).1 rfl ..),
        rfl, rfl, rfl, rfl, rfl⟩
    · rw [hrun, hidle hcurrent hstate]
      exact congrArg Host.Outcome.next (answer_of_admits hadmits ..)
  · refine congrArg Host.Outcome.next ((State.request_of_admits hadmits _).trans ?_)
    rw [if_neg (by rw [harmed]; decide), if_pos harmed]
    exact answer_of_sessions (s := s) (t := State.onQry _ _) (State.admits_facts hadmits).1 rfl ..
  · refine congrArg Host.Outcome.next ((State.request_of_admits hadmits _).trans ?_)
    rw [if_pos hpost, hx, Option.bind_some, hu]
    exact answer_of_admits hadmits ..
  · refine congrArg Host.Outcome.next ((State.request_of_admits hadmits _).trans ?_)
    rw [if_neg hpost, if_neg harmed]
    exact answer_of_admits hadmits ..

end Sys2Proof.Proofs
end

section
/-! PROOF. The statement on the power stage (R130, R148). -/

namespace Sys2Proof.Proofs
open Sys2Proof.Machine

/-! ### A bootstrap retry that restarts its axis (R148)

The statement keeps all but the power stage, the faults and the log when the retry of a half-bridge releases it. An axis that was left
coasting by the latch restarts through the enable sequence at that release. -/

/-- Axis 0 coasting in Run, and the retry of its half-bridge 0 due. -/
def coastingAxis : State :=
  { deviceIn .run with pwm := { (deviceIn .run).pwm with boot := (deviceIn .run).pwm.boot.set 0 { waitEnd := some 0 } } }.onAx 0
    (fun x => { x with state := .coasting })

/-- The retry leaves the axis enabling. -/
theorem retry_restarts_axis : (coastingAxis.ax 0).state = .coasting ∧
    ((ranNext (exec (.autoRetryTry (.boot 0) false) coastingAxis) coastingAxis).ax 0).state = .enabling := by
  decide +kernel

/-- Refutes O57: the retry of a bootstrap latch restarts the axis that the latch had left coasting. -/
theorem not_powerStage : ¬ Obligations.PowerStage := by
  rintro ⟨-, -, -, -, -, hboot⟩
  obtain ⟨-, hdue⟩ := hboot 0 false coastingAxis 0 (by decide +kernel)
  obtain ⟨hfew, -⟩ := hdue (by decide +kernel) (by decide +kernel) (by decide +kernel)
  obtain ⟨-, hclear⟩ := hfew (by decide +kernel)
  obtain ⟨t, hexec, hframe, -⟩ := hclear rfl
  obtain ⟨hbefore, hafter⟩ := retry_restarts_axis
  rw [hexec, ranNext, hframe] at hafter
  exact absurd (hbefore.symm.trans hafter) (by decide)

end Sys2Proof.Proofs
end

section
/-! PROOF. The statement on carriers and samples (R117, R209). -/

namespace Sys2Proof.Proofs
open Sys2Proof.Machine

/-! ### A chopper trip before a fast phase (R117, R209)

The statement keeps every half-bridge at a chopper trip of a stepper bay. Where the off-time has a fast phase, the trip marks that the
other leg of the coil has driven its high side. -/

/-- A coil that chops in bay 0 with a fast phase of 1000 counts, its legs free of any latch. -/
def choppingCoil : State :=
  (((((deviceIn .run).setDev 0x0800 1).onBay 0 (fun y => { y with chopper := { phase := .onTime } })).onHb 0
    (fun h => { h with active := 0xF0001, release := .no })).onHb 1 (fun h => { h with release := .no }))

/-- The trip marks the leg U. -/
theorem highPulsed_of_trip : (choppingCoil.hb 1).highPulsed = false ∧
    ((ranNext (exec (.chopTrip 0 0) choppingCoil) choppingCoil).hb 1).highPulsed = true := by
  decide +kernel

/-- Refutes O56: a chopper trip with a fast phase changes a half-bridge of its bay. -/
theorem not_carriersAndSamples : ¬ Obligations.CarriersAndSamples := by
  rintro ⟨-, hchop, -⟩
  obtain ⟨-, htrip, -⟩ := hchop 0 0 choppingCoil
  obtain ⟨t, hexec, -, hhbs, -⟩ := htrip (by decide +kernel) (by decide +kernel) (by decide +kernel)
  obtain ⟨hbefore, hafter⟩ := highPulsed_of_trip
  rw [hexec, ranNext, State.hb, hhbs] at hafter
  exact absurd (hbefore.symm.trans hafter) (by decide)

end Sys2Proof.Proofs
end

section
/-! PROOF. The statement on resets, boot and clock loss (R52, R122, R252). -/

namespace Sys2Proof.Proofs
open Sys2Proof.Machine

/-! ### Clock loss and a gear partner that is no axis (R19, R252)

The statement keeps every axis slot that is not present. The reaction of TB_CLOCK_LOSS also stops the gear partners of the axes in its
scope, and it takes them from the gear records of all sixteen slots. -/

/-- A device with a stepper pair on bays 0 and 1, whose unused slot 1 holds an axis in motion that is geared to axis 0. -/
def gearedUnusedSlot : State :=
  ((deviceIn .run).setDev 0x0800 1).onAx 1 (fun x => { x with state := .moving, gear := some { master := 0, ratio := 65536, offset := 0 } })

/-- The reaction stops that slot. -/
theorem clockLoss_stops_unused_slot : (gearedUnusedSlot.ax 1).state = .moving ∧
    ((ranNext (exec .tbClockLoss gearedUnusedSlot) gearedUnusedSlot).ax 1).state = .stopping := by
  decide +kernel

/-- Refutes O52: clock loss changes a slot that is no axis of the device. -/
theorem not_resetsAndBoot : ¬ Obligations.ResetsAndBoot := by
  rintro ⟨-, -, -, hclock, -⟩
  obtain ⟨-, -, -, -, -, hloss⟩ := hclock gearedUnusedSlot
  obtain ⟨t, hexec, -, -, -, -, -, -, -, haxes⟩ := hloss (by decide +kernel)
  obtain ⟨-, hkept⟩ := haxes (by decide +kernel) 1
  obtain ⟨hbefore, hafter⟩ := clockLoss_stops_unused_slot
  rw [hexec, ranNext, hkept (.inl (by decide +kernel))] at hafter
  exact absurd (hbefore.symm.trans hafter) (by decide)

end Sys2Proof.Proofs
end

section
/-! PROOF. The statement on activation, confirmation and rollback (R462 to R468). -/

namespace Sys2Proof.Proofs
open Sys2Proof.Machine

/-! ### Parameters taking their values

A set's values, and what follows a change of SVC values, leave the slots, the session layer, the mode, the waiting writes, the safety
channel and the tick time as they were. A save that a value starts occupies the flash controller. -/

/-- The parts of a state that taking values does not touch. -/
structure TakesValues (s t : State) : Prop where
  cfg : t.cfg = { s.cfg with flash := t.cfg.flash }
  cmd : t.cmd = s.cmd
  power : t.power = s.power
  svcPending : t.svcPending = s.svcPending
  saf : t.saf = s.saf
  tickAt : t.tb.tickAt = s.tb.tickAt

namespace TakesValues

theorem refl (s : State) : TakesValues s s := ⟨rfl, rfl, rfl, rfl, rfl, rfl⟩

theorem trans {s t u : State} (h : TakesValues s t) (h' : TakesValues t u) : TakesValues s u where
  cfg := by rw [h'.cfg, h.cfg]
  cmd := h'.cmd.trans h.cmd
  power := h'.power.trans h.power
  svcPending := h'.svcPending.trans h.svcPending
  saf := h'.saf.trans h.saf
  tickAt := h'.tickAt.trans h.tickAt

theorem ite {s t u : State} {c : Prop} [Decidable c] (h : TakesValues s t) (h' : TakesValues s u) :
    TakesValues s (if c then t else u) := by split <;> assumption

theorem each {α : Type} {l : List α} {f : α → State → State} (hf : ∀ x t, TakesValues t (f x t)) (s : State) :
    TakesValues s (s.each l f) := by
  induction l generalizing s with
  | nil => exact .refl s
  | cons x l ih => exact (hf x s).trans (ih (f x s))

end TakesValues

theorem takesValues_setPar (s : State) (i k : Nat) (x : Int) : TakesValues s (s.setPar i k x) := ⟨rfl, rfl, rfl, rfl, rfl, rfl⟩

theorem takesValues_onBay (s : State) (b : Fin 16) (f : Bay → Bay) : TakesValues s (s.onBay b f) := ⟨rfl, rfl, rfl, rfl, rfl, rfl⟩

theorem takesValues_onAx (s : State) (a : Fin 16) (f : Axis → Axis) : TakesValues s (s.onAx a f) := ⟨rfl, rfl, rfl, rfl, rfl, rfl⟩

theorem takesValues_onFio (s : State) (f : FieldIo → FieldIo) : TakesValues s (s.onFio f) := ⟨rfl, rfl, rfl, rfl, rfl, rfl⟩

theorem takesValues_raise (s : State) (code inst : Nat) : TakesValues s (s.raise code inst) := by
  rw [State.raise_frame]
  exact ⟨rfl, rfl, rfl, rfl, rfl, rfl⟩

theorem takesValues_clearFault (s : State) (code inst : Nat) : TakesValues s (s.clearFault code inst) := by
  rw [State.clearFault_frame]
  exact ⟨rfl, rfl, rfl, rfl, rfl, rfl⟩

theorem takesValues_writeCarrier (s : State) (b : Nat) (x : Int) : TakesValues s (s.writeCarrier b x) := by
  unfold State.writeCarrier
  exact .each (fun y t => (takesValues_setPar t 0x0300 y.val x).trans (takesValues_onBay _ y _)) s

theorem takesValues_writeLock (s : State) (h : Nat) (x : Int) : TakesValues s (s.writeLock h x) := by
  refine TakesValues.trans ?_ (takesValues_setPar _ 0x1021 h x)
  exact .ite (.ite (.refl s) (takesValues_onFio s _)) (takesValues_onFio s _)

theorem takesValues_quarryRelease (s : State) (w : Word) : TakesValues s (s.quarryRelease w) := by
  have hdown : TakesValues s ((s.onQry (fun q => { q with held := q.held.filter (fun r => later r.sequence w) })).setDev 0x1215
      (s.dev 0x1215 + sumN ((s.qry.held.filter (fun r => !later r.sequence w)).map Record.segmentSize))) := ⟨rfl, rfl, rfl, rfl, rfl, rfl⟩
  exact .ite hdown (hdown.trans (takesValues_clearFault _ 0x1201 255))

theorem takesValues_dramWrite (s : State) (a : Nat) (bytes : List Byte) : TakesValues s (s.dramWrite a bytes) := ⟨rfl, rfl, rfl, rfl, rfl, rfl⟩

theorem takesValues_startSave (s : State) : TakesValues s s.startSave := by
  unfold State.startSave
  dsimp only
  generalize s.templateImage _ _ = image
  have hwrite := takesValues_dramWrite s templateCopy image
  generalize s.dramWrite templateCopy image = t at hwrite ⊢
  exact ⟨by rw [hwrite.cfg], hwrite.cmd, hwrite.power, hwrite.svcPending, hwrite.saf, hwrite.tickAt⟩

theorem takesValues_takeValue (s : State) (i k : Nat) (x : Int) : TakesValues s (s.takeValue i k x) := by
  unfold State.takeValue
  refine .ite (takesValues_writeCarrier s k x) (.ite (takesValues_startSave s) (.ite ?_ (.ite (takesValues_writeLock s k x) (.ite ?_ ?_))))
  · exact (takesValues_setPar s i k x).trans (takesValues_onFio _ _)
  · exact (takesValues_setPar s i k x).trans (takesValues_quarryRelease _ _)
  · exact takesValues_setPar s i k x

theorem takesValues_applySet (s : State) (o : Option (Fin 8)) : TakesValues s (s.applySet o) := by
  refine TakesValues.trans (.each (fun k t => ?_) s) (.each (fun e t => ?_) _)
  · exact .ite (takesValues_takeValue t _ _ _) (takesValues_setPar t _ _ _)
  · exact .ite (takesValues_takeValue t _ _ _) (.refl t)

theorem takesValues_retypePairs (s : State) (before : Nat) : TakesValues s (s.retypePairs before) := by
  refine .each (fun k t => .ite (.refl t) ?_) s
  exact TakesValues.ite (((takesValues_onAx t _ _).trans (takesValues_onAx _ _ _)).trans (takesValues_writeCarrier _ _ _))
    ((takesValues_onAx t _ _).trans (takesValues_onAx _ _ _))

theorem takesValues_invalidateTable (s : State) (a : Fin 16) : TakesValues s (s.invalidateTable a) :=
  TakesValues.trans (t := (s.clearBins a false).clearBins a true) ⟨rfl, rfl, rfl, rfl, rfl, rfl⟩ (takesValues_raise _ 0x0B03 a.val)

theorem takesValues_leaveRing (s : State) : TakesValues s s.leaveRing := by
  have hfaults : TakesValues s (s.each [0x0104, 0x0105, 0x0106, 0x0F01, 0x0F03, 0x0F05, 0x0F06, 0x0F0B] (fun c t => t.clearFault c 255)) :=
    .each (fun c t => takesValues_clearFault t c 255) s
  unfold State.leaveRing
  generalize s.each _ _ = t at hfaults ⊢
  exact hfaults.trans ⟨rfl, rfl, rfl, rfl, rfl, rfl⟩

theorem takesValues_configureCounters (s : State) : TakesValues s s.configureCounters :=
  .ite ((takesValues_onFio s _).trans (takesValues_clearFault _ 0x1008 255)) ((takesValues_onFio s _).trans (takesValues_raise _ 0x1008 255))

theorem takesValues_joinBus (s : State) (c : Fin 2) : TakesValues s (s.joinBus c) :=
  TakesValues.trans (t := State.errorCounters { s with can := upd s.can c (fun x => { x with state := .active }) } c 0 0) ⟨rfl, rfl, rfl, rfl, rfl, rfl⟩
    ((takesValues_clearFault _ 0x1102 c.val).trans (takesValues_clearFault _ 0x1103 c.val))

theorem takesValues_configureCan (s : State) (c : Fin 2) : TakesValues s (s.configureCan c) := by
  have hcheck : TakesValues s (if s.canOk c then s.clearFault 0x1101 c.val else s.raise 0x1101 c.val) :=
    .ite (takesValues_clearFault s _ _) (takesValues_raise s _ _)
  refine .ite (hcheck.trans ⟨rfl, rfl, rfl, rfl, rfl, rfl⟩) (.ite (hcheck.trans (takesValues_joinBus _ c)) hcheck)

theorem takesValues_valuesChanged (s before : State) : TakesValues s (s.valuesChanged before) := by
  have hpairs := takesValues_retypePairs s (before.devN 0x0800)
  unfold State.valuesChanged
  generalize s.retypePairs (before.devN 0x0800) = t at hpairs ⊢
  refine hpairs.trans (TakesValues.trans (TakesValues.trans ?_ (takesValues_configureCounters _))
    ((takesValues_configureCan _ 0).trans (takesValues_configureCan _ 1)))
  have htables : TakesValues t (t.each t.presentAxes (fun a u =>
      if tableParameters.any (fun i => decide (u.par i a.val ≠ before.par i a.val)) then u.invalidateTable a else u)) :=
    .each (fun a u => .ite (takesValues_invalidateTable u a) (.refl u)) t
  exact .ite htables (htables.trans (takesValues_leaveRing _))

/-! ### State records of slots -/

theorem appendRecord_frame (s : State) (area : Nat) (bs : List Byte) :
    s.appendRecord area bs = { s with flash := (s.appendRecord area bs).flash } := by
  unfold State.appendRecord
  split <;> rfl

/-- The slot with a new record. -/
def Slot.recorded (x : Slot) (kind : RecordKind) (generation : Nat) : Slot :=
  { x with record := some (kind, generation), wasConfirmed := x.wasConfirmed || kind = .confirmed }

theorem recordSlot_frame (s : State) (k : Fin 8) (kind : RecordKind) (generation : Nat) :
    s.recordSlot k kind generation = { s with flash := (s.recordSlot k kind generation).flash
                                              cfg := { s.cfg with slots := upd s.cfg.slots k (fun x => Slot.recorded x kind generation) } } := by
  rw [State.recordSlot, State.onSlot, appendRecord_frame]
  rfl

theorem recordImage_frame (s : State) (kind slot : Fin 2) (rk : RecordKind) (generation : Nat) :
    s.recordImage kind slot rk generation = { s with
      flash := (s.recordImage kind slot rk generation).flash
      cfg := { s.cfg with lane := (s.recordImage kind slot rk generation).cfg.lane
                          safety := (s.recordImage kind slot rk generation).cfg.safety } } := by
  have hframe := appendRecord_frame s (imageArea kind slot) (recordBytes rk generation (BitVec.ofNat 32 (s.imageField kind slot 8 4)))
  unfold State.recordImage State.onImage
  dsimp only
  generalize s.appendRecord (imageArea kind slot) _ = t at hframe ⊢
  rw [hframe]
  split <;> rfl

theorem onImage_imageAt (s : State) (kind slot : Fin 2) (f : Slot → Slot) : (s.onImage kind slot f).imageAt kind slot = f (s.imageAt kind slot) := by
  unfold State.onImage State.imageAt
  split
  · exact upd_same _ _ f
  · exact upd_same _ _ f

theorem onImage_imageAt_other (s : State) (kind slot other : Fin 2) (f : Slot → Slot) :
    (s.onImage kind slot f).imageAt (kind + 1) other = s.imageAt (kind + 1) other := by
  unfold State.onImage State.imageAt
  match kind with
  | 0 => rfl
  | 1 => rfl

theorem imageAt_congr {s t : State} (h : t.cfg = s.cfg) (kind slot : Fin 2) : t.imageAt kind slot = s.imageAt kind slot := by
  rw [State.imageAt, State.imageAt, h]

theorem recordImage_imageAt (s : State) (kind slot : Fin 2) (rk : RecordKind) (generation : Nat) :
    ((s.recordImage kind slot rk generation).imageAt kind slot).record = some (rk, generation) := by
  rw [State.recordImage, onImage_imageAt]

theorem recordImage_imageAt_other (s : State) (kind slot other : Fin 2) (rk : RecordKind) (generation : Nat) :
    (s.recordImage kind slot rk generation).imageAt (kind + 1) other = s.imageAt (kind + 1) other := by
  rw [State.recordImage, onImage_imageAt_other]
  exact imageAt_congr (congrArg State.cfg (appendRecord_frame s _ _)) _ _

/-! ### The previous slot -/

/-- The generation under which a slot may be gone back to. -/
def Slot.backTo (x : Slot) : Option Nat :=
  match x.record with
  | some (.confirmed, g) => some g
  | some (.activated, g) => some g
  | _ => none

/-- One step of the search for the previous slot. -/
def betterSlot (s : State) (best : Option (Fin 8)) (k : Fin 8) : Option (Fin 8) :=
  if s.cfg.activeSlot = some k ∨ !s.cfg.slots[k].valid then best
  else match Slot.backTo s.cfg.slots[k], best with
    | some g, some b => (match Slot.backTo s.cfg.slots[b] with | some h => if h < g then some k else best | none => some k)
    | some _, none => some k
    | none, _ => best

theorem previousSlot_eq (s : State) : s.previousSlot = (allFin 8).foldl (betterSlot s) none := rfl

/-- What the search has found so far: no slot in force, a valid one. -/
def FoundSlot (s : State) (o : Option (Fin 8)) : Prop := ∀ p, o = some p → s.cfg.activeSlot ≠ some p ∧ s.cfg.slots[p].valid = true

theorem foundSlot_better {s : State} {o : Option (Fin 8)} (h : FoundSlot s o) (k : Fin 8) : FoundSlot s (betterSlot s o k) := by
  unfold betterSlot
  split
  · exact h
  · next hfree =>
    obtain ⟨hactive, hvalid⟩ := not_or.mp hfree
    have hk : FoundSlot s (some k) := fun p hp => by
      obtain rfl := Option.some.inj hp
      exact ⟨hactive, by simpa using hvalid⟩
    split
    · split
      · split
        · exact hk
        · exact h
      · exact hk
    · exact hk
    · exact h

/-- The previous slot is valid and not the one in force. -/
theorem previousSlot_found (s : State) : FoundSlot s s.previousSlot := by
  rw [previousSlot_eq]
  have hfold : ∀ (l : List (Fin 8)) (o : Option (Fin 8)), FoundSlot s o → FoundSlot s (l.foldl (betterSlot s) o) := by
    intro l
    induction l with
    | nil => exact fun o h => h
    | cons k l ih => exact fun o h => ih _ (foundSlot_better h k)
  exact hfold _ none (fun p hp => nomatch hp)

/-- A valid slot, not in force, whose generation is above that of every other slot, is the previous one. -/
theorem previousSlot_of_highest {s : State} {p : Fin 8} {g : Nat} (hactive : s.cfg.activeSlot ≠ some p) (hvalid : s.cfg.slots[p].valid = true)
    (hgen : Slot.backTo s.cfg.slots[p] = some g) (hless : ∀ (k : Fin 8) h, k ≠ p → Slot.backTo s.cfg.slots[k] = some h → h < g) :
    s.previousSlot = some p := by
  have hstay : ∀ k, betterSlot s (some p) k = some p := by
    intro k
    unfold betterSlot
    split
    · rfl
    · split
      · next h b hh hb =>
        obtain rfl := Option.some.inj hb
        rw [hgen]
        by_cases hk : k = p
        · rw [hk]
          exact ite_self _
        · exact if_neg (by have := hless k h hk hh; omega)
      · next hb => cases hb
      · rfl
  have htake : ∀ o, (∀ b, o = some b → b = p ∨ ∃ h, Slot.backTo s.cfg.slots[b] = some h ∧ h < g) → betterSlot s o p = some p := by
    intro o ho
    unfold betterSlot
    rw [if_neg (not_or.mpr ⟨hactive, by simpa using hvalid⟩), hgen]
    match o with
    | none => rfl
    | some b =>
      rcases ho b rfl with rfl | ⟨h, hh, hlt⟩
      · simp only [hgen, ite_self]
      · simp only [hh, if_pos hlt]
  have hlow : ∀ o (k : Fin 8), k ≠ p → (∀ b, o = some b → b = p ∨ ∃ h, Slot.backTo s.cfg.slots[b] = some h ∧ h < g) →
      ∀ b, betterSlot s o k = some b → b = p ∨ ∃ h, Slot.backTo s.cfg.slots[b] = some h ∧ h < g := by
    intro o k hk ho
    have hown : ∀ h, Slot.backTo s.cfg.slots[k] = some h → ∀ b, some k = some b → b = p ∨ ∃ h, Slot.backTo s.cfg.slots[b] = some h ∧ h < g := by
      intro h hh b hb
      obtain rfl := Option.some.inj hb
      exact .inr ⟨h, hh, hless _ h hk hh⟩
    unfold betterSlot
    split
    · exact ho
    · split
      · next hh =>
        split
        · split
          · exact hown _ hh
          · exact ho
        · exact hown _ hh
      · next hh => exact hown _ hh
      · exact ho
  have hfold : ∀ (l : List (Fin 8)) (o : Option (Fin 8)), (p ∈ l ∨ o = some p) →
      (∀ b, o = some b → b = p ∨ ∃ h, Slot.backTo s.cfg.slots[b] = some h ∧ h < g) → l.foldl (betterSlot s) o = some p := by
    intro l
    induction l with
    | nil => exact fun o hp _ => hp.resolve_left List.not_mem_nil
    | cons k l ih =>
      intro o hp ho
      by_cases hk : k = p
      · subst hk
        refine ih _ (.inr (htake o ho)) fun b hb => .inl ?_
        rw [htake o ho] at hb
        exact (Option.some.inj hb).symm
      · rcases hp with hmem | rfl
        · exact ih _ (.inl ((List.mem_cons.mp hmem).resolve_left (Ne.symm hk))) (hlow o k hk ho)
        · exact ih _ (.inr (hstay k)) (hlow _ k hk ho)
  rw [previousSlot_eq]
  exact hfold _ none (.inl (List.mem_finRange p)) (fun b hb => nomatch hb)

end Sys2Proof.Proofs
end

section
/-! PROOF. The statement on activation, confirmation and rollback (R462 to R468): the requests and the ticks that carry them out. -/

namespace Sys2Proof.Proofs
open Sys2Proof.Machine

theorem fin8_of_byte (n : Fin 8) : Fin.ofNat 8 (BitVec.ofNat 8 n.val).toNat = n := by
  refine Fin.ext ?_
  rw [Fin.val_ofNat, BitVec.toNat_ofNat]
  omega

theorem byte_of_fin8_lt (n : Fin 8) : (BitVec.ofNat 8 n.val).toNat < 8 := by
  rw [BitVec.toNat_ofNat]
  omega

/-! ### Activation -/

/-- A set that becomes the active one: the parts of the state that change, and the record of its slot. -/
theorem becomeActive_facts (s : State) (n : Fin 8) (trial : Option Nat) :
    s.becomeActive n trial = { s with flash := (s.becomeActive n trial).flash, log := (s.becomeActive n trial).log
                                      cfg := (s.becomeActive n trial).cfg } ∧
    (s.becomeActive n trial).cfg = { s.cfg with
      slots := upd s.cfg.slots n (fun x => Slot.recorded x (if trial.isSome then .trial else .activated) s.nextGeneration)
      activeSlot := some n, trial := if trial.isSome then some n else none
      trialEnd := s.tb.tickAt + 200000000 * trial.getD 0 } := by
  unfold State.becomeActive
  dsimp only
  have hframe := recordSlot_frame s n (if trial.isSome then .trial else .activated) s.nextGeneration
  generalize s.recordSlot n _ s.nextGeneration = t at hframe ⊢
  rw [hframe]
  exact ⟨rfl, rfl⟩

/-- The checks of CFG_ACTIVATE after the operands (R462). -/
def activateChecks (s : State) (n : Fin 8) : List (Bool × Nat) := [
  (s.cfg.trial.isSome, Status.busy),
  ((s.cfg.slots[n]).record.isNone || !(s.cfg.slots[n]).valid, Status.imageInvalid),
  (!(s.cfg.slots[n]).activatable, Status.wrongMode),
  (decide (s.power.mode = .service) && s.storeFull (carriedKeys (s.slotSet n)), Status.authFail),
  (!decide (s.power.mode = .service) && (s.changesSvc (some n) || s.changesSafety n), Status.wrongMode)]

/-- The set waiting for the end of Service. -/
def activationWaiting (s : State) (n k : Fin 8) (seq : Half) (seconds : Option Nat) : State :=
  { s with svcPending := [], cfg := { s.cfg with activating := some (n, seconds), activateWaiting := s.cfg.activateWaiting ++ [(some k, seq)] } }

/-- What CFG_ACTIVATE does once its checks pass. -/
def activateSlot (s : State) (r : Req) (n k : Fin 8) (seconds : Option Nat) : State :=
  if decide (s.power.mode = .service) = true then (activationWaiting s n k r.seq seconds).answer r 0x81 Status.pending .bare
  else ((s.applySet (some n)).becomeActive n seconds).answer r 0x81 Status.ok .bare

section
variable {r : Req} {k n : Fin 8} {flags : Byte} {trial : Half} {seconds : Option Nat} {s : State} (hadmits : s.admits 0x81 r k = true)
  (hflags : flags.toNat < 2) (hseconds : seconds = (if flags = 1 then some (if trial = 0 then s.devN 0x1400 else trial.toNat) else none))
include hadmits hflags hseconds

theorem exec_cfgActivate : exec (.cfgActivate r (BitVec.ofNat 8 n.val) flags trial) s =
    .next (s.checked r 0x81 (activateChecks s n) (fun s => activateSlot s r n k seconds)) := by
  have hbit : (if flags.getLsbD 0 then some (if trial = 0 then s.devN 0x1400 else trial.toNat) else none) = seconds := by
    rw [hseconds]
    have hone : flags.getLsbD 0 = decide (flags = 1) := by
      have hval : flags = 0 ∨ flags = 1 := by
        rcases Nat.lt_succ_iff_lt_or_eq.mp hflags with h | h
        · exact .inl (BitVec.eq_of_toNat_eq (by rw [show flags.toNat = 0 by omega]; rfl))
        · exact .inr (BitVec.eq_of_toNat_eq (by rw [h]; rfl))
      rcases hval with rfl | rfl <;> rfl
    rw [hone]
    simp only [decide_eq_true_eq]
  refine congrArg Host.Outcome.next ((State.request_of_admits hadmits _).trans ?_)
  have hform : decide (8 ≤ (BitVec.ofNat 8 n.val).toNat ∨ 2 ≤ flags.toNat) = false := by
    have := byte_of_fin8_lt n
    exact decide_eq_false (by omega)
  refine (checked_congr (act' := fun u => activateSlot u r (Fin.ofNat 8 (BitVec.ofNat 8 n.val).toNat) k
    (if flags.getLsbD 0 then some (if trial = 0 then s.devN 0x1400 else trial.toNat) else none)) rfl).trans ?_
  change s.checked r 0x81 ((decide (8 ≤ (BitVec.ofNat 8 n.val).toNat ∨ 2 ≤ flags.toNat), Status.badParameter) ::
    activateChecks s (Fin.ofNat 8 (BitVec.ofNat 8 n.val).toNat)) _ = _
  rw [fin8_of_byte n, hbit, hform]
  rfl

theorem cfgActivate_refused {status : Nat} (hfail : firstFail (activateChecks s n) = some status) :
    exec (.cfgActivate r (BitVec.ofNat 8 n.val) flags trial) s = .next (s.withReply (replyOf r k 0x81 status .bare)) := by
  rw [exec_cfgActivate hadmits hflags hseconds, State.checked_fail hfail]
  exact congrArg Host.Outcome.next (answer_of_admits hadmits ..)

theorem cfgActivate_passes (hpass : firstFail (activateChecks s n) = none) :
    exec (.cfgActivate r (BitVec.ofNat 8 n.val) flags trial) s = .next (activateSlot s r n k seconds) := by
  rw [exec_cfgActivate hadmits hflags hseconds, State.checked_pass hpass]

end

theorem flags_isSome {flags : Byte} {x : Nat} {seconds : Option Nat} (h : seconds = (if flags = 1 then some x else none)) :
    seconds.isSome = decide (flags = 1) := by
  rw [h]
  by_cases hone : flags = 1
  · rw [if_pos hone, decide_eq_true hone]
    rfl
  · rw [if_neg hone, decide_eq_false hone]
    rfl

/-- The part of the statement on CFG_ACTIVATE. -/
theorem cfgActivate_settles (r : Req) (k n : Fin 8) (slot flags : Byte) (trial : Half) (seconds : Option Nat) (s : State)
    (hadmits : s.admits 0x81 r k = true) (hslot : slot = BitVec.ofNat 8 n.val) (hflags : flags.toNat < 2)
    (hseconds : seconds = (if flags = 1 then some (if trial = 0 then s.devN 0x1400 else trial.toNat) else none)) :
    (s.cfg.trial.isSome = true → exec (.cfgActivate r slot flags trial) s = .next (s.withReply (replyOf r k 0x81 Status.busy .bare))) ∧
    (s.cfg.trial = none → s.cfg.slots[n].record = none ∨ s.cfg.slots[n].valid = false →
      exec (.cfgActivate r slot flags trial) s = .next (s.withReply (replyOf r k 0x81 Status.imageInvalid .bare))) ∧
    (s.cfg.trial = none → s.cfg.slots[n].valid = true → s.cfg.slots[n].activatable = true →
      (s.power.mode = .service → s.storeFull (carriedKeys (s.slotSet n)) = false →
        exec (.cfgActivate r slot flags trial) s = .next (State.withReply
          { s with svcPending := [], cfg := { s.cfg with activating := some (n, seconds)
                                                         activateWaiting := s.cfg.activateWaiting ++ [(some k, r.seq)] } }
          (replyOf r k 0x81 Status.pending .bare))) ∧
      (s.power.mode ≠ .service → s.changesSvc (some n) = true ∨ s.changesSafety n = true →
        exec (.cfgActivate r slot flags trial) s = .next (s.withReply (replyOf r k 0x81 Status.wrongMode .bare))) ∧
      (s.power.mode ≠ .service → s.changesSvc (some n) = false → s.changesSafety n = false →
        Answers (exec (.cfgActivate r slot flags trial) s) (fun t =>
          t.cfg.activeSlot = some n ∧ t.cfg.trial = (if flags = 1 then some n else none) ∧
          (flags = 1 → t.cfg.trialEnd = s.tb.tickAt + 200000000 * seconds.getD 0) ∧
          (∃ g, t.cfg.slots[n].record = some (if flags = 1 then .trial else .activated, g)) ∧
          t.cmd = (s.withReply (replyOf r k 0x81 Status.ok .bare)).cmd ∧ t.svcPending = s.svcPending ∧ t.power = s.power))) := by
  subst hslot
  have hsome := flags_isSome hseconds
  refine ⟨fun htrial => ?_, fun htrial hbad => ?_, fun htrial hvalid hact => ?_⟩
  · exact cfgActivate_refused hadmits hflags hseconds (firstFail_of_true htrial _ _)
  · refine cfgActivate_refused hadmits hflags hseconds ((firstFail_of_false (by rw [htrial]; rfl) _ _).trans (firstFail_of_true ?_ _ _))
    rcases hbad with h | h
    · rw [h]
      rfl
    · rw [h]
      exact Bool.or_true _
  · have hrecord : (s.cfg.slots[n]).record.isNone = false := by
      unfold Slot.activatable at hact
      match h : (s.cfg.slots[n]).record with
      | none => rw [h] at hact; cases hact
      | some _ => rfl
    have hfirst : firstFail (activateChecks s n) = firstFail [
        (decide (s.power.mode = .service) && s.storeFull (carriedKeys (s.slotSet n)), Status.authFail),
        (!decide (s.power.mode = .service) && (s.changesSvc (some n) || s.changesSafety n), Status.wrongMode)] := by
      refine (firstFail_of_false (by rw [htrial]; rfl) _ _).trans ((firstFail_of_false ?_ _ _).trans (firstFail_of_false ?_ _ _))
      · rw [hrecord, hvalid]
        rfl
      · rw [hact]
        rfl
    refine ⟨fun hservice hroom => ?_, fun hmode hchange => ?_, fun hmode hsvc hsafe => ?_⟩
    · rw [cfgActivate_passes hadmits hflags hseconds (by rw [hfirst, decide_eq_true hservice, hroom]; rfl), activateSlot,
        if_pos (decide_eq_true hservice)]
      exact congrArg Host.Outcome.next
        (answer_of_sessions (s := s) (t := activationWaiting s n k r.seq seconds) (State.slotOf_of_admits hadmits) rfl _ _ _)
    · refine cfgActivate_refused hadmits hflags hseconds ?_
      rw [hfirst, decide_eq_false hmode]
      rcases hchange with h | h
      · rw [h]
        rfl
      · rw [h, Bool.or_true]
        rfl
    · refine ⟨_, cfgActivate_passes hadmits hflags hseconds (by rw [hfirst, decide_eq_false hmode, hsvc, hsafe]; rfl), ?_⟩
      rw [show activateSlot s r n k seconds = _ from if_neg (by rw [decide_eq_false hmode]; exact Bool.false_ne_true)]
      have htakes := takesValues_applySet s (some n)
      generalize s.applySet (some n) = t at htakes ⊢
      obtain ⟨hframe, hcfg⟩ := becomeActive_facts t n seconds
      have hcmd : (t.becomeActive n seconds).cmd = s.cmd := by rw [hframe, htakes.cmd]
      rw [answer_of_sessions (s := s) (t := t.becomeActive n seconds) (State.slotOf_of_admits hadmits) (congrArg Commands.sessions hcmd)]
      have hcfg' : ((t.becomeActive n seconds).withReply (replyOf r k 0x81 Status.ok .bare)).cfg = (t.becomeActive n seconds).cfg := rfl
      refine ⟨?_, ?_, fun _ => ?_, ⟨t.nextGeneration, ?_⟩, ?_, ?_, ?_⟩
      · rw [hcfg', hcfg]
      · rw [hcfg', hcfg, hsome]
        simp only [decide_eq_true_eq]
      · rw [hcfg', hcfg, htakes.tickAt]
      · rw [hcfg', hcfg, upd_same, hsome]
        simp only [Slot.recorded, decide_eq_true_eq]
      · rw [State.withReply, State.withReply, hcmd]
      · rw [State.withReply, hframe]
        exact htakes.svcPending
      · rw [State.withReply, hframe]
        exact htakes.power

/-! ### Confirmation -/

/-- The part of the statement on CFG_CONFIRM. -/
theorem cfgConfirm_settles (r : Req) (k n : Fin 8) (slot : Byte) (s : State) (hadmits : s.admits 0x82 r k = true)
    (hslot : slot = BitVec.ofNat 8 n.val) :
    (s.cfg.trial = some n → Answers (exec (.cfgConfirm r slot) s) (fun t =>
      t = { s with flash := t.flash, log := t.log, cfg := { s.cfg with slots := t.cfg.slots, trial := none }
                   cmd := (s.withReply (replyOf r k 0x82 Status.ok .bare)).cmd } ∧
      (∃ g, t.cfg.slots[n].record = some (.confirmed, g)) ∧ ∀ j : Fin 8, j ≠ n → t.cfg.slots[j] = s.cfg.slots[j])) ∧
    (s.cfg.trial ≠ some n → exec (.cfgConfirm r slot) s = .next (s.withReply (replyOf r k 0x82
      (if s.cfg.slots[n].confirmed then Status.alreadyDone else Status.badParameter) .bare))) ∧
    (∀ kind : Fin 2, ((s.imageAt kind (s.bootSlot kind)).confirmed = true →
        exec (.cfgConfirm r (BitVec.ofNat 8 (16 + kind.val))) s = .next (s.withReply (replyOf r k 0x82 Status.alreadyDone .bare))) ∧
      ((s.imageAt kind (s.bootSlot kind)).confirmed = false →
        Answers (exec (.cfgConfirm r (BitVec.ofNat 8 (16 + kind.val))) s) (fun t =>
          (t.imageAt kind (s.bootSlot kind)).confirmed = true ∧ t.cfg.slots = s.cfg.slots ∧
          t.cmd = (s.withReply (replyOf r k 0x82 Status.ok .bare)).cmd))) := by
  subst hslot
  have hexec : exec (.cfgConfirm r (BitVec.ofNat 8 n.val)) s = .next ((s.confirmSlot n).1.answer r 0x82 (s.confirmSlot n).2 .bare) := by
    have hlt := byte_of_fin8_lt n
    refine congrArg Host.Outcome.next ((State.request_of_admits hadmits _).trans ?_)
    rw [if_neg (fun h => by rw [h] at hlt; exact absurd hlt (by decide)), if_neg (fun h => by rw [h] at hlt; exact absurd hlt (by decide)), if_pos hlt,
      fin8_of_byte n]
  have hkind : ∀ kind : Fin 2, exec (.cfgConfirm r (BitVec.ofNat 8 (16 + kind.val))) s =
      .next ((s.confirmImage kind).1.answer r 0x82 (s.confirmImage kind).2 .bare) := by
    intro kind
    refine congrArg Host.Outcome.next ((State.request_of_admits hadmits _).trans ?_)
    match kind with
    | 0 => rfl
    | 1 => rfl
  refine ⟨fun htrial => ?_, fun htrial => ?_, fun kind => ⟨fun hdone => ?_, fun hnew => ?_⟩⟩
  · refine ⟨_, hexec, ?_⟩
    rw [State.confirmSlot, if_pos htrial]
    have hframe := recordSlot_frame s n .confirmed (s.cfg.slots[n]).generation
    dsimp only
    generalize s.recordSlot n .confirmed (s.cfg.slots[n]).generation = t at hframe ⊢
    rw [answer_of_sessions (s := s) (State.slotOf_of_admits hadmits) (by rw [hframe]; rfl)]
    refine ⟨by rw [hframe]; rfl, ⟨(s.cfg.slots[n]).generation, ?_⟩, fun j hj => ?_⟩
    · rw [hframe]
      exact congrArg Slot.record (upd_same _ _ _)
    · rw [hframe]
      exact upd_other _ _ hj
  · rw [hexec, State.confirmSlot, if_neg htrial]
    split
    · exact congrArg Host.Outcome.next (answer_of_admits hadmits ..)
    · exact congrArg Host.Outcome.next (answer_of_admits hadmits ..)
  · rw [hkind kind, State.confirmImage, if_pos hdone]
    exact congrArg Host.Outcome.next (answer_of_admits hadmits ..)
  · refine ⟨_, hkind kind, ?_⟩
    rw [State.confirmImage, if_neg (by rw [hnew]; exact Bool.false_ne_true)]
    dsimp only
    have hframe := recordImage_frame s kind (s.bootSlot kind) .confirmed (s.imageAt kind (s.bootSlot kind)).generation
    have hrecord := recordImage_imageAt s kind (s.bootSlot kind) .confirmed (s.imageAt kind (s.bootSlot kind)).generation
    generalize s.recordImage kind (s.bootSlot kind) .confirmed _ = t at hframe hrecord ⊢
    rw [answer_of_sessions (s := s) (State.slotOf_of_admits hadmits) (by rw [hframe]; rfl)]
    refine ⟨?_, by rw [hframe]; rfl, by rw [hframe]; rfl⟩
    refine (congrArg Slot.confirmed (imageAt_congr (s := t) rfl _ _)).trans ?_
    rw [Slot.confirmed, hrecord]

end Sys2Proof.Proofs
end

section
/-! PROOF. The statement on activation, confirmation and rollback (R462 to R468): rollback and the activation of images. -/

namespace Sys2Proof.Proofs
open Sys2Proof.Machine

/-! ### The records of a rollback -/

/-- The slot that is left gets its record, with the event. -/
def leaveSlot (s : State) (commanded : Bool) : State :=
  match s.cfg.activeSlot with
  | some k => (s.recordSlot k .rolledBack (s.cfg.slots[k]).generation).configEvent k (if commanded then 5 else 4)
  | none => s

theorem leaveSlot_frame (s : State) (commanded : Bool) :
    leaveSlot s commanded = { s with flash := (leaveSlot s commanded).flash, log := (leaveSlot s commanded).log
                                     cfg := { s.cfg with slots := (leaveSlot s commanded).cfg.slots } } := by
  unfold leaveSlot
  split
  · next k _ =>
    have hframe := recordSlot_frame s k .rolledBack (s.cfg.slots[k]).generation
    generalize s.recordSlot k .rolledBack (s.cfg.slots[k]).generation = t at hframe ⊢
    rw [hframe]
    rfl
  · rfl

theorem leaveSlot_active {s : State} {a : Fin 8} (h : s.cfg.activeSlot = some a) (commanded : Bool) :
    ((leaveSlot s commanded).cfg.slots[a]).record = some (.rolledBack, (s.cfg.slots[a]).generation) := by
  unfold leaveSlot
  split
  · next k hk =>
    obtain rfl := Option.some.inj (h.symm.trans hk)
    have hframe := recordSlot_frame s a .rolledBack (s.cfg.slots[a]).generation
    generalize s.recordSlot a .rolledBack (s.cfg.slots[a]).generation = t at hframe ⊢
    change (t.cfg.slots[a]).record = _
    rw [hframe]
    exact congrArg Slot.record (upd_same _ _ _)
  · next hnone => cases h.symm.trans hnone

theorem leaveSlot_other {s : State} {j : Fin 8} (h : s.cfg.activeSlot ≠ some j) (commanded : Bool) :
    (leaveSlot s commanded).cfg.slots[j] = s.cfg.slots[j] := by
  unfold leaveSlot
  split
  · next k hk =>
    rw [recordSlot_frame]
    exact upd_other _ _ (fun hj => h (by rw [hk, hj]))
  · rfl

/-- The slot gone back to gets its record under the next generation, and the trial is over. -/
def beganRollback (s : State) (commanded : Bool) : State :=
  let t := match s.previousSlot with
    | some n => (leaveSlot s commanded).recordSlot n .activated (leaveSlot s commanded).nextGeneration
    | none => leaveSlot s commanded
  { t with cfg := { t.cfg with trial := none } }

theorem beganRollback_frame (s : State) (commanded : Bool) :
    beganRollback s commanded = { s with
      flash := (beganRollback s commanded).flash, log := (beganRollback s commanded).log
      cfg := { s.cfg with slots := (beganRollback s commanded).cfg.slots, trial := none } } := by
  have hleave := leaveSlot_frame s commanded
  unfold beganRollback
  generalize leaveSlot s commanded = t at hleave ⊢
  split
  · next n _ =>
    have hframe := recordSlot_frame t n .activated t.nextGeneration
    generalize t.recordSlot n .activated t.nextGeneration = u at hframe ⊢
    rw [hframe, hleave]
  · rw [hleave]

theorem beganRollback_previous {s : State} {p : Fin 8} (h : s.previousSlot = some p) (commanded : Bool) :
    (beganRollback s commanded).cfg.slots =
      upd (leaveSlot s commanded).cfg.slots p (fun x => Slot.recorded x .activated (leaveSlot s commanded).nextGeneration) := by
  simp only [beganRollback, h]
  rw [recordSlot_frame]

/-- The slot that is left is marked, unless it is the one gone back to. -/
theorem beganRollback_active {s : State} {a : Fin 8} (h : s.cfg.activeSlot = some a) (commanded : Bool) :
    ((beganRollback s commanded).cfg.slots[a]).record = some (.rolledBack, (s.cfg.slots[a]).generation) := by
  have hleft := leaveSlot_active h commanded
  match hp : s.previousSlot with
  | some p =>
    have hne : a ≠ p := fun hap => (previousSlot_found s p hp).1 (hap ▸ h)
    rw [beganRollback_previous hp, upd_other _ _ hne, hleft]
  | none =>
    simp only [beganRollback, hp]
    exact hleft

/-! ### Landing on the previous slot -/

theorem le_foldl_generation (l : List Slot) (m : Nat) :
    m ≤ l.foldl (fun m x => max m x.generation) m ∧ ∀ x ∈ l, x.generation ≤ l.foldl (fun m x => max m x.generation) m := by
  induction l generalizing m with
  | nil => exact ⟨Nat.le_refl m, fun x hx => absurd hx List.not_mem_nil⟩
  | cons y l ih =>
    obtain ⟨hstart, hall⟩ := ih (max m y.generation)
    refine ⟨Nat.le_trans (Nat.le_max_left ..) hstart, fun x hx => ?_⟩
    rcases List.mem_cons.mp hx with rfl | hx
    · exact Nat.le_trans (Nat.le_max_right ..) hstart
    · exact hall x hx

theorem generation_of_backTo {x : Slot} {g : Nat} (h : Slot.backTo x = some g) : x.generation = g := by
  unfold Slot.backTo at h
  unfold Slot.generation
  split at h
  · next hr => rw [hr]; exact Option.some.inj h
  · next hr => rw [hr]; exact Option.some.inj h
  · cases h

/-- Every slot's generation is below the next one. -/
theorem generation_lt_next (s : State) (k : Fin 8) : (s.cfg.slots[k]).generation < s.nextGeneration := by
  have hmem : s.cfg.slots[k] ∈ s.cfg.slots.toList ++ s.cfg.lane.toList ++ s.cfg.safety.toList :=
    List.mem_append_left _ (List.mem_append_left _ (Vector.mem_toList_iff.mpr (Vector.getElem_mem k.isLt)))
  have := (le_foldl_generation _ 0).2 _ hmem
  unfold State.nextGeneration
  omega

/-- With its records written a rollback still goes to the same slot. -/
theorem beganRollback_previousSlot {s : State} {p : Fin 8} (h : s.previousSlot = some p) (commanded : Bool) :
    (beganRollback s commanded).previousSlot = some p := by
  obtain ⟨hactive, hvalid⟩ := previousSlot_found s p h
  have hslots := beganRollback_previous h commanded
  have hframe := beganRollback_frame s commanded
  have hown : (beganRollback s commanded).cfg.slots[p] = Slot.recorded s.cfg.slots[p] .activated (leaveSlot s commanded).nextGeneration := by
    rw [hslots, upd_same, leaveSlot_other hactive]
  refine previousSlot_of_highest (g := (leaveSlot s commanded).nextGeneration) (by rw [hframe]; exact hactive) (by rw [hown]; exact hvalid)
    (by rw [hown]; rfl) fun k g hk hg => ?_
  rw [hslots, upd_other _ _ hk] at hg
  rw [← generation_of_backTo hg]
  exact generation_lt_next _ k

/-- The values of the previous slot take effect, and it is the active one. -/
theorem landRollback_facts (s : State) :
    s.landRollback.cfg = { s.cfg with flash := s.landRollback.cfg.flash, activeSlot := s.previousSlot, rollbackPending := false } ∧
    s.landRollback.cmd = s.cmd ∧ s.landRollback.saf = s.saf := by
  unfold State.landRollback
  dsimp only
  have htakes := takesValues_applySet s s.previousSlot
  generalize s.applySet s.previousSlot = t at htakes ⊢
  exact ⟨by rw [htakes.cfg], htakes.cmd, htakes.saf⟩

/-- A rollback that waits for the axes. -/
theorem rollBack_late {s : State} (h : (s.changesSvc s.previousSlot || s.rollsSafetyBack) = true) (commanded : Bool) :
    s.rollBack commanded = { beganRollback s commanded with cfg := { (beganRollback s commanded).cfg with rollbackPending := true } } := if_pos h

/-- A rollback of FRM values alone. -/
theorem rollBack_now {s : State} (h : (s.changesSvc s.previousSlot || s.rollsSafetyBack) = false) (commanded : Bool) :
    s.rollBack commanded = (beganRollback s commanded).landRollback := if_neg (by rw [h]; exact Bool.false_ne_true)

/-- Either way the trial is over, and the slots have their records. -/
theorem rollBack_slots (s : State) (commanded : Bool) :
    (s.rollBack commanded).cfg.trial = none ∧ (s.rollBack commanded).cfg.slots = (beganRollback s commanded).cfg.slots := by
  have hbegan : (beganRollback s commanded).cfg.trial = none := by rw [beganRollback_frame]
  match h : (s.changesSvc s.previousSlot || s.rollsSafetyBack) with
  | true =>
    rw [rollBack_late h]
    exact ⟨hbegan, rfl⟩
  | false =>
    rw [rollBack_now h, (landRollback_facts _).1]
    exact ⟨hbegan, rfl⟩

/-! ### CFG_ROLLBACK -/

/-- The fields of a reply to CFG_ROLLBACK: the slot gone back to. -/
def rollbackFields (s : State) : Body := .bytes (leBytes 1 (match s.previousSlot with | some n => n.val | none => 0) ++ pad 3)

theorem rollbackFields_of {s : State} {p : Fin 8} (h : s.previousSlot = some p) : rollbackFields s = .bytes [BitVec.ofNat 8 p.val, 0, 0, 0] := by
  rw [rollbackFields, h]
  rfl

/-- What CFG_ROLLBACK does once its checks pass. -/
def rollbackReply (s : State) (r : Req) (k : Fin 8) : State :=
  if (s.rollBack true).cfg.rollbackPending then
    State.answer { s.rollBack true with cfg := { (s.rollBack true).cfg with rollbackBy := some (some k, r.seq) } } r 0x83 Status.pending
      (rollbackFields s)
  else (s.rollBack true).answer r 0x83 Status.ok (rollbackFields s)

section
variable {r : Req} {k : Fin 8} {s : State} (hadmits : s.admits 0x83 r k = true)
include hadmits

theorem exec_cfgRollback : exec (.cfgRollback r) s = .next (if s.cfg.rollbackPending then s.answer r 0x83 Status.alreadyDone .bare
    else s.checked r 0x83 [(s.previousSlot.isNone, Status.imageInvalid),
      (!decide (s.power.mode = .service) && s.rollsSafetyBack, Status.wrongMode)] (fun u => rollbackReply u r k)) :=
  congrArg Host.Outcome.next ((State.request_of_admits hadmits _).trans rfl)

theorem cfgRollback_passes {p : Fin 8} (hidle : s.cfg.rollbackPending = false) (hp : s.previousSlot = some p)
    (hmode : s.power.mode = .service ∨ s.rollsSafetyBack = false) : exec (.cfgRollback r) s = .next (rollbackReply s r k) := by
  rw [exec_cfgRollback hadmits, if_neg (by rw [hidle]; exact Bool.false_ne_true), State.checked_pass]
  rw [hp]
  rcases hmode with h | h
  · rw [decide_eq_true h]
    rfl
  · rw [h, Bool.and_false]
    rfl

end

/-- The part of the statement on CFG_ROLLBACK. -/
theorem cfgRollback_settles (r : Req) (k : Fin 8) (s : State) (hadmits : s.admits 0x83 r k = true) :
    (s.cfg.rollbackPending = true → exec (.cfgRollback r) s = .next (s.withReply (replyOf r k 0x83 Status.alreadyDone .bare))) ∧
    (s.cfg.rollbackPending = false →
      (s.previousSlot = none → exec (.cfgRollback r) s = .next (s.withReply (replyOf r k 0x83 Status.imageInvalid .bare))) ∧
      (∀ p, s.previousSlot = some p → s.power.mode ≠ .service → s.rollsSafetyBack = true →
        exec (.cfgRollback r) s = .next (s.withReply (replyOf r k 0x83 Status.wrongMode .bare))) ∧
      (∀ p, s.previousSlot = some p → (s.power.mode = .service ∨ s.rollsSafetyBack = false) →
        Answers (exec (.cfgRollback r) s) (fun t =>
          t.cfg.trial = none ∧ (∃ g, t.cfg.slots[p].record = some (.activated, g)) ∧
          (∀ a, s.cfg.activeSlot = some a → ∃ g, t.cfg.slots[a].record = some (.rolledBack, g)) ∧
          (s.changesSvc (some p) = true ∨ s.rollsSafetyBack = true → t.cfg.rollbackPending = true ∧ t.regs = s.regs ∧
            t.cfg.rollbackBy = some (some k, r.seq) ∧
            t.cmd = (s.withReply (replyOf r k 0x83 Status.pending (.bytes ([BitVec.ofNat 8 p.val, 0, 0, 0])))).cmd) ∧
          (s.changesSvc (some p) = false → s.rollsSafetyBack = false → t.cfg.rollbackPending = false ∧ t.cfg.activeSlot = some p ∧
            t.cmd = (s.withReply (replyOf r k 0x83 Status.ok (.bytes ([BitVec.ofNat 8 p.val, 0, 0, 0])))).cmd)))) := by
  refine ⟨fun hpending => ?_, fun hidle => ⟨fun hnone => ?_, fun p hp hmode hsafety => ?_, fun p hp hmode => ?_⟩⟩
  · rw [exec_cfgRollback hadmits, if_pos hpending]
    exact congrArg Host.Outcome.next (answer_of_admits hadmits ..)
  · rw [exec_cfgRollback hadmits, if_neg (by rw [hidle]; exact Bool.false_ne_true),
      State.checked_fail (firstFail_of_true (by rw [hnone]; rfl) _ _)]
    exact congrArg Host.Outcome.next (answer_of_admits hadmits ..)
  · rw [exec_cfgRollback hadmits, if_neg (by rw [hidle]; exact Bool.false_ne_true),
      State.checked_fail ((firstFail_of_false (by rw [hp]; rfl) _ _).trans (firstFail_of_true (by rw [decide_eq_false hmode, hsafety]; rfl) _ _))]
    exact congrArg Host.Outcome.next (answer_of_admits hadmits ..)
  · refine ⟨_, cfgRollback_passes hadmits hidle hp hmode, ?_⟩
    have hbegan := beganRollback_frame s true
    have hown : ((beganRollback s true).cfg.slots[p]).record = some (.activated, (leaveSlot s true).nextGeneration) := by
      rw [beganRollback_previous hp]
      exact congrArg Slot.record (upd_same _ _ _)
    have hleft := fun a (ha : s.cfg.activeSlot = some a) => beganRollback_active ha true
    unfold rollbackReply
    rw [rollbackFields_of hp]
    match hlate : (s.changesSvc s.previousSlot || s.rollsSafetyBack) with
    | true =>
      rw [rollBack_late hlate, if_pos rfl]
      generalize beganRollback s true = t at hbegan hown hleft ⊢
      rw [answer_of_sessions (s := s) (State.slotOf_of_admits hadmits) (by rw [hbegan])]
      refine ⟨by rw [hbegan]; rfl, ⟨_, hown⟩, fun a ha => ⟨_, hleft a ha⟩, fun _ => ⟨rfl, by rw [hbegan]; rfl, rfl, by rw [hbegan]; rfl⟩, fun hsvc hsafety => ?_⟩
      rw [hp, hsvc, hsafety] at hlate
      cases hlate
    | false =>
      have hland := landRollback_facts (beganRollback s true)
      rw [rollBack_now hlate]
      rw [beganRollback_previousSlot hp] at hland
      generalize (beganRollback s true).landRollback = u at hland ⊢
      generalize beganRollback s true = t at hbegan hown hleft hland
      obtain ⟨hcfg, hcmd, -⟩ := hland
      have hcmd' : u.cmd = s.cmd := by rw [hcmd, hbegan]
      rw [if_neg (by rw [hcfg]; exact Bool.false_ne_true),
        answer_of_sessions (s := s) (State.slotOf_of_admits hadmits) (congrArg Commands.sessions hcmd')]
      have hcfg' : ∀ p, (u.withReply p).cfg = u.cfg := fun p => rfl
      dsimp only
      rw [hcfg', hcfg]
      refine ⟨by rw [hbegan], ⟨_, hown⟩, fun a ha => ⟨_, hleft a ha⟩, fun h => ?_, fun _ _ => ⟨rfl, rfl, by rw [State.withReply, hcmd']; rfl⟩⟩
      rw [hp] at hlate
      obtain ⟨hsvc, hsafety⟩ := Bool.or_eq_false_iff.mp hlate
      rcases h with h | h
      · rw [hsvc] at h
        cases h
      · rw [hsafety] at h
        cases h

/-! ### The end of a trial -/

/-- The part of the statement on TRIAL_EXPIRY. -/
theorem trialExpiry_settles (s : State) :
    (s.cfg.trial = none ∨ s.tb.tickAt < s.cfg.trialEnd → exec .trialExpiry s = .next s) ∧
    (s.cfg.trial.isSome = true → s.cfg.trialEnd ≤ s.tb.tickAt → Answers (exec .trialExpiry s) (fun t =>
      t.cfg.trial = none ∧ t.isActive 0x1401 255 = true ∧
      (∀ a, s.cfg.activeSlot = some a → (∀ p, s.previousSlot = some p → p ≠ a) → ∃ g, t.cfg.slots[a].record = some (.rolledBack, g)))) := by
  refine ⟨fun hnot => congrArg Host.Outcome.next (if_neg ?_), fun htrial hend => ⟨_, congrArg Host.Outcome.next (if_pos ⟨htrial, hend⟩), ?_⟩⟩
  · rintro ⟨htrial, hend⟩
    rcases hnot with h | h
    · rw [h] at htrial
      cases htrial
    · omega
  · obtain ⟨hover, hslots⟩ := rollBack_slots s false
    have hactive : ((s.rollBack false).raise 0x1401 255).isActive 0x1401 255 = true := isActive_raise (by decide)
    have hcfg : (((s.rollBack false).raise 0x1401 255).stick 0x1410 255 5).cfg = (s.rollBack false).cfg := by
      rw [State.stick_frame, State.raise_frame]
    rw [hcfg, hslots]
    refine ⟨hover, ?_, fun a ha _ => ⟨_, beganRollback_active ha false⟩⟩
    rw [State.stick_frame]
    exact hactive

/-! ### The waiting rollback -/

/-- The values of a safety set take effect; outside LOCKED the channel stays in its state. -/
theorem loadSafetyValues_facts (s : State) (bs : List Byte) :
    (s.loadSafetyValues bs).cfg = s.cfg ∧ (s.saf.state ≠ .locked → (s.loadSafetyValues bs).saf = { s.saf with setValid := true }) := by
  have hvalues : TakesValues s ((s.each (setEntries 90 (bs.drop 32)) (fun e t => t.setPar e.index.toNat e.sub.toNat (writeValue e))).setDev 0x0C32
      (safetyCode bs)) := .trans (.each (fun e t => takesValues_setPar t _ _ _) s) (takesValues_setPar _ _ _ _)
  have hregs : ((s.each (setEntries 90 (bs.drop 32)) (fun e t => t.setPar e.index.toNat e.sub.toNat (writeValue e))).setDev 0x0C32
      (safetyCode bs)).cfg = s.cfg := by
    have heach : ∀ (l : List WriteEntry) (t : State), (t.each l (fun e t => t.setPar e.index.toNat e.sub.toNat (writeValue e))).cfg = t.cfg := by
      intro l
      induction l with
      | nil => exact fun t => rfl
      | cons e l ih => exact fun t => ih (t.setPar e.index.toNat e.sub.toNat (writeValue e))
    exact heach _ s
  unfold State.loadSafetyValues
  dsimp only
  generalize State.setDev _ 0x0C32 _ = t at hvalues hregs ⊢
  have hclear := State.clearFault_frame t 0x0C11 255
  generalize t.clearFault 0x0C11 255 = u at hclear ⊢
  have hsaf : u.saf = s.saf := by rw [hclear, hvalues.saf]
  have hcfg : u.cfg = s.cfg := by rw [hclear, hregs]
  unfold State.leaveLocked
  split
  · next hlocked =>
    refine ⟨by rw [safetyMove_frame]; exact hcfg, fun hnot => absurd ?_ hnot⟩
    rw [← hsaf]
    exact hlocked.1
  · exact ⟨hcfg, fun _ => by rw [State.onSaf, hsaf]⟩

/-- A safety set that is loaded stands in the safety sets and the flash, and is valid. -/
theorem loadSafetySet_facts (s : State) (bs : List Byte) :
    (s.loadSafetySet bs).cfg = { s.cfg with safetySets := (s.loadSafetySet bs).cfg.safetySets } ∧
    (s.saf.state ≠ .locked → (s.loadSafetySet bs).saf = { s.saf with setValid := true }) := by
  unfold State.loadSafetySet
  split
  next place generation _ =>
  dsimp only
  generalize leBytes 4 generation ++ bs ++ _ = image
  obtain ⟨hcfg, hsaf⟩ := loadSafetyValues_facts { (s.flashErase (0xFFC000 + 0x1000 * place.val) 0x1000).flashProgram (0xFFC000 + 0x1000 * place.val) image with
    cfg := { s.cfg with safetySets := s.cfg.safetySets.set place (some (generation, bs)) } } bs
  exact ⟨hcfg.trans (congrArg (fun sets => { s.cfg with safetySets := sets }) (congrArg Config.safetySets hcfg).symm), hsaf⟩

/-- The rollback's values with what follows from them. -/
def landed (s : State) : State := s.landRollback.valuesChanged s

theorem landed_facts (s : State) :
    (landed s).cfg = { s.cfg with flash := (landed s).cfg.flash, activeSlot := s.previousSlot, rollbackPending := false } ∧ (landed s).saf = s.saf := by
  obtain ⟨hcfg, -, hsaf⟩ := landRollback_facts s
  have hfollows := takesValues_valuesChanged s.landRollback s
  unfold landed
  refine ⟨?_, hfollows.saf.trans hsaf⟩
  rw [hfollows.cfg, hcfg]

/-- The channel held in STO after an automatic rollback of the safety set. -/
def heldInSto (s t : State) : State :=
  if s.rollsSafetyBack && s.cfg.rollbackBy.isNone && !decide (s.saf.state = .locked) then t.enterSto 7 else t

theorem heldInSto_cfg (s t : State) : (heldInSto s t).cfg = t.cfg := by
  unfold heldInSto
  split
  · rw [enterSto_frame]
  · rfl

/-- The older safety set is loaded again. -/
def olderLoaded (s t : State) : State :=
  match s.rollsSafetyBack, s.olderSafety with
  | true, some b => t.loadSafetySet b
  | _, _ => t

theorem olderLoaded_facts (s t : State) :
    (olderLoaded s t).cfg = { t.cfg with safetySets := (olderLoaded s t).cfg.safetySets } ∧
    (t.saf.state ≠ .locked → (olderLoaded s t).saf = { t.saf with setValid := (olderLoaded s t).saf.setValid }) := by
  unfold olderLoaded
  split
  · obtain ⟨hcfg, hsaf⟩ := loadSafetySet_facts t _
    exact ⟨hcfg, fun h => by rw [hsaf h]⟩
  · exact ⟨rfl, fun _ => rfl⟩

/-- The completion of the request of a commanded rollback. -/
def rollbackCompleted (s t : State) : State :=
  match s.cfg.rollbackBy with
  | some (slot, seq) => State.complete { t with cfg := { t.cfg with rollbackBy := none } } slot seq 0x83 Status.ok
  | none => t

theorem rollbackCompleted_facts (s t : State) :
    (rollbackCompleted s t).cfg = { t.cfg with rollbackBy := (rollbackCompleted s t).cfg.rollbackBy } ∧ (rollbackCompleted s t).saf = t.saf := by
  unfold rollbackCompleted
  split
  · exact ⟨rfl, rfl⟩
  · exact ⟨rfl, rfl⟩

theorem exec_rollbackApply {s : State} (hpending : s.cfg.rollbackPending = true) (hdisabled : s.allDisabled = true) :
    exec .rollbackApply s = .next (rollbackCompleted s (olderLoaded s (heldInSto s (landed s)))) := by
  refine congrArg Host.Outcome.next ((if_neg ?_).trans rfl)
  rw [hpending, hdisabled]
  decide

/-- The part of the statement on ROLLBACK_APPLY. -/
theorem rollbackApply_settles (s : State) :
    (s.cfg.rollbackPending = false ∨ s.allDisabled = false → exec .rollbackApply s = .next s) ∧
    (s.cfg.rollbackPending = true → s.allDisabled = true → Answers (exec .rollbackApply s) (fun t =>
      t.cfg.rollbackPending = false ∧ t.cfg.activeSlot = s.previousSlot ∧
      (s.rollsSafetyBack = true → s.cfg.rollbackBy = none → s.saf.state ≠ .locked → t.saf.state = .sto ∧ t.torqueOff = true ∧ t.saf.cause = 7) ∧
      (∀ slot seq, s.cfg.rollbackBy = some (slot, seq) → t.cfg.rollbackBy = none ∧ ∃ e, e ∈ t.log.fresh ∧ e.code = 0x0280 ∧
        e.detail = Status.ok ∧ e.extra = seq.toNat))) := by
  refine ⟨fun hnot => congrArg Host.Outcome.next (if_pos ?_), fun hpending hdisabled => ⟨_, exec_rollbackApply hpending hdisabled, ?_⟩⟩
  · rcases hnot with h | h
    · exact .inl (by rw [h]; rfl)
    · exact .inr (by rw [h]; rfl)
  · obtain ⟨hlanded, hsaf⟩ := landed_facts s
    obtain ⟨hloaded, hkept⟩ := olderLoaded_facts s (heldInSto s (landed s))
    obtain ⟨hcompleted, hchannel⟩ := rollbackCompleted_facts s (olderLoaded s (heldInSto s (landed s)))
    rw [heldInSto_cfg, hlanded] at hloaded
    rw [hloaded] at hcompleted
    refine ⟨by rw [hcompleted], by rw [hcompleted], fun hsafety hauto hunlocked => ?_, fun slot seq hby => ?_⟩
    · have hheld : heldInSto s (landed s) = (landed s).enterSto 7 := by
        refine if_pos ?_
        rw [hsafety, hauto, decide_eq_false hunlocked]
        rfl
      have hsto : (heldInSto s (landed s)).saf = { moved s.saf .sto 7 with testByHost := none } := by rw [hheld, enterSto_saf, hsaf]
      have hend := hchannel.trans (hkept (by rw [hsto]; exact (nomatch ·)))
      rw [hsto] at hend
      rw [State.torqueOff, hend]
      exact ⟨rfl, rfl, rfl⟩
    · unfold rollbackCompleted
      rw [hby]
      exact ⟨rfl, _, List.mem_append_right _ (List.mem_singleton_self _), rfl, rfl, rfl⟩

/-! ### FW_ACTIVATE -/

/-- The image becomes the one to start. -/
def activateImage (s : State) (r : Req) (kind p : Fin 2) : State :=
  ((s.recordImage kind p .activated s.nextGeneration).imageEvent kind p 1).answer r 0x85 Status.ok .bare

theorem exec_fwActivate {r : Req} {k : Fin 8} {s : State} (hadmits : s.admits 0x85 r k = true) (kind : Fin 2) :
    exec (.fwActivate r (BitVec.ofNat 8 kind.val)) s = .next (s.checked r 0x85 [
      ((s.stagedSlot kind).isNone, Status.imageInvalid),
      (!s.pairingListed (if kind = 0 then (s.stagedSlot kind).getD 0 else s.bootSlot 0) (if kind = 1 then (s.stagedSlot kind).getD 0 else s.bootSlot 1),
        Status.versionMismatch)] (fun u => activateImage u r kind ((s.stagedSlot kind).getD 0))) := by
  refine congrArg Host.Outcome.next ((State.request_of_admits hadmits _).trans ?_)
  unfold activateImage
  match kind with
  | 0 =>
    have hfirst : ([0] : List (Fin 2)).contains 0 = true := rfl
    have hsecond : ([0] : List (Fin 2)).contains 1 = false := rfl
    have hform : decide (3 ≤ (BitVec.ofNat 8 (0 : Fin 2).val).toNat) = false := rfl
    dsimp only
    rw [if_pos (show BitVec.ofNat 8 (0 : Fin 2).val = 0 from rfl), hform]
    simp only [State.each, List.foldl_cons, List.foldl_nil, List.any_cons, List.any_nil, Bool.or_false, hfirst, hsecond, if_true,
      Bool.false_eq_true, if_false, show ¬(0 : Fin 2) = 1 by decide, State.checked, firstFail_false]
  | 1 =>
    have hfirst : ([1] : List (Fin 2)).contains 0 = false := rfl
    have hsecond : ([1] : List (Fin 2)).contains 1 = true := rfl
    have hform : decide (3 ≤ (BitVec.ofNat 8 (1 : Fin 2).val).toNat) = false := rfl
    dsimp only
    rw [if_neg (show BitVec.ofNat 8 (1 : Fin 2).val ≠ 0 by decide), if_pos (show BitVec.ofNat 8 (1 : Fin 2).val = 1 from rfl), hform]
    simp only [State.each, List.foldl_cons, List.foldl_nil, List.any_cons, List.any_nil, Bool.or_false, hfirst, hsecond, if_true,
      Bool.false_eq_true, if_false, show ¬(1 : Fin 2) = 0 by decide, State.checked, firstFail_false]

/-- The part of the statement on FW_ACTIVATE. -/
theorem fwActivate_settles (r : Req) (k : Fin 8) (kind : Fin 2) (s : State) (hadmits : s.admits 0x85 r k = true) :
    (s.stagedSlot kind = none →
      exec (.fwActivate r (BitVec.ofNat 8 kind.val)) s = .next (s.withReply (replyOf r k 0x85 Status.imageInvalid .bare))) ∧
    (∀ p, s.stagedSlot kind = some p →
      (s.pairingListed (if kind = 0 then p else s.bootSlot 0) (if kind = 1 then p else s.bootSlot 1) = false →
        exec (.fwActivate r (BitVec.ofNat 8 kind.val)) s = .next (s.withReply (replyOf r k 0x85 Status.versionMismatch .bare))) ∧
      (s.pairingListed (if kind = 0 then p else s.bootSlot 0) (if kind = 1 then p else s.bootSlot 1) = true →
        Answers (exec (.fwActivate r (BitVec.ofNat 8 kind.val)) s) (fun t =>
          t = { s with flash := t.flash, log := t.log, cfg := t.cfg, cmd := (s.withReply (replyOf r k 0x85 Status.ok .bare)).cmd } ∧
          (t.imageAt kind p).record = some (.activated, s.nextGeneration) ∧ t.imageAt (kind + 1) p = s.imageAt (kind + 1) p ∧
          t.cfg.slots = s.cfg.slots))) := by
  have hexec := exec_fwActivate hadmits kind
  refine ⟨fun hnone => ?_, fun p hp => ?_⟩
  · rw [hexec, State.checked_fail (firstFail_of_true (by rw [hnone]; rfl) _ _)]
    exact congrArg Host.Outcome.next (answer_of_admits hadmits ..)
  · rw [hp, Option.getD_some] at hexec
    refine ⟨fun hunlisted => ?_, fun hlisted => ?_⟩
    · rw [hexec, hunlisted]
      exact congrArg Host.Outcome.next ((State.checked_fail rfl _).trans (answer_of_admits hadmits ..))
    · rw [hlisted] at hexec
      refine ⟨_, hexec.trans (congrArg Host.Outcome.next (State.checked_pass rfl _)), ?_⟩
      unfold activateImage
      have hframe := recordImage_frame s kind p .activated s.nextGeneration
      have hown := recordImage_imageAt s kind p .activated s.nextGeneration
      have hother := recordImage_imageAt_other s kind p p .activated s.nextGeneration
      generalize s.recordImage kind p .activated s.nextGeneration = t at hframe hown hother ⊢
      rw [answer_of_sessions (s := s) (State.slotOf_of_admits hadmits) (by rw [hframe]; rfl)]
      refine ⟨by rw [hframe]; rfl, ?_, ?_, by rw [hframe]; rfl⟩
      · exact (congrArg Slot.record (imageAt_congr (s := t) rfl _ _)).trans hown
      · exact (imageAt_congr (s := t) rfl _ _).trans hother

/-- Settles O48: the set, the trial, the rollback and the images, request by request. -/
theorem activationAndRollback : Obligations.ActivationAndRollback := by
  refine ⟨cfgActivate_settles, cfgConfirm_settles, cfgRollback_settles, fun s => ?_, fwActivate_settles⟩
  obtain ⟨hnoTrial, htrial⟩ := trialExpiry_settles s
  obtain ⟨hidle, happly⟩ := rollbackApply_settles s
  exact ⟨hnoTrial, htrial, hidle, happly⟩

end Sys2Proof.Proofs
end

section
/-! PROOF. The statement on the tick and the compute slots (R167, R221, R237). -/

namespace Sys2Proof.Proofs
open Sys2Proof.Machine

/-! ### A demand outside 64 bits (R221, R237)

The statement makes the demand position of an axis whose loops do not run 65536 times its measured position. The model fits the demand in 64
bits (R221), and the measured position of a state is any integer. -/

/-- A device whose axis 0 is DISABLED at the position 2^48. -/
def farAxis : State := (deviceIn .run).onAx 0 (fun x => { x with positionOffset := 281474976710656 })

/-- What the compute slot of that axis leaves: the measured position, and a demand at the end of its range. -/
theorem computeSlot_saturates_demand :
    farAxis.axisExists 0 = true ∧ farAxis.stepperAt 0 = false ∧ (farAxis.ax 0).held = false ∧ (farAxis.ax 0).loops.running = false ∧
    ((ranNext (exec (.axisComputeSlot 0 0 0) farAxis) farAxis).ax 0).measured = 281474976710656 ∧
    ((ranNext (exec (.axisComputeSlot 0 0 0) farAxis) farAxis).ax 0).demand.p = 9223372036854775807 := by
  decide +kernel

/-- Refutes O53: the demand of an axis whose loops do not run is not at its measured position beyond 2^47 counts. -/
theorem not_tickAndSlots : ¬ Obligations.TickAndSlots := by
  rintro ⟨-, hslot⟩
  obtain ⟨hexists, hservo, hheld, hloops, hmeasured, hdemand⟩ := computeSlot_saturates_demand
  obtain ⟨-, hcompute⟩ := hslot 0 0 0 farAxis
  obtain ⟨t, hexec, -, -, -, -, hrest⟩ := hcompute hexists
  obtain ⟨hat, -⟩ := hrest hservo hheld hloops
  rw [hexec, ranNext] at hmeasured hdemand
  rw [hat, hmeasured] at hdemand
  exact absurd (show (281474976710656 : Int) * Q = 9223372036854775807 from hdemand) (by decide)

end Sys2Proof.Proofs
end

section
/-! PROOF. Payload fields read back (R2, R55): the little-endian fields of a payload, and the request that its payload spells. -/

namespace Sys2Proof.Proofs
open Sys2Proof.Machine

/-! ### Little-endian fields -/

theorem ofLe_leBytes (n v : Nat) : ofLe (leBytes n v) = v % 256 ^ n := by
  induction n generalizing v with
  | zero => exact (Nat.mod_one v).symm
  | succ n ih =>
    rw [leBytes, ofLe, ih, BitVec.toNat_ofNat]
    calc v % 256 + 256 * (v / 256 % 256 ^ n) = v % (256 * 256 ^ n) := (Nat.mod_mul ..).symm
      _ = v % 256 ^ (n + 1) := by rw [Nat.pow_succ']

theorem slice_append_of_le {k n : Nat} {l : List Byte} (m : List Byte) (h : k + n ≤ l.length) : slice k n (l ++ m) = slice k n l := by
  have hdrop : ((l ++ m).drop k).take n = (l.drop k).take n := by
    rw [List.drop_append_of_le_length (by omega), List.take_append_of_le_length (by rw [List.length_drop]; omega)]
  rw [slice, slice, hdrop]

theorem slice_append_skip (k n : Nat) (l m : List Byte) : slice (l.length + k) n (l ++ m) = slice k n m := by
  rw [slice, slice, List.drop_append, Nat.add_sub_cancel_left, List.drop_eq_nil_of_le (by omega), List.nil_append]

theorem slice_zero_length (l : List Byte) : slice 0 l.length l = l := by
  rw [slice, List.drop_zero, List.take_length, Nat.sub_self]
  exact List.append_nil l

theorem field_append_skip (k n : Nat) (l m : List Byte) : field (l.length + k) n (l ++ m) = field k n m := by
  rw [field, slice_append_skip, field]

theorem field_append_here (l m : List Byte) : field 0 l.length (l ++ m) = ofLe l := by
  rw [field, slice_append_of_le m (by omega), slice_zero_length]

@[simp] theorem field_cons_succ (k n : Nat) (b : Byte) (l : List Byte) : field (k + 1) n (b :: l) = field k n l := by
  rw [Nat.add_comm]
  exact field_append_skip k n [b] l

@[simp] theorem field_cons_byte (b : Byte) (l : List Byte) : field 0 1 (b :: l) = b.toNat :=
  (field_append_here [b] l).trans (Nat.add_zero _)

/-! ### The fields of a request -/

@[simp] theorem le1_length (n : Nat) : (le1 n).length = 1 := leBytes_length 1 n
@[simp] theorem le2_length (x : Half) : (le2 x).length = 2 := leBytes_length 2 _
@[simp] theorem le4_length (x : Word) : (le4 x).length = 4 := leBytes_length 4 _
@[simp] theorem le8_length (x : Long) : (le8 x).length = 8 := leBytes_length 8 _

@[simp] theorem field_le1 (v : Nat) (l : List Byte) : field 0 1 (le1 v ++ l) = v % 256 := by
  have := field_append_here (le1 v) l
  rwa [le1_length, le1, ofLe_leBytes] at this

@[simp] theorem field_le2 (x : Half) (l : List Byte) : field 0 2 (le2 x ++ l) = x.toNat := by
  have := field_append_here (le2 x) l
  rwa [le2_length, le2, ofLe_leBytes, Nat.mod_eq_of_lt (show x.toNat < 256 ^ 2 from x.isLt)] at this

@[simp] theorem field_le4 (x : Word) (l : List Byte) : field 0 4 (le4 x ++ l) = x.toNat := by
  have := field_append_here (le4 x) l
  rwa [le4_length, le4, ofLe_leBytes, Nat.mod_eq_of_lt (show x.toNat < 256 ^ 4 from x.isLt)] at this

@[simp] theorem field_le8 (x : Long) (l : List Byte) : field 0 8 (le8 x ++ l) = x.toNat := by
  have := field_append_here (le8 x) l
  rwa [le8_length, le8, ofLe_leBytes, Nat.mod_eq_of_lt (show x.toNat < 256 ^ 8 from x.isLt)] at this

@[simp] theorem field_le2_end (x : Half) : field 0 2 (le2 x) = x.toNat := by
  rw [← List.append_nil (le2 x), field_le2]

@[simp] theorem field_le4_end (x : Word) : field 0 4 (le4 x) = x.toNat := by
  rw [← List.append_nil (le4 x), field_le4]

@[simp] theorem field_skip_le1 (k n v : Nat) (l : List Byte) : field (k + 1) n (le1 v ++ l) = field k n l := field_cons_succ ..

@[simp] theorem field_skip_le2 (k n : Nat) (x : Half) (l : List Byte) : field (k + 2) n (le2 x ++ l) = field k n l := by
  rw [Nat.add_comm, ← le2_length x, field_append_skip]

@[simp] theorem field_skip_le4 (k n : Nat) (x : Word) (l : List Byte) : field (k + 4) n (le4 x ++ l) = field k n l := by
  rw [Nat.add_comm, ← le4_length x, field_append_skip]

theorem zeros_two : zeros 2 = [0, 0] := rfl
theorem zeros_three : zeros 3 = [0, 0, 0] := rfl

/-! ### Records in a row -/

/-- A field of the k-th record of a list of records of one length. -/
theorem field_flatMap {α : Type} (f : α → List Byte) {size : Nat} (hsize : ∀ x, (f x).length = size) (off n : Nat) (h : off + n ≤ size) :
    ∀ (l : List α) (k : Nat) (hk : k < l.length), field (size * k + off) n (l.flatMap f) = field off n (f l[k])
  | x :: l, 0, _ => by
    rw [Nat.mul_zero, Nat.zero_add, List.flatMap_cons, field, slice_append_of_le _ (by rw [hsize]; exact h), field, List.getElem_cons_zero]
  | x :: l, k + 1, hk => by
    rw [List.flatMap_cons, Nat.mul_succ, show size * k + size + off = (f x).length + (size * k + off) by rw [hsize]; omega, field_append_skip,
      field_flatMap f hsize off n h l k (Nat.lt_of_succ_lt_succ hk), List.getElem_cons_succ]

theorem length_flatMap_const {α : Type} (f : α → List Byte) {size : Nat} (hsize : ∀ x, (f x).length = size) (l : List α) :
    (l.flatMap f).length = size * l.length := by
  induction l with
  | nil => rfl
  | cons x l ih => rw [List.flatMap_cons, List.length_append, hsize, ih, List.length_cons, Nat.mul_succ, Nat.add_comm]

/-- A list that is read entry by entry. -/
theorem map_range_eq {α : Type} {g : Nat → α} {l : List α} (h : ∀ k (hk : k < l.length), g k = l[k]) : (List.range l.length).map g = l := by
  refine List.ext_getElem (by rw [List.length_map, List.length_range]) fun k hk _ => ?_
  rw [List.getElem_map, List.getElem_range]
  exact h k (by rwa [List.length_map, List.length_range] at hk)

/-! ### Write entries -/

theorem writeBytes_length (e : WriteEntry) : (writeBytes e).length = 12 := by
  simp [writeBytes]

theorem index_of_bytes (x : Half) : (BitVec.ofNat 8 (x.toNat / 256) ++ BitVec.ofNat 8 x.toNat : BitVec (8 + 8)) = x := by
  refine BitVec.eq_of_toNat_eq ?_
  rw [BitVec.toNat_append, ← Nat.shiftLeft_add_eq_or_of_lt (BitVec.isLt _), BitVec.toNat_ofNat, BitVec.toNat_ofNat, Nat.shiftLeft_eq]
  have := x.isLt
  omega

/-- One entry is read from its twelve bytes. -/
theorem writeEntries_cons (e : WriteEntry) (n : Nat) (rest : List Byte) :
    writeEntries (n + 1) (writeBytes e ++ rest) = e :: writeEntries n rest := by
  have hbytes : writeBytes e ++ rest =
      BitVec.ofNat 8 e.index.toNat :: BitVec.ofNat 8 (e.index.toNat / 256) :: e.sub :: e.type :: (le8 e.value ++ rest) := rfl
  have hdrop : (le8 e.value ++ rest).drop 8 = rest := List.drop_left' (le8_length _)
  rw [hbytes, writeEntries, field_le8, hdrop, index_of_bytes, BitVec.ofNat_toNat, BitVec.setWidth_eq]

theorem writeEntries_flatMap (es : List WriteEntry) (n : Nat) (h : n = es.length) : writeEntries n (es.flatMap writeBytes) = es := by
  subst h
  induction es with
  | nil => rfl
  | cons e es ih => rw [List.flatMap_cons, List.length_cons, writeEntries_cons, ih]

/-! ### A request from its payload -/

/-- A request is read back from its payload, whose length its opcode permits. -/
def ReadsBack (c : Instr) : Prop :=
  ∀ (op : Nat) (r : Req), requestOf c = some (op, r) → lengthOk op (payloadOf c) = true ∧ readRequest r op (payloadOf c) = some c

theorem readsBack_of {c : Instr} {op : Nat} {r : Req} (hop : requestOf c = some (op, r)) (hlength : lengthOk op (payloadOf c) = true)
    (hread : readRequest r op (payloadOf c) = some c) : ReadsBack c := by
  intro op' r' h
  obtain ⟨rfl, rfl⟩ := Prod.mk.inj (Option.some.inj (hop.symm.trans h))
  exact ⟨hlength, hread⟩

/-- The lengths that the opcodes with a counted list permit (R500). -/
theorem lengthOk_paramReadMulti (p : List Byte) : lengthOk 0x12 p = (decide (1 ≤ p.length) && decide (p.length = 4 + 4 * field 0 1 p)) := rfl
theorem lengthOk_paramWriteMulti (p : List Byte) : lengthOk 0x13 p = (decide (1 ≤ p.length) && decide (p.length = 4 + 12 * field 0 1 p)) := rfl
theorem lengthOk_moveGroup (p : List Byte) : lengthOk 0x33 p = (decide (5 ≤ p.length) && decide (p.length = 24 + 8 * field 4 1 p)) := rfl

theorem readsBack_ping (r : Req) (bytes : List Byte) (h : bytes.length ≤ 1020) : ReadsBack (.ping r bytes) :=
  readsBack_of rfl (decide_eq_true h) rfl

theorem readsBack_paramWrite (r : Req) (e : WriteEntry) : ReadsBack (.paramWrite r e) := by
  refine readsBack_of rfl (decide_eq_true (writeBytes_length e)) ?_
  have hentry := writeEntries_cons e 0 []
  rw [List.append_nil] at hentry
  exact congrArg (fun l => l.head?.map (fun e => Instr.paramWrite r e)) hentry

theorem readsBack_paramReadMulti (r : Req) (es : List (Half × Byte)) (h : es.length ≤ 255) : ReadsBack (.paramReadMulti r es) := by
  have hsize : ∀ e : Half × Byte, (le2 e.1 ++ [e.2, 0]).length = 4 := fun e => by simp
  have hcount : field 0 1 (payloadOf (.paramReadMulti r es)) = es.length := by
    simp only [payloadOf, List.append_assoc, field_le1]
    omega
  have hentry : ∀ off n, off + n ≤ 4 → ∀ k (hk : k < es.length),
      field (off + 4 + 4 * k) n (payloadOf (.paramReadMulti r es)) = field off n (le2 (es[k]).1 ++ [(es[k]).2, 0]) := by
    intro off n hoff k hk
    rw [← field_flatMap (fun e : Half × Byte => le2 e.1 ++ [e.2, 0]) hsize off n hoff es k hk,
      show off + 4 + 4 * k = (le1 es.length ++ zeros 3).length + (4 * k + off) by rw [show (le1 es.length ++ zeros 3).length = 4 from rfl]; omega]
    exact field_append_skip ..
  refine readsBack_of rfl ?_ ?_
  · have hlength : (payloadOf (.paramReadMulti r es)).length = 4 + 4 * es.length := by
      have hrecords := length_flatMap_const (fun e : Half × Byte => le2 e.1 ++ [e.2, 0]) hsize es
      simp only [payloadOf, List.length_append, hrecords]
      rfl
    rw [lengthOk_paramReadMulti, hcount, hlength, decide_eq_true (show _ ≤ _ by omega), decide_eq_true rfl]
    rfl
  · refine congrArg (fun l => some (Instr.paramReadMulti r l)) ?_
    rw [hcount]
    refine map_range_eq fun k hk => ?_
    dsimp only
    have hindex := hentry 0 2 (by omega) k hk
    have hsub := hentry 2 1 (by omega) k hk
    rw [Nat.zero_add] at hindex
    rw [hindex, hsub]
    simp

theorem readsBack_paramWriteMulti (r : Req) (es : List WriteEntry) (h : es.length ≤ 85) : ReadsBack (.paramWriteMulti r es) := by
  have hcount : field 0 1 (payloadOf (.paramWriteMulti r es)) = es.length := by
    simp only [payloadOf, List.append_assoc, field_le1]
    omega
  refine readsBack_of rfl ?_ ?_
  · have hlength : (payloadOf (.paramWriteMulti r es)).length = 4 + 12 * es.length := by
      simp only [payloadOf, List.length_append, length_flatMap_const writeBytes writeBytes_length]
      rfl
    rw [lengthOk_paramWriteMulti, hcount, hlength, decide_eq_true (show _ ≤ _ by omega), decide_eq_true rfl]
    rfl
  · refine congrArg (fun l => some (Instr.paramWriteMulti r l)) ?_
    rw [hcount]
    exact writeEntries_flatMap es es.length rfl

theorem readsBack_moveGroup (r : Req) (group blend : Byte) (flags : Half) (lim : Limits) (ms : List GroupTarget) (h : ms.length ≤ 125) :
    ReadsBack (.moveGroup r group blend flags lim ms) := by
  have hsize : ∀ m : GroupTarget, ([m.axis] ++ zeros 3 ++ le4 m.target).length = 8 := fun m => by
    rw [zeros_three]
    simp
  have hhead : payloadOf (.moveGroup r group blend flags lim ms) = group :: blend :: (le2 flags ++ (le1 ms.length ++ (0 :: 0 :: 0 ::
      (le4 lim.vmax ++ (le4 lim.amax ++ (le4 lim.dmax ++ (le4 lim.jmax ++ ms.flatMap (fun m => [m.axis] ++ zeros 3 ++ le4 m.target)))))))) := rfl
  have hcount : field 4 1 (payloadOf (.moveGroup r group blend flags lim ms)) = ms.length := by
    rw [hhead, field_cons_succ, field_cons_succ, field_skip_le2, field_le1]
    omega
  have hentry : ∀ off n, off + n ≤ 8 → ∀ k (hk : k < ms.length),
      field (off + 24 + 8 * k) n (payloadOf (.moveGroup r group blend flags lim ms)) = field off n ([(ms[k]).axis] ++ zeros 3 ++ le4 (ms[k]).target) := by
    intro off n hoff k hk
    rw [← field_flatMap (fun m : GroupTarget => [m.axis] ++ zeros 3 ++ le4 m.target) hsize off n hoff ms k hk,
      show off + 24 + 8 * k = ([group, blend] ++ le2 flags ++ le1 ms.length ++ zeros 3 ++ limitBytes lim).length + (8 * k + off) by
        rw [show ([group, blend] ++ le2 flags ++ le1 ms.length ++ zeros 3 ++ limitBytes lim).length = 24 from rfl]; omega]
    exact field_append_skip ..
  refine readsBack_of rfl ?_ ?_
  · have hlength : (payloadOf (.moveGroup r group blend flags lim ms)).length = 24 + 8 * ms.length := by
      have hrecords := length_flatMap_const (fun m : GroupTarget => [m.axis] ++ zeros 3 ++ le4 m.target) hsize ms
      simp only [payloadOf, List.length_append, hrecords]
      rfl
    rw [lengthOk_moveGroup, hcount, hlength, decide_eq_true (show _ ≤ _ by omega), decide_eq_true rfl]
    rfl
  · have hmembers : (List.range ms.length).map (fun k => ({
        axis := BitVec.ofNat 8 (field (24 + 8 * k) 1 (payloadOf (.moveGroup r group blend flags lim ms)))
        target := BitVec.ofNat 32 (field (28 + 8 * k) 4 (payloadOf (.moveGroup r group blend flags lim ms))) } : GroupTarget)) = ms := by
      refine map_range_eq fun k hk => ?_
      have haxis := hentry 0 1 (by omega) k hk
      have htarget := hentry 4 4 (by omega) k hk
      rw [Nat.zero_add] at haxis
      rw [haxis, htarget, zeros_three]
      simp
    simp only [readRequest, hcount, hmembers]
    rw [hhead]
    simp

theorem readsBack_dataWrite (r : Req) (handle : Byte) (bytes : List Byte) (hleast : 1 ≤ bytes.length) (hmost : bytes.length ≤ 1020) :
    ReadsBack (.dataWrite r handle bytes) := by
  refine readsBack_of rfl ?_ ?_
  · have hlength : (payloadOf (.dataWrite r handle bytes)).length = 4 + bytes.length := by
      simp only [payloadOf, List.length_append]
      rfl
    simp only [lengthOk, hlength, decide_eq_true_eq]
    omega
  · have hpayload : payloadOf (.dataWrite r handle bytes) = handle :: 0 :: 0 :: 0 :: bytes := rfl
    rw [hpayload]
    simp [readRequest]

/-! ### The set-up block of Quarry (Table 18.1) -/

theorem field_leBytes_skip {k m : Nat} (n v : Nat) (l : List Byte) (h : m ≤ k) : field k n (leBytes m v ++ l) = field (k - m) n l := by
  have := field_append_skip (k - m) n (leBytes m v) l
  rwa [leBytes_length, Nat.add_sub_cancel' h] at this

theorem field_leBytes (n v : Nat) (l : List Byte) : field 0 n (leBytes n v ++ l) = v % 256 ^ n := by
  have := field_append_here (leBytes n v) l
  rwa [leBytes_length, ofLe_leBytes] at this

/-- The level of a set-up block, a signed word. -/
theorem wrapSigned_leBytesI {x : Int} (hleast : -2147483648 ≤ x) (hmost : x < 2147483648) (l : List Byte) :
    wrapSigned 32 (field 0 4 (leBytesI 4 x ++ l)) = x := by
  rw [leBytesI, field_leBytes, wrapSigned, Nat.mod_eq_of_lt (show (x % (2 ^ (8 * 4) : Nat)).toNat < 256 ^ 4 by omega)]
  rw [Int.bmod_def]
  omega

/-- The fields of the block before its channels. -/
def quarryHead (q : QuarryBlock) (channels : List Byte) : List Byte :=
  leBytes 2 q.d ++ (leBytes 1 q.decimation ++ (leBytes 1 q.count ++ (leBytes 2 q.segments ++ (leBytes 2 0 ++ (leBytes 4 q.pre ++
    (leBytes 1 q.source ++ (leBytes 1 q.kind ++ (leBytes 1 q.item ++ (leBytes 1 q.ringOut ++ (leBytesI 4 q.level ++
      (leBytes 4 q.hysteresis ++ (leBytes 1 q.ringIn ++ (leBytes 7 0 ++ channels)))))))))))))

theorem quarryBytes_eq (q : QuarryBlock) : quarryBytes q = quarryHead q (q.channels.flatMap (leBytes 4)) := by
  simp only [quarryBytes, quarryHead, le1, List.append_assoc]
  rfl

theorem quarryHead_skip (q : QuarryBlock) (channels : List Byte) (k n : Nat) : field (32 + k) n (quarryHead q channels) = field k n channels :=
  field_append_skip k n (quarryHead q []) channels

theorem quarryHead_length (q : QuarryBlock) (channels : List Byte) : (quarryHead q channels).length = 32 + channels.length := by
  simp only [quarryHead, List.length_append, leBytes_length, leBytesI]
  omega

theorem lengthOk_quarrySetup (p : List Byte) : lengthOk 0x70 p = (decide (4 ≤ p.length) && decide (p.length = 32 + 4 * field 3 1 p)) := rfl

/-- A field of the block at an offset, once the fields before it are passed. -/
theorem quarryHead_fields (q : QuarryBlock) (channels : List Byte) :
    field 0 2 (quarryHead q channels) = q.d % 65536 ∧ field 2 1 (quarryHead q channels) = q.decimation % 256 ∧
    field 3 1 (quarryHead q channels) = q.count % 256 ∧ field 4 2 (quarryHead q channels) = q.segments % 65536 ∧
    field 8 4 (quarryHead q channels) = q.pre % 4294967296 ∧ field 12 1 (quarryHead q channels) = q.source % 256 ∧
    field 13 1 (quarryHead q channels) = q.kind % 256 ∧ field 14 1 (quarryHead q channels) = q.item % 256 ∧
    field 15 1 (quarryHead q channels) = q.ringOut % 256 ∧ field 20 4 (quarryHead q channels) = q.hysteresis % 4294967296 ∧
    field 24 1 (quarryHead q channels) = q.ringIn % 256 := by
  simp [quarryHead, leBytesI, field_leBytes_skip, field_leBytes]

theorem quarryHead_level {q : QuarryBlock} (hleast : -2147483648 ≤ q.level) (hmost : q.level < 2147483648) (channels : List Byte) :
    wrapSigned 32 (field 16 4 (quarryHead q channels)) = q.level := by
  have hfield : field 16 4 (quarryHead q channels) = field 0 4 (leBytesI 4 q.level ++
      (leBytes 4 q.hysteresis ++ (leBytes 1 q.ringIn ++ (leBytes 7 0 ++ channels)))) := rfl
  rw [hfield, wrapSigned_leBytesI hleast hmost]

theorem readsBack_quarrySetup (r : Req) (block : QuarryBlock) (h : block.wf = true) : ReadsBack (.quarrySetup r block) := by
  simp only [QuarryBlock.wf, Bool.and_eq_true, decide_eq_true_eq, List.all_eq_true] at h
  obtain ⟨⟨⟨⟨⟨⟨⟨⟨⟨⟨⟨⟨⟨⟨hd, hdecimation⟩, hcount⟩, hsegments⟩, hpre⟩, hsource⟩, hkind⟩, hitem⟩, hringOut⟩, hleast⟩, hmost⟩, hhysteresis⟩, hringIn⟩,
    hlength⟩, hchannels⟩ := h
  have hpayload : payloadOf (.quarrySetup r block) = quarryHead block (block.channels.flatMap (leBytes 4)) := quarryBytes_eq block
  obtain ⟨fd, fdecimation, fcount, fsegments, fpre, fsource, fkind, fitem, fringOut, fhysteresis, fringIn⟩ :=
    quarryHead_fields block (block.channels.flatMap (leBytes 4))
  have flevel := quarryHead_level hleast hmost (block.channels.flatMap (leBytes 4))
  rw [Nat.mod_eq_of_lt hd] at fd
  rw [Nat.mod_eq_of_lt hdecimation] at fdecimation
  rw [Nat.mod_eq_of_lt (by omega)] at fcount
  rw [Nat.mod_eq_of_lt hsegments] at fsegments
  rw [Nat.mod_eq_of_lt hpre] at fpre
  rw [Nat.mod_eq_of_lt hsource] at fsource
  rw [Nat.mod_eq_of_lt hkind] at fkind
  rw [Nat.mod_eq_of_lt hitem] at fitem
  rw [Nat.mod_eq_of_lt hringOut] at fringOut
  rw [Nat.mod_eq_of_lt hhysteresis] at fhysteresis
  rw [Nat.mod_eq_of_lt hringIn] at fringIn
  refine readsBack_of rfl ?_ ?_
  · rw [hpayload, lengthOk_quarrySetup, fcount, quarryHead_length, length_flatMap_const (leBytes 4) (leBytes_length 4), hlength,
      decide_eq_true (show _ ≤ _ by omega), decide_eq_true rfl]
    rfl
  · have hread : (List.range block.count).map (fun k => field (32 + 4 * k) 4 (quarryHead block (block.channels.flatMap (leBytes 4)))) =
        block.channels := by
      rw [← hlength]
      refine map_range_eq fun k hk => ?_
      rw [quarryHead_skip, ← Nat.add_zero (4 * k), field_flatMap (leBytes 4) (leBytes_length 4) 0 4 (by omega) _ k hk,
        ← List.append_nil (leBytes 4 _), field_leBytes]
      exact Nat.mod_eq_of_lt (hchannels _ (List.getElem_mem hk))
    rw [hpayload]
    simp only [readRequest, fd, fdecimation, fcount, fsegments, fpre, fsource, fkind, fitem, fringOut, flevel, fhysteresis, fringIn, hread]

/-! ### Every request -/

theorem readsBack_of_wf {c : Instr} (h : c.wf = true) : ReadsBack c := by
  cases c
  case ping r bytes =>
    obtain ⟨-, hmost⟩ := Bool.and_eq_true_iff.mp h
    exact readsBack_ping r bytes (of_decide_eq_true hmost)
  case paramWrite r e => exact readsBack_paramWrite r e
  case paramReadMulti r es =>
    obtain ⟨-, hmost⟩ := Bool.and_eq_true_iff.mp h
    exact readsBack_paramReadMulti r es (of_decide_eq_true hmost)
  case paramWriteMulti r es =>
    obtain ⟨-, hmost⟩ := Bool.and_eq_true_iff.mp h
    exact readsBack_paramWriteMulti r es (of_decide_eq_true hmost)
  case moveGroup r group blend flags lim ms =>
    obtain ⟨-, hmost⟩ := Bool.and_eq_true_iff.mp h
    exact readsBack_moveGroup r group blend flags lim ms (of_decide_eq_true hmost)
  case dataWrite r handle bytes =>
    obtain ⟨hrest, hmost⟩ := Bool.and_eq_true_iff.mp h
    obtain ⟨-, hleast⟩ := Bool.and_eq_true_iff.mp hrest
    exact readsBack_dataWrite r handle bytes (of_decide_eq_true hleast) (of_decide_eq_true hmost)
  case quarrySetup r block =>
    obtain ⟨-, hblock⟩ := Bool.and_eq_true_iff.mp h
    exact readsBack_quarrySetup r block hblock
  all_goals
    intro op r hop
    cases hop
  all_goals
    exact ⟨rfl, by simp [payloadOf, readRequest, limitBytes, zeros_two, zeros_three]⟩

/-- Settles O5: the fixed fields of every request and the counted lists read back. -/
theorem requestDecodesFromItsPayload : Obligations.RequestDecodesFromItsPayload :=
  fun _ op r h hop => readsBack_of_wf h op r hop

end Sys2Proof.Proofs
end

section
/-! PROOF. The statement on packets into and out of the ports (R57 to R63, R348 to R353). -/

namespace Sys2Proof.Proofs
open Sys2Proof.Machine

/-! ### Frame errors (R350) -/

theorem firstSaturation_wf {s : State} (h : Sparse.wf regDefault s.regs = true) (key st su bit code inst : Nat) :
    Sparse.wf regDefault (s.firstSaturation key st su bit code inst).regs = true := by
  unfold State.firstSaturation State.raiseAgain
  split
  · exact h
  · rw [raise_regs]
    exact setPar_wf st su h _

theorem count_wf {s : State} (h : Sparse.wf regDefault s.regs = true) (index sub : Nat) :
    Sparse.wf regDefault (s.count index sub).regs = true := by
  simp only [State.count]
  split
  · exact h
  · split
    · exact h
    · split
      · exact setPar_wf index sub h _
      · exact firstSaturation_wf (setPar_wf index sub h _) ..

theorem raiseAgain_frame (s : State) (code inst : Nat) :
    s.raiseAgain code inst = { s with faults := (s.raiseAgain code inst).faults, log := (s.raiseAgain code inst).log } := by
  unfold State.raiseAgain
  rw [State.raise_frame]

theorem frameError_frame (s : State) :
    s.frameError = { s with regs := s.frameError.regs, saturated := s.frameError.saturated, faults := s.frameError.faults, log := s.frameError.log } := by
  unfold State.frameError
  dsimp only
  split
  · rw [count_frame]
  · rw [raiseAgain_frame, State.stick_frame, count_frame]

/-- A frame error shows in the status word. -/
theorem frameError_stuck {s : State} (h : Sparse.wf regDefault s.regs = true) : s.frameError.stuck 0x0E10 255 0 = true := by
  unfold State.frameError
  dsimp only
  split
  · next hset => exact hset
  · rw [State.stuck, State.parN, State.par, raiseAgain_frame]
    exact stuck_stick_same 0x0E10 255 0 (count_wf h 0x0E11 255)

/-! ### Frames that the port does not take -/

/-- A frame that R348 and R350 refuse. -/
def refusedFrame (s : State) (f : SpiFrame) : Bool :=
  !s.rdy f.fell || f.otherType || f.cut || !f.timingOk || (f.quad && decide (s.dev 0x0E00 = 0))

theorem spiFrame_keep {s : State} (h : s.power.mode = .keep) (f : SpiFrame) (delay : Option Nat) (act : State → State) : s.spiFrame f delay act = s :=
  if_pos h

theorem spiFrame_refused {s : State} {f : SpiFrame} (hmode : s.power.mode ≠ .keep) (h : refusedFrame s f = true) (delay : Option Nat)
    (act : State → State) : s.spiFrame f delay act = (seenFrame s f none).frameError :=
  (if_neg hmode).trans (if_pos h)

theorem spiFrame_taken {s : State} {f : SpiFrame} (hmode : s.power.mode ≠ .keep) (h : refusedFrame s f = false) (act : State → State) :
    s.spiFrame f none act = act (seenFrame s f none) :=
  (if_neg hmode).trans (if_neg (Bool.eq_false_iff.mp h))

theorem refusedFrame_of {s : State} {f : SpiFrame}
    (h : s.rdy f.fell = false ∨ f.otherType = true ∨ f.cut = true ∨ f.timingOk = false ∨ (f.quad = true ∧ s.dev 0x0E00 = 0)) : refusedFrame s f = true := by
  unfold refusedFrame
  rcases h with h | h | h | h | ⟨h, hoff⟩
  · rw [h]
    rfl
  · rw [h, Bool.or_true]
    rfl
  · rw [h, Bool.or_true]
    rfl
  · rw [h, Bool.not_false, Bool.or_true]
    rfl
  · rw [h, decide_eq_true hoff, Bool.and_true, Bool.or_true]

/-- A write frame that is refused, too short or begun while the output queue is full. -/
theorem packetWrite_error {f : SpiFrame} {arrived : Nat} {bytes : List Byte} {s : State} (hmode : s.power.mode ≠ .keep)
    (h : refusedFrame s f = true ∨ bytes.length < 16 ∨ s.outqFull = true) :
    exec (.packetWrite f arrived bytes) s = .next (seenFrame s f none).frameError := by
  match hrefused : refusedFrame s f with
  | true => exact congrArg Host.Outcome.next (spiFrame_refused hmode hrefused none _)
  | false =>
    refine congrArg Host.Outcome.next ((spiFrame_taken hmode hrefused _).trans (if_pos ?_))
    rcases h with h | h | h
    · rw [hrefused] at h
      cases h
    · exact .inl h
    · exact .inr h

/-! ### A request packet -/

theorem op_lt_of_row {op : Nat} {row : OpRow} (h : opRow op = some row) : op < 256 := by
  have hall : ∀ o ∈ opTable, o.code < 256 := by decide
  obtain rfl := opRow_code h
  exact hall row (List.mem_of_find?_eq_some h)

/-- The payload of a well-formed request fits a packet. -/
theorem payload_length {c : Instr} {op : Nat} {r : Req} (h : c.wf = true) (hop : requestOf c = some (op, r)) : (payloadOf c).length ≤ 1024 := by
  obtain ⟨hlength, -⟩ := readsBack_of_wf h op r hop
  have hbyte : ∀ k, field k 1 (payloadOf c) < 256 := fun k => by
    rw [field]
    match slice k 1 (payloadOf c), slice_length k 1 (payloadOf c) with
    | [b], _ =>
      have := b.isLt
      rw [ofLe, ofLe]
      omega
  cases c
  case paramWriteMulti r es =>
    obtain ⟨-, hmost⟩ := Bool.and_eq_true_iff.mp h
    have hcount := of_decide_eq_true hmost
    simp only [payloadOf, List.length_append, length_flatMap_const writeBytes writeBytes_length, le1_length, zeros_three, List.length_cons, List.length_nil]
    omega
  case moveGroup r group blend flags lim ms =>
    obtain ⟨-, hmost⟩ := Bool.and_eq_true_iff.mp h
    have hcount := of_decide_eq_true hmost
    have hrecords : (ms.flatMap (fun m => [m.axis] ++ zeros 3 ++ le4 m.target)).length = 8 * ms.length :=
      length_flatMap_const _ (fun m => by simp [zeros_three]) ms
    simp only [payloadOf, List.length_append, hrecords, limitBytes, le1_length, le2_length, le4_length, List.length_cons, List.length_nil]
    rw [zeros_three, List.length_cons, List.length_cons, List.length_cons, List.length_nil]
    omega
  case paramReadMulti r es =>
    cases hop
    have := hbyte 0
    rw [lengthOk_paramReadMulti, Bool.and_eq_true_iff, decide_eq_true_eq, decide_eq_true_eq] at hlength
    omega
  case quarrySetup r block =>
    cases hop
    have := hbyte 3
    obtain ⟨-, hblock⟩ := Bool.and_eq_true_iff.mp h
    simp only [QuarryBlock.wf, Bool.and_eq_true, decide_eq_true_eq] at hblock
    have hcount : block.count < 249 := by
      obtain ⟨⟨⟨⟨⟨⟨⟨⟨⟨⟨⟨⟨⟨-, hcount⟩, -⟩, -⟩, -⟩, -⟩, -⟩, -⟩, -⟩, -⟩, -⟩, -⟩, -⟩, -⟩ := hblock
      exact hcount
    have hchannels : block.channels.length = block.count := by
      obtain ⟨⟨-, hchannels⟩, -⟩ := hblock
      exact hchannels
    rw [show payloadOf (.quarrySetup r block) = quarryHead block (block.channels.flatMap (leBytes 4)) from quarryBytes_eq block, quarryHead_length,
      length_flatMap_const (leBytes 4) (leBytes_length 4), hchannels]
    omega
  all_goals
    cases hop
  all_goals
    simp only [lengthOk, decide_eq_true_eq] at hlength
    omega

end Sys2Proof.Proofs
end

section
/-! PROOF. The statement on packets into and out of the ports (R57 to R63, R348 to R353): a request that arrives, and what a read drives. -/

namespace Sys2Proof.Proofs
open Sys2Proof.Machine

/-! ### The packet of a request -/

/-- The packet without its CRC. -/
def requestBody (r : Req) (op : Nat) (node : Byte) (payload : List Byte) : List Byte :=
  [0x10] ++ le1 op ++ le2 r.seq ++ le2 r.tag ++ leBytes 2 payload.length ++ [node] ++ zeros 3 ++ payload

theorem requestPacket_eq (r : Req) (op : Nat) (node : Byte) (payload : List Byte) :
    requestPacket r op node payload = requestBody r op node payload ++ leBytes 4 (crc32c (requestBody r op node payload)).toNat := rfl

theorem requestPacket_length (r : Req) (op : Nat) (node : Byte) (payload : List Byte) :
    (requestPacket r op node payload).length = (requestBody r op node payload).length + 4 := by
  rw [requestPacket_eq, List.length_append, leBytes_length]

theorem requestBody_length (r : Req) (op : Nat) (node : Byte) (payload : List Byte) : (requestBody r op node payload).length = 12 + payload.length := by
  rw [requestBody, List.length_append]
  rfl

/-- The header fields of a request packet (Table 3.1). -/
theorem requestBody_fields (r : Req) {op : Nat} (node : Byte) {payload : List Byte} (hop : op < 256) (hlength : payload.length ≤ 1024) :
    field 0 1 (requestBody r op node payload) = 16 ∧ field 1 1 (requestBody r op node payload) = op ∧
    field 2 2 (requestBody r op node payload) = r.seq.toNat ∧ field 4 2 (requestBody r op node payload) = r.tag.toNat ∧
    field 6 2 (requestBody r op node payload) = payload.length ∧ field 8 1 (requestBody r op node payload) = node.toNat ∧
    (requestBody r op node payload).drop 12 = payload := by
  have hbody : requestBody r op node payload = 0x10 :: (le1 op ++ (le2 r.seq ++ (le2 r.tag ++ (leBytes 2 payload.length ++ (node :: (zeros 3 ++ payload)))))) := by
    simp only [requestBody, List.append_assoc]
    rfl
  have hpayload : (requestBody r op node payload).drop 12 = payload :=
    List.drop_left' (l₁ := [0x10] ++ le1 op ++ le2 r.seq ++ le2 r.tag ++ leBytes 2 payload.length ++ [node] ++ zeros 3) rfl
  refine ⟨?_, ?_, ?_, ?_, ?_, ?_, hpayload⟩ <;> rw [hbody]
  · exact field_cons_byte _ _
  · rw [field_cons_succ, field_le1]
    exact Nat.mod_eq_of_lt hop
  · rw [field_cons_succ, field_skip_le1, field_le2]
  · rw [field_cons_succ, field_skip_le1, field_skip_le2, field_le2]
  · rw [field_cons_succ, field_skip_le1, field_skip_le2, field_skip_le2, field_leBytes]
    exact Nat.mod_eq_of_lt (show payload.length < 65536 by omega)
  · rw [field_cons_succ, field_skip_le1, field_skip_le2, field_skip_le2, field_leBytes_skip 1 _ _ (show 2 ≤ 2 by omega), field_cons_byte]

/-- A request packet that arrives whole reaches checks 6 and 7 with the request it was made of. -/
theorem receivePacket_request {s : State} {c : Instr} {op : Nat} {r : Req} {row : OpRow} {node : Byte} (hwf : c.wf = true)
    (hop : requestOf c = some (op, r)) (hrow : opRow op = some row) (hsrc : r.src = { port := .spi }) (hnode : node = 0 ∨ node.toNat = s.ownNode) :
    s.receivePacket { port := .spi } .spi (requestPacket r op node (payloadOf c)) r.arrived =
      s.localRequest .spi r op (requestBody r op node (payloadOf c)) (payloadOf c) := by
  have hmost := payload_length hwf hop
  obtain ⟨hpermitted, -⟩ := readsBack_of_wf hwf op r hop
  obtain ⟨hkind, hopcode, hseq, htag, hlength, htarget, hpayload⟩ := requestBody_fields r node (op_lt_of_row hrow) hmost
  have hcut : (requestPacket r op node (payloadOf c)).take ((requestPacket r op node (payloadOf c)).length - 4) = requestBody r op node (payloadOf c) := by
    rw [requestPacket_length, Nat.add_sub_cancel, requestPacket_eq]
    exact List.take_left' rfl
  have hcrc : field ((requestPacket r op node (payloadOf c)).length - 4) 4 (requestPacket r op node (payloadOf c)) =
      (crc32c (requestBody r op node (payloadOf c))).toNat := by
    rw [requestPacket_length, Nat.add_sub_cancel, requestPacket_eq]
    have hfield := field_append_skip 0 4 (requestBody r op node (payloadOf c)) (leBytes 4 (crc32c (requestBody r op node (payloadOf c))).toNat)
    rw [Nat.add_zero] at hfield
    rw [hfield]
    exact field_le4_end _
  have hreq : ({ src := { port := .spi }, seq := BitVec.ofNat 16 r.seq.toNat, tag := BitVec.ofNat 16 r.tag.toNat, arrived := r.arrived } : Req) = r := by
    rw [← hsrc, BitVec.ofNat_toNat, BitVec.ofNat_toNat, BitVec.setWidth_eq, BitVec.setWidth_eq]
  have hhere : node.toNat = 0 ∨ node.toNat = s.ownNode := hnode.imp_left (fun h => by rw [h]; rfl)
  have hnear : node.toNat ≤ 8 := by
    have := s.ring.addr.isLt
    unfold State.ownNode at hhere
    omega
  unfold State.receivePacket
  simp only [hcut, hcrc, hkind, hopcode, hseq, htag, hlength, htarget, hpayload, hreq, hrow]
  rw [if_neg (fun h => h rfl), if_neg (by decide), if_neg, if_neg (by decide), if_neg, if_pos]
  · rcases hhere with h | h
    · exact .inl h
    · exact .inr (.inl h)
  · rintro (⟨-, hfar⟩ | ⟨hall, -⟩) <;> omega
  · rintro (h | h | ⟨-, h⟩)
    · omega
    · exact h rfl
    · rw [hpermitted] at h
      cases h

/-- A new number of a session, outside Dormant. -/
theorem sequenceCheck_new {s : State} {k : Fin 8} {x : Session} {r : Req} {op : Nat} {payload : List Byte} {c : Instr}
    (hcache : x.cache.find? (fun y => y.seq = r.seq) = none) (hleast : 1 ≤ (r.seq - x.lastSeq).toNat) (hmost : (r.seq - x.lastSeq).toNat < 32768)
    (hmode : s.power.mode ≠ .dormant) : ∃ cache : Session → List Cached, s.sequenceCheck k x .spi r op payload c =
      (fun t : State => { t with cmd := { t.cmd with arrivals := t.cmd.arrivals ++
        [{ req := r, ingress := .spi, opcode := BitVec.ofNat 8 op, cmd := c }] } })
        (s.onSession k (fun y => { y.refresh r.arrived with lastSeq := r.seq, untouched := false, cache := cache y })) := by
  unfold State.sequenceCheck
  rw [hcache]
  exact ⟨_, (if_neg (by omega)).trans (if_neg hmode)⟩

/-- Once a request arrives on a frame that the port takes. -/
theorem packetWrite_request {c : Instr} {op : Nat} {r : Req} {row : OpRow} {k : Fin 8} {x : Session} {node : Byte} {f : SpiFrame} {s : State}
    (hwf : c.wf = true) (hop : requestOf c = some (op, r)) (hrow : opRow op = some row) (hrole : row.role ≠ .none) (hsrc : r.src = { port := .spi })
    (hslot : s.slotOf r.src = some k) (hsession : s.session k = some x) (hcache : x.cache.find? (fun y => y.seq = r.seq) = none)
    (hleast : 1 ≤ (r.seq - x.lastSeq).toNat) (hmost : (r.seq - x.lastSeq).toNat < 32768) (hmode : s.power.mode ≠ .dormant)
    (hgood : GoodFrame s f) (hroom : s.outqFull = false) (hnode : node = 0 ∨ node.toNat = s.ownNode) :
    ∃ (cache : Session → List Cached) (d : Nat), d ≤ 400 ∧ exec (.packetWrite f r.arrived (requestPacket r op node (payloadOf c))) s = .next
      { s with cmd := { s.cmd with sessions := upd s.cmd.sessions k (fun o => o.map (fun y =>
                                      { y.refresh r.arrived with lastSeq := r.seq, untouched := false, cache := cache y }))
                                   arrivals := s.cmd.arrivals ++ [{ req := r, ingress := .spi, opcode := BitVec.ofNat 8 op, cmd := c }] }
               free := s.free + 1
               hp := { s.hp with pins := { s.hp.pins with
                 fell := f.fell, rose := f.rose, readyAt := none, burst := none
                 buffers := (r.arrived + d) :: s.hp.pins.buffers.filter (fun c => decide (r.arrived < c)) } } } := by
  obtain ⟨hrun, -⟩ := spiFrame_good hgood
  obtain ⟨-, hread⟩ := readsBack_of_wf hwf op r hop
  obtain ⟨d, u, hdraw, hd, hu⟩ := within_draws (seenFrame s f none) 400
  obtain ⟨cache, hnew⟩ := sequenceCheck_new (s := u.onPins (fun p => { p with buffers := (r.arrived + d) :: p.buffers.filter (fun c => decide (r.arrived < c)) }))
    (k := k) (op := op) (payload := payloadOf c) (c := c) hcache hleast hmost (by rw [hu]; exact hmode)
  refine ⟨cache, d, hd, congrArg Host.Outcome.next ((hrun _).trans ?_)⟩
  rw [if_neg (not_or.mpr ⟨by rw [requestPacket_length, requestBody_length]; omega, by
    rw [show (seenFrame s f none).outqFull = s.outqFull from rfl, hroom]
    exact Bool.false_ne_true⟩)]
  rw [hdraw]
  dsimp only
  generalize hv : u.onPins _ = v at hnew ⊢
  have hsessions : v.cmd.sessions = s.cmd.sessions := by
    rw [← hv, hu]
    rfl
  have hfound : v.slotOf r.src = some k := (State.slotOf_congr hsessions _).trans hslot
  have hown : v.session k = some x := by
    rw [State.session, hsessions]
    exact hsession
  rw [receivePacket_request hwf hop hrow hsrc (by rw [← hv, hu]; exact hnode)]
  simp only [State.localRequest, hrow, hread, if_neg hrole, hfound, hown, hnew]
  rw [← hv, hu]
  rfl

end Sys2Proof.Proofs
end

section
/-! PROOF. The statement on packets into and out of the ports (R348 to R353): read frames, and the statement itself. -/

namespace Sys2Proof.Proofs
open Sys2Proof.Machine

/-! ### The output queue -/

theorem filter_dropFirst_same (p : OutPacket → Bool) (l : List OutPacket) : (dropFirst p l).filter p = (l.filter p).tail := by
  induction l with
  | nil => rfl
  | cons y l ih =>
    rw [dropFirst]
    split
    · next h => rw [List.filter_cons_of_pos h, List.tail_cons]
    · next h => rw [List.filter_cons_of_neg h, List.filter_cons_of_neg h, ih]

theorem filter_dropFirst_other {p q : OutPacket → Bool} (h : ∀ y, p y = true → q y = false) (l : List OutPacket) :
    (dropFirst p l).filter q = l.filter q := by
  induction l with
  | nil => rfl
  | cons y l ih =>
    rw [dropFirst]
    split
    · next hp => rw [List.filter_cons_of_neg (by rw [h y hp]; exact Bool.false_ne_true)]
    · rw [List.filter_cons, List.filter_cons, ih]

/-- The first packet of a kind leaves the SPI host's queue, which a reply that waits may then enter (R352). -/
def packetTaken (s : State) (push : Bool) : State := (s.onOut 0 (dropFirst (fun y => y.push = push))).admitLate

theorem packetTaken_frame (s : State) (push : Bool) :
    packetTaken s push = { s with cmd := { s.cmd with out := (packetTaken s push).cmd.out, late := (packetTaken s push).cmd.late } } ∧
    ∀ q : Fin 5, q ≠ 0 → (packetTaken s push).cmd.out[q] = s.cmd.out[q] := by
  unfold packetTaken State.admitLate State.onOut
  split
  · exact ⟨rfl, fun q hq => upd_other _ _ hq⟩
  · split
    · exact ⟨rfl, fun q hq => upd_other _ _ hq⟩
    · exact ⟨rfl, fun q hq => (upd_other _ _ hq).trans (upd_other _ _ hq)⟩

/-- What the host's queue holds once its first packet of a kind is gone. -/
theorem dropped_queue (s : State) (push : Bool) :
    (s.onOut 0 (dropFirst (fun y => y.push = push))).spiReplies = (if push then s.spiReplies else s.spiReplies.tail) ∧
    (s.onOut 0 (dropFirst (fun y => y.push = push))).spiPushes = (if push then s.spiPushes.tail else s.spiPushes) := by
  have hqueue : (s.onOut 0 (dropFirst (fun y => y.push = push))).cmd.out[(0 : Fin 5)] = dropFirst (fun y => y.push = push) s.cmd.out[(0 : Fin 5)] :=
    upd_same ..
  unfold State.spiReplies State.spiPushes
  rw [hqueue]
  match push with
  | true =>
    refine ⟨filter_dropFirst_other (fun y hy => ?_) _, ?_⟩
    · rw [of_decide_eq_true hy]
      rfl
    · rw [show (fun y : OutPacket => decide (y.push = true)) = OutPacket.push from funext fun y => Bool.decide_eq_true]
      exact filter_dropFirst_same ..
  | false =>
    refine ⟨?_, filter_dropFirst_other (fun y hy => of_decide_eq_true hy) _⟩
    rw [show (fun y : OutPacket => !y.push) = fun y => decide (y.push = false) from funext fun y => by cases y.push <;> rfl]
    exact filter_dropFirst_same ..

theorem packetTaken_of_no_late {s : State} (h : s.cmd.late = []) (push : Bool) :
    packetTaken s push = s.onOut 0 (dropFirst (fun y => y.push = push)) := by
  unfold packetTaken State.admitLate
  rw [show (s.onOut 0 (dropFirst (fun y => y.push = push))).cmd.late = [] from h]

/-- A reply that waited enters behind the replies that are left. -/
theorem packetTaken_of_late {s : State} {y : OutPacket} {rest : List OutPacket} (h : s.cmd.late = y :: rest) (hy : y.push = false)
    (hroom : s.spiReplies.length ≤ 32) : (packetTaken s false).cmd.late = rest ∧ (packetTaken s false).spiReplies = s.spiReplies.tail ++ [y] ∧
      (packetTaken s false).spiPushes = s.spiPushes := by
  obtain ⟨hreplies, hpushes⟩ := dropped_queue s false
  have hlate : (s.onOut 0 (dropFirst (fun y => y.push = false))).cmd.late = y :: rest := h
  unfold packetTaken
  generalize s.onOut 0 (dropFirst (fun y => y.push = false)) = t at hreplies hpushes hlate ⊢
  have hroom' : t.outqFull = false := by
    have hlen : t.spiReplies.length = s.spiReplies.length - 1 := by
      rw [hreplies]
      exact List.length_tail
    exact decide_eq_false (by omega)
  have hadmit : t.admitLate = State.onOut { t with cmd := { t.cmd with late := rest } } 0 (fun l => l ++ [y]) := by
    unfold State.admitLate
    rw [hlate]
    exact if_neg (Bool.eq_false_iff.mp hroom')
  have hqueue : t.admitLate.cmd.out[(0 : Fin 5)] = t.cmd.out[(0 : Fin 5)] ++ [y] := by
    rw [hadmit]
    exact upd_same ..
  refine ⟨by rw [hadmit]; rfl, ?_, ?_⟩
  · rw [State.spiReplies, hqueue, List.filter_append, List.filter_cons_of_pos (by rw [hy]; rfl), List.filter_nil]
    exact congrArg (fun l => l ++ [y]) hreplies
  · rw [State.spiPushes, hqueue, List.filter_append, List.filter_cons_of_neg (by rw [hy]; exact Bool.false_ne_true), List.filter_nil, List.append_nil]
    exact hpushes

/-! ### Read frames -/

/-- The state of a read frame whose data is ready `n` counts after its command, with the bytes it drives. -/
def drives (s : State) (f : SpiFrame) (n : Nat) (bytes : List Byte) : State :=
  (seenFrame { s with free := s.free + 1 } f (some (f.headed + n))).driveOut bytes

theorem drives_readDriven {s : State} {f : SpiFrame} {n : Nat} (hn : n ≤ 20) (bytes : List Byte) : ReadDriven s (drives s f n bytes) f bytes :=
  ⟨rfl, f.headed + n, rfl, Nat.le_add_right .., Nat.add_le_add_left hn _⟩

/-- The port status word depends on the frame only by its start. -/
theorem portStatus_seen (s : State) (f : SpiFrame) (c : Option Nat) (n next : Nat) :
    (seenFrame { s with free := n } f c).portStatus next =
      State.portStatus { s with hp := { s.hp with pins := { s.hp.pins with fell := f.fell } } } next := rfl

section
variable {s : State} {f : SpiFrame} (hgood : GoodFrame s f) (hcomplete : f.complete = true)
  {v : State} (hv : v = { s with hp := { s.hp with pins := { s.hp.pins with fell := f.fell } } })
include hgood hcomplete hv

theorem exec_statusRead : ∃ n ≤ 20, exec (.statusRead f) s = .next (drives s f n (v.portStatus 0)) := by
  obtain ⟨-, hrun⟩ := spiFrame_good hgood
  obtain ⟨n, hn, heq⟩ := hrun 20
  refine ⟨n, hn, congrArg Host.Outcome.next ((heq _).trans ?_)⟩
  rw [portStatus_seen, ← hv, clocked, if_pos hcomplete]
  rfl

theorem exec_packetReread : ∃ n ≤ 20, exec (.packetReread f) s = .next (drives s f n (v.portStatus s.cmd.lastRead.length ++ s.cmd.lastRead)) := by
  obtain ⟨-, hrun⟩ := spiFrame_good hgood
  obtain ⟨n, hn, heq⟩ := hrun 20
  refine ⟨n, hn, congrArg Host.Outcome.next ((heq _).trans ?_)⟩
  rw [portStatus_seen, ← hv, clocked, if_pos hcomplete]
  rfl

theorem exec_packetRead_empty (hempty : s.cmd.out[(0 : Fin 5)] = []) : ∃ n ≤ 20, exec (.packetRead f) s = .next (drives s f n (v.portStatus 0)) := by
  obtain ⟨-, hrun⟩ := spiFrame_good hgood
  obtain ⟨n, hn, heq⟩ := hrun 20
  refine ⟨n, hn, congrArg Host.Outcome.next ((heq _).trans ?_)⟩
  have hreplies : (seenFrame { s with free := s.free + 1 } f (some (f.headed + n))).spiReplies = [] := congrArg _ hempty
  have hpushes : (seenFrame { s with free := s.free + 1 } f (some (f.headed + n))).spiPushes = [] := congrArg _ hempty
  rw [hreplies, hpushes, portStatus_seen, ← hv, clocked, if_pos hcomplete]
  rfl

/-- PACKET_READ with a packet: it leaves its queue, and its events are read. -/
theorem exec_packetRead {x : OutPacket} (hx : s.spiReplies.head? = some x ∨ (s.spiReplies = [] ∧ s.spiPushes.head? = some x)) :
    ∃ n ≤ 20, exec (.packetRead f) s = .next
      (State.eventsRead { packetTaken (drives s f n (v.portStatus x.bytes.length ++ x.bytes)) x.push with
        cmd := { (packetTaken (drives s f n (v.portStatus x.bytes.length ++ x.bytes)) x.push).cmd with lastRead := x.bytes } } x.events) := by
  obtain ⟨-, hrun⟩ := spiFrame_good hgood
  obtain ⟨n, hn, heq⟩ := hrun 20
  refine ⟨n, hn, congrArg Host.Outcome.next ((heq _).trans ?_)⟩
  have hreplies : (seenFrame { s with free := s.free + 1 } f (some (f.headed + n))).spiReplies = s.spiReplies := rfl
  have hpushes : (seenFrame { s with free := s.free + 1 } f (some (f.headed + n))).spiPushes = s.spiPushes := rfl
  have hstatus := portStatus_seen s f (some (f.headed + n)) (s.free + 1) x.bytes.length
  rw [← hv] at hstatus
  rw [hreplies, hpushes]
  rcases hx with hx | ⟨hnone, hx⟩
  · rw [hx]
    simp only [Option.some_or, hcomplete, if_true, clocked, hstatus]
    rfl
  · rw [hnone, hx]
    simp only [List.head?_nil, Option.none_or, hcomplete, if_true, clocked, hstatus]
    rfl

end

/-- The part of the statement on a PACKET_READ with a packet. -/
theorem packetRead_packet {s : State} {f : SpiFrame} (hgood : GoodFrame s f) (hcomplete : f.complete = true)
    {v : State} (hv : v = { s with hp := { s.hp with pins := { s.hp.pins with fell := f.fell } } })
    {x : OutPacket} (hx : s.spiReplies.head? = some x ∨ (s.spiReplies = [] ∧ s.spiPushes.head? = some x)) :
    Answers (exec (.packetRead f) s) (fun t =>
      ReadDriven { s with cmd := t.cmd } t f (v.portStatus x.bytes.length ++ x.bytes) ∧
      t = { s with hp := t.hp, free := t.free
                   cmd := { s.cmd with out := t.cmd.out, late := t.cmd.late, lastRead := x.bytes
                                       unread := s.cmd.unread.filter (fun q => !x.events.contains q) } } ∧
      (∀ q : Fin 5, q ≠ 0 → t.cmd.out[q] = s.cmd.out[q]) ∧
      (s.cmd.late = [] → t.cmd.late = [] ∧ (x.push = false → t.spiReplies = s.spiReplies.tail ∧ t.spiPushes = s.spiPushes) ∧
        (x.push = true → t.spiPushes = s.spiPushes.tail ∧ t.spiReplies = s.spiReplies)) ∧
      (∀ y rest, s.cmd.late = y :: rest → y.push = false → x.push = false → s.spiReplies.length ≤ 32 →
        t.cmd.late = rest ∧ t.spiReplies = s.spiReplies.tail ++ [y] ∧ t.spiPushes = s.spiPushes)) := by
  obtain ⟨n, hn, hexec⟩ := exec_packetRead hgood hcomplete hv hx
  refine ⟨_, hexec, ?_⟩
  generalize v.portStatus x.bytes.length ++ x.bytes = bytes
  obtain ⟨hframe, hother⟩ := packetTaken_frame (drives s f n bytes) x.push
  have hnone := fun (h : s.cmd.late = []) => packetTaken_of_no_late (s := drives s f n bytes) h x.push
  have hdropped := dropped_queue (drives s f n bytes) x.push
  have hlate := fun (h : x.push = false) y rest (hy : s.cmd.late = y :: rest) hpush hroom =>
    packetTaken_of_late (s := drives s f n bytes) (y := y) (rest := rest) hy hpush hroom
  have hreplies : ∀ u : State, (State.eventsRead { u with cmd := { u.cmd with lastRead := x.bytes } } x.events).spiReplies = u.spiReplies := fun _ => rfl
  have hpushes : ∀ u : State, (State.eventsRead { u with cmd := { u.cmd with lastRead := x.bytes } } x.events).spiPushes = u.spiPushes := fun _ => rfl
  refine ⟨?_, ?_, hother, fun hempty => ⟨?_, fun hpush => ?_, fun hpush => ?_⟩, fun y rest hy hpush hreply hroom => ?_⟩
  · generalize packetTaken (drives s f n bytes) x.push = u at hframe ⊢
    rw [hframe]
    exact ⟨rfl, f.headed + n, rfl, Nat.le_add_right .., Nat.add_le_add_left hn _⟩
  · generalize packetTaken (drives s f n bytes) x.push = u at hframe ⊢
    rw [hframe]
    rfl
  · rw [hnone hempty]
    exact hempty
  · rw [hreplies, hpushes, hnone hempty, hdropped.1, hdropped.2, hpush]
    exact ⟨rfl, rfl⟩
  · rw [hreplies, hpushes, hnone hempty, hdropped.1, hdropped.2, hpush]
    exact ⟨rfl, rfl⟩
  · rw [hreplies, hpushes]
    have hin := hlate hreply y rest hy hpush hroom
    rw [hreply]
    exact hin

/-- Settles O43: a request in, the frames that are errors, and what the reads drive. -/
theorem packetsInAndOut : Obligations.PacketsInAndOut := by
  refine ⟨⟨?_, fun f arrived bytes s => ⟨fun hkeep => ?_, fun hmode hbad => ?_⟩⟩, ?_⟩
  · intro c op r row k x node f s hwf hop hrow hrole hsrc hslot hsession hcache hleast hmost hmode hup hready htype hcut htiming hquad hroom hnode
    obtain ⟨cache, d, hd, hexec⟩ := packetWrite_request hwf hop hrow hrole hsrc hslot hsession hcache hleast hmost hmode
      ⟨hup, hready, htype, hcut, htiming, hquad⟩ hroom hnode
    refine ⟨_, hexec, rfl, ⟨r.arrived + d, rfl, Nat.le_add_right .., Nat.add_le_add_left hd _⟩, fun j hj => upd_other _ _ hj,
      { x.refresh r.arrived with lastSeq := r.seq, untouched := false, cache := cache x }, ?_, rfl, ?_, rfl, ?_, ?_⟩
    · refine (upd_same s.cmd.sessions k _).trans ?_
      rw [show s.cmd.sessions[k] = some x from hsession]
      rfl
    · unfold Session.refresh
      split <;> rfl
    · unfold Session.refresh
      split <;> rfl
    · unfold Session.refresh
      split <;> rfl
  · exact ⟨congrArg Host.Outcome.next (spiFrame_keep hkeep ..), congrArg Host.Outcome.next (spiFrame_keep hkeep ..),
      congrArg Host.Outcome.next (spiFrame_keep hkeep ..), congrArg Host.Outcome.next (spiFrame_keep hkeep ..),
      fun h n => congrArg Host.Outcome.next (spiFrame_keep hkeep ..), fun h n b crc => congrArg Host.Outcome.next (spiFrame_keep hkeep ..)⟩
  · have hrefused : refusedFrame s f = true ∨ bytes.length < 16 ∨ s.outqFull = true := by
      rcases hbad with h | h | h | h | h | h | h
      · exact .inl (refusedFrame_of (.inl h))
      · exact .inl (refusedFrame_of (.inr (.inl h)))
      · exact .inl (refusedFrame_of (.inr (.inr (.inl h))))
      · exact .inl (refusedFrame_of (.inr (.inr (.inr (.inl h)))))
      · exact .inl (refusedFrame_of (.inr (.inr (.inr (.inr h)))))
      · exact .inr (.inl h)
      · exact .inr (.inr h)
    refine ⟨_, packetWrite_error hmode hrefused, ?_, fun hcanonical => frameError_stuck (canonical_iff.mp hcanonical).1⟩
    rw [frameError_frame]
    rfl
  · intro f s hup hready htype hcut htiming hquad hcomplete v hv
    have hgood : GoodFrame s f := ⟨hup, hready, htype, hcut, htiming, hquad⟩
    obtain ⟨n, hn, hstatus⟩ := exec_statusRead hgood hcomplete hv
    obtain ⟨m, hm, hreread⟩ := exec_packetReread hgood hcomplete hv
    refine ⟨⟨_, hstatus, drives_readDriven hn _⟩, ⟨_, hreread, drives_readDriven hm _⟩, fun hempty => ?_, fun x hx =>
      packetRead_packet hgood hcomplete hv hx⟩
    obtain ⟨d, hd, hread⟩ := exec_packetRead_empty hgood hcomplete hv hempty
    exact ⟨_, hread, drives_readDriven hd _⟩

end Sys2Proof.Proofs
end

section
/-! PROOF. The statement on what arrives on the ring (R47, R50, R51, R367 to R389). -/

namespace Sys2Proof.Proofs
open Sys2Proof.Machine

/-! ### Counting, and what it leaves -/

theorem CountOnly.refl (s : State) : CountOnly s s := rfl

theorem countOnly_count (s : State) (index sub : Nat) : CountOnly s (s.count index sub) := count_frame s index sub

theorem countOnly_countN (index sub n : Nat) (s : State) : CountOnly s (s.countN index sub n) := by
  induction n generalizing s with
  | zero => exact .refl s
  | succ n ih => exact (countOnly_count s index sub).trans (ih _)

/-- A counting, with the four fields it changes named. -/
theorem CountOnly.fields {s t : State} (h : CountOnly s t) :
    ∃ g st fs l, t = { s with regs := g, saturated := st, faults := fs, log := l } := ⟨_, _, _, _, h⟩

/-- A write leaves every other parameter, in a list of any form. -/
theorem par_setPar_of_ne (s : State) {index sub i k : Nat} (hkey : regKey i k ≠ regKey index sub) (v : Int) :
    (s.setPar index sub v).par i k = s.par i k := read_write_of_ne hkey s.regs v

/-- Counting leaves every parameter but the counter and its status word. -/
theorem par_count_of_ne (s : State) {index sub i k : Nat} (hkey : regKey i k ≠ regKey index sub)
    (hstatus : regKey i k ≠ regKey (counterSaturation index).1 (statusSub index sub)) : (s.count index sub).par i k = s.par i k := by
  simp only [State.count, State.firstSaturation, State.raiseAgain]
  split
  · rfl
  · split
    · rfl
    · split
      · exact par_setPar_of_ne s hkey _
      · split
        · exact par_setPar_of_ne s hkey _
        · rw [State.par, raise_regs]
          exact (par_setPar_of_ne _ hstatus _).trans (par_setPar_of_ne s hkey _)

theorem par_countN_of_ne {index sub i k : Nat} (hkey : regKey i k ≠ regKey index sub)
    (hstatus : regKey i k ≠ regKey (counterSaturation index).1 (statusSub index sub)) (n : Nat) (s : State) :
    (s.countN index sub n).par i k = s.par i k := by
  induction n generalizing s with
  | zero => rfl
  | succ n ih => exact (ih _).trans (par_count_of_ne s hkey hstatus)

/-- The code errors of an item leave the credits of a pair as they are set. -/
theorem codeErrors_credits (s : State) (n : Nat) : (s.codeErrors n).devN 0x0F03 = s.devN 0x0F03 :=
  congrArg Int.toNat (par_countN_of_ne (by decide) (by decide) n s)

theorem codeErrors_fields (s : State) (n : Nat) :
    ∃ g st fs l, s.codeErrors n = { s with regs := g, saturated := st, faults := fs, log := l } := (countOnly_countN 0x0F13 255 n s).fields

/-! ### The ports -/

theorem other_ne (p : Fin 2) : 1 - p ≠ p := by revert p; decide

theorem upd_same_port (v : Vector RingPort 2) (p : Fin 2) (f : RingPort → RingPort) : (upd v p f)[p] = f v[p] := upd_same v p f

theorem upd_other_port (v : Vector RingPort 2) (p : Fin 2) (f : RingPort → RingPort) : (upd v p f)[1 - p] = v[1 - p] :=
  upd_other v f (other_ne p)

theorem upd_far_port (v : Vector RingPort 2) (p : Fin 2) (f : RingPort → RingPort) : (upd v (1 - p) f)[p] = v[p] :=
  upd_other v f (other_ne p).symm

theorem upd_self {α : Type} {n : Nat} {v : Vector α n} {i : Fin n} {f : α → α} (h : f v[i] = v[i]) : upd v i f = v := by
  unfold upd
  rw [h]
  exact Vector.set_getElem_self i.isLt

/-! ### Tick blocks -/

/-- What a ring state with the flag of Table 16.4 tells: the ring is wrapped and a segment is down. -/
theorem learnWrap_fields (s : State) (b : Bool) : ∃ g st fs l, (if b then s.learnWrap else s) =
    { s with ring := { s.ring with wrapped := s.ring.wrapped || b, segmentDown := s.ring.segmentDown || b }
             regs := g, saturated := st, faults := fs, log := l } := by
  cases b with
  | false =>
    refine ⟨s.regs, s.saturated, s.faults, s.log, ?_⟩
    simp only [Bool.or_false]
    rfl
  | true =>
    simp only [Bool.or_true, if_true]
    unfold State.learnWrap
    by_cases h : s.ring.wrapped = true
    · rw [if_pos h, ← h]
      exact ⟨s.regs, s.saturated, s.faults, s.log, rfl⟩
    · rw [if_neg h]
      obtain ⟨g, st, fs, l, hcount⟩ := (countOnly_count ((s.onRing (fun r => { r with segmentDown := true })).onRing
        (fun r => { r with wrapped := true })) 0x0F14 255).fields
      exact ⟨g, st, fs, l, hcount⟩

/-- The bytes of a tick block that goes on, from its three bytes and its new correction. -/
def tickOn (block : List Byte) (c : Nat) : List Byte := slice 1 3 block ++ leBytes 2 c

theorem forwardTick_fields (s : State) (port : Fin 2) (block : List Byte) (count residence : Nat) : ∃ sent res,
    s.forwardTick port block count residence = { s with ring := { s.ring with
      ports := upd s.ring.ports (1 - port) (fun x => { x with sent := sent }), residence := res } } ∧
    (s.passesOn port = false → sent = s.ring.ports[1 - port].sent ∧ res = s.ring.residence) ∧
    (s.passesOn port = true → s.isMaster = true → res = residence ∧
      sent = 0x3C :: (tickOn block (rdiv (50 * (count : Int) + residence) 16).toNat ++
        crc16Bytes (tickOn block (rdiv (50 * (count : Int) + residence) 16).toNat))) := by
  unfold State.forwardTick
  by_cases hpass : s.passesOn port = true
  · rw [if_pos hpass]
    refine ⟨_, residence, rfl, by simp [hpass], fun _ hmaster => ⟨rfl, ?_⟩⟩
    simp only [if_pos hmaster, Nat.zero_add]
    rfl
  · rw [if_neg hpass]
    refine ⟨s.ring.ports[1 - port].sent, s.ring.residence, ?_, fun _ => ⟨rfl, rfl⟩, fun h => absurd h hpass⟩
    rw [upd_self rfl]

/-- The checks of Table 16.4 on a tick block. -/
def badTick (block : List Byte) : Prop := block.length ≠ 8 ∨ field 0 1 block ≠ 0x3C ∨ crc16Bytes (slice 1 5 block) ≠ slice 6 2 block

theorem not_badTick {block : List Byte} (hlen : block.length = 8) (hcode : field 0 1 block = 0x3C)
    (hcrc : crc16Bytes (slice 1 5 block) = slice 6 2 block) : ¬badTick block := by simp [badTick, hlen, hcode, hcrc]

theorem tick_damaged {block : List Byte} (h : badTick block) (port : Fin 2) (count residence codeErrors : Nat) (s : State) :
    Answers (exec (.tickSymbolReceived port block count residence codeErrors) s) (fun t =>
      t = { s with ring := { s.ring with ports := t.ring.ports }, regs := t.regs, saturated := t.saturated, faults := t.faults, log := t.log } ∧
      t.ring.ports[port] = { s.ring.ports[port] with frameBad := s.ring.ports[port].frameBad || !s.ring.quiet } ∧
      t.ring.ports[1 - port] = s.ring.ports[1 - port]) := by
  obtain ⟨g, st, fs, l, hcount⟩ := codeErrors_fields s codeErrors
  refine ⟨(s.codeErrors codeErrors).damaged port, congrArg Host.Outcome.next (if_pos h), ?_⟩
  rw [hcount]
  exact ⟨rfl, upd_same_port .., upd_other_port ..⟩

theorem tick_heard {block : List Byte} (h : ¬badTick block) {s : State} (hjoined : s.ring.joined = false) (port : Fin 2)
    (count residence codeErrors : Nat) :
    Answers (exec (.tickSymbolReceived port block count residence codeErrors) s) (fun t =>
      t = { s with ring := { s.ring with heardTick := true, heardPhase := t.ring.heardPhase }, regs := t.regs, saturated := t.saturated, faults := t.faults, log := t.log } ∧
      ∀ d : Nat, s.ring.ports[port].delay = some d ∨ (s.ring.ports[port].delay = none ∧ s.ring.ports[1 - port].delay = some d) ∨
          (s.ring.ports[port].delay = none ∧ s.ring.ports[1 - port].delay = none ∧ d = 0) →
        t.ring.heardPhase = some (phaseOf count (d + 16 * field 4 2 block))) := by
  obtain ⟨g, st, fs, l, hcount⟩ := codeErrors_fields s codeErrors
  refine ⟨(s.codeErrors codeErrors).hearTick port block count,
    congrArg Host.Outcome.next ((if_neg h).trans (if_pos (by simp [hjoined]))), ?_⟩
  rw [hcount]
  refine ⟨rfl, fun d hd => congrArg some (congrArg (fun x => phaseOf count (x + 16 * field 4 2 block)) ?_)⟩
  rcases hd with h1 | ⟨h1, h2⟩ | ⟨h1, h2, rfl⟩ <;> simp only [h1] <;> simp only [h2, Option.getD_some, Option.getD_none]

/-- A tick block that a joined node has taken: what the stream of its port tells, and the block that goes on. -/
def tickPassed (s : State) (port : Fin 2) (block : List Byte) (count residence codeErrors : Nat) : State :=
  let t := (s.codeErrors codeErrors).onPort port (fun x => { x with ticked := true })
  (if (field 3 1 block).testBit 4 then t.learnWrap else t).forwardTick port block count residence

theorem tickPassed_fields (s : State) (port : Fin 2) (block : List Byte) (count residence codeErrors : Nat) : ∃ g st fs l sent res,
    tickPassed s port block count residence codeErrors = { s with
      ring := { s.ring with
        ports := upd (upd s.ring.ports port (fun x => { x with ticked := true })) (1 - port) (fun x => { x with sent := sent })
        wrapped := s.ring.wrapped || (field 3 1 block).testBit 4, segmentDown := s.ring.segmentDown || (field 3 1 block).testBit 4
        residence := res }
      regs := g, saturated := st, faults := fs, log := l } ∧
    (s.isMaster = true → s.ring.joined = true →
      ((s.ring.wrapped || (field 3 1 block).testBit 4) = false ∨ s.transmits (1 - port) = false ∨ s.ring.ports[port].endPort = true →
        sent = s.ring.ports[1 - port].sent ∧ res = s.ring.residence) ∧
      ((s.ring.wrapped || (field 3 1 block).testBit 4) = true → s.transmits (1 - port) = true → s.ring.ports[port].endPort = false →
        res = residence ∧ sent = 0x3C :: (tickOn block (rdiv (50 * (count : Int) + residence) 16).toNat ++
          crc16Bytes (tickOn block (rdiv (50 * (count : Int) + residence) 16).toNat)))) := by
  obtain ⟨g, st, fs, l, hcount⟩ := codeErrors_fields s codeErrors
  unfold tickPassed
  rw [hcount]
  obtain ⟨g', st', fs', l', hlearn⟩ := learnWrap_fields (State.onPort { s with regs := g, saturated := st, faults := fs, log := l } port
    (fun x => { x with ticked := true })) ((field 3 1 block).testBit 4)
  dsimp only
  rw [hlearn]
  generalize hu : ({ (State.onPort { s with regs := g, saturated := st, faults := fs, log := l } port (fun x => { x with ticked := true })) with
    ring := _, regs := g', saturated := st', faults := fs', log := l' } : State) = u
  obtain ⟨sent, res, hforward, hstays, hgoes⟩ := forwardTick_fields u port block count residence
  have hports : u.ring.ports = upd s.ring.ports port (fun x => { x with ticked := true }) := by rw [← hu]; rfl
  have htransmits : u.transmits (1 - port) = s.transmits (1 - port) := by
    have hjoined : u.ring.joined = s.ring.joined := by rw [← hu]; rfl
    unfold State.transmits
    rw [hports, upd_other_port, hjoined]
  have hend : u.ring.ports[port].endPort = s.ring.ports[port].endPort := by rw [hports, upd_same_port]
  have hwrapped : u.ring.wrapped = (s.ring.wrapped || (field 3 1 block).testBit 4) := by rw [← hu]; rfl
  have hmaster : u.isMaster = s.isMaster := by rw [← hu]; rfl
  have hpasses : s.isMaster = true → u.passesOn port =
      ((s.ring.wrapped || (field 3 1 block).testBit 4) && s.transmits (1 - port) && !s.ring.ports[port].endPort) := fun h => by
    rw [State.passesOn, hmaster, h, hwrapped, htransmits, hend]
    simp
  refine ⟨g', st', fs', l', sent, res, ?_, fun hm _ => ⟨fun hcase => ?_, fun h1 h2 h3 => ?_⟩⟩
  · rw [hforward, ← hu]
    rfl
  · obtain ⟨hsent, hres⟩ := hstays (by rw [hpasses hm]; rcases hcase with h | h | h <;> rw [h] <;> simp)
    rw [hsent, hres, hports, upd_other_port, ← hu]
    exact ⟨rfl, rfl⟩
  · exact hgoes (by rw [hpasses hm, h1, h2, h3]; rfl) (hmaster.trans hm)

theorem tick_atMaster {block : List Byte} (h : ¬badTick block) {s : State} (hjoined : s.ring.joined = true)
    (hmaster : s.isMaster = true) (port : Fin 2) (count residence codeErrors : Nat) :
    Answers (exec (.tickSymbolReceived port block count residence codeErrors) s) (fun t =>
      t = { s with ring := { s.ring with ports := t.ring.ports, wrapped := t.ring.wrapped, segmentDown := t.ring.segmentDown
                                         residence := t.ring.residence }, regs := t.regs, saturated := t.saturated, faults := t.faults, log := t.log } ∧
      t.ring.ports[port] = { s.ring.ports[port] with ticked := true } ∧
      t.ring.ports[1 - port] = { s.ring.ports[1 - port] with sent := t.ring.ports[1 - port].sent } ∧
      t.ring.wrapped = (s.ring.wrapped || (field 3 1 block).testBit 4) ∧
      t.ring.segmentDown = (s.ring.segmentDown || (field 3 1 block).testBit 4) ∧
      (t.ring.wrapped = false ∨ s.transmits (1 - port) = false ∨ s.ring.ports[port].endPort = true →
        t.ring.ports[1 - port].sent = s.ring.ports[1 - port].sent ∧ t.ring.residence = s.ring.residence) ∧
      (t.ring.wrapped = true → s.transmits (1 - port) = true → s.ring.ports[port].endPort = false → t.ring.residence = residence ∧
        ∃ body : List Byte, t.ring.ports[1 - port].sent = 0x3C :: body ++ crc16Bytes body ∧
        body.take 3 = slice 1 3 block ∧ body.drop 3 = leBytes 2 (rdiv (50 * (count : Int) + residence) 16).toNat)) := by
  refine ⟨tickPassed s port block count residence codeErrors,
    congrArg Host.Outcome.next ((if_neg h).trans ((if_neg (by simp [hjoined])).trans (if_pos hmaster))), ?_⟩
  obtain ⟨g, st, fs, l, sent, res, heq, hsent⟩ := tickPassed_fields s port block count residence codeErrors
  obtain ⟨hstays, hgoes⟩ := hsent hmaster hjoined
  have hthree : (slice 1 3 block).length = 3 := slice_length ..
  rw [heq]
  dsimp only
  rw [upd_far_port, upd_same_port, upd_same_port, upd_other_port]
  exact ⟨rfl, rfl, rfl, rfl, rfl, hstays, fun h1 h2 h3 => ⟨(hgoes h1 h2 h3).1, tickOn block _, (hgoes h1 h2 h3).2,
    List.take_left' hthree, List.drop_left' hthree⟩⟩

/-- A follower that hears its own master's epoch adopts nothing. -/
theorem followMaster_same {s : State} {master epoch : Byte} (frame : Byte) (hmaster : master = s.ring.master) (hepoch : epoch = s.ring.epoch) :
    s.followMaster master epoch frame = s := if_pos (Or.inr ⟨hmaster, hepoch⟩)

/-- What a follower makes of a good tick block, behind its master. -/
def followTick (s t : State) (port : Fin 2) (block : List Byte) (count : Nat) : State :=
  let t := t.onRing (fun r => { r with quiet := r.quiet || (field 3 1 block).testBit 5 })
  let path := (s.delayOn port).getD 0 + 16 * field 4 2 block
  let up := t.masterUpstream port ((field 3 1 block).testBit 6) && (s.delayOn port).isSome
  let t := t.onPort port (fun x => { x with pathDelay := if up then path else 0 })
  let other := (t.ring.ports[1 - port]).pathDelay
  let e := phaseOf count path
  let inTime : Bool := s.tb.holdover || decide ((e - s.expectedPhase).natAbs ≤ 2)
  if up && !t.ring.detached && inTime && decide (other = 0 ∨ path ≤ other) then t.onTb (fun x => { x with phase := some e }) else t

/-- The same on the shorter path of the master's own block. -/
def followedTick (t : State) (port : Fin 2) (block : List Byte) (path : Nat) : State :=
  (t.onRing (fun r => { r with quiet := r.quiet || (field 3 1 block).testBit 5 })).onPort port (fun x => { x with pathDelay := path })

theorem followTick_eq {s t : State} {port : Fin 2} {block : List Byte} {count path d : Nat} (hdelay : s.delayOn port = some d)
    (hpath : path = d + 16 * field 4 2 block) (horigin : (field 3 1 block).testBit 6 = true) (hattached : t.ring.detached = false)
    (hshorter : t.ring.ports[1 - port].pathDelay = 0 ∨ path ≤ t.ring.ports[1 - port].pathDelay) :
    followTick s t port block count = if s.tb.holdover || decide ((phaseOf count path - s.expectedPhase).natAbs ≤ 2)
      then (followedTick t port block path).onTb (fun x => { x with phase := some (phaseOf count path) }) else followedTick t port block path := by
  have hother : (followedTick t port block path).ring.ports[1 - port] = t.ring.ports[1 - port] := upd_other_port ..
  have hdetached : (followedTick t port block path).ring.detached = false := hattached
  unfold followTick
  simp only [hdelay, Option.getD_some, Option.isSome_some, Bool.and_true, State.masterUpstream, horigin, Bool.true_or, Bool.true_and, if_true,
    ← hpath]
  change (if (!(followedTick t port block path).ring.detached && _ && decide ((followedTick t port block path).ring.ports[1 - port].pathDelay = 0 ∨
    path ≤ (followedTick t port block path).ring.ports[1 - port].pathDelay)) = true then _ else _) = _
  rw [hother, hdetached, decide_eq_true hshorter, Bool.and_true, Bool.not_false, Bool.true_and]
  rfl

theorem exec_tick_follower {block : List Byte} (h : ¬badTick block) {s : State} (hjoined : s.ring.joined = true) (hslave : s.isMaster = false)
    (port : Fin 2) (count residence codeErrors : Nat) : exec (.tickSymbolReceived port block count residence codeErrors) s =
      .next (followTick s ((tickPassed s port block count residence codeErrors).followMaster (BitVec.ofNat 8 (field 3 1 block % 16))
        (BitVec.ofNat 8 (field 1 1 block)) (BitVec.ofNat 8 (field 2 1 block))) port block count) :=
  congrArg Host.Outcome.next ((if_neg h).trans ((if_neg (by simp [hjoined])).trans (if_neg (by simp [hslave]))))

theorem tick_followed {block : List Byte} (h : ¬badTick block) {s : State} {port : Fin 2} {path d : Nat} (hdelay : s.delayOn port = some d)
    (hpath : path = d + 16 * field 4 2 block) (hjoined : s.ring.joined = true) (hslave : s.isMaster = false) (hattached : s.ring.detached = false)
    (hmaster : field 3 1 block % 16 = s.ring.master.toNat) (hepoch : field 1 1 block = s.ring.epoch.toNat)
    (horigin : (field 3 1 block).testBit 6 = true)
    (hshorter : s.ring.ports[1 - port].pathDelay = 0 ∨ path ≤ s.ring.ports[1 - port].pathDelay) (count residence codeErrors : Nat) :
    Answers (exec (.tickSymbolReceived port block count residence codeErrors) s) (fun t =>
      t = { s with ring := t.ring, tb := t.tb, regs := t.regs, saturated := t.saturated, faults := t.faults, log := t.log } ∧ t.ring.master = s.ring.master ∧
      (s.tb.holdover = true ∨ (phaseOf count path - s.expectedPhase).natAbs ≤ 2 → t.tb = { s.tb with phase := some (phaseOf count path) }) ∧
      (s.tb.holdover = false → 2 < (phaseOf count path - s.expectedPhase).natAbs → t.tb = s.tb)) := by
  obtain ⟨g, st, fs, l, sent, res, heq, -⟩ := tickPassed_fields s port block count residence codeErrors
  refine ⟨_, exec_tick_follower h hjoined hslave port count residence codeErrors, ?_⟩
  have hgood : BitVec.ofNat 8 (field 3 1 block % 16) = s.ring.master := by rw [hmaster, BitVec.ofNat_toNat, BitVec.setWidth_eq]
  have hage : BitVec.ofNat 8 (field 1 1 block) = s.ring.epoch := by rw [hepoch, BitVec.ofNat_toNat, BitVec.setWidth_eq]
  have hother : (tickPassed s port block count residence codeErrors).ring.ports[1 - port].pathDelay = s.ring.ports[1 - port].pathDelay := by
    rw [heq]
    dsimp only
    rw [upd_same_port, upd_other_port]
  rw [followMaster_same _ (hgood.trans (by rw [heq])) (hage.trans (by rw [heq]))]
  rw [followTick_eq hdelay hpath horigin (by rw [heq]; exact hattached) (by rwa [hother])]
  generalize tickPassed s port block count residence codeErrors = u at heq
  rw [heq]
  split
  · next hin =>
    refine ⟨rfl, rfl, fun _ => rfl, fun hholdover hfar => ?_⟩
    simp only [hholdover, Bool.false_or, decide_eq_true_eq] at hin
    omega
  · next hout =>
    refine ⟨rfl, rfl, fun hin => absurd ?_ hout, fun _ _ => rfl⟩
    simpa [Bool.or_eq_true] using hin

/-! ### State slots -/

theorem field_take {o n k : Nat} (h : o + n ≤ k) (b : List Byte) : field o n (b.take k) = field o n b := by
  unfold field slice
  rw [List.drop_take, List.take_take, Nat.min_eq_left (by omega)]

/-- The checks of R386 on a slot. -/
def badSlot (slot : List Byte) : Prop := slot.length ≠ 194 ∨ crc16Bytes (slot.take 192) ≠ slot.drop 192

theorem slot_damaged {slot : List Byte} (h : badSlot slot) (port : Fin 2) (node : Fin 8) (codeErrors : Nat) (s : State) :
    Answers (exec (.stateSlotReceived port node slot codeErrors) s) (fun t =>
      t = { s with ring := { s.ring with ports := t.ring.ports }, regs := t.regs, saturated := t.saturated, faults := t.faults, log := t.log } ∧
      t.ring.ports[port].frameBad = (s.ring.ports[port].frameBad || !s.ring.quiet)) := by
  obtain ⟨g, st, fs, l, hcount⟩ := codeErrors_fields s codeErrors
  refine ⟨(s.codeErrors codeErrors).damaged port, congrArg Host.Outcome.next (if_pos h), ?_⟩
  rw [hcount]
  exact ⟨rfl, congrArg RingPort.frameBad (upd_same_port ..)⟩

theorem slot_listened {slot : List Byte} (h : ¬badSlot slot) {s : State} (hjoined : s.ring.joined = false) (port : Fin 2) (node : Fin 8)
    (codeErrors : Nat) : Answers (exec (.stateSlotReceived port node slot codeErrors) s) (fun t =>
      t = { s with ring := { s.ring with last := s.ring.last.set node (slot.take 192) }, regs := t.regs, saturated := t.saturated, faults := t.faults, log := t.log }) := by
  obtain ⟨g, st, fs, l, hcount⟩ := codeErrors_fields s codeErrors
  refine ⟨_, congrArg Host.Outcome.next ((if_neg h).trans (if_pos (by simp [hjoined]))), ?_⟩
  rw [hcount]
  rfl

/-- A slot newly shows its node joined, or an end node. -/
def slotJoins (s : State) (node : Fin 8) (slot : List Byte) : Bool := (field 1 1 slot).testBit 0 && !(field 1 1 s.ring.last[node]).testBit 0
def slotEnds (s : State) (node : Fin 8) (slot : List Byte) : Bool := (field 1 1 slot).testBit 7 && !(field 1 1 s.ring.last[node]).testBit 7

/-- The credits that a slot gives back, no more than are spent. -/
def slotReturns (s : State) (node : Fin 8) (slot : List Byte) : Nat := min (field 40 4 (slot.take 192) / 16 ^ s.ring.addr.val % 16) s.ring.spent[node]

/-- A slot that is held for the next tick, with its credits. -/
def slotHeld (s : State) (node : Fin 8) (slot : List Byte) (codeErrors : Nat) : State :=
  (s.codeErrors codeErrors).onRing (fun r => { r with
    received := r.received.set node (some (slot.take 192)), missing := r.missing.set node 0, last := r.last.set node (slot.take 192)
    credits := r.credits.set node (r.credits[node] + slotReturns s node slot), spent := r.spent.set node (r.spent[node] - slotReturns s node slot) })

/-- What a slot that newly shows its node joined, or an end node, changes of the ring. -/
def slotRead (s : State) (node : Fin 8) (slot : List Byte) (codeErrors : Nat) : State :=
  let t := slotHeld s node slot codeErrors
  let t := if slotJoins s node slot then t.fillPair node else t
  if slotEnds s node slot then t.learnWrap else t

theorem slotFilled_fields (s : State) (node : Fin 8) (slot : List Byte) (codeErrors : Nat) : ∃ g st fs l filled credits spent buffered returns down,
    (if slotJoins s node slot then (slotHeld s node slot codeErrors).fillPair node else slotHeld s node slot codeErrors) = { s with
      ring := { s.ring with received := s.ring.received.set node (some (slot.take 192)), last := s.ring.last.set node (slot.take 192)
                            missing := s.ring.missing.set node 0, filled, credits, spent, buffered, returns, segmentDown := down }
      regs := g, saturated := st, faults := fs, log := l } ∧
    (slotJoins s node slot = true → credits = s.ring.credits.set node (s.devN 0x0F03) ∧ spent = s.ring.spent.set node 0) ∧
    (slotJoins s node slot = false → credits = s.ring.credits.set node (s.ring.credits[node] + slotReturns s node slot)) := by
  have hfull : (slotHeld s node slot codeErrors).devN 0x0F03 = s.devN 0x0F03 := codeErrors_credits s codeErrors
  obtain ⟨g, st, fs, l, hcount⟩ := codeErrors_fields s codeErrors
  have hheld : slotHeld s node slot codeErrors = { s with
      ring := { s.ring with
        received := s.ring.received.set node (some (slot.take 192)), missing := s.ring.missing.set node 0, last := s.ring.last.set node (slot.take 192)
        credits := s.ring.credits.set node (s.ring.credits[node] + slotReturns s node slot)
        spent := s.ring.spent.set node (s.ring.spent[node] - slotReturns s node slot) }
      regs := g, saturated := st, faults := fs, log := l } := by
    unfold slotHeld
    rw [hcount]
    rfl
  cases slotJoins s node slot with
  | false =>
    rw [hheld]
    exact ⟨g, st, fs, l, _, _, _, _, _, _, rfl, nofun, fun _ => rfl⟩
  | true =>
    unfold State.fillPair
    rw [hfull, hheld]
    exact ⟨g, st, fs, l, _, _, _, _, _, _, rfl, fun _ => ⟨Vector.set_set .., Vector.set_set ..⟩, nofun⟩

/-- What a node hears in a slot beside its credits: that its master's frame differs, a rank that is set twice, an answer of the
master. -/
def HeardOnly (s t : State) : Prop :=
  t = { s with ring := { s.ring with detached := t.ring.detached, announced := t.ring.announced }, tb := t.tb, faults := t.faults, log := t.log }

theorem HeardOnly.refl (s : State) : HeardOnly s s := rfl

theorem HeardOnly.trans {s t u : State} (h : HeardOnly s t) (h' : HeardOnly t u) : HeardOnly s u := by
  unfold HeardOnly at *
  rw [h', h]

theorem HeardOnly.ite {p : Prop} [Decidable p] {s t u : State} (h : HeardOnly s t) (h' : HeardOnly s u) : HeardOnly s (if p then t else u) := by
  split <;> assumption

theorem heardOnly_raise (s : State) (code inst : Nat) : HeardOnly s (s.raise code inst) := by
  unfold HeardOnly
  rw [State.raise_frame]

theorem heardOnly_detach (s : State) : HeardOnly s s.detach := by
  unfold State.detach
  dsimp only
  have hbase : HeardOnly s ((s.onRing (fun r => { r with detached := true })).onTb (fun t => { t with holdover := true, phase := none, succeeds := false })) := rfl
  exact (HeardOnly.ite hbase (hbase.trans (heardOnly_raise ..))).trans (heardOnly_raise ..)

theorem heardOnly_masterHears (s : State) (k : Fin 8) (b : List Byte) : HeardOnly s (s.masterHears k b) := by
  unfold State.masterHears
  refine HeardOnly.ite (.refl s) ?_
  split
  · exact HeardOnly.ite rfl (.refl s)
  · exact HeardOnly.ite (.refl s) rfl

theorem slot_read {slot : List Byte} (h : ¬badSlot slot) {s : State} (hjoined : s.ring.joined = true) {node : Fin 8}
    (hfirst : s.ring.received[node] = none) (port : Fin 2) (codeErrors : Nat) :
    Answers (exec (.stateSlotReceived port node slot codeErrors) s) (HeardOnly (slotRead s node slot codeErrors)) := by
  refine ⟨_, congrArg Host.Outcome.next ((if_neg h).trans ((if_neg (by simp [hjoined])).trans (if_neg (by simp [hfirst])))), ?_⟩
  have hjoins : slotJoins s node (slot.take 192) = slotJoins s node slot := by
    unfold slotJoins
    rw [field_take (by omega)]
  have hends : slotEnds s node (slot.take 192) = slotEnds s node slot := by
    unfold slotEnds
    rw [field_take (by omega)]
  have hread : slotRead s node slot codeErrors = (
      let t := slotHeld s node slot codeErrors
      let t := if slotJoins s node (slot.take 192) then t.fillPair node else t
      if slotEnds s node (slot.take 192) then t.learnWrap else t) := by
    rw [hjoins, hends]
    rfl
  rw [hread]
  exact (HeardOnly.ite (heardOnly_detach _) (.refl _)).trans ((HeardOnly.ite (heardOnly_raise ..) (.refl _)).trans (heardOnly_masterHears ..))

theorem slot_facts {slot : List Byte} (h : ¬badSlot slot) {s : State} (hjoined : s.ring.joined = true) {node : Fin 8}
    (hfirst : s.ring.received[node] = none) (port : Fin 2) (codeErrors : Nat) :
    Answers (exec (.stateSlotReceived port node slot codeErrors) s) (fun t =>
      t = { s with ring := t.ring, tb := t.tb, regs := t.regs, saturated := t.saturated, faults := t.faults, log := t.log } ∧
      t.ring.received = s.ring.received.set node (some (slot.take 192)) ∧ t.ring.last = s.ring.last.set node (slot.take 192) ∧
      t.ring.missing = s.ring.missing.set node 0 ∧ t.ring.slots = s.ring.slots ∧
      ((field 1 1 slot).testBit 0 = true → (field 1 1 s.ring.last[node]).testBit 0 = false →
        t.ring.credits = s.ring.credits.set node (s.devN 0x0F03) ∧ t.ring.spent = s.ring.spent.set node 0) ∧
      ((field 1 1 slot).testBit 0 = false ∨ (field 1 1 s.ring.last[node]).testBit 0 = true →
        t.ring.credits = s.ring.credits.set node
          (s.ring.credits[node] + min (field 40 4 (slot.take 192) / 16 ^ s.ring.addr.val % 16) s.ring.spent[node])) ∧
      ((field 1 1 slot).testBit 7 = true → (field 1 1 s.ring.last[node]).testBit 7 = false →
        t.ring.wrapped = true ∧ t.ring.segmentDown = true)) := by
  obtain ⟨t, hrun, ht⟩ := slot_read h hjoined hfirst port codeErrors
  refine ⟨t, hrun, ?_⟩
  obtain ⟨g, st, fs, l, filled, credits, spent, buffered, returns, down, hfilled, hjoins, hstays⟩ := slotFilled_fields s node slot codeErrors
  obtain ⟨g', st', fs', l', hwrap⟩ := learnWrap_fields (if slotJoins s node slot then (slotHeld s node slot codeErrors).fillPair node else
    slotHeld s node slot codeErrors) (slotEnds s node slot)
  have hread : slotRead s node slot codeErrors = _ := hwrap
  unfold HeardOnly at ht
  rw [hread, hfilled] at ht
  rw [ht]
  refine ⟨rfl, rfl, rfl, rfl, rfl, fun hnow hbefore => hjoins ?_, fun hcase => hstays ?_, fun hnow hbefore => ?_⟩
  · rw [slotJoins, hnow, hbefore]
    rfl
  · rw [slotJoins]
    rcases hcase with h | h <;> rw [h]
    · rfl
    · exact Bool.and_false _
  · have hends : slotEnds s node slot = true := by
      rw [slotEnds, hnow, hbefore]
      rfl
    dsimp only
    rw [hends]
    exact ⟨Bool.or_true _, Bool.or_true _⟩

/-! ### Blocks -/

/-- The checks of R388 on a block. -/
def badBlock (block : List Byte) : Prop := block.length ≠ 68 ∨ leBytes 4 (crc32c (block.take 64)).toNat ≠ block.drop 64

/-- The sources that a block names. -/
def namedBy (block : List Byte) (src : Source) : Bool :=
  src.node = BitVec.ofNat 8 (field 1 1 (block.take 64)) && src.host = BitVec.ofNat 8 (field 2 1 (block.take 64) / 4 % 32)

theorem block_unjoined {s : State} (hjoined : s.ring.joined = false) (port : Fin 2) (block : List Byte) (codeErrors count : Nat) :
    Answers (exec (.asyncBlockReceived port block codeErrors count) s) (fun t =>
      t = { s with regs := t.regs, saturated := t.saturated, faults := t.faults, log := t.log }) := by
  obtain ⟨g, st, fs, l, hcount⟩ := codeErrors_fields s codeErrors
  refine ⟨s.codeErrors codeErrors, congrArg Host.Outcome.next (if_pos (by simp [hjoined])), ?_⟩
  rw [hcount]

theorem block_damaged {s : State} (hjoined : s.ring.joined = true) {block : List Byte} (h : badBlock block) (port : Fin 2) (codeErrors count : Nat) :
    Answers (exec (.asyncBlockReceived port block codeErrors count) s) (fun t =>
      t = { s with ring := { s.ring with ports := t.ring.ports }, regs := t.regs, saturated := t.saturated, faults := t.faults, log := t.log } ∧
      t.ring.ports[port].frameBad = (s.ring.ports[port].frameBad || !s.ring.quiet)) := by
  obtain ⟨g, st, fs, l, hcount⟩ := codeErrors_fields s codeErrors
  refine ⟨(((s.codeErrors codeErrors).damaged port).onPort port (fun y => { y with
      assembling := y.assembling.filter (fun e => !namedBy block e.1) })).count 0x0F12 255,
    congrArg Host.Outcome.next ((if_neg (by simp [hjoined])).trans (if_pos h)), ?_⟩
  rw [hcount]
  obtain ⟨g', st', fs', l', hcount'⟩ := (countOnly_count ((State.damaged { s with regs := g, saturated := st, faults := fs, log := l } port).onPort port
    (fun y => { y with assembling := y.assembling.filter (fun e => !namedBy block e.1) })) 0x0F12 255).fields
  rw [hcount']
  refine ⟨rfl, (congrArg RingPort.frameBad (upd_same_port ..)).trans (congrArg RingPort.frameBad (upd_same_port ..))⟩

/-- A block that its node passes on, or keeps. -/
theorem passBlock_fields (s : State) (port : Fin 2) (block : List Byte) : s.passBlock port block =
    { s with ring := { s.ring with ports := upd s.ring.ports (1 - port) (fun x => { x with
        blocks := x.blocks ++ (if s.passesOn port then [wireBlock block] else []) }) } } := by
  unfold State.passBlock
  split
  · rfl
  · rw [upd_self (by simp)]


theorem block_passed {s : State} (hjoined : s.ring.joined = true) {block : List Byte} (h : ¬badBlock block) (port : Fin 2)
    (hown : field 0 1 (block.take 64) ≠ s.ownNode) (hall : field 0 1 (block.take 64) ≠ 0xFF) (codeErrors count : Nat) :
    Answers (exec (.asyncBlockReceived port block codeErrors count) s) (fun t =>
      t = { s with ring := { s.ring with ports := t.ring.ports }, regs := t.regs, saturated := t.saturated, faults := t.faults, log := t.log } ∧
      t.ring.ports[port] = s.ring.ports[port] ∧
      t.ring.ports[1 - port] = { s.ring.ports[1 - port] with
        blocks := s.ring.ports[1 - port].blocks ++ (if s.passesOn port then [wireBlock block] else []) }) := by
  obtain ⟨g, st, fs, l, hcount⟩ := codeErrors_fields s codeErrors
  have hpass : (if field 0 1 (block.take 64) = s.ownNode then s.codeErrors codeErrors else (s.codeErrors codeErrors).passBlock port block) =
      (s.codeErrors codeErrors).passBlock port block := if_neg hown
  refine ⟨_, congrArg Host.Outcome.next ((if_neg (by simp [hjoined])).trans ((if_neg h).trans ((if_pos (Or.inl ⟨hown, hall⟩)).trans hpass))), ?_⟩
  rw [hcount, passBlock_fields]
  exact ⟨rfl, upd_far_port .., upd_same_port ..⟩

/-- The block of a stream after it has passed a node that takes it: freed there, or sent on as a broadcast. -/
def blockTaken (s : State) (port : Fin 2) (block : List Byte) (codeErrors : Nat) : State :=
  if field 0 1 (block.take 64) = s.ownNode then s.codeErrors codeErrors else (s.codeErrors codeErrors).passBlock port block

theorem blockTaken_fields (s : State) (port : Fin 2) (block : List Byte) (codeErrors : Nat) : ∃ g st fs l ports,
    blockTaken s port block codeErrors = { s with ring := { s.ring with ports := ports }, regs := g, saturated := st, faults := fs, log := l } ∧
    ports[port] = s.ring.ports[port] := by
  obtain ⟨g, st, fs, l, hcount⟩ := codeErrors_fields s codeErrors
  unfold blockTaken
  rw [hcount]
  split
  · exact ⟨g, st, fs, l, s.ring.ports, rfl, rfl⟩
  · rw [passBlock_fields]
    exact ⟨g, st, fs, l, _, rfl, upd_far_port ..⟩

/-- The source that a block names. -/
def blockSource (block : List Byte) : Source :=
  { port := .east, node := BitVec.ofNat 8 (field 1 1 (block.take 64)), host := BitVec.ofNat 8 (field 2 1 (block.take 64) / 4 % 32) }

theorem block_assembled {s : State} (hjoined : s.ring.joined = true) {block : List Byte} (h : ¬badBlock block) (port : Fin 2) {node n flags : Nat}
    {src : Source} (hdest : field 0 1 (block.take 64) = s.ownNode ∨ field 0 1 (block.take 64) = 0xFF) (hnode : node = field 1 1 (block.take 64))
    (hone : 1 ≤ node) (height : node ≤ 8) (hother : node ≠ s.ownNode) (hflags : flags = field 2 1 (block.take 64)) (hfirst : flags.testBit 0 = true)
    (hmore : flags.testBit 1 = false) (hn : n = field 3 1 (block.take 64)) (hn1 : 1 ≤ n) (hn60 : n ≤ 60)
    (hsrc : src = { port := .east, node := BitVec.ofNat 8 node, host := BitVec.ofNat 8 (flags / 4 % 32) }) (codeErrors count : Nat) :
    Answers (exec (.asyncBlockReceived port block codeErrors count) s) (fun t =>
      t = { s with ring := { s.ring with ports := t.ring.ports }, regs := t.regs, saturated := t.saturated, faults := t.faults, log := t.log } ∧
      t.ring.ports[port].assembling = s.ring.ports[port].assembling.filter (fun e => !(e.1 = src)) ++ [(src, slice 4 n (block.take 64))]) := by
  subst hnode hflags hn hsrc
  obtain ⟨g, st, fs, l, ports, htaken, hport⟩ := blockTaken_fields s port block codeErrors
  refine ⟨(blockTaken s port block codeErrors).onPort port (fun y => { y with assembling :=
      (((blockTaken s port block codeErrors).ring.ports[port].assembling.filter (fun e => !(e.1 = blockSource block))) ++
        [(blockSource block, slice 4 (field 3 1 (block.take 64)) (block.take 64))]) }),
    congrArg Host.Outcome.next ((if_neg (by simp [hjoined])).trans ((if_neg h).trans ((if_neg ?_).trans ?_))), ?_⟩
  · rintro (⟨h1, h2⟩ | h | h | h | h | h)
    · exact hdest.elim h1 h2
    · omega
    · omega
    · exact hother h
    · omega
    · omega
  · simp only [hfirst, hmore, if_true]
    rfl
  · rw [htaken]
    refine ⟨rfl, (congrArg RingPort.assembling (upd_same_port ..)).trans ?_⟩
    rw [hport]
    rfl

/-! ### Credits, holdover and succession -/

theorem raised_of_onTb (s : State) (f : Timebase → Timebase) {code : Nat} (inst : Nat) (h : (FaultTable.find code).isSome = true) :
    (s.onTb f).raise code inst = { s with tb := f s.tb, faults := ((s.onTb f).raise code inst).faults, log := ((s.onTb f).raise code inst).log } ∧
    Raised s ((s.onTb f).raise code inst) code inst := by
  refine ⟨?_, raised_raise (s.onTb f) inst h⟩
  rw [State.raise_frame]
  rfl

theorem holdover_facts (s : State) :
    (¬(s.follows = true ∧ s.tb.phase = none ∧ s.tb.holdover = false ∧ s.ring.quiet = false) → exec .holdover s = .next s) ∧
    (s.follows = true → s.tb.phase = none → s.tb.holdover = false → s.ring.quiet = false → Answers (exec .holdover s) (fun t =>
      t = { s with tb := { s.tb with holdover := true }, faults := t.faults, log := t.log } ∧ Raised s t 0x0104 255)) := by
  refine ⟨fun h => congrArg Host.Outcome.next (if_neg (by simpa using h)), fun h1 h2 h3 h4 => ?_⟩
  exact ⟨_, congrArg Host.Outcome.next (if_pos ⟨h1, h2, by simp [h3], by simp [h4]⟩),
    raised_of_onTb s (fun t => { t with holdover := true }) 255 (by decide)⟩

theorem masterLost_facts (s : State) (hfollows : s.follows = true) (hattached : s.ring.detached = false) (hmissed : 8 ≤ s.tb.missed) :
    (s.rank = 0 ∨ s.rank = 255 ∨ s.tb.missed < 8 * s.rank → Answers (exec .masterLost s) (fun t => OnlyRaised s t 0x0106 255)) ∧
    (s.rank ≠ 0 → s.rank ≠ 255 → 8 * s.rank ≤ s.tb.missed → Answers (exec .masterLost s) (fun t =>
      t = { s with tb := { s.tb with succeeds := true }, faults := t.faults, log := t.log } ∧ Raised s t 0x0106 255)) := by
  have hlost : ¬((!s.follows) = true ∨ s.ring.detached = true ∨ s.tb.missed < 8) := by
    rw [hfollows, hattached]
    simpa using hmissed
  refine ⟨fun h => ⟨_, congrArg Host.Outcome.next ((if_neg hlost).trans (if_pos h)), onlyRaised_raise s 255 (by decide)⟩, fun h1 h2 h3 => ?_⟩
  refine ⟨_, congrArg Host.Outcome.next ((if_neg hlost).trans (if_neg (by omega))), ?_⟩
  refine ⟨?_, raised_congr (raised_raise s 255 (by decide)) rfl rfl⟩
  rw [State.onTb, State.raise_frame]

theorem becomeMaster_fields (s : State) (epoch : Byte) : ∃ fs l, s.becomeMaster epoch = { s with
    ring := { s.ring with joined := true, master := BitVec.ofNat 8 s.ownNode, epoch := epoch, hadEpoch := true, announced := none, lockedOnce := true }
    tb := { s.tb with holdover := false, missed := 0, phase := none, phaseErr := 0, frameLen := 10000 }, faults := fs, log := l } := by
  unfold State.becomeMaster
  rw [State.clearFault_frame, State.clearFault_frame]
  exact ⟨_, _, rfl⟩

theorem ownNode_byte (s : State) : (BitVec.ofNat 8 s.ownNode).toNat = s.ownNode := by
  have := s.ring.addr.isLt
  rw [BitVec.toNat_ofNat, State.ownNode]
  omega

theorem succeed_facts {s : State} (hsucceeds : s.tb.succeeds = true) (hfollows : s.follows = true) (hattached : s.ring.detached = false) :
    s.succeed = { s with ring := s.succeed.ring, tb := s.succeed.tb, regs := s.succeed.regs, saturated := s.succeed.saturated
                         faults := s.succeed.faults, log := s.succeed.log } ∧
    s.succeed.isMaster = true ∧ s.succeed.ring.master.toNat = s.ownNode ∧ s.succeed.ring.epoch = s.ring.epoch + 1 ∧
    s.succeed.tb.holdover = false ∧ s.succeed.tb.frameLen = 10000 ∧ s.succeed.tb.succeeds = false ∧ s.succeed.isActive 0x0F09 255 = true := by
  have hpass : (s.onTb (fun x => { x with succeeds := false })).follows = true ∧
      (!(s.onTb (fun x => { x with succeeds := false })).ring.detached) = true := ⟨hfollows, (congrArg Bool.not hattached).trans rfl⟩
  have hdef : s.succeed = (((s.onTb (fun x => { x with succeeds := false })).becomeMaster (s.ring.epoch + 1)).count 0x0F15 255).raise 0x0F09 255 :=
    (if_pos hsucceeds).trans (if_pos hpass)
  have hactive : s.succeed.isActive 0x0F09 255 = true := by
    rw [hdef]
    exact isActive_raise (by decide)
  obtain ⟨fs, lm, hmaster⟩ := becomeMaster_fields (s.onTb (fun x => { x with succeeds := false })) (s.ring.epoch + 1)
  obtain ⟨g, st, fs', l, hcount⟩ := (countOnly_count ((s.onTb (fun x => { x with succeeds := false })).becomeMaster (s.ring.epoch + 1)) 0x0F15 255).fields
  rw [State.raise_frame, hcount, hmaster] at hdef
  generalize s.succeed = t at hdef hactive
  have hown := ownNode_byte s
  refine ⟨by rw [hdef]; rfl, ?_, by rw [hdef]; exact hown, by rw [hdef], by rw [hdef], by rw [hdef], by rw [hdef]; rfl, hactive⟩
  rw [hdef]
  unfold State.isMaster
  change (!true || (!s.ring.detached && decide ((BitVec.ofNat 8 s.ownNode).toNat = s.ownNode))) = true
  rw [hattached, hown, decide_eq_true rfl]
  rfl

/-! ### The statement -/

/-- Settles O49: damaged items mark their port and deliver nothing, good ones reach the ring's books. -/
theorem ringItems : Obligations.RingItems := by
  refine ⟨fun port block count residence codeErrors s => ⟨fun h => tick_damaged h port count residence codeErrors s, fun hlen hcode hcrc => ?_⟩,
    fun port node slot codeErrors s => ⟨fun h => slot_damaged h port node codeErrors s, fun hlen hcrc => ?_⟩,
    fun port block codeErrors count s => ⟨fun h => block_unjoined h port block codeErrors count,
      fun hjoined h => block_damaged hjoined h port codeErrors count, fun hjoined hlen hcrc => ?_⟩,
    fun node s => ⟨fun h => congrArg Host.Outcome.next (if_pos h), fun h => congrArg Host.Outcome.next (if_neg (by omega))⟩,
    fun s => ⟨(holdover_facts s).1, (holdover_facts s).2, fun h1 h2 => ?_, fun h => ?_, fun h => ?_, masterLost_facts s, fun h => if_neg (by simp [h]), ?_⟩⟩
  · have hgood := not_badTick hlen hcode hcrc
    exact ⟨fun hjoined => tick_heard hgood hjoined port count residence codeErrors,
      fun hjoined hmaster => tick_atMaster hgood hjoined hmaster port count residence codeErrors,
      fun path d h1 h2 h3 h4 h5 h6 h7 h8 h9 => tick_followed hgood h1 h2 h3 h4 h5 h6 h7 h8 h9 count residence codeErrors⟩
  · have hgood : ¬badSlot slot := by simp [badSlot, hlen, hcrc]
    exact ⟨fun hjoined => slot_listened hgood hjoined port node codeErrors, fun hjoined hfirst => slot_facts hgood hjoined hfirst port codeErrors⟩
  · have hgood : ¬badBlock block := by simp [badBlock, hlen, hcrc]
    exact ⟨fun hown hall => block_passed hjoined hgood port hown hall codeErrors count,
      fun node n flags src h1 h2 h3 h4 h5 h6 h7 h8 h9 h10 h11 h12 => block_assembled hjoined hgood port h1 h2 h3 h4 h5 h6 h7 h8 h9 h10 h11 h12 codeErrors count⟩
  · exact ⟨_, congrArg Host.Outcome.next (if_pos ⟨h1, h2⟩), onlyRaised_raise s 255 (by decide)⟩
  · refine congrArg Host.Outcome.next (if_neg fun h' => ?_)
    rcases h with h | h
    · exact Bool.false_ne_true (h.symm.trans h'.1)
    · omega
  · refine congrArg Host.Outcome.next (if_pos ?_)
    rcases h with h | h | h
    · exact .inl (by simp [h])
    · exact .inr (.inl h)
    · exact .inr (.inr h)
  · rintro t rfl h1 h2 h3
    exact succeed_facts h1 h2 h3

end Sys2Proof.Proofs
end

section
/-! PROOF. What the operations of the ring's links change (R365, R370 to R384). -/

namespace Sys2Proof.Proofs
open Sys2Proof.Machine

/-! ### Faults that name a port -/

/-- Raising and clearing faults: the faults and the log alone. -/
def FaultsOnly (s t : State) : Prop := t = { s with faults := t.faults, log := t.log }

theorem FaultsOnly.refl (s : State) : FaultsOnly s s := rfl

theorem FaultsOnly.trans {s t u : State} (h : FaultsOnly s t) (h' : FaultsOnly t u) : FaultsOnly s u := by
  unfold FaultsOnly at *
  rw [h', h]

theorem FaultsOnly.ite {p : Prop} [Decidable p] {s t u : State} (h : FaultsOnly s t) (h' : FaultsOnly s u) : FaultsOnly s (if p then t else u) := by
  split <;> assumption

theorem FaultsOnly.countOnly {s t : State} (h : FaultsOnly s t) : CountOnly s t := by
  unfold FaultsOnly at h
  unfold CountOnly
  rw [h]

theorem FaultsOnly.fields {s t : State} (h : FaultsOnly s t) : ∃ fs l, t = { s with faults := fs, log := l } := ⟨_, _, h⟩

theorem faultsOnly_raiseWith (s : State) (code inst : Nat) (data : List Byte) (session : Nat) :
    FaultsOnly s (s.raiseWith code inst data session) := by
  unfold State.raiseWith
  split
  · exact .refl s
  · exact FaultsOnly.ite (.refl s) rfl

theorem faultsOnly_raise (s : State) (code inst : Nat) : FaultsOnly s (s.raise code inst) := faultsOnly_raiseWith ..
theorem faultsOnly_portFault (s : State) (code : Nat) (p : Fin 2) : FaultsOnly s (s.portFault code p) := faultsOnly_raiseWith ..
theorem faultsOnly_clearFault (s : State) (code inst : Nat) : FaultsOnly s (s.clearFault code inst) := State.clearFault_frame s code inst

theorem faultsOnly_portFaultIf (s : State) (bad : Bool) (code : Nat) (p : Fin 2) : FaultsOnly s (s.portFaultIf bad code p) :=
  .ite (faultsOnly_portFault ..) (faultsOnly_clearFault ..)

theorem isActive_raiseWith {s : State} {code inst : Nat} (h : (FaultTable.find code).isSome = true) (data : List Byte) (session : Nat) :
    (s.raiseWith code inst data session).isActive code inst = true := by
  obtain ⟨row, hrow⟩ := Option.isSome_iff_exists.mp h
  simp only [State.raiseWith, hrow]
  split
  · assumption
  · simp [State.isActive, State.event]

theorem isActive_portFault {s : State} {code : Nat} (h : (FaultTable.find code).isSome = true) (p : Fin 2) :
    (s.portFault code p).isActive code 255 = true := isActive_raiseWith h ..

theorem isActive_raiseWith_other {s : State} {code inst c i : Nat} (h : c ≠ code) (data : List Byte) (session : Nat) :
    (s.raiseWith c i data session).isActive code inst = s.isActive code inst := by
  unfold State.raiseWith
  split
  · rfl
  · split
    · rfl
    · simp [State.isActive, State.event, h]

theorem isActive_portFault_other {s : State} {code inst c : Nat} (h : c ≠ code) (p : Fin 2) :
    (s.portFault c p).isActive code inst = s.isActive code inst := isActive_raiseWith_other h ..

theorem isActive_clearFault_other {s : State} {code inst c : Nat} (h : c ≠ code) (i : Nat) :
    (s.clearFault c i).isActive code inst = s.isActive code inst := by
  rw [State.isActive, clearFault_faults, List.any_filter, State.isActive]
  refine congrArg (List.any s.faults) (funext fun f => ?_)
  by_cases hf : f.code = code
  · have : ¬f.code = c := fun hc => h (hc.symm.trans hf)
    simp [hf, Ne.symm h]
  · simp [hf]

/-! ### A segment that is down (R370, R372) -/

/-- A port that becomes an end port and trains. -/
def endedPort (s : State) (x : RingPort) : RingPort :=
  { x with state := .training, since := s.frame64, endPort := true, partner := 0, delay := none, echoes := [], pathDelay := 0
           badRun := 0, frameBad := false, ticked := false, silent := 0, lost := false, assembling := [], sent := [], blocks := [] }

theorem endPortAt_fields (s : State) (p : Fin 2) : ∃ g st fs l, s.endPortAt p = { s with
    ring := { s.ring with ports := upd s.ring.ports p (endedPort s), wrapped := true, segmentDown := true }
    regs := g, saturated := st, faults := fs, log := l } := by
  obtain ⟨g, st, fs, l, hwrap⟩ := learnWrap_fields (s.onPort p (endedPort s)) true
  rw [Bool.or_true, Bool.or_true] at hwrap
  exact ⟨g, st, fs, l, hwrap⟩

theorem isActive_learnWrap {s : State} {code inst : Nat} (h : s.isActive code inst = true) (hcode : code ≠ 0x0F0A) :
    s.learnWrap.isActive code inst = true := by
  unfold State.learnWrap
  dsimp only
  split
  · exact h
  · exact isActive_count h (Ne.symm hcode)

/-- What a port that fails changes. -/
def LinkChange (p : Fin 2) (s t : State) : Prop :=
  t = { s with ring := { s.ring with ports := t.ring.ports, wrapped := t.ring.wrapped, segmentDown := t.ring.segmentDown }
               regs := t.regs, saturated := t.saturated, faults := t.faults, log := t.log } ∧
  t.ring.ports[1 - p] = s.ring.ports[1 - p] ∧ (s.ring.wrapped = true → t.ring.wrapped = true) ∧
  (s.ring.segmentDown = true → t.ring.segmentDown = true) ∧ (s.isActive 0x0F01 255 = true → t.isActive 0x0F01 255 = true)

theorem LinkChange.refl (p : Fin 2) (s : State) : LinkChange p s s := ⟨rfl, rfl, id, id, id⟩

/-- A port is down since a frame, and the fault and the ring show it (R372). -/
def PortDown (frame : Long) (p : Fin 2) (t : State) : Prop :=
  t.ring.ports[p].state = .training ∧ t.ring.ports[p].endPort = true ∧ t.ring.ports[p].since = frame ∧ t.ring.ports[p].lost = false ∧
  t.ring.wrapped = true ∧ t.ring.segmentDown = true ∧ t.isActive 0x0F01 255 = true

/-- The failure of the other port leaves a port that is down as it is. -/
theorem PortDown.of_change {frame : Long} {p : Fin 2} {s t : State} (h : PortDown frame (1 - p) s) (hchange : LinkChange p s t) :
    PortDown frame (1 - p) t := by
  obtain ⟨h1, h2, h3, h4, h5, h6, h7⟩ := h
  obtain ⟨-, hport, hwrap, hdown, hactive⟩ := hchange
  unfold PortDown
  rw [hport]
  exact ⟨h1, h2, h3, h4, hwrap h5, hdown h6, hactive h7⟩

theorem linkDown_facts {s : State} {p : Fin 2} (h : s.ring.ports[p].state = .inService ∨ s.ring.ports[p].state = .standby) :
    LinkChange p s (s.linkDown p) ∧ PortDown s.frame64 p (s.linkDown p) := by
  have hdef : s.linkDown p = ((s.endPortAt p).onPort p (fun x => { x with declared := true })).portFault 0x0F01 p := by
    unfold State.linkDown
    rcases h with h | h <;> rw [h]
  have hactive : (s.linkDown p).isActive 0x0F01 255 = true := by
    rw [hdef]
    exact isActive_portFault (by decide) p
  obtain ⟨g, st, fs, l, hend⟩ := endPortAt_fields s p
  obtain ⟨fs', l', hfault⟩ := (faultsOnly_portFault ((s.endPortAt p).onPort p (fun x => { x with declared := true })) 0x0F01 p).fields
  rw [hfault, hend] at hdef
  generalize s.linkDown p = t at hdef hactive
  have hport : t.ring.ports[p] = { endedPort s s.ring.ports[p] with declared := true } := by
    rw [hdef]
    exact (upd_same_port ..).trans (congrArg (fun x => { x with declared := true }) (upd_same_port ..))
  refine ⟨⟨by rw [hdef]; rfl, ?_, fun _ => by rw [hdef]; rfl, fun _ => by rw [hdef]; rfl, fun _ => hactive⟩, ?_⟩
  · rw [hdef]
    exact (upd_other_port ..).trans (upd_other_port ..)
  · unfold PortDown
    rw [hport]
    exact ⟨rfl, rfl, rfl, rfl, by rw [hdef]; rfl, by rw [hdef]; rfl, hactive⟩

theorem linkDown_change (s : State) (p : Fin 2) : LinkChange p s (s.linkDown p) := by
  by_cases h : s.ring.ports[p].state = .inService ∨ s.ring.ports[p].state = .standby
  · exact (linkDown_facts h).1
  · have hdef : s.linkDown p = s := by
      unfold State.linkDown
      split
      · next hstate => exact absurd (.inl hstate) h
      · next hstate => exact absurd (.inr hstate) h
      · rfl
    rw [hdef]
    exact .refl p s

/-- The part of a tick that takes a failed port down. -/
def downIfFailed (p : Fin 2) (t : State) : State :=
  if t.ring.ports[p].lost = true ∨ t.devN 0x0F08 ≤ t.ring.ports[p].badRun ∨ t.devN 0x0F08 ≤ t.ring.ports[p].silent then t.linkDown p else t

theorem downIfFailed_change (p : Fin 2) (t : State) : LinkChange p t (downIfFailed p t) := by
  unfold downIfFailed
  split
  · exact linkDown_change t p
  · exact .refl p t

theorem downIfFailed_down {p : Fin 2} {t : State} (h : t.ring.ports[p].state = .inService ∨ t.ring.ports[p].state = .standby)
    (hlost : t.ring.ports[p].lost = true) : PortDown t.frame64 p (downIfFailed p t) := by
  rw [downIfFailed, if_pos (.inl hlost)]
  exact (linkDown_facts h).2

theorem LinkChange.frame64 {p : Fin 2} {s t : State} (h : LinkChange p s t) : t.frame64 = s.frame64 := by rw [h.1]

theorem each_ports (s : State) (f : Fin 2 → State → State) : s.each (allFin 2) f = f 1 (f 0 s) := rfl

/-- A port whose loss is known at a tick is down from it. -/
theorem bothPorts_down {t : State} (p : Fin 2) (h : t.ring.ports[p].state = .inService ∨ t.ring.ports[p].state = .standby)
    (hlost : t.ring.ports[p].lost = true) : PortDown t.frame64 p (t.each (allFin 2) downIfFailed) := by
  rw [each_ports]
  match p with
  | 0 => exact PortDown.of_change (p := 1) (downIfFailed_down h hlost) (downIfFailed_change 1 _)
  | 1 =>
    have hfirst := downIfFailed_change 0 t
    have hport : (downIfFailed 0 t).ring.ports[(1 : Fin 2)] = t.ring.ports[(1 : Fin 2)] := hfirst.2.1
    rw [← hfirst.frame64]
    exact downIfFailed_down (by rwa [hport]) (by rwa [hport])

/-- The slots of the frame that ends, delivered. -/
def slotsDelivered (s : State) : State :=
  let others := (allFin 8).filter (fun k => k ≠ s.ring.addr && s.joinedMask.testBit k.val)
  let lost := others.filter (fun k => (s.ring.received[k]).isNone)
  if s.ring.joined ∧ !s.ring.quiet ∧ lost ≠ [] then ((s.countN 0x0F11 255 lost.length).stick 0x0F10 255 7).raise 0x0F08 255 else s

theorem countOnly_stick (s : State) (index sub bit : Nat) : CountOnly s (s.stick index sub bit) := rfl

theorem slotsDelivered_fields (s : State) : CountOnly s (slotsDelivered s) := by
  unfold slotsDelivered
  dsimp only
  split
  · exact (countOnly_countN _ _ _ s).trans ((countOnly_stick ..).trans (faultsOnly_raise ..).countOnly)
  · exact .refl s

/-- A port at the delivery: its run of bad frames and its silence. -/
def portDelivered (s : State) (p : Fin 2) (x : RingPort) : RingPort :=
  { x with badRun := if x.frameBad then x.badRun + 1 else if s.ring.quiet then x.badRun else 0, frameBad := false
           silent := s.silence p, ticked := false }

theorem deliverSlots_eq (s : State) : s.deliverSlots = ((slotsDelivered s).onRing (fun r => { r with
    slots := r.received, received := Vector.replicate 8 none
    missing := if s.ring.quiet then r.missing
      else Vector.ofFn (fun k : Fin 8 => if (r.received[k]).isSome then 0 else r.missing[k] + 1)
    ports := Vector.ofFn (fun p : Fin 2 => portDelivered s p r.ports[p]) })).each (allFin 2) downIfFailed := rfl

theorem deliverSlots_down {s : State} {p : Fin 2} (h : s.ring.ports[p].state = .inService ∨ s.ring.ports[p].state = .standby)
    (hlost : s.ring.ports[p].lost = true) : PortDown s.frame64 p s.deliverSlots := by
  obtain ⟨g, st, fs, l, hdelivered⟩ := (slotsDelivered_fields s).fields
  rw [deliverSlots_eq, hdelivered]
  generalize hu : State.onRing _ _ = u
  have hport : u.ring.ports[p] = portDelivered s p s.ring.ports[p] := by
    rw [← hu]
    exact Vector.getElem_ofFn _
  have hframe : u.frame64 = s.frame64 := by
    rw [← hu]
    rfl
  rw [← hframe]
  exact bothPorts_down p (by rw [hport]; exact h) (by rw [hport]; exact hlost)

end Sys2Proof.Proofs
end

section
/-! PROOF. Segments that train, and nodes that join a neighbour (R373, R376, R377, R384). -/

namespace Sys2Proof.Proofs
open Sys2Proof.Machine

/-! ### RING_LINK_DOWN and RING_TRAIN_FAIL -/

theorem ringLinkDown_facts (p : Fin 2) (s : State) :
    (s.ring.ports[p].state ≠ .inService → s.ring.ports[p].state ≠ .standby → exec (.ringLinkDown p) s = .next s) ∧
    (s.ring.ports[p].state = .inService ∨ s.ring.ports[p].state = .standby → exec (.ringLinkDown p) s = .next
      { s with ring := { s.ring with ports := s.ring.ports.set p { s.ring.ports[p] with lost := true } } }) := by
  refine ⟨fun h1 h2 => congrArg Host.Outcome.next ?_, fun h => congrArg Host.Outcome.next ?_⟩
  · split
    · next h => exact absurd h h1
    · next h => exact absurd h h2
    · rfl
  · rcases h with h | h <;> rw [h] <;> rfl

theorem ringTrainFail_facts (p : Fin 2) (s : State) :
    (s.ring.ports[p].state = .training → s.devN 0x0F07 ≤ (s.frame64 - s.ring.ports[p].since).toNat →
      Answers (exec (.ringTrainFail p) s) (fun t =>
        t = { s with ring := { s.ring with ports := t.ring.ports }, faults := t.faults, log := t.log } ∧ t.isActive 0x0F02 255 = true ∧
        t.ring.ports[p] = { s.ring.ports[p] with since := s.frame64, echoes := [], delay := none } ∧
        t.ring.ports[1 - p] = s.ring.ports[1 - p])) ∧
    (s.ring.ports[p].state ≠ .training ∨ (s.frame64 - s.ring.ports[p].since).toNat < s.devN 0x0F07 →
      exec (.ringTrainFail p) s = .next s) := by
  refine ⟨fun h1 h2 => ?_, fun h => congrArg Host.Outcome.next (if_neg fun ⟨h1, h2⟩ => ?_)⟩
  · refine ⟨_, congrArg Host.Outcome.next (if_pos ⟨h1, h2⟩), ?_⟩
    have hactive := isActive_portFault (s := s.onPort p (fun x => { x with since := s.frame64, echoes := [], delay := none }))
      (code := 0x0F02) (by decide) p
    obtain ⟨fs, l, hfault⟩ := (faultsOnly_portFault (s.onPort p (fun x => { x with since := s.frame64, echoes := [], delay := none })) 0x0F02 p).fields
    refine ⟨?_, hactive, ?_, ?_⟩ <;> rw [hfault]
    · rfl
    · exact upd_same_port ..
    · exact upd_other_port ..
  · rcases h with h | h
    · exact h h1
    · omega

/-! ### ECHO_EXCHANGE (R376) -/

/-- A port after an exchange. -/
def echoedPort (interval : Nat) (x : RingPort) : RingPort :=
  { x with echoes := (interval :: x.echoes).take 16
           delay := if ((interval :: x.echoes).take 16).length = 16 then some (rdiv (sumN ((interval :: x.echoes).take 16)) 32).toNat else x.delay }

theorem echoed_eq (s : State) (p : Fin 2) (interval : Nat) : s.echoed p interval = s.onPort p (echoedPort interval) := rfl

theorem echo_ignored {p : Fin 2} {s : State} (h : s.ring.ports[p].state = .down ∨ (s.ring.ports[p].state = .listen ∧ p = 1)) (roundTrip : Nat)
    (echo : EchoReport) : Answers (exec (.echoExchange p roundTrip echo) s) (fun t =>
      t = { s with regs := t.regs, saturated := t.saturated, faults := t.faults, log := t.log }) := by
  refine ⟨s.codeErrors echo.codeErrors, congrArg Host.Outcome.next ?_, countOnly_countN 0x0F13 255 _ s⟩
  rcases h with h | ⟨h, rfl⟩ <;> dsimp only <;> rw [h]
  exact if_neg (by simp)

theorem echo_measured {p : Fin 2} {s : State} (h : s.ring.ports[p].state = .training ∨ s.ring.ports[p].state = .standby ∨
      s.ring.ports[p].state = .inService) (roundTrip : Nat) (echo : EchoReport) (l : List Nat)
    (hl : l = ((roundTrip - 16 * echo.turnaround) :: s.ring.ports[p].echoes).take 16) :
    Answers (exec (.echoExchange p roundTrip echo) s) (fun t =>
      t = { s with ring := { s.ring with ports := t.ring.ports }, regs := t.regs, saturated := t.saturated, faults := t.faults, log := t.log } ∧
      t.ring.ports[1 - p] = s.ring.ports[1 - p] ∧
      t.ring.ports[p] = { s.ring.ports[p] with
        echoes := l, delay := if l.length = 16 then some (rdiv (sumN l) 32).toNat else s.ring.ports[p].delay }) := by
  subst hl
  obtain ⟨g, st, fs, l, hcount⟩ := codeErrors_fields s echo.codeErrors
  refine ⟨(s.codeErrors echo.codeErrors).echoed p (roundTrip - 16 * echo.turnaround), congrArg Host.Outcome.next ?_, ?_⟩
  · rcases h with h | h | h <;> dsimp only <;> rw [h]
  · rw [hcount, echoed_eq]
    exact ⟨rfl, upd_other_port .., upd_same_port ..⟩

theorem ofLe_lt (bs : List Byte) : ofLe bs < 256 ^ bs.length := by
  induction bs with
  | nil => decide
  | cons b bs ih =>
    have := b.isLt
    rw [ofLe, List.length_cons, Nat.pow_succ]
    omega

theorem field_lt (o n : Nat) (bs : List Byte) : field o n bs < 256 ^ n := by
  have := ofLe_lt (slice o n bs)
  rwa [slice_length] at this

theorem upd_one_zero (v : Vector RingPort 2) (f : RingPort → RingPort) : (upd v 1 f)[(0 : Fin 2)] = v[(0 : Fin 2)] := upd_other v f (by decide)
theorem upd_zero_one (v : Vector RingPort 2) (f : RingPort → RingPort) : (upd v 0 f)[(1 : Fin 2)] = v[(1 : Fin 2)] := upd_other v f (by decide)

/-- The ports of a bypassed node that has timed an exchange of its neighbours `x` and `y`. -/
def throughPorts (v : Vector RingPort 2) (interval : Nat) (y x : Byte) (west : Nat) : Vector RingPort 2 :=
  upd (upd (upd (upd v 0 (echoedPort interval)) 0 (fun q => { q with partner := y })) 1 (fun q => { q with partner := x })) 1
    (fun q => { q with delay := some west })

/-- A bypassed node's delays: the neighbour's to the EAST from the exchange, the other from what the neighbour publishes. -/
theorem throughEcho_fields {s : State} {y : Byte} {k : Fin 8} {interval xy : Nat} (hk : k ≠ s.ring.addr) (hy : y.toNat = k.val + 1)
    (hlast : s.ring.last[k] ≠ []) (hxy : xy = field 22 2 s.ring.last[k]) (hknown : xy ≠ 0xFFFF) (hechoes : 15 ≤ s.ring.ports[(0 : Fin 2)].echoes.length)
    {d : Nat} (hd : d = (rdiv (sumN ((interval :: s.ring.ports[(0 : Fin 2)].echoes).take 16)) 32).toNat) :
    ∃ ports, s.throughEcho interval y = { s with ring := { s.ring with ports := ports } } ∧
      ports[(0 : Fin 2)].partner = y ∧ ports[(0 : Fin 2)].delay = some d ∧
      ports[(1 : Fin 2)].partner.toNat = field 19 1 s.ring.last[k] ∧ ports[(1 : Fin 2)].delay = some (xy - d - 1) := by
  obtain rfl : Fin.ofNat 8 (y.toNat + 7) = k := by
    refine Fin.ext ?_
    have := k.isLt
    rw [Fin.val_ofNat, hy]
    omega
  have hlength : ((interval :: s.ring.ports[(0 : Fin 2)].echoes).take 16).length = 16 := by
    rw [List.length_take, List.length_cons]
    omega
  have hpublished : s.publishedDelay (Fin.ofNat 8 (y.toNat + 7)) 1 = some xy := by
    rw [State.publishedDelay, if_neg hk, if_neg hlast, hxy]
    exact if_neg (hxy ▸ hknown)
  have hdelay : (((s.echoed 0 interval).onPort 0 (fun q => { q with partner := y })).onPort 1
      (fun q => { q with partner := BitVec.ofNat 8 (field 19 1 s.ring.last[Fin.ofNat 8 (y.toNat + 7)]) })).ring.ports[(0 : Fin 2)].delay = some d := by
    simp only [State.onPort, State.onRing, echoed_eq, upd_one_zero, upd_same]
    rw [hd]
    exact if_pos hlength
  refine ⟨throughPorts s.ring.ports interval y (BitVec.ofNat 8 (field 19 1 s.ring.last[Fin.ofNat 8 (y.toNat + 7)])) (xy - d - 1), ?_, ?_⟩
  · unfold State.throughEcho
    dsimp only
    rw [hpublished, hdelay]
    rfl
  · simp only [State.onPort, State.onRing, echoed_eq, throughPorts, upd_one_zero, upd_zero_one, upd_same] at hdelay ⊢
    exact ⟨trivial, hdelay, (BitVec.toNat_ofNat ..).trans (Nat.mod_eq_of_lt (field_lt 19 1 _)), trivial⟩

theorem echo_through {s : State} {k : Fin 8} {xy : Nat} (hstate : s.ring.ports[(0 : Fin 2)].state = .listen) (roundTrip : Nat) {echo : EchoReport}
    (hk : k ≠ s.ring.addr) (hy : echo.node.toNat = k.val + 1) (hlast : s.ring.last[k] ≠ []) (hxy : xy = field 22 2 s.ring.last[k])
    (hknown : xy ≠ 0xFFFF) (hechoes : 15 ≤ s.ring.ports[(0 : Fin 2)].echoes.length) {d : Nat}
    (hd : d = (rdiv (sumN (((roundTrip - 16 * echo.turnaround) :: s.ring.ports[(0 : Fin 2)].echoes).take 16)) 32).toNat) :
    Answers (exec (.echoExchange 0 roundTrip echo) s) (fun t =>
      t = { s with ring := { s.ring with ports := t.ring.ports }, regs := t.regs, saturated := t.saturated, faults := t.faults, log := t.log } ∧
      t.ring.ports[(0 : Fin 2)].partner = echo.node ∧ t.ring.ports[(1 - 0 : Fin 2)].partner.toNat = field 19 1 s.ring.last[k] ∧
      t.ring.ports[(0 : Fin 2)].delay = some d ∧ t.ring.ports[(1 - 0 : Fin 2)].delay = some (xy - d - 1)) := by
  obtain ⟨g, st, fs, l, hcount⟩ := codeErrors_fields s echo.codeErrors
  have hlt := k.isLt
  refine ⟨(s.codeErrors echo.codeErrors).throughEcho (roundTrip - 16 * echo.turnaround) echo.node, congrArg Host.Outcome.next ?_, ?_⟩
  · dsimp only
    rw [hstate]
    exact if_pos ⟨rfl, by omega, by omega⟩
  · rw [hcount]
    obtain ⟨ports, heq, hpartner, hdelay, hfar, hfarDelay⟩ := throughEcho_fields (s := { s with regs := g, saturated := st, faults := fs, log := l })
      (interval := roundTrip - 16 * echo.turnaround) hk hy hlast hxy hknown hechoes hd
    rw [heq]
    exact ⟨rfl, hpartner, hfar, hdelay, hfarDelay⟩

/-! ### TRAINING_COMPLETE (R371, R373, R383, R387) -/

theorem countOnly_checkLoop (s : State) (loop : Nat) : CountOnly s (s.checkLoop loop) := by
  have hset : CountOnly s (s.setPar 0x0F16 255 (min loop 250000)) := rfl
  unfold State.checkLoop
  dsimp only
  split
  · exact hset.trans ((countOnly_stick ..).trans (faultsOnly_raise ..).countOnly)
  · exact hset.trans (faultsOnly_clearFault ..).countOnly

theorem isActive_checkLoop_over {s : State} {loop : Nat} (h : loopBudget < loop) : (s.checkLoop loop).isActive 0x0F05 255 = true := by
  unfold State.checkLoop
  dsimp only
  rw [if_pos h]
  exact isActive_raise (by decide)

theorem isActive_checkLoop_within {s : State} {loop : Nat} (h : loop ≤ loopBudget) : (s.checkLoop loop).isActive 0x0F05 255 = false := by
  unfold State.checkLoop
  dsimp only
  rw [if_neg (by omega)]
  exact isActive_clearFault ..

theorem isActive_checkLoop_other (s : State) (loop : Nat) {code inst : Nat} (h : 0x0F05 ≠ code) :
    (s.checkLoop loop).isActive code inst = s.isActive code inst := by
  unfold State.checkLoop
  dsimp only
  split
  · exact isActive_raise_other h
  · exact isActive_clearFault_other h 255

/-- What a training shows: another configuration, and a foreign ring. -/
def trainShown (s : State) (p : Fin 2) (train : TrainReport) (n : Nat) : State :=
  let t := (s.codeErrors n).portFaultIf (decide (train.code ≠ s.checkCode)) 0x0F03 p
  if decide (train.master ≠ s.ring.master ∨ train.epoch ≠ s.ring.epoch) = true then (t.stick 0x0F10 255 5).portFault 0x0F06 p else t.clearFault 0x0F06 255

theorem countOnly_trainShown (s : State) (p : Fin 2) (train : TrainReport) (n : Nat) : CountOnly s (trainShown s p train n) := by
  have hfirst : CountOnly s ((s.codeErrors n).portFaultIf (decide (train.code ≠ s.checkCode)) 0x0F03 p) :=
    (countOnly_countN 0x0F13 255 n s).trans (faultsOnly_portFaultIf ..).countOnly
  unfold trainShown
  dsimp only
  split
  · exact hfirst.trans ((countOnly_stick ..).trans (faultsOnly_portFault ..).countOnly)
  · exact hfirst.trans (faultsOnly_clearFault ..).countOnly

/-- A segment that leads to the own ring clears both faults. -/
theorem trainShown_own {s : State} {train : TrainReport} (hmaster : train.master = s.ring.master) (hepoch : train.epoch = s.ring.epoch)
    (hcode : train.code = s.checkCode) (p : Fin 2) (n : Nat) :
    (trainShown s p train n).isActive 0x0F03 255 = false ∧ (trainShown s p train n).isActive 0x0F06 255 = false := by
  have hdef : trainShown s p train n = ((s.codeErrors n).clearFault 0x0F03 255).clearFault 0x0F06 255 := by
    unfold trainShown State.portFaultIf
    simp [hmaster, hepoch, hcode]
  rw [hdef]
  exact ⟨isActive_clearFault_of_not 0x0F06 255 (isActive_clearFault ..), isActive_clearFault ..⟩

theorem trainShown_otherCode {s : State} {train : TrainReport} (h : train.code ≠ s.checkCode) (p : Fin 2) (n : Nat) :
    (trainShown s p train n).isActive 0x0F03 255 = true := by
  have hfirst : ((s.codeErrors n).portFaultIf (decide (train.code ≠ s.checkCode)) 0x0F03 p).isActive 0x0F03 255 = true := by
    rw [decide_eq_true h]
    exact isActive_portFault (code := 0x0F03) (by decide) p
  unfold trainShown
  dsimp only
  split
  · exact (isActive_portFault_other (by decide) p).trans hfirst
  · exact (isActive_clearFault_other (by decide) 255).trans hfirst

theorem trainShown_foreign {s : State} {train : TrainReport} (h : train.master ≠ s.ring.master ∨ train.epoch ≠ s.ring.epoch) (p : Fin 2) (n : Nat) :
    (trainShown s p train n).isActive 0x0F06 255 = true := by
  unfold trainShown
  dsimp only
  rw [if_pos (decide_eq_true h)]
  exact isActive_portFault (by decide) p

/-- A port whose segment waits for its UNWRAP. -/
def standbyPort (s : State) (node : Byte) (x : RingPort) : RingPort := { x with state := .standby, since := s.frame64, partner := node }

theorem exec_trainingComplete {p : Fin 2} {s : State} (h : s.ring.ports[p].state = .training) (train : TrainReport) (n : Nat) :
    exec (.trainingComplete p train n) s = .next (
      if decide (train.master ≠ s.ring.master ∨ train.epoch ≠ s.ring.epoch) || decide (train.code ≠ s.checkCode) ||
          decide (s.ring.ports[p].echoes.length < 16) then trainShown s p train n
      else
        let loop := (s.onPort p (fun x => { x with partner := train.node })).loopDelay s.joinedMask
        if loopBudget < loop then (trainShown s p train n).checkLoop loop
        else ((trainShown s p train n).checkLoop loop).onPort p (standbyPort s train.node)) :=
  congrArg Host.Outcome.next (if_neg (not_not_intro h))

theorem training_untrained {p : Fin 2} {s : State} (h : s.ring.ports[p].state ≠ .training) (train : TrainReport) (n : Nat) :
    Answers (exec (.trainingComplete p train n) s) (fun t =>
      t = { s with regs := t.regs, saturated := t.saturated, faults := t.faults, log := t.log }) :=
  ⟨s.codeErrors n, congrArg Host.Outcome.next (if_pos h), countOnly_countN 0x0F13 255 n s⟩

theorem training_own {p : Fin 2} {s : State} (h : s.ring.ports[p].state = .training) {train : TrainReport} (n : Nat) {loop : Nat}
    (hloop : loop = (s.onPort p (fun x => { x with partner := train.node })).loopDelay s.joinedMask)
    (hmaster : train.master = s.ring.master) (hepoch : train.epoch = s.ring.epoch) (hcode : train.code = s.checkCode) :
    (s.ring.ports[p].echoes.length < 16 → Answers (exec (.trainingComplete p train n) s) (fun t =>
      t = { s with regs := t.regs, saturated := t.saturated, faults := t.faults, log := t.log } ∧
      t.isActive 0x0F03 255 = false ∧ t.isActive 0x0F06 255 = false)) ∧
    (16 ≤ s.ring.ports[p].echoes.length → loopBudget < loop → Answers (exec (.trainingComplete p train n) s) (fun t =>
      t = { s with regs := t.regs, saturated := t.saturated, faults := t.faults, log := t.log } ∧ t.isActive 0x0F05 255 = true)) ∧
    (16 ≤ s.ring.ports[p].echoes.length → loop ≤ loopBudget → Answers (exec (.trainingComplete p train n) s) (fun t =>
      t = { s with ring := { s.ring with ports := t.ring.ports }, regs := t.regs, saturated := t.saturated, faults := t.faults, log := t.log } ∧
      t.ring.ports[p] = { s.ring.ports[p] with state := .standby, since := s.frame64, partner := train.node } ∧
      t.ring.ports[1 - p] = s.ring.ports[1 - p] ∧ t.isActive 0x0F03 255 = false ∧ t.isActive 0x0F05 255 = false ∧
      t.isActive 0x0F06 255 = false)) := by
  obtain ⟨h3, h6⟩ := trainShown_own hmaster hepoch hcode p n
  have hshown := countOnly_trainShown s p train n
  have hown : (decide (train.master ≠ s.ring.master ∨ train.epoch ≠ s.ring.epoch) || decide (train.code ≠ s.checkCode)) = false := by
    simp [hmaster, hepoch, hcode]
  rw [exec_trainingComplete h, hown, ← hloop]
  simp only [Bool.false_or, decide_eq_true_eq]
  refine ⟨fun hfew => ?_, fun hmany hover => ?_, fun hmany hwithin => ?_⟩
  · rw [if_pos hfew]
    exact ⟨_, rfl, hshown, h3, h6⟩
  · rw [if_neg (by omega), if_pos hover]
    exact ⟨_, rfl, hshown.trans (countOnly_checkLoop ..), isActive_checkLoop_over hover⟩
  · rw [if_neg (by omega), if_neg (by omega)]
    refine ⟨_, rfl, ?_⟩
    obtain ⟨g, st, fs, l, hloop⟩ := (hshown.trans (countOnly_checkLoop (trainShown s p train n) loop)).fields
    refine ⟨?_, ?_, ?_, (isActive_checkLoop_other _ loop (by decide)).trans h3, isActive_checkLoop_within hwithin,
      (isActive_checkLoop_other _ loop (by decide)).trans h6⟩
    · rw [hloop]
      rfl
    · rw [hloop]
      exact upd_same_port ..
    · rw [hloop]
      exact upd_other_port ..

theorem training_foreign {p : Fin 2} {s : State} (h : s.ring.ports[p].state = .training) {train : TrainReport} (n : Nat)
    (hother : train.master ≠ s.ring.master ∨ train.epoch ≠ s.ring.epoch ∨ train.code ≠ s.checkCode) :
    Answers (exec (.trainingComplete p train n) s) (fun t =>
      t = { s with regs := t.regs, saturated := t.saturated, faults := t.faults, log := t.log } ∧
      (train.code ≠ s.checkCode → t.isActive 0x0F03 255 = true) ∧
      (train.master ≠ s.ring.master ∨ train.epoch ≠ s.ring.epoch → t.isActive 0x0F06 255 = true)) := by
  rw [exec_trainingComplete h]
  refine ⟨trainShown s p train n, congrArg Host.Outcome.next (if_pos ?_), countOnly_trainShown s p train n,
    fun hcode => trainShown_otherCode hcode p n, fun hring => trainShown_foreign hring p n⟩
  rw [← or_assoc] at hother
  simp only [Bool.or_eq_true, decide_eq_true_eq]
  exact .inl hother

end Sys2Proof.Proofs
end

section
/-! PROOF. Ports that enter service, and segments that leave it (R373, R377, R384). -/

namespace Sys2Proof.Proofs
open Sys2Proof.Machine

/-! ### Entering service -/

theorem retrained_fields (s : State) (ports : Byte) : ∃ retraining request l, s.retrained ports =
    { s with ring := { s.ring with retraining := retraining, retrainRequest := request }, log := l } := by
  unfold State.retrained
  split
  · split
    · exact ⟨_, _, _, rfl⟩
    · exact ⟨s.ring.retraining, s.ring.retrainRequest, s.log, rfl⟩
  · exact ⟨s.ring.retraining, s.ring.retrainRequest, s.log, rfl⟩

/-- A port that enters service. -/
def servedPort (s : State) (x : RingPort) : RingPort :=
  { x with state := .inService, since := s.frame64, endPort := false, badRun := 0, silent := 0, lost := false, declared := false }

theorem portInService_fields (s : State) (p : Fin 2) : ∃ retraining request fs l, s.portInService p = { s with
    ring := { s.ring with ports := upd s.ring.ports p (servedPort s), retraining := retraining, retrainRequest := request }
    faults := fs, log := l } := by
  have hclear : FaultsOnly (s.onPort p (servedPort s)) ((if (s.onPort p (servedPort s)).ring.ports[1 - p].declared then s.onPort p (servedPort s)
      else (s.onPort p (servedPort s)).clearFault 0x0F01 255).clearFault 0x0F06 255) :=
    (FaultsOnly.ite (.refl _) (faultsOnly_clearFault ..)).trans (faultsOnly_clearFault ..)
  obtain ⟨fs, l, hfields⟩ := hclear.fields
  have hdef : s.portInService p = ((if (s.onPort p (servedPort s)).ring.ports[1 - p].declared then s.onPort p (servedPort s)
      else (s.onPort p (servedPort s)).clearFault 0x0F01 255).clearFault 0x0F06 255).retrained (BitVec.ofNat 8 (2 ^ p.val)) := rfl
  rw [hdef, hfields]
  obtain ⟨retraining, request, l', hretrained⟩ := retrained_fields ({ s.onPort p (servedPort s) with faults := fs, log := l } : State)
    (BitVec.ofNat 8 (2 ^ p.val))
  rw [hretrained]
  exact ⟨_, _, _, _, rfl⟩

/-! ### JOIN_RECEIVED (R377, R389) -/

/-- A port whose neighbour has joined. -/
def neighbourJoined (s : State) (p : Fin 2) (node : Byte) (x : RingPort) : RingPort :=
  { x with partner := node, echoes := if decide (s.ring.ports[p].state = .inService) then [] else x.echoes
           delay := if decide (s.ring.ports[p].state = .inService) then none else x.delay }

/-- A neighbour has joined: its port, and the credits of its pair. -/
def joinHeard (s : State) (p : Fin 2) (node : Byte) (n : Nat) : State :=
  ((s.codeErrors n).onPort p (neighbourJoined s p node)).fillPair (Fin.ofNat 8 (node.toNat + 7))

theorem joinHeard_fields (s : State) (p : Fin 2) (node : Byte) (n : Nat) : ∃ g st fs l filled spent buffered returns,
    joinHeard s p node n = { s with
      ring := { s.ring with ports := upd s.ring.ports p (neighbourJoined s p node), segmentDown := false, filled, spent, buffered, returns
                            credits := s.ring.credits.set (Fin.ofNat 8 (node.toNat + 7)) (s.devN 0x0F03) }
      regs := g, saturated := st, faults := fs, log := l } := by
  have hfull : ((s.codeErrors n).onPort p (neighbourJoined s p node)).devN 0x0F03 = s.devN 0x0F03 := codeErrors_credits s n
  obtain ⟨g, st, fs, l, hcount⟩ := codeErrors_fields s n
  unfold joinHeard State.fillPair
  rw [hfull, hcount]
  exact ⟨g, st, fs, l, _, _, _, _, rfl⟩

theorem fin8_of_node {node : Byte} (h1 : 1 ≤ node.toNat) (h8 : node.toNat ≤ 8) (k : Fin 8) :
    Fin.ofNat 8 (node.toNat + 7) = k ↔ k.val + 1 = node.toNat := by
  rw [Fin.ext_iff, Fin.val_ofNat]
  have := k.isLt
  omega

theorem join_unjoined {s : State} (h : s.ring.joined = false) (p : Fin 2) (node : Byte) (item : JoinReport) :
    Answers (exec (.joinReceived p node item) s) (fun t =>
      t = { s with regs := t.regs, saturated := t.saturated, faults := t.faults, log := t.log }) :=
  ⟨s.codeErrors item.codeErrors, congrArg Host.Outcome.next (if_pos (by simp [h])), countOnly_countN 0x0F13 255 _ s⟩

theorem join_foreign {s : State} (h : s.ring.joined = true) (p : Fin 2) (node : Byte) {item : JoinReport} (hepoch : item.epoch ≠ s.ring.epoch) :
    Answers (exec (.joinReceived p node item) s) (fun t =>
      t = { s with regs := t.regs, saturated := t.saturated, faults := t.faults, log := t.log } ∧ t.isActive 0x0F06 255 = true) :=
  ⟨((s.codeErrors item.codeErrors).stick 0x0F10 255 5).portFault 0x0F06 p,
    congrArg Host.Outcome.next ((if_neg (by simp [h])).trans (if_pos hepoch)),
    (countOnly_countN 0x0F13 255 _ s).trans ((countOnly_stick ..).trans (faultsOnly_portFault ..).countOnly),
    isActive_portFault (by decide) p⟩

theorem exec_joinReceived {s : State} (h : s.ring.joined = true) (p : Fin 2) {node : Byte} {item : JoinReport} (hepoch : item.epoch = s.ring.epoch)
    (h1 : 1 ≤ node.toNat) (h8 : node.toNat ≤ 8) : exec (.joinReceived p node item) s = .next (
      if s.ring.ports[p].state = .standby then (joinHeard s p node item.codeErrors).portInService p else joinHeard s p node item.codeErrors) := by
  have hheard : (if 1 ≤ node.toNat ∧ node.toNat ≤ 8 then joinHeard s p node item.codeErrors
      else (s.codeErrors item.codeErrors).onPort p (neighbourJoined s p node)) = joinHeard s p node item.codeErrors := if_pos ⟨h1, h8⟩
  refine congrArg Host.Outcome.next ((if_neg (by simp [h])).trans ((if_neg (not_not_intro hepoch)).trans ?_))
  exact congrArg (fun t : State => if s.ring.ports[p].state = .standby then t.portInService p else t) hheard

theorem join_facts {s : State} (h : s.ring.joined = true) (p : Fin 2) {node : Byte} {item : JoinReport} (hepoch : item.epoch = s.ring.epoch)
    (h1 : 1 ≤ node.toNat) (h8 : node.toNat ≤ 8) : Answers (exec (.joinReceived p node item) s) (fun t =>
      t = { s with ring := t.ring, regs := t.regs, saturated := t.saturated, faults := t.faults, log := t.log } ∧ t.ring.ports[p].partner = node ∧
      (∀ k : Fin 8, t.ring.credits[k] = (if k.val + 1 = node.toNat then s.devN 0x0F03 else s.ring.credits[k])) ∧
      (s.ring.ports[p].state = .standby → t.ring.ports[p].state = .inService) ∧
      (s.ring.ports[p].state ≠ .standby → t.ring.ports[p].state = s.ring.ports[p].state)) := by
  have hcredits : ∀ k : Fin 8, (s.ring.credits.set (Fin.ofNat 8 (node.toNat + 7)) (s.devN 0x0F03))[k] =
      (if k.val + 1 = node.toNat then s.devN 0x0F03 else s.ring.credits[k]) := fun k => by
    rw [Fin.getElem_fin, Vector.getElem_set]
    exact ite_congr (propext (Fin.ext_iff.symm.trans (fin8_of_node h1 h8 k))) (fun _ => rfl) (fun _ => rfl)
  obtain ⟨g, st, fs, l, filled, spent, buffered, returns, hheard⟩ := joinHeard_fields s p node item.codeErrors
  refine ⟨_, exec_joinReceived h p hepoch h1 h8, ?_⟩
  split
  · next hstandby =>
    obtain ⟨retraining, request, fs', l', hserved⟩ := portInService_fields (joinHeard s p node item.codeErrors) p
    rw [hserved, hheard]
    refine ⟨rfl, ?_, hcredits, fun _ => ?_, fun h => absurd hstandby h⟩
    · dsimp only
      rw [upd_same_port, upd_same_port]
      rfl
    · dsimp only
      rw [upd_same_port]
      rfl
  · next hother =>
    rw [hheard]
    have hport : (upd s.ring.ports p (neighbourJoined s p node))[p] = neighbourJoined s p node s.ring.ports[p] := upd_same_port ..
    exact ⟨rfl, congrArg RingPort.partner hport, hcredits, fun h => absurd h hother, fun _ => (congrArg RingPort.state hport).trans rfl⟩

/-! ### What shows in the slot and the tick blocks (R373, R384, R385) -/

theorem ports_onEach (s : State) (F : Fin 2 → RingPort → RingPort) : ∃ ports,
    s.each (allFin 2) (fun p t => t.onPort p (F p)) = { s with ring := { s.ring with ports := ports } } ∧ ∀ p : Fin 2, ports[p] = F p s.ring.ports[p] := by
  refine ⟨upd (upd s.ring.ports 0 (F 0)) 1 (F 1), rfl, fun p => ?_⟩
  match p with
  | 0 => exact (upd_one_zero ..).trans (upd_same_port ..)
  | 1 => exact (upd_same_port ..).trans (congrArg (F 1) (upd_zero_one ..))

/-- A port with the tick block that its node originates. -/
def originPort (s : State) (p : Fin 2) (x : RingPort) : RingPort :=
  let state := s.ring.master.toNat % 16 + bit s.ring.wrapped 4 + bit s.ring.quiet 5 + bit s.isMaster 6
  { x with sent := if s.transmits p && s.originates p then s.tickBlock state 0 else [] }

theorem originate_fields (s : State) : ∃ ports, s.originate = { s with ring := { s.ring with ports := ports } } ∧
    ∀ p : Fin 2, ports[p] = { s.ring.ports[p] with sent := ports[p].sent } := by
  obtain ⟨ports, heq, hports⟩ := ports_onEach s (originPort s)
  refine ⟨ports, heq, fun p => ?_⟩
  rw [hports p]
  rfl

theorem relink_fields (s : State) : ∃ own ports, s.relink = { s with ring := { s.ring with own := own, ports := ports } } ∧
    ∀ p : Fin 2, ports[p] = { s.ring.ports[p] with sent := ports[p].sent } := by
  unfold State.relink State.patchSlot
  dsimp only
  generalize (if s.ring.own = [] then ([] : List Byte) else _) = own
  obtain ⟨ports, heq, hports⟩ := originate_fields ({ s with ring := { s.ring with own := own } } : State)
  exact ⟨own, ports, heq, hports⟩

/-! ### RETRAIN_AT_FRAME and UNWRAP -/

theorem retrainAtFrame_none {s : State} (h : s.announcement = none) (p : Fin 2) : exec (.retrainAtFrame p) s = .next s := by
  refine congrArg Host.Outcome.next ?_
  rw [h]

theorem retrainAtFrame_facts {p : Fin 2} {s : State} {x : Announcement} (h : s.announcement = some x) (hevent : x.event = 3) (hframe : x.frame ≤ s.frame64)
    (hjoined : s.ring.joined = true) (hstate : s.ring.ports[p].state = .inService) (hnode : x.node.toNat = s.ownNode)
    (hport : x.ports.getLsbD p.val = true) : Answers (exec (.retrainAtFrame p) s) (fun t =>
      t = { s with ring := { s.ring with ports := t.ring.ports, wrapped := true, segmentDown := true, own := t.ring.own }
                   regs := t.regs, saturated := t.saturated, faults := t.faults, log := t.log } ∧
      t.ring.ports[p].state = .training ∧ t.ring.ports[p].endPort = true ∧
      t.ring.ports[1 - p] = { s.ring.ports[1 - p] with sent := t.ring.ports[1 - p].sent }) := by
  have hown : x.node = BitVec.ofNat 8 s.ownNode := BitVec.eq_of_toNat_eq (hnode.trans (ownNode_byte s).symm)
  have hrun : exec (.retrainAtFrame p) s = .next (s.endPortAt p).relink := by
    refine congrArg Host.Outcome.next ?_
    rw [h]
    exact if_pos ⟨hevent, hframe, hjoined, by rw [hown, hport, decide_eq_true rfl]; rfl, hstate⟩
  obtain ⟨g, st, fs, l, hend⟩ := endPortAt_fields s p
  obtain ⟨own, ports, hrelink, hports⟩ := relink_fields (s.endPortAt p)
  rw [hrelink, hend] at hrun
  refine ⟨_, hrun, rfl, ?_, ?_, ?_⟩
  · dsimp only
    rw [hports p, hend]
    exact congrArg RingPort.state (upd_same_port s.ring.ports p (endedPort s))
  · dsimp only
    rw [hports p, hend]
    exact congrArg RingPort.endPort (upd_same_port s.ring.ports p (endedPort s))
  · have hother := hports (1 - p)
    rw [hend] at hother
    dsimp only at hother ⊢
    rwa [upd_other_port] at hother

theorem unwrap_none {s : State} (h : s.announcement = none) : exec .unwrap s = .next s := by
  refine congrArg Host.Outcome.next ?_
  rw [h]

/-- A trained segment of a port enters service. -/
def serveTrained (p : Fin 2) (t : State) : State := if t.ring.ports[p].state = .standby then t.portInService p else t

theorem serveTrained_fields (p : Fin 2) (s : State) : ∃ ports retraining request fs l, serveTrained p s = { s with
    ring := { s.ring with ports := ports, retraining := retraining, retrainRequest := request }, faults := fs, log := l } ∧
    ports[1 - p] = s.ring.ports[1 - p] ∧ (s.ring.ports[p].state = .standby → ports[p].state = .inService ∧ ports[p].endPort = false) ∧
    (s.ring.ports[p].state ≠ .standby → ports[p] = s.ring.ports[p]) := by
  unfold serveTrained
  split
  · next h =>
    obtain ⟨retraining, request, fs, l, heq⟩ := portInService_fields s p
    have hserved : (upd s.ring.ports p (servedPort s))[p] = servedPort s s.ring.ports[p] := upd_same_port ..
    exact ⟨_, _, _, _, _, heq, upd_other_port .., fun _ => ⟨congrArg RingPort.state hserved, congrArg RingPort.endPort hserved⟩, fun hn => absurd h hn⟩
  · next h => exact ⟨s.ring.ports, s.ring.retraining, s.ring.retrainRequest, s.faults, s.log, rfl, rfl, fun hy => absurd hy h, fun _ => rfl⟩

theorem serveAll_fields (s : State) : ∃ ports retraining request fs l, s.each (allFin 2) serveTrained = { s with
    ring := { s.ring with ports := ports, retraining := retraining, retrainRequest := request }, faults := fs, log := l } ∧
    ∀ p : Fin 2, (s.ring.ports[p].state = .standby → ports[p].state = .inService ∧ ports[p].endPort = false) ∧
      (s.ring.ports[p].state ≠ .standby → ports[p] = s.ring.ports[p]) := by
  obtain ⟨ports, retraining, request, fs, l, heast, hfar, hserved, hstays⟩ := serveTrained_fields 0 s
  obtain ⟨ports', retraining', request', fs', l', hwest, hfar', hserved', hstays'⟩ := serveTrained_fields 1 (serveTrained 0 s)
  rw [heast] at hfar' hserved' hstays'
  rw [each_ports, hwest, heast]
  have heastPort : ports'[(0 : Fin 2)] = ports[(0 : Fin 2)] := hfar'
  have hwestPort : ports[(1 : Fin 2)] = s.ring.ports[(1 : Fin 2)] := hfar
  refine ⟨ports', retraining', request', fs', l', rfl, fun p => ?_⟩
  match p with
  | 0 =>
    rw [heastPort]
    exact ⟨hserved, hstays⟩
  | 1 =>
    rw [← hwestPort]
    exact ⟨hserved', hstays'⟩

theorem unwrap_facts {s : State} {x : Announcement} (h : s.announcement = some x) (hevent : x.event = 2) (hframe : x.frame ≤ s.frame64)
    (hjoined : s.ring.joined = true) (hwrapped : s.ring.wrapped = true) :
    Answers (exec .unwrap s) (fun t => t = { s with ring := t.ring, faults := t.faults, log := t.log } ∧ t.ring.wrapped = false ∧
      t.ring.announced = none ∧ t.ring.credits = Vector.replicate 8 (s.devN 0x0F03) ∧
      ∀ p : Fin 2, (s.ring.ports[p].state = .standby → t.ring.ports[p].state = .inService ∧ t.ring.ports[p].endPort = false) ∧
        (s.ring.ports[p].state ≠ .standby → t.ring.ports[p] = { s.ring.ports[p] with sent := t.ring.ports[p].sent })) := by
  have hrun : exec .unwrap s = .next (((s.each (allFin 2) serveTrained).onRing (fun r => { r with
      wrapped := false, announced := none, segmentDown := false, spent := Vector.replicate 8 0
      credits := Vector.replicate 8 (s.devN 0x0F03), filled := Vector.replicate 8 (s.devN 0x0F03) })).relink) := by
    refine congrArg Host.Outcome.next ?_
    rw [h]
    exact if_pos ⟨hevent, hframe, hjoined, hwrapped⟩
  obtain ⟨ports, retraining, request, fs, l, hserved, hports⟩ := serveAll_fields s
  rw [hserved] at hrun
  obtain ⟨own, ports', hrelink, hsent⟩ := relink_fields (State.onRing { s with
    ring := { s.ring with ports := ports, retraining := retraining, retrainRequest := request }, faults := fs, log := l } (fun r => { r with
      wrapped := false, announced := none, segmentDown := false, spent := Vector.replicate 8 0
      credits := Vector.replicate 8 (s.devN 0x0F03), filled := Vector.replicate 8 (s.devN 0x0F03) }))
  rw [hrelink] at hrun
  refine ⟨_, hrun, rfl, rfl, rfl, rfl, fun p => ?_⟩
  have hp : ports'[p] = { ports[p] with sent := ports'[p].sent } := hsent p
  obtain ⟨htrained, hother⟩ := hports p
  refine ⟨fun hstandby => ?_, fun hn => ?_⟩
  · dsimp only
    rw [hp]
    exact htrained hstandby
  · dsimp only
    rw [← hother hn]
    exact hp

end Sys2Proof.Proofs
end

section
/-! PROOF. The statement on segments and membership (R365, R370 to R384). -/

namespace Sys2Proof.Proofs
open Sys2Proof.Machine

/-! ### Listening (Table 16.6, steps 2 to 4) -/

/-- A listening node after a report: its faults, and the loop of the ring it hears. -/
def listenChecked (s : State) (x : ListenReport) : State :=
  let t := (s.codeErrors x.codeErrors).raiseIf (decide (x.code ≠ s.checkCode)) 0x0F03
  let t := if x.joined.getLsbD s.ring.addr.val then t.raise 0x0F04 255 else t
  t.checkLoop (s.listenLoop x)

theorem countOnly_listenChecked (s : State) (x : ListenReport) : CountOnly s (listenChecked s x) := by
  have hcode : FaultsOnly (s.codeErrors x.codeErrors) ((s.codeErrors x.codeErrors).raiseIf (decide (x.code ≠ s.checkCode)) 0x0F03) :=
    .ite (faultsOnly_raise ..) (faultsOnly_clearFault ..)
  exact (countOnly_countN 0x0F13 255 _ s).trans ((hcode.trans (.ite (faultsOnly_raise ..) (.refl _))).countOnly.trans (countOnly_checkLoop ..))

theorem listenChecked_mismatch (s : State) (x : ListenReport) :
    (listenChecked s x).isActive 0x0F03 255 = decide (x.code ≠ s.checkCode) := by
  have hcode : ((s.codeErrors x.codeErrors).raiseIf (decide (x.code ≠ s.checkCode)) 0x0F03).isActive 0x0F03 255 = decide (x.code ≠ s.checkCode) := by
    unfold State.raiseIf
    split
    · next h =>
      rw [h]
      exact isActive_raise (by decide)
    · next h =>
      rw [Bool.not_eq_true] at h
      rw [h]
      exact isActive_clearFault ..
  unfold listenChecked
  dsimp only
  rw [isActive_checkLoop_other _ _ (by decide)]
  split
  · rw [isActive_raise_other (by decide)]
    exact hcode
  · exact hcode

/-- The step to the frame of the ring that a node has heard. -/
def listenStepped (s : State) (x : ListenReport) (t : State) : State :=
  t.onRing (fun r => { r with
    stepped := true, master := x.master, epoch := x.epoch, hadEpoch := true
    stepTo := some (x.frame + 1, clampI (-5000) 5000 (s.ring.heardPhase.getD 0)) })

def listenAcquired (s : State) (x : ListenReport) : State :=
  (listenChecked s x).onRing (fun r => { r with acquired := some x, heardTick := r.heardTick || x.running })

theorem exec_ringListenAcquired {s : State} (hjoined : s.ring.joined = false) (hring : s.dev 0x0F00 ≠ 0) (hboot : s.power.booting = false) (x : ListenReport) :
    exec (.ringListenAcquired x) s = .next (if s.listenOk x && s.pathKnown x && s.everyBayOff && !s.ring.stepped then
      listenStepped s x (listenAcquired s x) else listenAcquired s x) :=
  congrArg Host.Outcome.next (if_neg (by simp [hjoined, hring, hboot]))

theorem listen_facts {s : State} (hjoined : s.ring.joined = false) (hring : s.dev 0x0F00 ≠ 0) (hboot : s.power.booting = false) (x : ListenReport) :
    Answers (exec (.ringListenAcquired x) s) (fun t =>
      t = { s with ring := t.ring, regs := t.regs, saturated := t.saturated, faults := t.faults, log := t.log } ∧ t.ring.acquired = some x ∧
      t.isActive 0x0F03 255 = decide (x.code ≠ s.checkCode) ∧
      (s.listenOk x = true → s.pathKnown x = true → s.everyBayOff = true → s.ring.stepped = false → t.ring.master = x.master ∧
        t.ring.epoch = x.epoch ∧ t.ring.stepTo = some (x.frame + 1, clampI (-5000) 5000 (s.ring.heardPhase.getD 0)) ∧ t.ring.stepped = true) ∧
      (s.listenOk x = false ∨ s.pathKnown x = false ∨ s.everyBayOff = false ∨ s.ring.stepped = true → t.ring.stepTo = s.ring.stepTo ∧ t.ring.master = s.ring.master)) := by
  have hmismatch : (listenAcquired s x).isActive 0x0F03 255 = decide (x.code ≠ s.checkCode) := listenChecked_mismatch s x
  obtain ⟨g, st, fs, l, hchecked⟩ := (countOnly_listenChecked s x).fields
  have hacquired : listenAcquired s x = { s with
      ring := { s.ring with acquired := some x, heardTick := s.ring.heardTick || x.running }, regs := g, saturated := st, faults := fs, log := l } := by
    unfold listenAcquired
    rw [hchecked]
    rfl
  rw [exec_ringListenAcquired hjoined hring hboot]
  refine ⟨_, rfl, ?_⟩
  generalize listenAcquired s x = u at hmismatch hacquired
  split
  · next hstep =>
    simp only [Bool.and_eq_true, Bool.not_eq_true'] at hstep
    obtain ⟨⟨⟨h1, h2⟩, h3⟩, h4⟩ := hstep
    refine ⟨?_, by rw [hacquired]; rfl, hmismatch, fun _ _ _ _ => ⟨rfl, rfl, rfl, rfl⟩, fun h => ?_⟩
    · rw [hacquired]
      rfl
    · simp [h1, h2, h3, h4] at h
  · next hstay =>
    refine ⟨?_, by rw [hacquired], hmismatch, fun h1 h2 h3 h4 => absurd (by rw [h1, h2, h3, h4]; rfl) hstay, fun _ => ?_⟩
    · rw [hacquired]
    · rw [hacquired]
      exact ⟨rfl, rfl⟩

/-! ### Joining and starting (R365, R377 to R380) -/

/-- A port of a node that has joined: on a running link, or on segments that train. -/
def openedPort (s : State) (running : Bool) (x : RingPort) : RingPort :=
  { state := if running then .inService else .training, since := s.frame64, endPort := !running
    partner := if running then x.partner else 0, delay := if running then x.delay else none }

/-- What every node that has opened its bypass shows. -/
def OpenedFrom (s : State) (running : Bool) (t : State) : Prop :=
  t = { s with ring := t.ring, tb := t.tb, faults := t.faults, log := t.log } ∧
  t.ring.joined = true ∧ t.ring.detached = false ∧ t.ring.master = s.ring.master ∧ t.ring.epoch = s.ring.epoch ∧ t.ring.addr = s.ring.addr ∧
  t.ring.wrapped = !running ∧ t.ring.credits = Vector.replicate 8 (s.devN 0x0F03) ∧
  (running = true → t.ring.lastWindow = s.frame64) ∧ ∀ p : Fin 2, t.ring.ports[p] = openedPort s running s.ring.ports[p]

theorem opened_facts (s : State) (running : Bool) : OpenedFrom s running (s.opened running) := by
  unfold State.opened
  dsimp only
  generalize hu : State.onTb _ _ = u
  obtain ⟨fs, l, hclear⟩ := (faultsOnly_clearFault u 0x0F07 255).fields
  rw [hclear]
  obtain ⟨retraining, request, l', hretrained⟩ := retrained_fields ({ u with faults := fs, log := l } : State) 3
  rw [hretrained, ← hu]
  refine ⟨rfl, rfl, rfl, rfl, rfl, rfl, rfl, rfl, fun h => if_pos h, fun p => ?_⟩
  exact Vector.getElem_map ..

theorem sendJoin_fields (s : State) : ∃ ports, s.sendJoin = { s with ring := { s.ring with ports := ports } } ∧ ∀ p : Fin 2,
    ports[p] = { s.ring.ports[p] with guard := ports[p].guard } ∧
    (ports[p].guard.take 4).map BitVec.toNat = [0xF7, s.ownNode, s.ring.epoch.toNat, s.ownNode] := by
  obtain ⟨ports, heq, hports⟩ := ports_onEach s (fun _ x => { x with
    guard := [0xF7, BitVec.ofNat 8 s.ownNode, s.ring.epoch, BitVec.ofNat 8 s.ownNode] ++
      [0xF7, BitVec.ofNat 8 s.ownNode, s.ring.epoch, BitVec.ofNat 8 s.ownNode] ++
      [0xF7, BitVec.ofNat 8 s.ownNode, s.ring.epoch, BitVec.ofNat 8 s.ownNode] ++
      [0xF7, BitVec.ofNat 8 s.ownNode, s.ring.epoch, BitVec.ofNat 8 s.ownNode] })
  refine ⟨ports, heq, fun p => ⟨by rw [hports p], ?_⟩⟩
  rw [hports p]
  change [_, (BitVec.ofNat 8 s.ownNode).toNat, _, (BitVec.ofNat 8 s.ownNode).toNat] = _
  rw [ownNode_byte]
  rfl

/-- The window of a JOIN, as the model reads it from the master's slot. -/
def joinWindow (s : State) (x : ListenReport) : Bool :=
  match s.announcedBy x.master.toNat with
  | some a => decide (a.event = 1 ∧ a.frame = s.frame64) &&
    decide (field 8 8 s.ring.last[Fin.ofNat 8 (x.master.toNat + 7)] + 1 = s.frame64.toNat)
  | none => false

theorem join_none {s : State} (h : s.ring.acquired = none) : exec .join s = .next s := by
  refine congrArg Host.Outcome.next ?_
  rw [h]

theorem exec_join {s : State} {x : ListenReport} (h : s.ring.acquired = some x) : exec .join s = .next (
    if s.ring.joined ∨ s.dev 0x0F00 = 0 ∨ !s.listenOk x ∨ !s.ring.stepped ∨ s.ring.stepTo.isSome ∨ x.master = 0 ∨ (x.running ∧ !joinWindow s x) then s
    else (s.opened x.running).sendJoin) := by
  refine congrArg Host.Outcome.next ?_
  rw [h]
  rfl

theorem join_refused {s : State} {x : ListenReport} (h : s.ring.acquired = some x)
    (hno : s.ring.joined = true ∨ s.listenOk x = false ∨ s.ring.stepped = false ∨ s.ring.stepTo ≠ none ∨ x.master = 0) :
    exec .join s = .next s := by
  refine (exec_join h).trans (congrArg Host.Outcome.next (if_pos ?_))
  rcases hno with h | h | h | h | h
  · exact .inl h
  · exact .inr (.inr (.inl (by rw [h]; rfl)))
  · exact .inr (.inr (.inr (.inl (by rw [h]; rfl))))
  · exact .inr (.inr (.inr (.inr (.inl (Option.isSome_iff_ne_none.mpr h)))))
  · exact .inr (.inr (.inr (.inr (.inr (.inl h)))))

theorem join_accepted {s : State} {x : ListenReport} (h : s.ring.acquired = some x) (hjoined : s.ring.joined = false) (hring : s.dev 0x0F00 ≠ 0)
    (hok : s.listenOk x = true) (hstepped : s.ring.stepped = true) (hstep : s.ring.stepTo = none) (hmaster : x.master ≠ 0)
    (hwindow : x.running = true → (∃ a, s.announcedBy x.master.toNat = some a ∧ a.event = 1 ∧ a.frame = s.frame64) ∧
      field 8 8 s.ring.last[Fin.ofNat 8 (x.master.toNat + 7)] + 1 = s.frame64.toNat) :
    Answers (exec .join s) (fun t => t = { s with ring := t.ring, tb := t.tb, faults := t.faults, log := t.log } ∧ t.ring.joined = true ∧
      t.ring.master = s.ring.master ∧ t.ring.wrapped = !x.running ∧ t.ring.credits = Vector.replicate 8 (s.devN 0x0F03) ∧
      (x.running = true → t.ring.lastWindow = s.frame64) ∧
      ∀ p : Fin 2, t.ring.ports[p].state = (if x.running then .inService else .training) ∧ t.ring.ports[p].endPort = (!x.running) ∧
        t.ring.ports[p].partner = (if x.running then s.ring.ports[p].partner else 0) ∧
        (t.ring.ports[p].guard.take 4).map BitVec.toNat = [0xF7, s.ownNode, s.ring.epoch.toNat, s.ownNode]) := by
  have hin : ¬(s.ring.joined = true ∨ s.dev 0x0F00 = 0 ∨ (!s.listenOk x) = true ∨ (!s.ring.stepped) = true ∨ s.ring.stepTo.isSome = true ∨ x.master = 0 ∨
      (x.running = true ∧ (!joinWindow s x) = true)) := by
    rintro (h | h | h | h | h | h | ⟨hrunning, h⟩)
    · exact Bool.false_ne_true (hjoined.symm.trans h)
    · exact hring h
    · rw [hok] at h
      exact Bool.false_ne_true h
    · rw [hstepped] at h
      exact Bool.false_ne_true h
    · rw [hstep] at h
      exact Bool.false_ne_true h
    · exact hmaster h
    · obtain ⟨⟨a, ha, hevent, hframe⟩, hlast⟩ := hwindow hrunning
      rw [joinWindow, ha] at h
      dsimp only at h
      rw [decide_eq_true ⟨hevent, hframe⟩, decide_eq_true hlast] at h
      exact Bool.false_ne_true h
  refine ⟨_, (exec_join h).trans (congrArg Host.Outcome.next (if_neg hin)), ?_⟩
  obtain ⟨hframe, h1, -, h2, hepoch, haddr, h3, h4, h5, hports⟩ := opened_facts s x.running
  generalize s.opened x.running = u at hframe h1 h2 hepoch haddr h3 h4 h5 hports
  obtain ⟨ports, heq, hguard⟩ := sendJoin_fields u
  have hown : u.ownNode = s.ownNode := congrArg (fun a : Fin 8 => a.val + 1) haddr
  rw [heq]
  refine ⟨?_, h1, h2, h3, h4, h5, fun p => ?_⟩
  · rw [hframe]
  · obtain ⟨hport, hset⟩ := hguard p
    refine ⟨?_, ?_, ?_, ?_⟩
    · dsimp only
      rw [hport, hports p]
      rfl
    · dsimp only
      rw [hport, hports p]
      rfl
    · dsimp only
      rw [hport, hports p]
      rfl
    · dsimp only
      rw [hset, hown, hepoch]

theorem ringStart_refused {s : State} (h : s.ring.joined = true ∨ s.dev 0x0F00 = 0 ∨ s.power.booting = true ∨ s.ring.heardTick = true ∨ s.rank = 255 ∨
    (s.frame64 - s.ring.listenSince).toNat < (s.rank + 1) * s.devN 0x0F05) : exec .ringStart s = .next s := congrArg Host.Outcome.next (if_pos h)

/-- The epoch of a ring that a node starts (R380, R382). -/
def startEpoch (s : State) : Byte := if s.ring.hadEpoch then s.ring.epoch + 1 else 1

theorem ringStart_facts {s : State} (hjoined : s.ring.joined = false) (hring : s.dev 0x0F00 ≠ 0) (hboot : s.power.booting = false)
    (hheard : s.ring.heardTick = false) (hrank : s.rank ≠ 255) (hwaited : (s.rank + 1) * s.devN 0x0F05 ≤ (s.frame64 - s.ring.listenSince).toNat) :
    Answers (exec .ringStart s) (fun t =>
      t = { s with ring := t.ring, tb := t.tb, faults := t.faults, log := t.log } ∧ t.isMaster = true ∧ t.ring.joined = true ∧
      t.ring.master.toNat = s.ownNode ∧ t.ring.epoch = (if s.ring.hadEpoch then s.ring.epoch + 1 else 1) ∧
      (s.ring.hadEpoch = true → t.isActive 0x0F09 255 = true)) := by
  have hstart : ¬(s.ring.joined = true ∨ s.dev 0x0F00 = 0 ∨ s.power.booting = true ∨ s.ring.heardTick = true ∨ s.rank = 255 ∨
      (s.frame64 - s.ring.listenSince).toNat < (s.rank + 1) * s.devN 0x0F05) := by
    rw [hjoined, hboot, hheard]
    simp only [Bool.false_eq_true, false_or, not_or]
    exact ⟨hring, hrank, by omega⟩
  refine ⟨if s.ring.hadEpoch then (((s.opened false).becomeMaster (startEpoch s)).sendJoin).raise 0x0F09 255
    else ((s.opened false).becomeMaster (startEpoch s)).sendJoin, congrArg Host.Outcome.next (if_neg hstart), ?_⟩
  obtain ⟨hframe, -, hattached, -, -, haddr, -, -, -, -⟩ := opened_facts s false
  generalize s.opened false = u at hframe hattached haddr
  have hown : u.ownNode = s.ownNode := congrArg (fun a : Fin 8 => a.val + 1) haddr
  obtain ⟨fs, l, hmaster⟩ := becomeMaster_fields u (startEpoch s)
  obtain ⟨ports, hsent, -⟩ := sendJoin_fields (u.becomeMaster (startEpoch s))
  generalize (u.becomeMaster (startEpoch s)).sendJoin = v at hsent
  rw [hmaster] at hsent
  have hv : v = { s with ring := v.ring, tb := v.tb, faults := v.faults, log := v.log } := by
    rw [hsent, hframe]
  have hnode : v.ring.master.toNat = s.ownNode := by
    rw [hsent]
    exact (ownNode_byte u).trans hown
  have hleads : v.isMaster = true := by
    have hvown : v.ownNode = s.ownNode := by
      rw [hsent]
      exact hown
    have hvattached : v.ring.detached = false := by
      rw [hsent]
      exact hattached
    unfold State.isMaster
    rw [hvattached, hnode, hvown]
    simp
  have hepoch : v.ring.epoch = startEpoch s := by rw [hsent]
  have hvjoined : v.ring.joined = true := by rw [hsent]
  split
  · have hactive := isActive_raise (s := v) (code := 0x0F09) (inst := 255) (by decide)
    obtain ⟨fs', l', hraise⟩ := (faultsOnly_raise v 0x0F09 255).fields
    refine ⟨?_, ?_, ?_, ?_, ?_, fun _ => hactive⟩ <;> rw [hraise]
    · rw [hv]
    · exact hleads
    · exact hvjoined
    · exact hnode
    · exact hepoch.trans (if_pos ‹_›)
  · next hfresh => exact ⟨hv, hleads, hvjoined, hnode, hepoch.trans (if_neg hfresh), fun h => absurd h hfresh⟩

/-! ### Windows and RING_RETRAIN (R378, R384) -/

theorem window_refused {s : State} (h : s.ring.joined = false ∨ s.isMaster = false ∨ s.ring.announced.isSome = true) :
    exec .insertionWindowAnnounce s = .next s := by
  refine congrArg Host.Outcome.next (if_neg fun ⟨h1, h2, h3, _⟩ => ?_)
  rcases h with h | h | h
  · exact Bool.false_ne_true (h.symm.trans h1)
  · exact Bool.false_ne_true (h.symm.trans h2)
  · rw [Option.isNone_iff_eq_none.mp h3] at h
    exact Bool.false_ne_true h

theorem window_announced {s : State} {k : Fin 8} (hjoined : s.ring.joined = true) (hmaster : s.isMaster = true) (hnone : s.ring.announced = none)
    (hexpected : (s.devN 0x0F02).testBit k.val = true) (hmissing : s.joinedMask.testBit k.val = false)
    (hdue : s.ring.lastWindow = 0 ∨ s.devN 0x0F06 ≤ (s.frame64 + 40 - s.ring.lastWindow).toNat)
    (hquiet : ∀ j : Fin 8, ∀ b, s.ring.slots[j] = some b ∨ s.ring.received[j] = some b → slotBusy b = false) :
    exec .insertionWindowAnnounce s = .next { s with ring := { s.ring with announced := some { event := 1, frame := s.frame64 + 40 } } } := by
  have hwanted : ((allFin 8).any (fun k => (s.devN 0x0F02).testBit k.val && !s.joinedMask.testBit k.val)) = true :=
    List.any_eq_true.mpr ⟨k, List.mem_finRange k, by rw [hexpected, hmissing]; rfl⟩
  have hfree : ((s.ring.slots.toList ++ s.ring.received.toList).any (fun o => match o with | some b => slotBusy b | none => false)) = false := by
    refine List.any_eq_false.mpr fun o ho => ?_
    rcases o with _ | b
    · exact Bool.false_ne_true
    · rw [Bool.not_eq_true]
      rcases List.mem_append.mp ho with hmem | hmem
      · obtain ⟨j, hj, hb⟩ := List.getElem_of_mem hmem
        rw [Vector.length_toList] at hj
        exact hquiet ⟨j, hj⟩ b (.inl (by rw [← hb]; simp))
      · obtain ⟨j, hj, hb⟩ := List.getElem_of_mem hmem
        rw [Vector.length_toList] at hj
        exact hquiet ⟨j, hj⟩ b (.inr (by rw [← hb]; simp))
  refine congrArg Host.Outcome.next (if_pos ⟨hjoined, hmaster, by rw [hnone]; rfl, hwanted, ?_, (congrArg Bool.not hfree).trans rfl⟩)
  simpa [Bool.or_eq_true] using hdue

/-- The checks of RING_RETRAIN. -/
def retrainChecks (s : State) (ports : Byte) : List (Bool × Nat) :=
  [(decide (ports = 0 ∨ 4 ≤ ports.toNat), Status.badParameter),
   ((decide (ports = 3) && !s.allDisabled) || s.ring.retraining.isSome, Status.busy)]

/-- The ring with a request to retrain that waits for its segments. -/
def retrainAsked (s : State) (k : Fin 8) (seq : Half) (ports : Byte) : State :=
  s.onRing (fun x => { x with retraining := some (ports, s.frame64, some k, seq), retrainRequest := if ports = 3 then 0 else ports })

theorem exec_ringRetrain {r : Req} {k : Fin 8} {s : State} (h : s.admits 0xA2 r k = true) (ports : Byte) :
    exec (.ringRetrain r ports) s = .next (s.checked r 0xA2 (retrainChecks s ports) (fun s => (retrainAsked s k r.seq ports).answer r 0xA2 Status.pending .bare)) :=
  congrArg Host.Outcome.next (State.request_of_admits h _)

theorem ringRetrain_refused {r : Req} {k : Fin 8} {ports : Byte} {s : State} {status : Nat} (h : s.admits 0xA2 r k = true)
    (hfail : firstFail (retrainChecks s ports) = some status) :
    exec (.ringRetrain r ports) s = .next (s.withReply (replyOf r k 0xA2 status .bare)) := by
  rw [exec_ringRetrain h, State.checked_fail hfail]
  exact congrArg Host.Outcome.next (answer_of_admits h ..)

theorem ringRetrain_facts {r : Req} {k : Fin 8} {ports : Byte} {s : State} (h : s.admits 0xA2 r k = true) :
    (ports = 0 ∨ 4 ≤ ports.toNat → exec (.ringRetrain r ports) s = .next (s.withReply (replyOf r k 0xA2 Status.badParameter .bare))) ∧
    (1 ≤ ports.toNat → ports.toNat ≤ 3 →
      (s.ring.retraining.isSome = true ∨ (ports = 3 ∧ s.allDisabled = false) →
        exec (.ringRetrain r ports) s = .next (s.withReply (replyOf r k 0xA2 Status.busy .bare))) ∧
      (s.ring.retraining = none → (ports = 3 → s.allDisabled = true) → exec (.ringRetrain r ports) s = .next (State.withReply
        { s with ring := { s.ring with retraining := some (ports, s.frame64, some k, r.seq), retrainRequest := if ports = 3 then 0 else ports } }
        (replyOf r k 0xA2 Status.pending .bare)))) := by
  refine ⟨fun hbad => ringRetrain_refused h (firstFail_of_true (decide_eq_true hbad) ..), fun h1 h3 => ?_⟩
  have hports : decide (ports = 0 ∨ 4 ≤ ports.toNat) = false := by
    refine decide_eq_false ?_
    rintro (rfl | h4)
    · exact absurd h1 (by decide)
    · omega
  refine ⟨fun hbusy => ringRetrain_refused h ?_, fun hnone hdisabled => ?_⟩
  · have hheld : ((decide (ports = 3) && !s.allDisabled) || s.ring.retraining.isSome) = true := by
      rcases hbusy with hbusy | ⟨hthree, hbusy⟩
      · rw [hbusy, Bool.or_true]
      · rw [decide_eq_true hthree, hbusy]
        rfl
    exact (firstFail_of_false hports ..).trans (firstFail_of_true hheld ..)
  · have hfree : ((decide (ports = 3) && !s.allDisabled) || s.ring.retraining.isSome) = false := by
      rw [hnone]
      by_cases hthree : ports = 3
      · rw [hdisabled hthree, decide_eq_true hthree]
        rfl
      · rw [decide_eq_false hthree]
        rfl
    have hpass : firstFail (retrainChecks s ports) = none := (firstFail_of_false hports ..).trans (firstFail_of_false hfree ..)
    rw [exec_ringRetrain h, State.checked_pass hpass]
    exact congrArg Host.Outcome.next (answer_of_sessions (s := s) (t := retrainAsked s k r.seq ports) (State.admits_facts h).1 rfl ..)

theorem retrainTimeout_facts (s : State) : (s.ring.retraining = none → exec .retrainTimeout s = .next s) ∧
    (∀ ports since slot seq, s.ring.retraining = some (ports, since, slot, seq) →
      ((s.frame64 - since).toNat < s.devN 0x0F07 → exec .retrainTimeout s = .next s) ∧
      (s.devN 0x0F07 ≤ (s.frame64 - since).toNat → Answers (exec .retrainTimeout s) (fun t =>
        t = { s with ring := { s.ring with retraining := none, retrainRequest := 0 }, log := t.log } ∧
        ∃ e, t.log = { s.log with fresh := s.log.fresh ++ [e] } ∧ e.code = 0x0280 ∧ e.detail = Status.nodeUnreachable ∧ e.extra = seq.toNat))) := by
  refine ⟨fun h => congrArg Host.Outcome.next ?_, fun ports since slot seq h => ⟨fun hearly => congrArg Host.Outcome.next ?_, fun hlate => ?_⟩⟩
  · rw [h]
  · rw [h]
    exact if_neg (by omega)
  · obtain ⟨e, hlog, hcode, hdetail, hextra⟩ := complete_log (s.onRing (fun r => { r with retraining := none, retrainRequest := 0 })) slot seq 0xA2
      Status.nodeUnreachable
    refine ⟨(s.onRing (fun r => { r with retraining := none, retrainRequest := 0 })).complete slot seq 0xA2 Status.nodeUnreachable,
      congrArg Host.Outcome.next ?_, rfl, e, hlog, hcode, hdetail, hextra⟩
    rw [h]
    exact if_pos hlate

/-! ### The statement -/

/-- Settles O50: what each event of a segment and of membership changes. -/
theorem ringLinks : Obligations.RingLinks := by
  refine ⟨fun p s => ⟨(ringLinkDown_facts p s).1, (ringLinkDown_facts p s).2, fun h hlost => deliverSlots_down h hlost, (ringTrainFail_facts p s).1,
      (ringTrainFail_facts p s).2, fun roundTrip echo => ⟨fun h => echo_ignored h roundTrip echo, ?_, fun h l hl => echo_measured h roundTrip echo l hl⟩,
      fun train n loop hloop => ⟨fun h => training_untrained h train n, fun h => ?_⟩,
      fun node item => ⟨fun h => join_unjoined h p node item, fun h he h1 h8 => join_facts h p he h1 h8, fun h he => join_foreign h p node he⟩,
      fun h => retrainAtFrame_none h p, fun x h h1 h2 h3 h4 h5 h6 => retrainAtFrame_facts h h1 h2 h3 h4 h5 h6⟩,
    fun s => ⟨unwrap_none, fun x h h1 h2 h3 h4 => unwrap_facts h h1 h2 h3 h4,
      fun report => ⟨fun h => congrArg Host.Outcome.next (if_pos h), fun h1 h2 h3 => listen_facts h1 h2 h3 report⟩,
      join_none, fun x h => ⟨join_refused h, fun h1 h2 h3 h4 h5 h6 h7 => join_accepted h h1 h2 h3 h4 h5 h6 h7⟩, ringStart_refused,
      fun h1 h2 h3 h4 h5 h6 => ringStart_facts h1 h2 h3 h4 h5 h6, window_refused,
      fun k h1 h2 h3 h4 h5 h6 h7 => window_announced h1 h2 h3 h4 h5 h6 h7⟩,
    fun r k ports s h => ringRetrain_facts h, retrainTimeout_facts⟩
  · rintro k xy hstate rfl hk hy hlast hxy hknown hechoes d hd
    exact echo_through hstate roundTrip hk hy hlast hxy hknown hechoes hd
  · refine ⟨fun h1 h2 h3 => (training_own h n hloop h1 h2 h3).1, fun h1 h2 h3 => (training_own h n hloop h1 h2 h3).2.1,
      fun h1 h2 h3 => (training_own h n hloop h1 h2 h3).2.2, fun hother => training_foreign h n hother⟩

end Sys2Proof.Proofs
end

section
/-! PROOF. The statement on staging to flash (R319, R456, R457, R461, R467, R470). -/

namespace Sys2Proof.Proofs
open Sys2Proof.Machine

/-! ### What staging reads -/

theorem stagedBytes_some {s : State} {offset length : Nat} {bs : List Byte} (h : (s.stagedBytes offset length).1 = some bs) :
    s.stagedBytes offset length = (some bs, s) := by
  have hgood : s.badWords false (0x6000000 + offset) length = [] := by
    refine Decidable.byContradiction fun hbad => ?_
    simp [State.stagedBytes, hbad] at h
  have hmeets : (s.stagedBytes offset length).2 = s := by
    change s.meetBad false (0x6000000 + offset) length = s
    rw [State.meetBad, hgood]
    rfl
  exact Prod.ext h hmeets

/-- The range and the conflicts of a request that stages, given a range within the region and no handle that writes there. -/
theorem stagingRange_ok {offset length : Nat} (hlength : length ≠ 0) (hrange : offset + length ≤ 0x800000) : (stagingRange offset length).1 = false :=
  decide_eq_false (by omega)

theorem noWriter {s : State} {offset length : Nat}
    (h : ∀ (j : Fin 8) w, s.hp.handles[j] = some w → w.space = 1 → w.write = true → overlaps w.base w.length offset length = false) :
    s.hp.handles.toList.any (fun o => match o with
      | some w => w.space = 1 && w.write && overlaps w.base w.length offset length
      | none => false) = false := by
  refine List.any_eq_false.mpr fun o ho => ?_
  rcases o with _ | w
  · exact Bool.false_ne_true
  · obtain ⟨j, hj, hw⟩ := List.getElem_of_mem ho
    rw [Vector.length_toList] at hj
    have hheld : s.hp.handles[(⟨j, hj⟩ : Fin 8)] = some w := by
      rw [← hw]
      simp
    intro hall
    simp only [Bool.and_eq_true, decide_eq_true_eq] at hall
    obtain ⟨⟨hspace, hwrite⟩, hover⟩ := hall
    rw [h ⟨j, hj⟩ w hheld hspace hwrite] at hover
    exact Bool.false_ne_true hover

theorem stagingBusy_held {s : State} (h : s.cfg.flash.isSome = true ∨ s.saf.setChecking.isSome = true) (offset length : Nat) :
    firstFail (s.stagingBusy offset length) = some Status.busy := by
  refine firstFail_of_true ?_ ..
  rcases h with h | h <;> rw [h]
  · rfl
  · exact Bool.or_true _

theorem stagingBusy_free {s : State} {offset length : Nat} (hflash : s.cfg.flash = none) (hchecking : s.saf.setChecking = none)
    (h : ∀ (j : Fin 8) w, s.hp.handles[j] = some w → w.space = 1 → w.write = true → overlaps w.base w.length offset length = false) :
    firstFail (s.stagingBusy offset length) = none := by
  refine (firstFail_of_false ?_ ..).trans ((firstFail_of_false (noWriter h) ..).trans rfl)
  rw [hflash, hchecking]
  rfl

/-- A flash operation that a request has begun. -/
def flashBegun (s : State) (k : Fin 8) (seq : Half) (code : Byte) (op : FlashOp) (offset length : Nat) : State :=
  { s with cfg := { s.cfg with flash := some op, flashRange := some (offset, length), requester := some (code, some k, seq) } }

theorem toNat_ne_zero {x : Word} (h : x ≠ 0) : x.toNat ≠ 0 := fun hx => h (BitVec.eq_of_toNat_eq hx)

section
variable {r : Req} {k : Fin 8} {offset length : Word} {s : State} (hlength : length ≠ 0) (hrange : offset.toNat + length.toNat ≤ 0x800000)
  (hwriters : ∀ (j : Fin 8) w, s.hp.handles[j] = some w → w.space = 1 → w.write = true → overlaps w.base w.length offset.toNat length.toNat = false)
include hlength hrange

/-- The checks of CFG_STAGE (R461) come down to those of the staging region. -/
theorem exec_cfgStage {n : Fin 8} (h : s.admits 0x80 r k = true) (hactive : s.cfg.activeSlot ≠ some n) (htrial : s.cfg.trial = none) :
    exec (.cfgStage r (BitVec.ofNat 8 n.val) offset length) s = .next (s.checked r 0x80 (s.stagingBusy offset.toNat length.toNat) (fun s =>
      match s.stagedBytes offset.toNat length.toNat with
      | (none, s) => s.refuse r 0x80 Status.imageInvalid
      | (some bs, s) =>
        match s.setStatus bs with
        | some status => s.refuse r 0x80 status
        | none => s.startFlash r k 0x80 (.configStage n bs) offset.toNat length.toNat)) := by
  have hpasses : ∀ c ∈ [(decide (8 ≤ (BitVec.ofNat 8 n.val).toNat), Status.badParameter), stagingRange offset.toNat length.toNat,
      (s.cfg.activeSlot = some n || s.cfg.trial = some n || (s.cfg.trial.isSome && s.previousSlot = some n), Status.busy)], c.1 = false := by
    intro c hc
    simp only [List.mem_cons, List.not_mem_nil, or_false] at hc
    rcases hc with rfl | rfl | rfl
    · have := byte_of_fin8_lt n
      exact decide_eq_false (by omega)
    · exact stagingRange_ok (toNat_ne_zero hlength) hrange
    · simp [hactive, htrial]
  refine congrArg Host.Outcome.next ((State.request_of_admits h _).trans ?_)
  dsimp only
  rw [fin8_of_byte n]
  unfold State.checked
  rw [firstFail_append hpasses] <;> rfl

include hwriters

theorem cfgStage_facts {n : Fin 8} (h : s.admits 0x80 r k = true) (hactive : s.cfg.activeSlot ≠ some n) (htrial : s.cfg.trial = none) :
    (s.cfg.flash.isSome = true ∨ s.saf.setChecking.isSome = true →
      exec (.cfgStage r (BitVec.ofNat 8 n.val) offset length) s = .next (s.withReply (replyOf r k 0x80 Status.busy .bare))) ∧
    (s.cfg.flash = none → s.saf.setChecking = none → ∀ bs, (s.stagedBytes offset.toNat length.toNat).1 = some bs →
      (∀ status, s.setStatus bs = some status →
        exec (.cfgStage r (BitVec.ofNat 8 n.val) offset length) s = .next (s.withReply (replyOf r k 0x80 status .bare))) ∧
      (s.setStatus bs = none → exec (.cfgStage r (BitVec.ofNat 8 n.val) offset length) s = .next (State.withReply
        { s with cfg := { s.cfg with flash := some (.configStage n bs), flashRange := some (offset.toNat, length.toNat)
                                     requester := some (0x80, some k, r.seq) } }
        (replyOf r k 0x80 Status.pending .bare)))) := by
  have hrun := exec_cfgStage hlength hrange h hactive htrial
  refine ⟨fun hbusy => ?_, fun hflash hchecking bs hbs => ?_⟩
  · rw [hrun, State.checked_fail (stagingBusy_held hbusy ..)]
    exact congrArg Host.Outcome.next (answer_of_admits h ..)
  · rw [hrun, State.checked_pass (stagingBusy_free hflash hchecking hwriters), stagedBytes_some hbs]
    refine ⟨fun status hstatus => congrArg Host.Outcome.next ?_, fun hstatus => congrArg Host.Outcome.next ?_⟩
    · dsimp only
      rw [hstatus]
      exact answer_of_admits h ..
    · dsimp only
      rw [hstatus]
      exact answer_of_sessions (s := s) (t := flashBegun s k r.seq 0x80 (.configStage n bs) offset.toNat length.toNat) (State.admits_facts h).1 rfl ..

theorem fwStage_facts {image : Fin 2} (h : s.admits 0x84 r k = true) (hflash : s.cfg.flash = none) (hchecking : s.saf.setChecking = none)
    {bs : List Byte} (hbs : (s.stagedBytes offset.toNat length.toNat).1 = some bs) :
    (headerOk image.val bs = false →
      exec (.fwStage r (BitVec.ofNat 8 image.val) offset length) s = .next (s.withReply (replyOf r k 0x84 Status.imageInvalid .bare))) ∧
    (headerOk image.val bs = true → s.imageSigned image.val bs = false →
      exec (.fwStage r (BitVec.ofNat 8 image.val) offset length) s = .next (s.withReply (replyOf r k 0x84 Status.authFail .bare))) ∧
    (headerOk image.val bs = true → s.imageSigned image.val bs = true →
      exec (.fwStage r (BitVec.ofNat 8 image.val) offset length) s = .next (State.withReply
        { s with cfg := { s.cfg with flash := some (.imageStage image (s.bootSlot image + 1) bs)
                                     flashRange := some (offset.toNat, length.toNat)
                                     requester := some (0x84, some k, r.seq) } }
        (replyOf r k 0x84 Status.pending .bare))) := by
  have hkind : Fin.ofNat 2 (BitVec.ofNat 8 image.val).toNat = image := by
    refine Fin.ext ?_
    rw [Fin.val_ofNat, BitVec.toNat_ofNat]
    omega
  have himage : (BitVec.ofNat 8 image.val).toNat < 2 := by
    rw [BitVec.toNat_ofNat]
    omega
  have hpass : firstFail ((decide (2 ≤ (BitVec.ofNat 8 image.val).toNat), Status.badParameter) :: s.stagingChecks offset.toNat length.toNat) = none :=
    (firstFail_of_false (decide_eq_false (by omega)) ..).trans
      ((firstFail_of_false (stagingRange_ok (toNat_ne_zero hlength) hrange) ..).trans (stagingBusy_free hflash hchecking hwriters))
  have hrun : exec (.fwStage r (BitVec.ofNat 8 image.val) offset length) s = .next (
      if !headerOk image.val bs then s.refuse r 0x84 Status.imageInvalid
      else if !s.imageSigned image.val bs then s.refuse r 0x84 Status.authFail
      else s.startFlash r k 0x84 (.imageStage image (s.bootSlot image + 1) bs) offset.toNat length.toNat) := by
    refine congrArg Host.Outcome.next ((State.request_of_admits h _).trans ((State.checked_pass hpass _).trans ?_))
    rw [hkind, stagedBytes_some hbs]
  rw [hrun]
  refine ⟨fun hbad => congrArg Host.Outcome.next ?_, fun hok hunsigned => congrArg Host.Outcome.next ?_, fun hok hsigned => congrArg Host.Outcome.next ?_⟩
  · rw [hbad]
    exact answer_of_admits h ..
  · rw [hok, hunsigned]
    exact answer_of_admits h ..
  · rw [hok, hsigned]
    exact answer_of_sessions (s := s) (t := flashBegun s k r.seq 0x84 (.imageStage image (s.bootSlot image + 1) bs) offset.toNat length.toNat)
      (State.admits_facts h).1 rfl ..

theorem safetySetLoad_accepted (h : s.admits 0x92 r k = true) (hflash : s.cfg.flash = none) (hchecking : s.saf.setChecking = none) :
    exec (.safetySetLoad r offset length) s = .next (State.withReply
      { s with saf := { s.saf with setChecking := some (offset.toNat, some k, r.seq) }
               cfg := { s.cfg with flashRange := some (offset.toNat, length.toNat) } }
      (replyOf r k 0x92 Status.pending .bare)) := by
  have hpass : firstFail (s.stagingChecks offset.toNat length.toNat) = none :=
    (firstFail_of_false (stagingRange_ok (toNat_ne_zero hlength) hrange) ..).trans (stagingBusy_free hflash hchecking hwriters)
  refine congrArg Host.Outcome.next ((State.request_of_admits h _).trans ((State.checked_pass hpass _).trans ?_))
  exact answer_of_sessions (s := s) (t := { s with saf := { s.saf with setChecking := some (offset.toNat, some k, r.seq) }
                                                   cfg := { s.cfg with flashRange := some (offset.toNat, length.toNat) } })
    (State.admits_facts h).1 rfl ..

end

/-! ### State records in flash (R456) -/

theorem recordBytes_length (kind : RecordKind) (generation : Nat) (version : Word) : (recordBytes kind generation version).length = 16 := by
  simp [recordBytes, leBytes_length, pad]

/-- A record lies in its state area. -/
theorem appendRecord_flash (s : State) (area : Nat) {bs : List Byte} (hbs : bs.length = 16) {x : Nat} (hx : x < area ∨ area + 4096 ≤ x) :
    Sparse.read flashDefault (s.appendRecord area bs).flash x = Sparse.read flashDefault s.flash x := by
  unfold State.appendRecord
  split
  · next i hi =>
    have hlt := List.mem_range.mp (List.mem_of_find?_eq_some hi)
    exact read_writeBytes_outside _ (by omega)
  · rfl

/-- The flash after a set has been programmed and recorded. -/
def setFlash (s : State) (k : Fin 8) (bs : List Byte) : Memory := ((s.flashErase (cfgBase k.val) 0x40000).flashProgram (cfgBase k.val) bs).flash

theorem setFlash_outside (s : State) (k : Fin 8) {bs : List Byte} (hbs : bs.length ≤ 258048) {x : Nat}
    (hx : x < cfgBase k.val ∨ cfgBase k.val + 0x40000 ≤ x) : Sparse.read flashDefault (setFlash s k bs) x = Sparse.read flashDefault s.flash x := by
  refine (read_writeBytes_outside _ (by omega)).trans ((flashErase_flash s _ 0x40000 x).trans (if_neg (by omega)))

theorem canonical_flashErase {s : State} (h : s.canonical = true) (a n : Nat) : Memory.wf flashDefault (s.flashErase a n).flash = true :=
  wf_filter _ (canonical_iff.mp h).2.2

theorem setFlash_inside {s : State} (h : s.canonical = true) (k : Fin 8) (bs : List Byte) {j : Nat} (hj : j < bs.length) :
    Sparse.read flashDefault (setFlash s k bs) (cfgBase k.val + j) = bs[j] :=
  Memory.read_writeBytes_inside (canonical_flashErase h ..) _ bs hj

/-! ### FLASH_OP_COMPLETE (R457) -/

/-- What an operation of flash leaves of the state: it ends, and its request completes. -/
theorem endFlash_facts (s : State) (status : Nat) :
    s.endFlash status = { s with cfg := { s.cfg with flash := none, flashRange := none, requester := none }, log := (s.endFlash status).log } ∧
    ∀ op slot seq, s.cfg.requester = some (op, slot, seq) → ∃ e, e ∈ (s.endFlash status).log.fresh ∧ e.code = 0x0280 ∧ e.extra = seq.toNat ∧ e.detail = status := by
  rcases hreq : s.cfg.requester with _ | ⟨op, slot, seq⟩
  · have hdef : s.endFlash status = { s with cfg := { s.cfg with flash := none, flashRange := none, requester := none } } := by
      unfold State.endFlash
      rw [hreq]
    rw [hdef]
    exact ⟨rfl, nofun⟩
  · have hdef : s.endFlash status = ({ s with cfg := { s.cfg with flash := none, flashRange := none, requester := none } } : State).complete slot seq op.toNat status := by
      unfold State.endFlash
      rw [hreq]
    obtain ⟨e, hlog, hcode, hdetail, hextra⟩ := complete_log ({ s with cfg := { s.cfg with flash := none, flashRange := none, requester := none } } : State)
      slot seq op.toNat status
    rw [hdef]
    refine ⟨rfl, fun op' slot' seq' h => ?_⟩
    cases h
    exact ⟨e, by rw [hlog]; simp, hcode, hextra, hdetail⟩

/-- A configuration slot just programmed, with its record. -/
def setRecorded (s : State) (k : Fin 8) (bs : List Byte) (ok : Bool) : State :=
  (((s.flashErase (cfgBase k.val) 0x40000).flashProgram (cfgBase k.val) bs).onSlot k (fun _ => { version := setVersion bs, valid := ok })).recordSlot k .staged 0

theorem setRecorded_fields (s : State) (k : Fin 8) (bs : List Byte) (ok : Bool) : ∃ m bad slots, setRecorded s k bs ok = { s with
    flash := m, badFlash := bad, cfg := { s.cfg with slots := slots } } ∧
    (∀ j : Fin 8, j ≠ k → slots[j] = s.cfg.slots[j]) ∧ slots[k] = { record := some (.staged, 0), version := setVersion bs, valid := ok } ∧
    ∀ x, (x < cfgBase k.val + 258048 ∨ cfgBase k.val + 0x40000 ≤ x) → Sparse.read flashDefault m x = Sparse.read flashDefault (setFlash s k bs) x := by
  let base : State := ((s.flashErase (cfgBase k.val) 0x40000).flashProgram (cfgBase k.val) bs).onSlot k (fun _ => { version := setVersion bs, valid := ok })
  have hframe : setRecorded s k bs ok = _ := recordSlot_frame base k .staged 0
  refine ⟨(setRecorded s k bs ok).flash, base.badFlash, _, hframe, fun j hj => ?_, ?_, fun x hx => ?_⟩
  · exact (upd_other _ _ hj).trans (upd_other _ _ hj)
  · rw [upd_same]
    exact congrArg (fun x => Slot.recorded x .staged 0) (upd_same s.cfg.slots k _)
  · exact appendRecord_flash base (cfgArea k) (recordBytes_length ..) (by unfold cfgArea; omega)

/-- The faults of a slot that has been programmed, and the event of a good one. -/
def setReported (t : State) (k : Fin 8) (ok : Bool) : State :=
  let t := (t.clearFault 0x1407 k.val).clearFault 0x1402 k.val
  if ok then t.configEvent k 0 else t.raise 0x1402 k.val

theorem setReported_facts (t : State) (k : Fin 8) (ok : Bool) :
    FaultsOnly t (setReported t k ok) ∧ (setReported t k ok).isActive 0x1402 k.val = !ok := by
  have hclear : FaultsOnly t ((t.clearFault 0x1407 k.val).clearFault 0x1402 k.val) := (faultsOnly_clearFault ..).trans (faultsOnly_clearFault ..)
  cases ok with
  | true => exact ⟨hclear.trans rfl, isActive_clearFault ..⟩
  | false =>
    rw [show setReported t k false = ((t.clearFault 0x1407 k.val).clearFault 0x1402 k.val).raise 0x1402 k.val from rfl]
    exact ⟨hclear.trans (faultsOnly_raise ..), isActive_raise (by decide)⟩

theorem flashRead_setFlash {s : State} (h : s.canonical = true) (k : Fin 8) {bs : List Byte} (hbs : bs.length ≤ 258048) {m : Memory}
    (hm : ∀ x, (x < cfgBase k.val + 258048 ∨ cfgBase k.val + 0x40000 ≤ x) → Sparse.read flashDefault m x = Sparse.read flashDefault (setFlash s k bs) x) :
    Memory.readBytes flashDefault m (cfgBase k.val) bs.length = bs := by
  refine List.ext_getElem (readBytes_length ..) fun j hj hj' => ?_
  rw [readBytes_getElem, hm _ (.inl (by omega)), setFlash_inside h k bs hj']

theorem configStaged_facts (report : FlashReport) {s : State} {k : Fin 8} {bs : List Byte} (h : s.cfg.flash = some (.configStage k bs))
    (hbs : bs.length ≤ 258048) : Answers (exec (.flashOpComplete report) s) (fun t =>
      t = { s with flash := t.flash, badFlash := t.badFlash, faults := t.faults, log := t.log, cfg := t.cfg } ∧
      t.cfg = { s.cfg with flash := none, flashRange := none, requester := none, slots := t.cfg.slots } ∧
      (∀ j : Fin 8, j ≠ k → t.cfg.slots[j] = s.cfg.slots[j]) ∧
      t.cfg.slots[k] = { record := some (.staged, 0), version := setVersion bs, valid := report.verified } ∧
      t.isActive 0x1402 k.val = !report.verified ∧
      (∀ op slot seq, s.cfg.requester = some (op, slot, seq) → ∃ e, e ∈ t.log.fresh ∧ e.code = 0x0280 ∧ e.extra = seq.toNat ∧
        e.detail = (if report.verified then Status.ok else Status.imageInvalid)) ∧
      (s.canonical = true → t.flashRead (cfgBase k.val) bs.length = bs) ∧
      (∀ x : Nat, x < cfgBase k.val ∨ cfgBase k.val + 0x40000 ≤ x → t.flashRead x 1 = s.flashRead x 1)) := by
  have hrun : exec (.flashOpComplete report) s = .next ((setReported (setRecorded s k bs report.verified) k report.verified).endFlash
      (if report.verified then Status.ok else Status.imageInvalid)) := by
    refine congrArg Host.Outcome.next ?_
    dsimp only
    rw [h]
    rfl
  refine ⟨_, hrun, ?_⟩
  obtain ⟨m, bad, slots, hrecorded, hother, hslot, hflash⟩ := setRecorded_fields s k bs report.verified
  obtain ⟨hreported, hactive⟩ := setReported_facts (setRecorded s k bs report.verified) k report.verified
  obtain ⟨fs, l, hfields⟩ := hreported.fields
  generalize setReported (setRecorded s k bs report.verified) k report.verified = u at hactive hfields ⊢
  rw [hrecorded] at hfields
  obtain ⟨hend, hdone⟩ := endFlash_facts u (if report.verified then Status.ok else Status.imageInvalid)
  generalize u.endFlash (if report.verified then Status.ok else Status.imageInvalid) = v at hend hdone ⊢
  have hmem : v.flash = m := by rw [hend, hfields]
  have hslots : v.cfg.slots = slots := by rw [hend, hfields]
  refine ⟨by rw [hend, hfields], by rw [hend, hfields], ?_, ?_, ?_, fun op slot seq hreq => hdone op slot seq (by rw [hfields]; exact hreq),
    fun hcanonical => ?_, fun x hx => ?_⟩
  · rw [hslots]
    exact hother
  · rw [hslots]
    exact hslot
  · rw [hend]
    exact hactive
  · rw [State.flashRead, hmem]
    exact flashRead_setFlash hcanonical k hbs hflash
  · rw [flashRead_one, flashRead_one, hmem, hflash x (by omega), setFlash_outside s k hbs hx]

/-- An image slot just programmed, with its record, and what that reports. -/
def imageRecorded (s : State) (kind slot : Fin 2) (bs : List Byte) (ok : Bool) : State :=
  (((s.flashErase (imageBase kind slot) (if kind = 0 then 0x200000 else 0x80000)).flashProgram (imageBase kind slot) bs).onImage
    kind slot (fun _ => { valid := ok })).recordImage kind slot .staged 0

def imageReported (t : State) (kind slot : Fin 2) (ok : Bool) : State :=
  let t := if (t.cfg.lane.toList ++ t.cfg.safety.toList).any Slot.corrected then t else t.clearFault 0x1407 255
  if ok then t.imageEvent kind slot 0 else t

theorem faultsOnly_imageReported (t : State) (kind slot : Fin 2) (ok : Bool) : FaultsOnly t (imageReported t kind slot ok) := by
  have hclear : FaultsOnly t (if (t.cfg.lane.toList ++ t.cfg.safety.toList).any Slot.corrected then t else t.clearFault 0x1407 255) :=
    .ite (.refl t) (faultsOnly_clearFault ..)
  exact .ite (hclear.trans rfl) hclear

theorem onImage_imageAt_next (s : State) (kind slot : Fin 2) (f : Slot → Slot) : (s.onImage kind slot f).imageAt kind (slot + 1) = s.imageAt kind (slot + 1) := by
  have hne : slot + 1 ≠ slot := by
    revert slot
    decide
  unfold State.onImage State.imageAt
  split
  · exact upd_other _ f hne
  · exact upd_other _ f hne

theorem imageRecorded_facts (s : State) (kind slot : Fin 2) (bs : List Byte) (ok : Bool) :
    ((imageRecorded s kind slot bs ok).imageAt kind slot).valid = ok ∧ ((imageRecorded s kind slot bs ok).imageAt kind slot).record = some (.staged, 0) ∧
    (imageRecorded s kind slot bs ok).imageAt kind (slot + 1) = s.imageAt kind (slot + 1) ∧
    (imageRecorded s kind slot bs ok).imageAt (kind + 1) slot = s.imageAt (kind + 1) slot ∧
    (imageRecorded s kind slot bs ok).cfg.slots = s.cfg.slots ∧ (imageRecorded s kind slot bs ok).dram = s.dram ∧
    (imageRecorded s kind slot bs ok).regs = s.regs := by
  unfold imageRecorded
  have hprogrammed : ((s.flashErase (imageBase kind slot) (if kind = 0 then 0x200000 else 0x80000)).flashProgram (imageBase kind slot) bs).cfg = s.cfg ∧
      ((s.flashErase (imageBase kind slot) (if kind = 0 then 0x200000 else 0x80000)).flashProgram (imageBase kind slot) bs).dram = s.dram ∧
      ((s.flashErase (imageBase kind slot) (if kind = 0 then 0x200000 else 0x80000)).flashProgram (imageBase kind slot) bs).regs = s.regs := ⟨rfl, rfl, rfl⟩
  generalize (s.flashErase (imageBase kind slot) (if kind = 0 then 0x200000 else 0x80000)).flashProgram (imageBase kind slot) bs = u at hprogrammed ⊢
  obtain ⟨hcfg, hdram, hregs⟩ := hprogrammed
  have hslots : (u.onImage kind slot (fun _ => { valid := ok })).cfg.slots = s.cfg.slots ∧ (u.onImage kind slot (fun _ => { valid := ok })).dram = s.dram ∧
      (u.onImage kind slot (fun _ => { valid := ok })).regs = s.regs := by
    rw [← hcfg, ← hdram, ← hregs]
    unfold State.onImage
    split <;> exact ⟨rfl, rfl, rfl⟩
  have hat : (u.onImage kind slot (fun _ => { valid := ok })).imageAt kind slot = { valid := ok } := onImage_imageAt ..
  have hnext := (onImage_imageAt_next u kind slot (fun _ => { valid := ok })).trans (imageAt_congr hcfg kind (slot + 1))
  have hother := (onImage_imageAt_other u kind slot slot (fun _ => { valid := ok })).trans (imageAt_congr hcfg (kind + 1) slot)
  generalize u.onImage kind slot (fun _ => { valid := ok }) = v at hslots hat hnext hother ⊢
  have happended (area : Nat) (b : List Byte) : (v.appendRecord area b).cfg = v.cfg := by rw [appendRecord_frame]
  have hframe := recordImage_frame v kind slot .staged 0
  refine ⟨?_, recordImage_imageAt v kind slot .staged 0, ?_, (recordImage_imageAt_other v kind slot slot .staged 0).trans hother, ?_, ?_, ?_⟩
  · rw [State.recordImage, onImage_imageAt]
    exact congrArg Slot.valid ((imageAt_congr (happended _ _) kind slot).trans hat)
  · rw [State.recordImage, onImage_imageAt_next]
    exact (imageAt_congr (happended _ _) kind (slot + 1)).trans hnext
  · rw [hframe]
    exact hslots.1
  · rw [hframe]
    exact hslots.2.1
  · rw [hframe]
    exact hslots.2.2

theorem imageAt_of_images {s t : State} (hlane : t.cfg.lane = s.cfg.lane) (hsafety : t.cfg.safety = s.cfg.safety) (kind slot : Fin 2) :
    t.imageAt kind slot = s.imageAt kind slot := by
  rw [State.imageAt, State.imageAt, hlane, hsafety]

theorem imageStaged_facts (report : FlashReport) {s : State} {kind slot : Fin 2} {bs : List Byte} (h : s.cfg.flash = some (.imageStage kind slot bs)) :
    Answers (exec (.flashOpComplete report) s) (fun t =>
      t.cfg.flash = none ∧ t.cfg.flashRange = none ∧ t.cfg.slots = s.cfg.slots ∧ (t.imageAt kind slot).valid = report.verified ∧
      (t.imageAt kind slot).record = some (.staged, 0) ∧ t.imageAt kind (slot + 1) = s.imageAt kind (slot + 1) ∧
      t.imageAt (kind + 1) slot = s.imageAt (kind + 1) slot ∧ t.dram = s.dram ∧ t.regs = s.regs) := by
  have hrun : exec (.flashOpComplete report) s = .next ((imageReported (imageRecorded s kind slot bs report.verified) kind slot report.verified).endFlash
      (if report.verified then Status.ok else Status.imageInvalid)) := by
    refine congrArg Host.Outcome.next ?_
    dsimp only
    rw [h]
    rfl
  refine ⟨_, hrun, ?_⟩
  obtain ⟨hvalid, hrecord, hnext, hother, hslots, hdram, hregs⟩ := imageRecorded_facts s kind slot bs report.verified
  obtain ⟨fs, l, hfields⟩ := (faultsOnly_imageReported (imageRecorded s kind slot bs report.verified) kind slot report.verified).fields
  obtain ⟨hend, -⟩ := endFlash_facts (imageReported (imageRecorded s kind slot bs report.verified) kind slot report.verified)
    (if report.verified then Status.ok else Status.imageInvalid)
  rw [hfields] at hend ⊢
  generalize imageRecorded s kind slot bs report.verified = u at hvalid hrecord hnext hother hslots hdram hregs hend ⊢
  generalize State.endFlash _ _ = v at hend ⊢
  have himage (a b : Fin 2) : v.imageAt a b = u.imageAt a b := imageAt_of_images (by rw [hend]) (by rw [hend]) a b
  rw [himage, himage, himage]
  exact ⟨by rw [hend], by rw [hend], by rw [hend]; exact hslots, hvalid, hrecord, hnext, hother, by rw [hend]; exact hdram, by rw [hend]; exact hregs⟩

/-! ### SAFETY_SET_CHECK_DONE (R319) -/

/-- A read that meets a bad word of the staging region: no data of the device is lost. -/
def MetInStaging (s t : State) : Prop := t.saf = s.saf ∧ t.cfg = s.cfg ∧ t.dram = s.dram ∧ t.flash = s.flash

theorem MetInStaging.trans {s t u : State} (h : MetInStaging s t) (h' : MetInStaging t u) : MetInStaging s u := by
  obtain ⟨h1, h2, h3, h4⟩ := h
  obtain ⟨h1', h2', h3', h4'⟩ := h'
  exact ⟨h1'.trans h1, h2'.trans h2, h3'.trans h3, h4'.trans h4⟩

theorem MetInStaging.of_countOnly {s t : State} (h : CountOnly s t) : MetInStaging s t := by
  rw [CountOnly] at h
  rw [h]
  exact ⟨rfl, rfl, rfl, rfl⟩

theorem countOnly_firstSaturation (s : State) (key st su bit code inst : Nat) : CountOnly s (s.firstSaturation key st su bit code inst) := by
  unfold State.firstSaturation
  split
  · exact .refl s
  · rw [raiseAgain_frame]
    exact rfl

theorem metInStaging_errorSaturation (s : State) (k old new : Nat) : MetInStaging s (s.errorSaturation k old new) := by
  unfold State.errorSaturation
  split
  · exact .of_countOnly (countOnly_firstSaturation ..)
  · exact ⟨rfl, rfl, rfl, rfl⟩

theorem metInStaging_countUncorrectable (s : State) (m : MemoryKind) (n : Nat) : MetInStaging s (s.countUncorrectable m n) :=
  metInStaging_errorSaturation ({ s with uncorrectable := s.uncorrectable.set (memoryIndex m) (saturating n s.uncorrectable[memoryIndex m]) } : State) _ _ _

theorem metInStaging_dramUncorrectable (s : State) {a : Nat} (hlow : 0x6000000 ≤ a) (hhigh : a < 0x6800000) : MetInStaging s (s.dramUncorrectable a) := by
  unfold State.dramUncorrectable
  dsimp only
  rw [if_neg (by omega), if_pos hhigh]
  exact ⟨rfl, rfl, rfl, rfl⟩

theorem metInStaging_each {l : List Nat} {f : Nat → State → State} (h : ∀ w ∈ l, ∀ t, MetInStaging t (f w t)) (s : State) : MetInStaging s (s.each l f) := by
  induction l generalizing s with
  | nil => exact ⟨rfl, rfl, rfl, rfl⟩
  | cons w l ih => exact (h w List.mem_cons_self s).trans (ih (fun x hx => h x (List.mem_cons_of_mem w hx)) (f w s))

theorem metInStaging_meetBad (s : State) {offset length : Nat} (hrange : offset + length ≤ 0x800000) :
    MetInStaging s (s.meetBad false (0x6000000 + offset) length) := by
  refine metInStaging_each (fun w hw t => ?_) s
  have htouched := (List.mem_filter.mp hw).2
  simp only [touchedWord, Bool.and_eq_true, decide_eq_true_eq] at htouched
  exact (metInStaging_countUncorrectable t .dram 1).trans (metInStaging_dramUncorrectable _ (by omega) (by omega))

/-- The check of a staged safety set begins: it holds its range no more. -/
def checkBegun (s : State) : State := { s with saf := { s.saf with setChecking := none }, cfg := { s.cfg with flashRange := none } }

theorem exec_safetySetCheckDone {s : State} {offset : Nat} {slot : Option (Fin 8)} {seq : Half} {o length : Nat}
    (h : s.saf.setChecking = some (offset, slot, seq)) (hrange : s.cfg.flashRange = some (o, length)) :
    exec .safetySetCheckDone s = .next (match (checkBegun s).stagedBytes offset length with
      | (none, t) => t.complete slot seq 0x92 Status.imageInvalid
      | (some bs, t) =>
        match s.safetySetStatus bs with
        | some status => t.complete slot seq 0x92 status
        | none => (t.onSaf (fun x => { x with setAccepted := some bs })).complete slot seq 0x92 Status.ok) := by
  refine congrArg Host.Outcome.next ?_
  rw [h, hrange]
  rfl

theorem safetySetChecked {s : State} {offset : Nat} {slot : Option (Fin 8)} {seq : Half} {o length : Nat}
    (h : s.saf.setChecking = some (offset, slot, seq)) (hrange : s.cfg.flashRange = some (o, length)) {bs : List Byte}
    (hbs : (s.stagedBytes offset length).1 = some bs) : Answers (exec .safetySetCheckDone s) (fun t =>
      t = { s with saf := { s.saf with setChecking := none, setAccepted := t.saf.setAccepted }, cfg := { s.cfg with flashRange := none }
                   log := t.log } ∧
      ∃ e, t.log = { s.log with fresh := s.log.fresh ++ [e] } ∧ e.code = 0x0280 ∧ e.extra = seq.toNat ∧
        (∀ st, s.safetySetStatus bs = some st → e.detail = st ∧ t.saf.setAccepted = s.saf.setAccepted) ∧
        (s.safetySetStatus bs = none → e.detail = Status.ok ∧ t.saf.setAccepted = some bs)) := by
  have hstaged : (checkBegun s).stagedBytes offset length = (some bs, checkBegun s) := stagedBytes_some hbs
  rw [exec_safetySetCheckDone h hrange, hstaged]
  dsimp only
  rcases hstatus : s.safetySetStatus bs with _ | status
  · obtain ⟨e, hlog, hcode, hdetail, hextra⟩ := complete_log ((checkBegun s).onSaf (fun x => { x with setAccepted := some bs })) slot seq 0x92 Status.ok
    exact ⟨_, rfl, rfl, e, hlog, hcode, hextra, nofun, fun _ => ⟨hdetail, rfl⟩⟩
  · obtain ⟨e, hlog, hcode, hdetail, hextra⟩ := complete_log (checkBegun s) slot seq 0x92 status
    refine ⟨_, rfl, rfl, e, hlog, hcode, hextra, fun st hst => ?_, nofun⟩
    cases hst
    exact ⟨hdetail, rfl⟩

theorem safetySetUnread {s : State} {offset : Nat} {slot : Option (Fin 8)} {seq : Half} {o length : Nat}
    (h : s.saf.setChecking = some (offset, slot, seq)) (hrange : s.cfg.flashRange = some (o, length))
    (hbad : (s.stagedBytes offset length).1 = none) (hregion : offset + length ≤ 0x800000) : Answers (exec .safetySetCheckDone s) (fun t =>
      t.saf = { s.saf with setChecking := none } ∧ t.cfg = { s.cfg with flashRange := none } ∧ t.dram = s.dram ∧ t.flash = s.flash ∧
      ∃ e, t.log.fresh.getLast? = some e ∧ e.code = 0x0280 ∧ e.extra = seq.toNat ∧ e.detail = Status.imageInvalid) := by
  have hnone : ((checkBegun s).stagedBytes offset length).1 = none := hbad
  have hmet : MetInStaging (checkBegun s) ((checkBegun s).stagedBytes offset length).2 := metInStaging_meetBad (checkBegun s) hregion
  rw [exec_safetySetCheckDone h hrange]
  generalize (checkBegun s).stagedBytes offset length = p at hnone hmet
  obtain ⟨read, t⟩ := p
  obtain rfl : read = none := hnone
  obtain ⟨hsaf, hcfg, hdram, hflash⟩ := hmet
  obtain ⟨e, hlog, hcode, hdetail, hextra⟩ := complete_log t slot seq 0x92 Status.imageInvalid
  refine ⟨_, rfl, hsaf, hcfg, hdram, hflash, e, ?_, hcode, hextra, hdetail⟩
  dsimp only
  rw [hlog]
  exact List.getLast?_concat ..

/-! ### The log in flash (R470) -/

theorem entryBytes_length (e : Entry) : e.bytes.length = 32 := by
  simp [Entry.bytes, leBytes_length, slice_length]

/-- Writing entries changes the ring of the log in flash alone. -/
def LogRingOnly (s t : State) : Prop := t = { s with flash := t.flash, badFlash := t.badFlash } ∧
  ∀ x, x < 0x740000 ∨ 0x7C0000 ≤ x → Sparse.read flashDefault t.flash x = Sparse.read flashDefault s.flash x

theorem LogRingOnly.trans {s t u : State} (h : LogRingOnly s t) (h' : LogRingOnly t u) : LogRingOnly s u := by
  obtain ⟨hframe, hread⟩ := h
  obtain ⟨hframe', hread'⟩ := h'
  exact ⟨by rw [hframe', hframe], fun x hx => (hread' x hx).trans (hread x hx)⟩

theorem logRingOnly_flashEntry (s : State) (e : Entry) : LogRingOnly s (s.flashEntry e) := by
  have herase : LogRingOnly s (if (e.seq.toNat - 1) % 128 = 0 then
      s.flashErase (0x740000 + 4096 * (((e.seq.toNat - 1) / 128 + 1) % 128)) 4096 else s) := by
    split
    · exact ⟨rfl, fun x hx => (flashErase_flash ..).trans (if_neg (by omega))⟩
    · exact ⟨rfl, fun x _ => rfl⟩
  have hlength := entryBytes_length e
  have hplace : 0x740000 ≤ logPlace e.seq ∧ logPlace e.seq + 32 ≤ 0x7C0000 := by
    unfold logPlace
    omega
  unfold State.flashEntry
  dsimp only
  generalize (if (e.seq.toNat - 1) % 128 = 0 then s.flashErase _ 4096 else s) = u at herase ⊢
  generalize e.bytes = bytes at hlength ⊢
  exact herase.trans ⟨rfl, fun x hx => read_writeBytes_outside _ (by omega)⟩

theorem logRingOnly_each (l : List Entry) (s : State) : LogRingOnly s (s.each l (fun e t => t.flashEntry e)) := by
  induction l generalizing s with
  | nil => exact ⟨rfl, fun x _ => rfl⟩
  | cons e l ih => exact (logRingOnly_flashEntry s e).trans (ih _)

theorem eventFlashProgram_facts (s : State) : Answers (exec .eventFlashProgram s) (fun t =>
    t = { s with flash := t.flash, badFlash := t.badFlash, log := t.log } ∧ t.log.fresh = s.log.fresh ∧ t.log.next = s.log.next ∧
    t.log.entries = s.log.entries.map (fun (e : Entry) => { e with flashed := true }) ∧
    (∀ x : Nat, x < 0x740000 ∨ 0x7C0000 ≤ x → t.flashRead x 1 = s.flashRead x 1)) := by
  obtain ⟨hframe, hread⟩ := logRingOnly_each (s.log.entries.filter (fun e => !e.flashed)) s
  refine ⟨s.flushLog, rfl, ?_⟩
  unfold State.flushLog
  dsimp only
  generalize s.each (s.log.entries.filter (fun e => !e.flashed)) (fun e t => t.flashEntry e) = u at hframe hread ⊢
  have hlog : u.log = s.log := by rw [hframe]
  rw [hlog]
  refine ⟨by rw [hframe], rfl, rfl, rfl, fun x hx => ?_⟩
  rw [flashRead_one, flashRead_one]
  exact congrArg (fun b => [b]) (hread x hx)

/-! ### The statement -/

/-- Settles O47: staging requests hold their range, and each operation of flash writes its own place. -/
theorem stagingToFlash : Obligations.StagingToFlash := by
  refine ⟨fun r k n slot image offset length s hslot hlength hrange hwriters => ?_, fun report s => ⟨fun h => ?_,
      fun k bs h hbs => configStaged_facts report h hbs, fun kind slot bs h => imageStaged_facts report h⟩,
    fun s => ⟨fun h => ?_, fun offset slot seq o length h hrange => ⟨fun bs hbs => safetySetChecked h hrange hbs,
      fun hbad hregion => safetySetUnread h hrange hbad hregion⟩⟩, eventFlashProgram_facts⟩
  · subst hslot
    exact ⟨fun h hactive htrial => cfgStage_facts hlength hrange hwriters h hactive htrial,
      fun h hflash hchecking bs hbs => fwStage_facts hlength hrange hwriters h hflash hchecking hbs,
      fun h hflash hchecking => safetySetLoad_accepted hlength hrange hwriters h hflash hchecking⟩
  · refine congrArg Host.Outcome.next ?_
    rcases h with h | h <;> dsimp only <;> rw [h]
  · refine congrArg Host.Outcome.next ?_
    rw [h]

end Sys2Proof.Proofs
end

section
/-! PROOF. The statement on what a host's request closes (R298). -/

namespace Sys2Proof.Proofs
open Sys2Proof.Machine

/-! ### The wake by MODE_SET (R447)

The statement lets only DIAG_SELFTEST close a switch that the channel holds open. In Dormant MODE_SET wakes the device, and the channel
leaves retention as its boot would: with both inputs energised and no safety latch it goes to RUN_PERMITTED, from whatever state the
descent or a fault since has left it in. -/

/-- A device in Dormant whose channel stands in STO, both inputs energised. -/
def stoInDormant : State :=
  { deviceIn .dormant with saf := { (deviceIn .dormant).saf with state := .sto, cause := 1, a := true, b := true } }

/-- MODE_SET to Ready of the SPI host. -/
def wakeRequest : Instr := .modeSet spiRequest 2

/-- The channel holds both switches open, and MODE_SET to Ready closes them. -/
theorem modeSet_closes_switches : stoInDormant.torqueDenied = true ∧ stoInDormant.torqueOff = true ∧
    (ranNext (exec wakeRequest stoInDormant) stoInDormant).torqueOff = false := by
  decide +kernel

/-- Refutes O31: MODE_SET wakes a device whose channel stands in STO, and the channel boots to RUN_PERMITTED. -/
theorem not_hostsCloseNoSwitch : ¬ Obligations.HostsCloseNoSwitch := by
  intro h
  obtain ⟨hdenied, hoff, hclosed⟩ := modeSet_closes_switches
  exact absurd ((h wakeRequest 0xB0 _ _ _ rfl (by decide) hdenied hoff rfl).symm.trans hclosed) (by decide)

end Sys2Proof.Proofs
end

section
/-! PROOF. What every command keeps of the state: its queue, the canonical form of the parameters and the memories, and torque off
while the safety channel denies it. One lemma for each operation of the model, named after the operation, composed as the operation
is. -/

namespace Sys2Proof.Proofs
open Sys2Proof.Machine

/-! ### What is kept -/

/-- Torque is off wherever the channel denies it (Table 13.2). -/
def Secure (x : Safety) : Prop := (x.state = .sto ∨ x.state = .locked) → x.releasing = false → x.hs = false ∧ x.ls = false

theorem secure_iff {s : State} : Secure s.saf ↔ (s.torqueDenied = true → s.torqueOff = true) := by
  simp [Secure, State.torqueDenied, State.torqueOff]

/-- A channel in a state that is neither STO nor LOCKED denies nothing. -/
theorem secure_of_state {x : Safety} (hsto : x.state ≠ .sto) (hlocked : x.state ≠ .locked) : Secure x := fun h _ =>
  absurd h (not_or.mpr ⟨hsto, hlocked⟩)

theorem secure_moved (x : Safety) (st : SafetyState) (cause : Nat) : Secure (moved x st cause) := fun h _ => by
  rcases h with h | h <;> simp only [moved] at h ⊢ <;> subst h <;> exact ⟨rfl, rfl⟩

/-- The fields that canonical form and the channel's switches depend on, and the queue. -/
def keptFields (s : State) : List Instr × List (Nat × Int) × Memory × Memory × Safety := (s.pending, s.regs, s.dram, s.flash, s.saf)

/-- A change of the device that leaves the queue, canonical form and what the channel denies. -/
structure Kept (s t : State) : Prop where
  queue : t.pending = s.pending
  canonical : s.canonical = true → t.canonical = true
  secure : Secure s.saf → Secure t.saf

/-- A command's outcome, where it answers a next state, keeps these. -/
def Keeps (s₀ : State) (o : Host.Outcome State Fault Refusal) : Prop := ∀ t, o = .next t → Kept s₀ t

namespace Kept
variable {s₀ s t u : State}

theorem refl (s : State) : Kept s s := ⟨rfl, id, id⟩

theorem trans (h : Kept s t) (h' : Kept t u) : Kept s u :=
  ⟨h'.queue.trans h.queue, fun hs => h'.canonical (h.canonical hs), fun hs => h'.secure (h.secure hs)⟩

/-- A change of fields that nothing kept depends on. -/
theorem only (h : Kept s₀ s) (heq : keptFields t = keptFields s) : Kept s₀ t := by
  obtain ⟨hpending, hregs, hdram, hflash, hsaf⟩ :
      t.pending = s.pending ∧ t.regs = s.regs ∧ t.dram = s.dram ∧ t.flash = s.flash ∧ t.saf = s.saf := by
    simpa [keptFields] using heq
  refine ⟨hpending.trans h.queue, fun hs => ?_, fun hs => hsaf ▸ h.secure hs⟩
  have hcanonical := h.canonical hs
  rwa [canonical_iff, ← hregs, ← hdram, ← hflash, ← canonical_iff] at hcanonical

theorem set {frame64 tb svcPending frmPending svcWaiting frmWaiting faults saturated log cmd mtr pwm motion lanes power cfg hp ring fio
    can qry dbg badDram badFlash corrected uncorrectable free} (h : Kept s₀ s) :
    Kept s₀ { s with
      frame64 := frame64, tb := tb, svcPending := svcPending, frmPending := frmPending, svcWaiting := svcWaiting, frmWaiting := frmWaiting
      faults := faults, saturated := saturated, log := log, cmd := cmd, mtr := mtr, pwm := pwm, motion := motion, lanes := lanes
      power := power, cfg := cfg, hp := hp, ring := ring, fio := fio, can := can, qry := qry, dbg := dbg, badDram := badDram
      badFlash := badFlash, corrected := corrected, uncorrectable := uncorrectable, free := free } :=
  h.only rfl

/-- A change of memories and parameters in canonical form. -/
theorem store (h : Kept s₀ s) (hpending : t.pending = s.pending) (hsaf : t.saf = s.saf)
    (hstored : s.canonical = true → t.canonical = true) : Kept s₀ t :=
  ⟨hpending.trans h.queue, fun hs => hstored (h.canonical hs), fun hs => hsaf ▸ h.secure hs⟩

theorem ite {p : Prop} [Decidable p] (h : Kept s₀ s) (h' : Kept s₀ t) : Kept s₀ (if p then s else t) := by
  split <;> assumption

theorem each {α : Type} {l : List α} {f : α → State → State} (h : Kept s₀ s) (hf : ∀ x t, Kept s₀ t → Kept s₀ (f x t)) :
    Kept s₀ (s.each l f) := by
  induction l generalizing s with
  | nil => exact h
  | cons x l ih => exact ih (hf x s h)

theorem next (h : Kept s₀ s) : Keeps s₀ (.next s) := fun _ heq => by
  cases heq
  exact h

theorem of_fst {α : Type} {p : State × α} {x : α} (h : Kept s₀ p.1) (heq : p = (s, x)) : Kept s₀ s := by rwa [heq] at h

theorem of_snd {α : Type} {p : α × State} {x : α} (h : Kept s₀ p.2) (heq : p = (x, s)) : Kept s₀ s := by rwa [heq] at h

/-! ### Parameters, memories and the channel -/

theorem setPar {index sub : Nat} {v : Int} (h : Kept s₀ s) : Kept s₀ (s.setPar index sub v) := by
  refine h.store rfl rfl fun hs => ?_
  rw [canonical_iff] at hs ⊢
  exact ⟨setPar_wf index sub hs.1 v, hs.2⟩

theorem dramWrite {a : Nat} {bs : List Byte} (h : Kept s₀ s) : Kept s₀ (s.dramWrite a bs) := by
  refine h.store rfl rfl fun hs => ?_
  rw [canonical_iff] at hs ⊢
  exact ⟨hs.1, Memory.wf_writeBytes hs.2.1 a bs, hs.2.2⟩

theorem flashErase {a n : Nat} (h : Kept s₀ s) : Kept s₀ (s.flashErase a n) := by
  refine h.store rfl rfl fun hs => ?_
  rw [canonical_iff] at hs ⊢
  exact ⟨hs.1, hs.2.1, wf_filter _ hs.2.2⟩

theorem flashProgram {a : Nat} {bs : List Byte} (h : Kept s₀ s) : Kept s₀ (s.flashProgram a bs) := by
  refine h.store rfl rfl fun hs => ?_
  rw [canonical_iff] at hs ⊢
  exact ⟨hs.1, hs.2.1, Memory.wf_writeBytes hs.2.2 a bs⟩

/-- A change of the channel that keeps torque off where it denies it; without a proof, one of other fields. -/
theorem onSaf {f : Safety → Safety} (h : Kept s₀ s) (hf : Secure s.saf → Secure (f s.saf) := by exact id) : Kept s₀ (s.onSaf f) :=
  ⟨h.queue, h.canonical, fun hs => hf (h.secure hs)⟩

theorem safetyMove {st : SafetyState} {cause : Nat} (h : Kept s₀ s) : Kept s₀ (s.safetyMove st cause) := by
  refine ⟨?_, fun hs => ?_, fun _ => ?_⟩
  · rw [safetyMove_frame]
    exact h.queue
  · rw [safetyMove_frame]
    exact h.canonical hs
  · rw [safetyMove_saf]
    exact secure_moved _ _ _

end Kept
end Sys2Proof.Proofs
end

section
/-! PROOF. What the operations on faults, events, counters, requests and transactions keep. -/

namespace Sys2Proof.Proofs
open Sys2Proof.Machine

namespace Kept
variable {s₀ s t : State}
variable {bit code index inst key n opcode outcome rank session src status su sub : Nat} {a b sl : Fin 16} {seq tag timeout : Half}
variable {coast joined : Bool} {f : Axis → Axis} {st : AxisState} {body : Body} {flags : Byte} {e : Event} {d : Fin 2} {hb : Fin 48}
variable {k : Fin 8} {cmd : Instr} {v : Int} {l : List (Fin 16)} {data : List Byte} {m : Move} {slot : Option (Fin 8)}
variable {wait : Release} {r : Req} {txn : Txn}

theorem setDev (h : Kept s₀ s) : Kept s₀ (s.setDev index v) := h.setPar

theorem stick (h : Kept s₀ s) : Kept s₀ (s.stick index sub bit) := h.setPar

/-! ### Axes, faults, events and counters -/

theorem onAx (h : Kept s₀ s) : Kept s₀ (s.onAx a f) := h.only rfl

theorem onBay {f : Bay → Bay} (h : Kept s₀ s) : Kept s₀ (s.onBay b f) := h.only rfl

theorem onHb {f : HalfBridge → HalfBridge} (h : Kept s₀ s) : Kept s₀ (s.onHb hb f) := h.only rfl

theorem onDie {f : Die → Die} (h : Kept s₀ s) : Kept s₀ (s.onDie d f) := h.only rfl

theorem setAxisState (h : Kept s₀ s) : Kept s₀ (s.setAxisState a st) := h.only rfl

theorem event (h : Kept s₀ s) : Kept s₀ (s.event e) := h.only rfl

theorem raiseWith (h : Kept s₀ s) : Kept s₀ (s.raiseWith code inst data session) := by
  unfold State.raiseWith
  split
  · exact h
  · exact .ite h h.set.event

theorem raise (h : Kept s₀ s) : Kept s₀ (s.raise code inst) := h.raiseWith

theorem raiseForced (h : Kept s₀ s) : Kept s₀ (s.raiseForced code inst) := h.raise.set

theorem clearFault (h : Kept s₀ s) : Kept s₀ (s.clearFault code inst) := by
  unfold State.clearFault
  split
  · exact h
  · exact .ite h.set h.set.event

theorem raiseAgain (h : Kept s₀ s) : Kept s₀ (s.raiseAgain code inst) := h.set.raise

theorem firstSaturation {st : Nat} (h : Kept s₀ s) : Kept s₀ (s.firstSaturation key st su bit code inst) :=
  .ite h h.set.stick.raiseAgain

theorem count (h : Kept s₀ s) : Kept s₀ (s.count index sub) := by
  unfold State.count
  split
  · exact h
  · refine .ite h (.ite h.setPar ?_)
    dsimp only
    exact h.setPar.firstSaturation

theorem countN (h : Kept s₀ s) : Kept s₀ (s.countN index sub n) := by
  induction n generalizing s with
  | zero => exact h
  | succ n ih => exact ih h.count

theorem complete (h : Kept s₀ s) : Kept s₀ (s.complete slot seq opcode status) := h.only rfl

theorem latchHb (h : Kept s₀ s) : Kept s₀ (s.latchHb coast src hb) := h.only rfl

theorem latchBay (h : Kept s₀ s) : Kept s₀ (s.latchBay coast src b) := h.each fun _ _ ht => ht.latchHb

theorem releaseHbTo (h : Kept s₀ s) : Kept s₀ (s.releaseHbTo wait src hb) := h.only rfl

theorem releaseHb (h : Kept s₀ s) : Kept s₀ (s.releaseHb src hb) := h.only rfl

theorem releaseBay (h : Kept s₀ s) : Kept s₀ (s.releaseBay src b) := h.each fun _ _ ht => ht.releaseHb

theorem bayOff (h : Kept s₀ s) : Kept s₀ (s.bayOff b) := h.each fun _ _ ht => ht.onHb

theorem bayEnabled (h : Kept s₀ s) : Kept s₀ (s.bayEnabled b) := h.each fun _ _ ht => ht.onHb

theorem entryLeft (h : Kept s₀ s) : Kept s₀ (s.entryLeft a m outcome) := .ite h.event.onAx.count h.event

theorem dropQueue (h : Kept s₀ s) : Kept s₀ (s.dropQueue a outcome) := (h.each fun _ _ ht => ht.entryLeft).onAx

theorem endHoming (h : Kept s₀ s) : Kept s₀ (s.endHoming a status) := by
  unfold State.endHoming
  split
  · exact h
  · exact h.onAx.complete

theorem reactAxis (h : Kept s₀ s) : Kept s₀ (s.reactAxis rank a) := by
  unfold State.reactAxis
  refine .ite h (.ite h ?_)
  dsimp only
  split <;> exact h.dropQueue.endHoming.onAx

theorem ungear (h : Kept s₀ s) : Kept s₀ (s.ungear sl) := h.only rfl

theorem releaseSlaves {m : Fin 16} (h : Kept s₀ s) : Kept s₀ (s.releaseSlaves m) := by
  unfold State.releaseSlaves
  refine h.each fun _ _ ht => ?_
  split
  · exact .ite ht.ungear ht
  · exact ht

theorem lockedOut (h : Kept s₀ s) : Kept s₀ (s.lockedOut a) := h.dropQueue.endHoming.releaseSlaves.onAx

theorem beginReaction {f : Active} (h : Kept s₀ s) : Kept s₀ (s.beginReaction f) := by
  unfold State.beginReaction
  split
  · exact h
  · extract_lets axes t t₁ bays t₂ t₃
    have ht : Kept s₀ t := h.each fun _ _ hu => .ite hu.lockedOut hu.reactAxis
    have ht₁ : Kept s₀ t₁ := .ite (ht.each fun _ _ hu => hu.reactAxis) ht
    have ht₂ : Kept s₀ t₂ := by
      dsimp only [t₂]
      split
      · exact .ite (ht₁.each fun _ _ hu => hu.latchBay) ht₁
      · exact ht₁
    have ht₃ : Kept s₀ t₃ := .ite (ht₂.each fun _ _ hu => hu.onBay) ht₂
    exact ht₃.set

/-! ### Requests and their answers -/

theorem onSession {f : Session → Session} (h : Kept s₀ s) : Kept s₀ (s.onSession k f) := h.only rfl

theorem answer (h : Kept s₀ s) : Kept s₀ (s.answer r opcode status body) := h.only rfl

theorem refuse (h : Kept s₀ s) : Kept s₀ (s.refuse r opcode status) := h.only rfl

/-- A request under a row keeps what its meaning keeps. -/
theorem requestRow {row : OpRow} {act : Fin 8 → State → State} (h : Kept s₀ s) (hact : ∀ k t, Kept s₀ t → Kept s₀ (act k t)) :
    Kept s₀ (s.requestRow row r act) := by
  unfold State.requestRow
  split
  · split
    · split
      · exact h.refuse
      · exact hact _ _ h
    · exact h.refuse
  · exact h.refuse

theorem request {act : Fin 8 → State → State} (h : Kept s₀ s) (hact : ∀ k t, Kept s₀ t → Kept s₀ (act k t)) :
    Kept s₀ (s.request code r act) := by
  unfold State.request
  split
  · exact h.requestRow hact
  · exact h.refuse

theorem checked {checks : List (Bool × Nat)} {act : State → State} (h : Kept s₀ s) (hact : ∀ t, Kept s₀ t → Kept s₀ (act t)) :
    Kept s₀ (s.checked r code checks act) := by
  unfold State.checked
  split
  · exact h.refuse
  · exact hact _ h

theorem onAxis {axis : Byte} {act : Fin 16 → State → State} (h : Kept s₀ s) (hact : ∀ a t, Kept s₀ t → Kept s₀ (act a t)) :
    Kept s₀ (s.onAxis r code axis act) := by
  unfold State.onAxis
  split
  · exact h.refuse
  · exact hact _ _ h

/-! ### Transactions (R89 to R98) -/

theorem putTxn (h : Kept s₀ s) : Kept s₀ (s.putTxn txn) := h.only rfl

theorem keepTxn (h : Kept s₀ s) : Kept s₀ (s.keepTxn txn) := .ite h.set h.putTxn

theorem reserve (h : Kept s₀ s) : Kept s₀ (s.reserve l) := h.each fun _ _ ht => ht.onAx

theorem unreserve (h : Kept s₀ s) : Kept s₀ (s.unreserve l) := h.each fun _ _ ht => ht.onAx

theorem stageOr {prepared : List (Fin 16 × Move)} {accept direct : State → State} {body : State → Body} (h : Kept s₀ s)
    (haccept : ∀ t, Kept s₀ t → Kept s₀ (accept t)) (hdirect : ∀ t, Kept s₀ t → Kept s₀ (direct t)) :
    Kept s₀ (s.stageOr k r code cmd prepared accept status body direct) := by
  unfold State.stageOr
  refine .ite (.ite h.refuse (hdirect _ h)) ?_
  split
  · exact h.refuse
  · split
    · exact h.refuse
    · exact .ite h.refuse (.ite h.refuse (.ite h.refuse (haccept _ h.putTxn.reserve).answer))

theorem endTxn {txn : Txn} {final : TxnState} (h : Kept s₀ s) : Kept s₀ (s.endTxn txn final status) := by
  unfold State.endTxn
  extract_lets s₁ s₂ s₃ s₄ s₅
  have h₁ : Kept s₀ s₁ := .ite h h.unreserve
  have h₃ : Kept s₀ s₃ := .ite h₁.keepTxn.complete h₁.keepTxn
  have h₄ : Kept s₀ s₄ := h₃.each fun _ _ ht => ht.complete
  have h₅ : Kept s₀ s₅ := .ite h₄.count (.ite h₄.count h₄)
  exact .ite h₅.set h₅

theorem abortTxn (h : Kept s₀ s) : Kept s₀ (s.abortTxn txn) := h.endTxn

theorem abortOpen (h : Kept s₀ s) : Kept s₀ (s.abortOpen k) := h.each fun _ _ ht => ht.abortTxn

theorem releaseRecords (h : Kept s₀ s) : Kept s₀ (s.releaseRecords k) := h.only rfl

theorem beginTxn (h : Kept s₀ s) : Kept s₀ (s.beginTxn r k flags timeout joined) := h.checked fun _ ht => ht.set.answer

theorem execTxnAbort (h : Kept s₀ s) : Keeps s₀ (execTxnAbort r s) := by
  refine (h.request fun _ _ ht => ?_).next
  split
  · exact ht.refuse
  · refine .ite ht.refuse ?_
    split
    · exact ht.abortTxn.answer
    · exact .ite ht.refuse ht.abortTxn.answer
    · exact .ite ht.putTxn.answer ht.refuse
    all_goals exact ht.refuse

theorem execTxnStatus (h : Kept s₀ s) : Keeps s₀ (execTxnStatus r s) := (h.request fun _ _ ht => ht.answer).next

theorem execTxnTimeout (h : Kept s₀ s) : Keeps s₀ (execTxnTimeout k tag s) := by
  refine next ?_
  split
  · exact .ite h.endTxn h
  · exact h

theorem execRecordRelease (h : Kept s₀ s) : Keeps s₀ (execRecordRelease k tag s) := by
  refine next ?_
  split
  · exact .ite h.set h
  · exact h

end Kept
end Sys2Proof.Proofs
end

section
/-! PROOF. What the operations on moves, loops, groups and homing keep. -/

namespace Sys2Proof.Proofs
open Sys2Proof.Machine

namespace Kept
variable {s₀ s t : State}
variable {blend edge kind master method slave source : Byte} {code i n number outcome status : Nat}
variable {amax distance dmax jmax target velocity : Word} {offset point ratio vj : Int} {a axis sl : Fin 16} {g group k : Fin 8}
variable {hard rising : Bool} {flags force : Half} {l stopped : List (Fin 16)} {b : Bin} {grp : Group} {homing : Homing}
variable {lim : Limits} {entries : List (Fin 16 × Move)} {members : List GroupTarget} {m : Move} {r : Req}

/-! ### The move queue and the demand (R221 to R243) -/

theorem leaveGroup (h : Kept s₀ s) : Kept s₀ (s.leaveGroup a m) := by
  unfold State.leaveGroup
  split
  · exact h
  · split
    · exact h
    · exact h.set

theorem clearQueue (h : Kept s₀ s) : Kept s₀ (s.clearQueue a outcome) := (h.each fun _ _ ht => ht.leaveGroup).dropQueue

theorem setEntry (h : Kept s₀ s) : Kept s₀ (s.setEntry a i m) := h.only rfl

theorem enqueue (h : Kept s₀ s) : Kept s₀ (s.enqueue a m) := by
  unfold State.enqueue
  dsimp only
  exact (Kept.ite h.clearQueue.onAx h).onAx

theorem finishEntry (h : Kept s₀ s) : Kept s₀ (s.finishEntry a i outcome) := by
  unfold State.finishEntry
  split
  · exact h
  · exact h.onAx.entryLeft.onAx

theorem deferLimit (h : Kept s₀ s) : Kept s₀ (s.deferLimit a) := h.raise.stick.count.onAx

theorem beginEntry (h : Kept s₀ s) : Kept s₀ (s.beginEntry a i m) := h.only rfl

theorem planEntry (h : Kept s₀ s) : Kept s₀ (s.planEntry a i m vj) := by
  unfold State.planEntry
  split
  · exact h
  · dsimp only
    exact (Kept.ite h.deferLimit h).setEntry.onAx

theorem planVelEntry (h : Kept s₀ s) : Kept s₀ (s.planVelEntry a i m) := by
  unfold State.planVelEntry
  refine .ite ?_ h.setEntry.onAx
  dsimp only
  exact (Kept.ite h.deferLimit h).setEntry.onAx

theorem planPlain (h : Kept s₀ s) : Kept s₀ (s.planPlain a i m vj) := .ite h.planVelEntry h.planEntry

theorem planJoint (h : Kept s₀ s) : Kept s₀ (s.planJoint a i m) := by
  unfold State.planJoint
  split
  · exact h.planPlain
  · refine .ite h.planPlain (.ite h.planPlain (.ite (.ite h.raise.finishEntry.planPlain ?_) h.planPlain))
    dsimp only
    split
    · exact h.setEntry.beginEntry.planPlain
    · exact h.setEntry.beginEntry

theorem startHead (h : Kept s₀ s) : Kept s₀ (s.startHead a n) := by
  induction n generalizing s with
  | zero => exact h
  | succ n ih =>
    unfold State.startHead
    dsimp only
    split
    · exact h
    · split
      · exact h
      · refine .ite (ih h.finishEntry) (.ite h ?_)
        split
        · exact .ite (ih h.onAx.raise.finishEntry) h.onAx.beginEntry
        · exact h

theorem stopDemand (h : Kept s₀ s) : Kept s₀ (s.stopDemand a hard) := h.only rfl

theorem planHoming (h : Kept s₀ s) : Kept s₀ (s.planHoming a homing) := by
  unfold State.planHoming
  refine .ite h.onAx (.ite ?_ h.stopDemand)
  dsimp only
  exact h.onAx

theorem planQueue (h : Kept s₀ s) : Kept s₀ (s.planQueue a) := by
  unfold State.planQueue
  split
  · exact h.planHoming
  · dsimp only
    split
    · exact (Kept.ite h.startHead h.startHead.planJoint).onAx
    · split
      · exact h.startHead.stopDemand
      · exact .ite h.startHead h.startHead.stopDemand

theorem settle (h : Kept s₀ s) : Kept s₀ (s.settle a) := .ite (.ite h.onAx h.onAx) (.ite h.setAxisState (.ite h.setAxisState h))

theorem watchPosition (h : Kept s₀ s) : Kept s₀ (s.watchPosition a) := .ite h.onAx.stick.raise.onAx h.onAx

/-! ### The loops (R259 to R276) -/

theorem setBin {k : Nat} (h : Kept s₀ s) : Kept s₀ (s.setBin k b) := h.only rfl

theorem runLoops (h : Kept s₀ s) : Kept s₀ (s.runLoops a) := by
  unfold State.runLoops
  refine .ite h ?_
  dsimp only
  exact .ite h.onAx.setPar.setPar.setPar.count h.onAx.setPar.setPar.setPar

theorem execLpFollowErr (h : Kept s₀ s) : Keeps s₀ (execLpFollowErr axis s) := (Kept.ite h.raise.stick h).next

theorem execLpEnvelopeExceeded (h : Kept s₀ s) : Keeps s₀ (execLpEnvelopeExceeded axis s) := (Kept.ite h.raise.stick h).next

theorem execLpCurrentLimit (h : Kept s₀ s) : Keeps s₀ (execLpCurrentLimit axis s) := (Kept.ite h.raise h).next

theorem execGainRampEnd (h : Kept s₀ s) : Keeps s₀ (execGainRampEnd axis s) := (Kept.ite h.onAx h).next

/-! ### Groups (R255 to R257) -/

theorem endGroup (h : Kept s₀ s) : Kept s₀ (s.endGroup g grp outcome) := by
  unfold State.endGroup
  refine (h.each fun _ _ ht => ?_).set
  split
  · exact ht.finishEntry
  · exact ht

theorem startGroup (h : Kept s₀ s) : Kept s₀ (s.startGroup g grp) := by
  unfold State.startGroup
  refine .ite (h.each fun _ _ ht => ht.raise).endGroup (.ite (h.each fun _ _ ht => ht.raise).endGroup (h.each fun _ _ ht => ?_).set)
  dsimp only
  exact ht.beginEntry

theorem execGroupStart (h : Kept s₀ s) : Keeps s₀ (execGroupStart group s) := by
  refine next ?_
  split
  · exact .ite h.startGroup h
  · exact h

theorem stopMembers (h : Kept s₀ s) : Kept s₀ (s.stopMembers g grp stopped) :=
  (h.each fun _ _ ht => .ite ht (ht.raise.reactAxis.each fun _ _ ht => ht.reactAxis)).set

theorem execPrfGroupStop {source : Fin 16} (h : Kept s₀ s) : Keeps s₀ (execPrfGroupStop group source s) := by
  refine next ?_
  split
  · exact .ite h.stopMembers h
  · exact h

theorem execRingGroupStop (h : Kept s₀ s) : Keeps s₀ (execRingGroupStop group s) := by
  refine next ?_
  split
  · exact .ite h.stopMembers h
  · exact h

/-! ### The motion requests -/

theorem acceptMove (h : Kept s₀ s) : Kept s₀ (s.acceptMove a) := h.only rfl

theorem moveRequest {bad : Bool} {cmd : Instr} (h : Kept s₀ s) : Kept s₀ (s.moveRequest k r code cmd a m bad) := by
  unfold State.moveRequest
  exact h.checked fun _ hu => hu.stageOr (fun _ hv => hv.acceptMove) fun _ hv => hv.enqueue.acceptMove.answer

theorem execMoveAbs {axis : Byte} (h : Kept s₀ s) : Keeps s₀ (execMoveAbs r axis blend flags target lim s) :=
  (h.request fun _ _ ht => ht.onAxis fun _ _ ht => ht.moveRequest).next

theorem execMoveRel {axis : Byte} (h : Kept s₀ s) : Keeps s₀ (execMoveRel r axis blend flags distance lim s) :=
  (h.request fun _ _ ht => ht.onAxis fun _ _ ht => ht.moveRequest).next

theorem execMoveVel {axis : Byte} (h : Kept s₀ s) : Keeps s₀ (execMoveVel r axis blend flags velocity amax dmax jmax s) :=
  (h.request fun _ _ ht => ht.onAxis fun _ _ ht => ht.moveRequest).next

theorem enqueueGroup (h : Kept s₀ s) : Kept s₀ (s.enqueueGroup g flags lim entries) := by
  unfold State.enqueueGroup
  refine (h.each fun _ _ ht => ?_).set
  dsimp only
  exact ht.enqueue

theorem execMoveGroup {group : Byte} (h : Kept s₀ s) : Keeps s₀ (execMoveGroup r group blend flags lim members s) :=
  (h.request fun _ _ ht => ht.checked fun _ ht => ht.stageOr (fun _ ht => ht.set.each fun _ _ ht => ht.onAx) (fun _ ht =>
    (ht.enqueueGroup.set.each fun _ _ ht => ht.onAx).answer)).next

theorem flushAxis (h : Kept s₀ s) : Kept s₀ (s.flushAxis a).1 := (h.each fun _ _ ht => ht.leaveGroup.entryLeft).onAx

theorem flushAxes (h : Kept s₀ s) : Kept s₀ (s.flushAxes l).1 := by
  induction l generalizing s with
  | nil => exact h
  | cons a l ih => exact ih h.flushAxis

theorem execQueueFlush {axis : Byte} (h : Kept s₀ s) : Keeps s₀ (execQueueFlush r axis s) := by
  refine (h.request fun _ _ ht => ?_).next
  split
  · exact ht.refuse
  · exact ht.stageOr (fun _ ht => ht) (fun _ ht => ht.flushAxes.answer)

theorem endTeach (h : Kept s₀ s) : Kept s₀ (s.endTeach a status) := .ite h.onAx.complete h

theorem abortAxis (h : Kept s₀ s) : Kept s₀ (s.abortAxis hard a) := h.endHoming.clearQueue.onAx

theorem execAxisAbort {axis : Byte} (h : Kept s₀ s) : Keeps s₀ (execAxisAbort r axis kind s) := by
  refine (h.request fun _ _ ht => ?_).next
  split
  · exact ht.refuse
  · exact .ite ht.refuse (.ite ht.refuse (ht.each fun _ _ ht => ht.abortAxis).answer)

theorem engage {m : Fin 16} (h : Kept s₀ s) : Kept s₀ (s.engage m sl flags ratio offset) := h.only rfl

theorem execGearEngage {ratio offset : Word} (h : Kept s₀ s) : Keeps s₀ (execGearEngage r master slave flags ratio offset s) :=
  (h.request fun _ _ ht => ht.onAxis fun _ _ ht => ht.onAxis fun _ _ ht => ht.checked fun _ ht => ht.stageOr (fun _ ht => ht)
    (fun _ ht => ht.engage.answer)).next

theorem execGearRelease (h : Kept s₀ s) : Keeps s₀ (execGearRelease r slave s) :=
  (h.request fun _ _ ht => ht.onAxis fun _ _ ht => ht.stageOr (fun _ ht => ht) (fun _ ht => .ite ht.ungear.answer ht.refuse)).next

theorem armLatch (h : Kept s₀ s) : Kept s₀ (s.armLatch a source edge) := h.only rfl

theorem execLatchArm {axis : Byte} (h : Kept s₀ s) : Keeps s₀ (execLatchArm r axis source edge s) :=
  (h.request fun _ _ ht => ht.onAxis fun _ _ ht => ht.checked fun _ ht => ht.stageOr (fun _ ht => ht) (fun _ ht =>
    ht.armLatch.answer)).next

theorem execLatchCapture (h : Kept s₀ s) : Keeps s₀ (execLatchCapture axis source rising number s) := by
  refine next ?_
  dsimp only
  split
  · refine .ite (Kept.onAx ?_) ?_
    · split
      · exact .ite h.onAx h
      · exact h
    · split
      · exact .ite h.onAx h
      · exact h
  · split
    · exact .ite h.onAx h
    · exact h

theorem execGearSynchronised (h : Kept s₀ s) : Keeps s₀ (execGearSynchronised axis s) := by
  refine next ?_
  split
  · exact .ite h.onAx h
  · exact h

/-! ### Homing (R242 to R246) -/

theorem homeAt (h : Kept s₀ s) : Kept s₀ (s.homeAt a homing point) := h.only rfl

theorem execAxisHome {axis : Byte} (h : Kept s₀ s) : Keeps s₀ (execAxisHome r axis method flags velocity force s) :=
  (h.request fun _ _ ht => ht.onAxis fun _ _ ht => ht.checked fun _ ht =>
    (Kept.ite ht.clearFault.onAx.homeAt ht.clearFault.onAx).answer).next

theorem execHomeFound (h : Kept s₀ s) : Keeps s₀ (execHomeFound axis s) := by
  refine next ?_
  split
  · refine .ite h ?_
    split
    · exact h.homeAt
    · exact .ite h.homeAt h
    · exact h
  · exact h

theorem execPrfHomeFail (h : Kept s₀ s) : Keeps s₀ (execPrfHomeFail axis s) := by
  refine next ?_
  split
  · exact .ite h.raise.onAx.endHoming h
  · exact h

theorem homingFrame (h : Kept s₀ s) : Kept s₀ (s.homingFrame a) := h.only rfl

theorem homingComplete (h : Kept s₀ s) : Kept s₀ (s.homingComplete a) := by
  unfold State.homingComplete
  dsimp only
  split
  · exact .ite h.endHoming h
  · exact h

theorem execPrfEotExceeded (h : Kept s₀ s) : Keeps s₀ (execPrfEotExceeded axis s) := (Kept.ite h.raise.onAx h).next

end Kept
end Sys2Proof.Proofs
end

section
/-! PROOF. What the operations of the axis engines keep. -/

namespace Sys2Proof.Proofs
open Sys2Proof.Machine

namespace Kept
variable {s₀ s t : State}
variable {edges omega th theta turn v x : Int} {chop counter directions mode steps : Byte} {coil number ratio trig : Word}
variable {closing freeze slow : Bool} {a axis b : Fin 16} {n q rank : Nat} {cycles flags : Half} {fb : BitVec 3} {step : EnableStep}
variable {f : Fin 3 → Word} {k : Fin 8} {g : Gear} {m : Move} {bin : Option (Nat × Bool)} {r : Req}

/-! ### Commutation (R166 to R187) -/

theorem takeRecords (h : Kept s₀ s) : Kept s₀ (s.takeRecords a) := h.each fun _ _ ht => ht.onBay

theorem deliver (h : Kept s₀ s) : Kept s₀ (s.deliver a edges turn) := h.only rfl

theorem measure (h : Kept s₀ s) : Kept s₀ (s.measure a fb edges) := by
  unfold State.measure
  refine .ite h.takeRecords.onAx.onAx.deliver ?_
  dsimp only
  exact h.takeRecords.onAx.onAx.deliver

theorem shadowBay (h : Kept s₀ s) : Kept s₀ (s.shadowBay b f trig chop) := (h.each fun _ _ ht => ht.onHb).onBay

theorem modulate (h : Kept s₀ s) : Kept s₀ (s.modulate a) := by
  unfold State.modulate
  dsimp only
  split
  · exact h.shadowBay.onAx
  · exact h.shadowBay.onAx
  · exact (Kept.ite h.shadowBay.raise h.shadowBay).onAx

/-! ### Enabling and identification (R188 to R197) -/

theorem calibrateBay (h : Kept s₀ s) : Kept s₀ (s.calibrateBay b) := h.only rfl

theorem bayIdle {f : Long} (h : Kept s₀ s) : Kept s₀ (s.bayIdle b f) := h.each fun _ _ ht => .ite ht ht.onHb

theorem beginEnable (h : Kept s₀ s) : Kept s₀ (s.beginEnable a) := h.onAx.each fun _ _ ht => ht.bayEnabled.bayIdle.calibrateBay

theorem enableAxis (h : Kept s₀ s) : Kept s₀ (s.enableAxis a).1 := by
  unfold State.enableAxis
  split <;> dsimp only
  · exact h.raise
  · split <;> dsimp only
    · exact h.clearFault.raise
    · exact h.clearFault.beginEnable

theorem execAxisEnable {axis : Byte} (h : Kept s₀ s) : Keeps s₀ (execAxisEnable r axis s) :=
  (h.request fun _ _ ht => ht.onAxis fun _ _ ht => ht.checked fun _ ht => ht.stageOr (fun _ ht => ht) (fun _ ht =>
    ht.enableAxis.answer)).next

theorem setDisabled (h : Kept s₀ s) : Kept s₀ (s.setDisabled a) := h.releaseSlaves.onAx

theorem disableAxis (h : Kept s₀ s) : Kept s₀ (s.disableAxis a) :=
  (Kept.ite h.endHoming.clearQueue.releaseSlaves.ungear h.endHoming.clearQueue.releaseSlaves.ungear.setDisabled).onAx

theorem execAxisDisable {axis : Byte} (h : Kept s₀ s) : Keeps s₀ (execAxisDisable r axis s) := by
  refine (h.request fun _ _ ht => ?_).next
  split
  · exact ht.refuse
  · exact .ite ht.refuse (ht.each fun _ _ ht => ht.disableAxis).answer

theorem brakeAxis (h : Kept s₀ s) : Kept s₀ (s.brakeAxis a) := h.endHoming.clearQueue.onAx

theorem execAxisShortBrake {axis : Byte} (h : Kept s₀ s) : Keeps s₀ (execAxisShortBrake r axis s) := by
  refine (h.request fun _ _ ht => ?_).next
  split
  · exact ht.refuse
  · exact .ite ht.refuse (.ite ht.refuse (ht.each fun _ _ ht => ht.brakeAxis).answer)

theorem enableStep (h : Kept s₀ s) : Kept s₀ (s.enableStep a step) := h.only rfl

theorem startLoops (h : Kept s₀ s) : Kept s₀ (s.startLoops a) := h.only rfl

theorem abandonEnable (h : Kept s₀ s) : Kept s₀ (s.abandonEnable a) := h.setDisabled.onAx.each fun _ _ ht => ht.onBay

theorem diodeFailed (h : Kept s₀ s) : Kept s₀ (s.diodeFailed a) := by
  unfold State.diodeFailed
  dsimp only
  split
  · exact .ite h.onAx.enableStep.raise h.onAx.enableStep
  · exact h.onAx.enableStep

theorem execDiodeTest (h : Kept s₀ s) : Keeps s₀ (execDiodeTest axis s) := by
  refine next ?_
  split
  · refine .ite h ?_
    dsimp only
    exact .ite h.diodeFailed h.enableStep
  · exact h

theorem execCatchBrakeEnd (h : Kept s₀ s) : Keeps s₀ (execCatchBrakeEnd axis s) := by
  refine next ?_
  split
  · dsimp only
    exact .ite h.enableStep.onAx h
  · exact h

theorem catchAt (h : Kept s₀ s) : Kept s₀ (s.catchAt a omega) := .ite h.onAx h

theorem execAcquisitionDecision (h : Kept s₀ s) : Keeps s₀ (execAcquisitionDecision axis s) := by
  refine next ?_
  split
  · refine .ite h (.ite h (.ite ?_ (.ite h.enableStep h.onAx.catchAt.startLoops)))
    dsimp only
    exact .ite h.diodeFailed (.ite h.enableStep h.onAx.catchAt.startLoops)
  · exact h

theorem execInjectionConverged (h : Kept s₀ s) : Keeps s₀ (execInjectionConverged axis s) := by
  refine next ?_
  split
  · exact .ite h.enableStep.onAx h
  · exact h

theorem execComInjConverge (h : Kept s₀ s) : Keeps s₀ (execComInjConverge axis s) := by
  refine next ?_
  split
  · exact .ite h.abandonEnable.raise h
  · exact h

theorem alignEncoder (h : Kept s₀ s) : Kept s₀ (s.alignEncoder a theta) := h.only rfl

theorem standstillStart (h : Kept s₀ s) : Kept s₀ (s.standstillStart a) :=
  .ite h.onAx.alignEncoder.startLoops h.onAx.onAx.startLoops

theorem execPolarityTestEnd (h : Kept s₀ s) : Keeps s₀ (execPolarityTestEnd axis s) := by
  refine next ?_
  split
  · exact .ite h (.ite h.standstillStart (.ite h.onAx.standstillStart (.ite h.abandonEnable.raise h.onAx)))
  · exact h

theorem execDcAlignEnd (h : Kept s₀ s) : Keeps s₀ (execDcAlignEnd axis s) := by
  refine next ?_
  split
  · exact .ite h.onAx.alignEncoder.startLoops h
  · exact h

theorem execComLos (h : Kept s₀ s) : Keeps s₀ (execComLos axis s) :=
  (Kept.ite (Kept.ite h.raise.stick h.raise.stick.count).set h).next

theorem losEnds (h : Kept s₀ s) : Kept s₀ (s.losEnds a rank) :=
  .ite h.clearFault (h.clearFault.each fun _ _ ht => ht.each fun _ _ ht => ht.onHb).onAx

theorem losRetry (h : Kept s₀ s) : Kept s₀ (s.losRetry a) := by
  unfold State.losRetry
  split
  · exact .ite (.ite h.losEnds (h.clearFault.each fun _ _ ht => ht.releaseBay.bayEnabled).onAx) h
  · exact h

theorem execComPlausibility (h : Kept s₀ s) : Keeps s₀ (execComPlausibility axis s) := (Kept.ite h.raise.stick h).next

theorem execComOverspeed (h : Kept s₀ s) : Keeps s₀ (execComOverspeed axis s) := (Kept.ite h.raise h).next

theorem execComHallInvalid (h : Kept s₀ s) : Keeps s₀ (execComHallInvalid axis s) := (Kept.ite h.raise h).next

theorem execComEncIndex (h : Kept s₀ s) : Keeps s₀ (execComEncIndex axis number s) := by
  refine next (.ite h ?_)
  split
  · exact h.onAx
  · exact .ite h.raise.onAx h

theorem execMotorIdentify {axis : Byte} (h : Kept s₀ s) : Keeps s₀ (execMotorIdentify r axis steps s) :=
  (h.request fun _ _ ht => ht.onAxis fun _ _ ht => ht.checked fun _ ht => ht.clearFault.onAx.bayEnabled.answer).next

theorem storeResult (h : Kept s₀ s) : Kept s₀ (s.storeResult a q v) := .ite h.onAx h.setPar

theorem execIdentifyStepDone {turns : Nat} {results : List Int} (h : Kept s₀ s) :
    Keeps s₀ (execIdentifyStepDone axis turns results s) := by
  refine next ?_
  split
  · dsimp only
    split
    · exact h
    · refine .ite h (.ite h.raise.onAx.complete (.ite (h.each fun _ _ ht => ?_).onAx.onAx.complete (h.each fun _ _ ht => ?_).onAx)) <;>
        exact ht.storeResult
  · exact h

/-! ### Steppers (R200 to R220) -/

theorem shadowCoil {k : Nat} (h : Kept s₀ s) : Kept s₀ (s.shadowCoil b coil k) := h.shadowBay

theorem driveCoils (h : Kept s₀ s) : Kept s₀ (s.driveCoils a) := by
  unfold State.driveCoils
  dsimp only
  exact h.shadowCoil.shadowCoil.onAx

theorem restCoils (h : Kept s₀ s) : Kept s₀ (s.restCoils a slow) := h.shadowCoil.shadowCoil.onAx

theorem senseCoils (h : Kept s₀ s) : Kept s₀ (s.senseCoils a) := h.only rfl

theorem followFrame {f : Follow} (h : Kept s₀ s) : Kept s₀ (s.followFrame a f) := .ite h.onAx.raise.onAx h.onAx

theorem followAxis (h : Kept s₀ s) : Kept s₀ (s.followAxis a counter flags ratio) := .ite h.onAx h.onAx

theorem execStepFollow {axis : Byte} (h : Kept s₀ s) : Keeps s₀ (execStepFollow r axis counter flags ratio s) :=
  (h.request fun _ _ ht => ht.onAxis fun _ _ ht => ht.checked fun _ ht => ht.stageOr (fun _ ht => ht) (fun _ ht =>
    ht.followAxis.answer)).next

theorem execStepperEnergise (h : Kept s₀ s) : Keeps s₀ (execStepperEnergise k s) := by
  refine next ?_
  dsimp only
  split
  · exact .ite h.onAx h
  · exact h

theorem execStpCatchFail (h : Kept s₀ s) : Keeps s₀ (execStpCatchFail k s) := by
  refine next ?_
  dsimp only
  split
  · exact .ite h.raise h
  · exact h

theorem execHoldCurrent (h : Kept s₀ s) : Keeps s₀ (execHoldCurrent k s) := (Kept.ite h.onAx h).next

theorem execStpStall (h : Kept s₀ s) : Keeps s₀ (execStpStall k s) :=
  (Kept.ite (Kept.ite h.raise.stick h.raise.stick.count).onAx h).next

theorem execStpStallBlind (h : Kept s₀ s) : Keeps s₀ (execStpStallBlind k s) := (Kept.ite h.raise.onAx h).next

theorem execStpNoRegulation (h : Kept s₀ s) : Keeps s₀ (execStpNoRegulation k s) := (Kept.ite h.raise.stick h).next

theorem execStpOpenCoil (h : Kept s₀ s) : Keeps s₀ (execStpOpenCoil k s) := (Kept.ite h.raise.stick h).next

theorem stepperFrame (h : Kept s₀ s) : Kept s₀ (s.stepperFrame a) :=
  .ite h.takeRecords.onAx.senseCoils.driveCoils h.takeRecords.onAx.senseCoils.restCoils

/-! ### The Template unit (R277 to R297) -/

theorem forceFrame (h : Kept s₀ s) : Kept s₀ (s.forceFrame a) := .ite (.ite h.onAx h) (.ite h.onAx h.onAx)

theorem obstruct (h : Kept s₀ s) : Kept s₀ (s.obstruct a bin x th) := h.raiseWith.stick.count.onAx

theorem detectFrame (h : Kept s₀ s) : Kept s₀ (s.detectFrame a).1 := .ite h.onAx.obstruct h.onAx

theorem endPass (h : Kept s₀ s) : Kept s₀ (s.endPass a) := by
  unfold State.endPass
  dsimp only
  split
  · exact h.onAx
  · exact .ite h.onAx (.ite (Kept.ite h.onAx.setBin.onAx.stick.raise h.onAx.setBin.onAx).firstSaturation
        (.ite h.onAx.setBin.onAx.stick.raise h.onAx.setBin.onAx))

theorem learnFrame (h : Kept s₀ s) : Kept s₀ (s.learnFrame a n) := by
  unfold State.learnFrame
  dsimp only
  split
  · exact .ite (Kept.ite h.endPass h).onAx (.ite h.endPass h)
  · exact (Kept.ite (Kept.ite h.endPass h).onAx (.ite h.endPass h)).onAx

theorem templateFrame (h : Kept s₀ s) : Kept s₀ (s.templateFrame a) := h.forceFrame.detectFrame.learnFrame

theorem ageStroke (h : Kept s₀ s) : Kept s₀ (s.ageStroke a closing) := h.each fun _ _ ht => ht.setBin

theorem endPassOf (h : Kept s₀ s) : Kept s₀ (s.endPassOf a m) := .ite h.endPass h

theorem strokeCompleted (h : Kept s₀ s) : Kept s₀ (s.strokeCompleted a m) := by
  unfold State.strokeCompleted
  refine .ite ?_ h
  dsimp only
  split
  · exact .ite h.ageStroke.endTeach h.ageStroke.onAx
  · exact h.ageStroke

theorem clearBins (h : Kept s₀ s) : Kept s₀ (s.clearBins a closing) := h.only rfl

theorem invalidateTable (h : Kept s₀ s) : Kept s₀ (s.invalidateTable a) := h.clearBins.clearBins.raise

theorem execTemplateLearn {axis : Byte} (h : Kept s₀ s) : Keeps s₀ (execTemplateLearn r axis mode cycles s) :=
  (h.request fun _ _ ht => ht.onAxis fun _ _ ht => ht.checked fun _ ht => .ite ht.endTeach.answer ht.onAx.answer).next

theorem freezeAxis (h : Kept s₀ s) : Kept s₀ (s.freezeAxis a freeze) := (Kept.ite h.endTeach h).onAx

theorem execTemplateFreeze {axis freeze : Byte} (h : Kept s₀ s) : Keeps s₀ (execTemplateFreeze r axis freeze s) :=
  (h.request fun _ _ ht => ht.onAxis fun _ _ ht => ht.checked fun _ ht => ht.stageOr (fun _ ht => ht) (fun _ ht =>
    ht.freezeAxis.answer)).next

theorem execTemplateReset {axis : Byte} (h : Kept s₀ s) : Keeps s₀ (execTemplateReset r axis directions s) :=
  (h.request fun _ _ ht => ht.onAxis fun _ _ ht => ht.checked fun _ ht => (Kept.ite (Kept.ite ht.clearBins ht).clearBins
    (.ite ht.clearBins ht)).answer).next

theorem reverseAxis (h : Kept s₀ s) : Kept s₀ (s.reverseAxis a) :=
  .ite h.clearQueue.onAx (.ite h.clearQueue.onAx.onAx.onAx h.clearQueue.onAx.onAx)

theorem execReversalRequest (h : Kept s₀ s) : Keeps s₀ (execReversalRequest axis s) :=
  (Kept.ite (h.each fun _ _ ht => ht.reverseAxis).raise h).next

/-! ### The compute slot (R167) -/

theorem gearFrame (h : Kept s₀ s) : Kept s₀ (s.gearFrame a g) := by
  unfold State.gearFrame
  refine .ite h.stopDemand ?_
  dsimp only
  exact .ite (Kept.ite h.onAx.raise h.onAx).raise (.ite h.onAx.raise h.onAx)

theorem profileFrame (h : Kept s₀ s) : Kept s₀ (s.profileFrame a) := by
  unfold State.profileFrame
  refine (Kept.ite h.onAx (.ite (.ite h.onAx h.onAx) ?_)).onAx.settle.watchPosition
  split
  · exact h.gearFrame
  · exact h.followFrame
  · exact h.planQueue

theorem execAxisComputeSlot {edges : Word} (h : Kept s₀ s) : Keeps s₀ (execAxisComputeSlot axis fb edges s) :=
  (Kept.ite h (.ite h.profileFrame.stepperFrame.templateFrame
    h.measure.profileFrame.runLoops.modulate.templateFrame.homingFrame)).next

end Kept
end Sys2Proof.Proofs
end

section
/-! PROOF. What the operations on inputs, outputs, lanes and the power stage keep. -/

namespace Sys2Proof.Proofs
open Sys2Proof.Machine

namespace Kept
variable {s₀ s t : State}
variable {bit cause code dirty edges lane mv n number promoted raw receive slack span src status transmit : Nat}
variable {back clean counted level none_ readbackOk second sourceActive toVfield up : Bool} {a b bay channel : Fin 16}
variable {ended leg period temp : Int} {c die which : Fin 2} {flags y : Byte} {counter k : Fin 8} {bays held : Half}
variable {cmp : Comparison} {report : DieReport} {f : FieldIo → FieldIo} {x : Fin 3} {input : Fin 32} {group : Fin 4} {hb : Fin 48}
variable {req : Option (Option (Fin 8) × Half)} {wait : Release} {r : Req} {before : State} {v : Word}

/-! ### The configuration of CAN (R410 to R413) -/

theorem errorCounters (h : Kept s₀ s) : Kept s₀ (s.errorCounters c transmit receive) := h.setPar

theorem joinBus (h : Kept s₀ s) : Kept s₀ (s.joinBus c) := h.set.errorCounters.clearFault.clearFault

theorem configureCan (h : Kept s₀ s) : Kept s₀ (s.configureCan c) :=
  .ite (Kept.ite h.clearFault h.raise).set (.ite (Kept.ite h.clearFault h.raise).joinBus (.ite h.clearFault h.raise))

/-! ### Inputs, counters and outputs (R392 to R407) -/

theorem onFio (h : Kept s₀ s) : Kept s₀ (s.onFio f) := h.only rfl

theorem execDiEdge (h : Kept s₀ s) : Keeps s₀ (execDiEdge input level number s) := (Kept.ite h (.ite h.onFio h.onFio.onFio)).next

theorem configureCounters (h : Kept s₀ s) : Kept s₀ s.configureCounters := .ite h.onFio.clearFault h.onFio.raise

theorem execCounterEdge (h : Kept s₀ s) : Keeps s₀ (execCounterEdge counter up s) :=
  (Kept.ite h (.ite (.ite h.onFio.stick h.onFio.stick.raiseAgain) h.onFio)).next

theorem execFreqGateEnd (h : Kept s₀ s) : Keeps s₀ (execFreqGateEnd counter edges span s) :=
  (Kept.ite h (.ite h.onFio (.ite h.onFio h.onFio.setPar))).next

theorem idleCounters (h : Kept s₀ s) : Kept s₀ s.idleCounters := h.each fun _ _ ht => .ite ht (.ite ht.onFio.setPar ht.onFio)

theorem presetCounter (h : Kept s₀ s) : Kept s₀ (s.presetCounter k v) := h.only rfl

theorem latchInputs (h : Kept s₀ s) : Kept s₀ s.latchInputs := h.only rfl

theorem doFailstate (h : Kept s₀ s) : Kept s₀ s.doFailstate := .ite h h.onFio

theorem outputUpdate (h : Kept s₀ s) : Kept s₀ s.outputUpdate := h.only rfl

theorem outputWord (h : Kept s₀ s) : Kept s₀ s.outputWord := h.only rfl

theorem execVfieldUv (h : Kept s₀ s) : Keeps s₀ (execVfieldUv group mv s) := (Kept.ite h.setPar.onFio.raise h.setPar).next

theorem execVfieldOv (h : Kept s₀ s) : Keeps s₀ (execVfieldOv group mv s) := (Kept.ite h.setPar.onFio.raise h.setPar).next

theorem execVfieldRecover (h : Kept s₀ s) : Keeps s₀ (execVfieldRecover group mv s) :=
  (Kept.ite (Kept.ite h.setPar.onFio.clearFault h.setPar).onFio.clearFault (.ite h.setPar.onFio.clearFault h.setPar)).next

theorem execFioDoGroupOverload (h : Kept s₀ s) : Keeps s₀ (execFioDoGroupOverload group s) := (Kept.ite h h.onFio.count.raise).next

theorem execFioDoOverload (h : Kept s₀ s) : Keeps s₀ (execFioDoOverload channel toVfield s) :=
  (Kept.ite h h.onFio.count.raiseWith).next

theorem execFioDoMismatch (h : Kept s₀ s) : Keeps s₀ (execFioDoMismatch channel s) := (Kept.ite h h.onFio.stick.raise).next

theorem execFioDoOpen (h : Kept s₀ s) : Keeps s₀ (execFioDoOpen channel s) := (Kept.ite h h.onFio.stick.raise).next

theorem execFioDoThermal (h : Kept s₀ s) : Keeps s₀ (execFioDoThermal group s) := (Kept.ite h h.onFio.count.raise).next

theorem diagnosticsClear (h : Kept s₀ s) : Kept s₀ s.diagnosticsClear :=
  h.each fun _ _ ht => .ite (.ite ht (.ite ht.set.onFio.clearFault ht.set)) (.ite (Kept.ite ht
    (.ite ht.set.onFio.clearFault ht.set)).set.onFio.clearFault (Kept.ite ht (.ite ht.set.onFio.clearFault ht.set)).set)

/-! ### The lanes (R323 to R346) -/

theorem onLanes {f : Lanes → Lanes} (h : Kept s₀ s) : Kept s₀ (s.onLanes f) := h.only rfl

theorem diverges (h : Kept s₀ s) : Kept s₀ (s.diverges lane cause bays) :=
  .ite h.stick.count.onLanes.raise.onLanes h.stick.count.onLanes

theorem startCopy (h : Kept s₀ s) : Kept s₀ s.startCopy := h.only rfl

theorem completeSwap (h : Kept s₀ s) : Kept s₀ (s.completeSwap req status) := by
  unfold State.completeSwap
  split
  · exact h.complete
  · exact h

theorem swapFails (h : Kept s₀ s) : Kept s₀ (s.swapFails promoted back counted bays) := by
  unfold State.swapFails
  split
  · exact h
  · exact (Kept.ite h.raise.diverges h.raise).onLanes.completeSwap

theorem execLaneSwap (h : Kept s₀ s) : Keeps s₀ (execLaneSwap r flags s) :=
  (h.request fun _ _ ht => ht.checked fun _ ht => ht.completeSwap.completeSwap.onLanes.answer).next

theorem execProofSwap (h : Kept s₀ s) : Keeps s₀ (execProofSwap readbackOk s) :=
  (Kept.ite h (.ite (.ite h.onLanes h.onLanes.swapFails) h)).next

theorem lapseSwap (h : Kept s₀ s) : Kept s₀ s.lapseSwap := .ite h h.completeSwap.onLanes

theorem execProofSwapResult (h : Kept s₀ s) : Keeps s₀ (execProofSwapResult clean s) := by
  refine next ?_
  split
  · exact h
  · exact .ite h.swapFails (.ite h.setDev.clearFault.onLanes.completeSwap h)

theorem execLaneSwapOverdue (h : Kept s₀ s) : Keeps s₀ (execLaneSwapOverdue s) := (Kept.ite h.raise h).next

theorem acceptBay (h : Kept s₀ s) : Kept s₀ (s.acceptBay b) := (h.each fun _ _ ht => ht.onHb).onBay

theorem loadSet (h : Kept s₀ s) : Kept s₀ (s.loadSet held) := (h.each fun _ _ ht => .ite ht ht.acceptBay).set

theorem overrun (h : Kept s₀ s) : Kept s₀ (s.overrun none_) :=
  .ite h.set (.ite h.set.stick.count.raise.raise h.set.stick.count.raise)

theorem activeLost (h : Kept s₀ s) : Kept s₀ s.activeLost := .ite h h.raise.onLanes.doFailstate

theorem arbitrate {act stb : LaneReport} {cmp : Comparison} (h : Kept s₀ s) : Kept s₀ (s.arbitrate act stb cmp) := by
  unfold State.arbitrate
  refine .ite (.ite (swapFails (.ite h.onLanes.loadSet.raise.diverges h.onLanes.loadSet)) (.ite ?_ h.onLanes.loadSet))
    (.ite ?_ h.onLanes.activeLost)
  · exact .ite h.onLanes.loadSet.raise.swapFails h.onLanes.loadSet.raise.diverges
  · extract_lets equal t t₁ t₂ t₃ t₄
    have ht₁ : Kept s₀ t₁ := .ite h.onLanes.loadSet h.onLanes
    have ht₃ : Kept s₀ t₃ := ht₁.stick.raise.onLanes
    have ht₄ : Kept s₀ t₄ := .ite ht₃ ht₃.diverges
    exact ht₄.swapFails

theorem execLaneDeadline {a b : LaneReport} (h : Kept s₀ s) : Keeps s₀ (execLaneDeadline a b cmp slack s) :=
  (h.setDev.onLanes.overrun.arbitrate).next

theorem laneTick (h : Kept s₀ s) : Kept s₀ s.laneTick := by
  unfold State.laneTick
  exact (Kept.ite h.onLanes.startCopy h.onLanes).onLanes

theorem execCopyFinalPhase (h : Kept s₀ s) : Keeps s₀ (execCopyFinalPhase dirty s) := (Kept.ite h.onLanes h).next

theorem execCopyRelease (h : Kept s₀ s) : Keeps s₀ (execCopyRelease s) := (Kept.ite h.onLanes.set.count h).next

theorem execLaneCopyFail (h : Kept s₀ s) : Keeps s₀ (execLaneCopyFail s) := (Kept.ite h.raise.diverges.startCopy h).next

/-! ### The PWM generator (R107 to R124) -/

theorem pwmSeen (h : Kept s₀ s) : Kept s₀ (s.pwmSeen b bit code) := .ite h h.stick.raise

theorem transferHb (h : Kept s₀ s) : Kept s₀ (s.transferHb b period x) := by
  unfold State.transferHb
  split
  · exact h.onHb.pwmSeen
  · exact .ite h.onHb.pwmSeen h.onHb

theorem holdBay (h : Kept s₀ s) : Kept s₀ (s.holdBay b) := (h.each fun _ _ ht => ht.onHb).onBay

theorem transferBay (h : Kept s₀ s) : Kept s₀ (s.transferBay b) := (Kept.ite h.holdBay h).onBay.each fun _ _ ht => ht.transferHb

theorem shadowTransfer (h : Kept s₀ s) : Kept s₀ s.shadowTransfer := .ite (h.each fun _ _ ht => ht.transferBay).set h

theorem stretchPeriods {c : Int} (h : Kept s₀ s) : Kept s₀ (s.stretchPeriods c) :=
  .ite h ((h.each fun _ _ ht => ht.onBay).each fun _ _ ht => ht.onHb)

theorem monitor (h : Kept s₀ s) : Kept s₀ (s.monitor hb) := .ite h.onHb.set h

theorem startHb (h : Kept s₀ s) : Kept s₀ (s.startHb b second ended leg x) := by
  unfold State.startHb
  refine .ite ?_ ?_
  · dsimp only
    exact h.monitor.onHb
  · dsimp only
    exact h.monitor.onHb

theorem startChopper (h : Kept s₀ s) : Kept s₀ (s.startChopper before b ended) := h.only rfl

theorem startRecord (h : Kept s₀ s) : Kept s₀ (s.startRecord b) := h.only rfl

theorem takePending (h : Kept s₀ s) : Kept s₀ (s.takePending b) := h.only rfl

theorem execCarrierPeriodStart (h : Kept s₀ s) : Keeps s₀ (execCarrierPeriodStart bay second s) :=
  (Kept.ite h (((Kept.ite h h.startRecord.takePending).each fun _ _ ht => ht.startHb).startChopper.onBay.each fun _ _ ht =>
    ht.onHb)).next

theorem execChopTrip (h : Kept s₀ s) : Keeps s₀ (execChopTrip bay number s) :=
  (Kept.ite h.onBay.stick (.ite h h.onBay.onHb.onBay)).next

theorem execChopOffTimeEnd (h : Kept s₀ s) : Keeps s₀ (execChopOffTimeEnd bay s) := by
  refine next (.ite h ?_)
  dsimp only
  exact h.onBay

theorem execShootThroughInterlock (h : Kept s₀ s) : Keeps s₀ (execShootThroughInterlock hb s) :=
  ((h.stick.each fun _ _ ht => ht.latchBay).raise).next

theorem execPwmDebugHalt (h : Kept s₀ s) : Keeps s₀ (execPwmDebugHalt s) := (Kept.ite h.raise h).next

/-! ### The sense array (R154 to R165) -/

theorem finishCalibration (h : Kept s₀ s) : Kept s₀ (s.finishCalibration b) := by
  unfold State.finishCalibration
  refine .ite h.abandonEnable.raise ?_
  dsimp only
  split
  · exact .ite h.setPar.onBay.enableStep h.setPar.onBay
  · exact h.setPar.onBay

theorem calibrateWith (h : Kept s₀ s) : Kept s₀ (s.calibrateWith b raw) :=
  .ite h.abandonEnable (.ite h.onBay.finishCalibration h.onBay)

theorem execAdcTrigger {raw : BitVec 12} (h : Kept s₀ s) : Keeps s₀ (execAdcTrigger bay which raw s) := by
  refine next ?_
  refine .ite h (.ite h.calibrateWith ?_)
  split
  · exact h
  · exact h.onBay

theorem countSaturated (h : Kept s₀ s) : Kept s₀ (s.countSaturated b n) := .ite h h.stick.countN

theorem execSampleRecord (h : Kept s₀ s) : Keeps s₀ (execSampleRecord bay report s) :=
  ((Kept.ite (.ite h.onBay.countSaturated.stick h.onBay.countSaturated) (Kept.ite h.onBay.countSaturated.stick
    h.onBay.countSaturated).clearFault).onDie).next

theorem execSnsMissing (h : Kept s₀ s) : Keeps s₀ (execSnsMissing bay s) := (Kept.ite h.raise h).next

theorem execSnsRange (h : Kept s₀ s) : Keeps s₀ (execSnsRange bay s) := (Kept.ite h.raise h).next

theorem execSnsPeak (h : Kept s₀ s) : Keeps s₀ (execSnsPeak bay s) := (Kept.ite h.raise h).next

theorem execDieLinkCrcFail (h : Kept s₀ s) : Keeps s₀ (execDieLinkCrcFail bay s) :=
  (Kept.ite (Kept.ite h.onBay.stick h.onBay).onDie.raise (Kept.ite h.onBay.stick h.onBay).onDie).next

theorem latchStatus (h : Kept s₀ s) : Kept s₀ s.latchStatus := (h.each fun _ _ ht => ht.onHb).each fun _ _ ht => ht.onDie

theorem peakFrame (h : Kept s₀ s) : Kept s₀ (s.peakFrame b) := h.only rfl

/-! ### Gate drive and protection (R126 to R153) -/

theorem execShortComparatorTrip {lowOn : BitVec 3} (h : Kept s₀ s) : Keeps s₀ (execShortComparatorTrip bay lowOn s) := by
  refine next ?_
  extract_lets t t₁ wait t₂ t₃
  have ht₁ : Kept s₀ t₁ := (h.each fun _ _ hu => hu.latchBay).count.each fun _ _ hu => .ite hu.onHb hu
  exact .ite ht₁.onBay.raise.abandonEnable ht₁.onBay.raise

theorem onBoot {f : Retry → Retry} (h : Kept s₀ s) : Kept s₀ (s.onBoot hb f) := h.only rfl

theorem execBootUv (h : Kept s₀ s) : Keeps s₀ (execBootUv hb s) :=
  (Kept.ite h.onHb (.ite h.onHb.latchHb.raiseForced.onBoot.abandonEnable h.onHb.latchHb.raiseForced.onBoot)).next

theorem restartAxis (h : Kept s₀ s) : Kept s₀ (s.restartAxis a) := .ite h.beginEnable.onAx h

theorem releaseWith (h : Kept s₀ s) : Kept s₀ (s.releaseWith code src b) :=
  .ite h.clearFault (h.clearFault.each fun _ _ ht => ht.releaseBay)

theorem clearShort (h : Kept s₀ s) : Kept s₀ (s.clearShort b) := h.releaseWith.each fun _ _ ht => ht.onHb

theorem clearBoot (h : Kept s₀ s) : Kept s₀ (s.clearBoot wait hb) := h.releaseHbTo.onHb.clearFault

theorem retryOnce {retry : Retry} {most wait : Nat} {active : Bool} {put : Retry → State → State} {clear exhaust : State → State}
    (h : Kept s₀ s) (hput : ∀ y t, Kept s₀ t → Kept s₀ (put y t)) (hclear : ∀ t, Kept s₀ t → Kept s₀ (clear t))
    (hexhaust : ∀ t, Kept s₀ t → Kept s₀ (exhaust t)) : Kept s₀ (s.retryOnce retry most wait active b put clear exhaust) := by
  unfold State.retryOnce
  split
  · exact h
  · exact .ite h (.ite (.ite (hput _ _ h) (hclear _ (hput _ _ h))) (hexhaust _ (hput _ _ h).raise))

theorem execAutoRetryTry {which : RetryRef} (h : Kept s₀ s) : Keeps s₀ (execAutoRetryTry which sourceActive s) := by
  refine next ?_
  split
  · exact h.retryOnce (fun _ _ ht => ht.onBay) (fun _ ht => ht.clearShort.restartAxis) (fun _ ht => ht)
  · exact h.retryOnce (fun _ _ ht => ht.onBoot) (fun _ ht => ht.clearBoot.restartAxis) (fun _ ht => (ht.each fun _ _ ht =>
        ht.latchBay).reactAxis)

theorem execVgdLockout (h : Kept s₀ s) : Keeps s₀ (execVgdLockout die s) := ((h.onDie.each fun _ _ ht => ht.latchBay).raise).next

theorem execGdVgdHigh (h : Kept s₀ s) : Keeps s₀ (execGdVgdHigh die s) := h.raise.next

theorem brakeFault (h : Kept s₀ s) : Kept s₀ (s.brakeFault die code) := h.raise.onDie

theorem execVgdBrkLow (h : Kept s₀ s) : Keeps s₀ (execVgdBrkLow die s) := h.brakeFault.next

theorem execOv1Assert (h : Kept s₀ s) : Keeps s₀ (execOv1Assert die s) := h.onDie.raise.next

theorem execBrakeOff (h : Kept s₀ s) : Keeps s₀ (execBrakeOff die s) := h.onDie.next

theorem shortsNow (h : Kept s₀ s) : Kept s₀ (s.shortsNow hb) := .ite h h.set.onHb

theorem execOv2Assert (h : Kept s₀ s) : Keeps s₀ (execOv2Assert die s) := by
  refine next ?_
  dsimp only
  split
  · exact (Kept.ite h.onDie.stick (h.onDie.stick.each fun _ _ ht => ht.shortsNow)).set.raise.beginReaction
  · exact (Kept.ite h.onDie.stick (h.onDie.stick.each fun _ _ ht => ht.shortsNow)).set.raise

theorem execOv2Release (h : Kept s₀ s) : Keeps s₀ (execOv2Release s) := ((h.each fun _ _ ht => ht.onDie).set).next

theorem dieFrame (h : Kept s₀ s) : Kept s₀ (s.dieFrame die) := h.only rfl

theorem diesFrame (h : Kept s₀ s) : Kept s₀ s.diesFrame := (h.each fun _ _ ht => ht.dieFrame).set

theorem execGdBrakeFail (h : Kept s₀ s) : Keeps s₀ (execGdBrakeFail die s) := (Kept.ite h.brakeFault h).next

theorem execGdBrakeOverload (h : Kept s₀ s) : Keeps s₀ (execGdBrakeOverload die s) := (Kept.ite h.brakeFault h).next

theorem execGdBrakeShorted (h : Kept s₀ s) : Keeps s₀ (execGdBrakeShorted die s) := (Kept.ite h.raise h).next

theorem regenShort (h : Kept s₀ s) : Kept s₀ (s.regenShort a) := .ite (h.each fun _ _ ht => ht.latchBay).onAx h

theorem execGdVbusUv (h : Kept s₀ s) : Keeps s₀ (execGdVbusUv die s) := (Kept.ite h.raise h).next

theorem execGdVbusMismatch (h : Kept s₀ s) : Keeps s₀ (execGdVbusMismatch s) := (Kept.ite h.raise.stick h).next

theorem execGdDieHot (h : Kept s₀ s) : Keeps s₀ (execGdDieHot die temp s) := (Kept.ite h.onDie.raise h.onDie).next

theorem execGdDieOvertemp (h : Kept s₀ s) : Keeps s₀ (execGdDieOvertemp die temp s) := (Kept.ite h.onDie.raise h.onDie).next

end Kept
end Sys2Proof.Proofs
end

section
/-! PROOF. What the safety channel keeps: torque off wherever it denies it (Table 13.2). -/

namespace Sys2Proof.Proofs
open Sys2Proof.Machine

namespace Kept
variable {s₀ s t : State}
variable {a b cause code status : Nat} {passed : Bool} {scope : Byte} {die : Fin 2} {x : Int} {r : Req} {d : SafetyDiagnostic}
variable {scan : ScanReport}

/-! ### The channel and its commands (R298 to R322) -/

theorem endHostTest (h : Kept s₀ s) : Kept s₀ (s.endHostTest status) := by
  unfold State.endHostTest
  split
  · exact h
  · exact .ite h.onSaf h.onSaf.set.complete

theorem safetyFault (h : Kept s₀ s) : Kept s₀ (s.safetyFault code cause) := (Kept.ite h.raise h.raise.safetyMove).endHostTest

theorem stoActive (h : Kept s₀ s) : Kept s₀ s.stoActive := h.raise

theorem enterSto (h : Kept s₀ s) : Kept s₀ (s.enterSto cause) := h.stoActive.safetyMove.endHostTest

theorem endSs1 (h : Kept s₀ s) : Kept s₀ s.endSs1 := h.safetyMove.endHostTest

theorem startSs1 (h : Kept s₀ s) : Kept s₀ (s.startSs1 cause) := by
  unfold State.startSs1
  exact h.stoActive.safetyMove.stick.count.onSaf

theorem leaveLocked (h : Kept s₀ s) : Kept s₀ s.leaveLocked := .ite h.safetyMove h

theorem execSiChange {levels : PairAB} (h : Kept s₀ s) : Keeps s₀ (execSiChange levels s) := by
  refine (Kept.ite h.onSaf ?_).next
  split
  · exact .ite h.onSaf.startSs1 h.onSaf.enterSto
  · exact .ite h.onSaf h.onSaf.enterSto
  · exact h.onSaf.enterSto
  · exact h.onSaf.onSaf fun _ _ _ => ⟨rfl, rfl⟩
  · exact h.onSaf
  · exact h.onSaf

theorem execSafeSiDiscrepancy (h : Kept s₀ s) : Keeps s₀ (execSafeSiDiscrepancy s) := (Kept.ite h h.safetyFault.onSaf).next

theorem execStoReqPulse {tenths : Nat} (h : Kept s₀ s) : Keeps s₀ (execStoReqPulse tenths s) := by
  refine (h.onSaf fun hs => ?_).next
  split
  · exact fun hst hrel => ⟨rfl, (hs hst hrel).2⟩
  · split <;> exact hs

/-- A channel that permits no torque has its switch left open by the heartbeat. -/
theorem execHeartbeat {beat : Heartbeat} (h : Kept s₀ s) : Keeps s₀ (execHeartbeat beat s) := by
  refine (Kept.ite h (h.onSaf fun hs => ?_)).next
  dsimp only
  split
  · exact hs
  · split
    · intro hst hrel
      refine ⟨?_, (hs hst hrel).2⟩
      rcases hst with hst | hst <;> simp [show s.saf.state = _ from hst, show s.saf.releasing = false from hrel]
    · exact hs

theorem execSafeWatchdog (h : Kept s₀ s) : Keeps s₀ (execSafeWatchdog s) :=
  (h.safetyFault.onSaf fun hs hst hrel => ⟨rfl, (hs hst hrel).2⟩).next

theorem execSafetyStateWord (h : Kept s₀ s) : Keeps s₀ (execSafetyStateWord s) := h.onSaf.next

theorem phaseCopy (h : Kept s₀ s) : Kept s₀ (s.phaseCopy scan) := h.each fun _ _ ht => ht.setPar

theorem execSafetyScan {scan : ScanReport} (h : Kept s₀ s) : Keeps s₀ (execSafetyScan scan s) := by
  refine next (.ite h.onSaf.safetyFault ?_)
  extract_lets now t t₁ bad
  have ht₁ : Kept s₀ t₁ := h.phaseCopy.onSaf.each fun _ _ hu => hu.set.onSaf
  exact .ite (.ite ht₁.safetyFault.onSaf (.ite ht₁.endSs1 ht₁)) ht₁

theorem execSs1TimerExpiry (h : Kept s₀ s) : Keeps s₀ (execSs1TimerExpiry s) := (Kept.ite h.endSs1 h).next

theorem execPlumbSs1Expiry (h : Kept s₀ s) : Keeps s₀ (execPlumbSs1Expiry s) := by
  have hopened : Kept s₀ (s.onSaf fun x => { x with hs := false, plumbTimer := false, plumbOpen := true }) :=
    h.onSaf fun hs hst hrel => ⟨rfl, (hs hst hrel).2⟩
  exact (Kept.ite h (.ite hopened.endSs1 hopened)).next

theorem readRails (h : Kept s₀ s) : Kept s₀ (s.readRails a b) := h.onSaf

theorem execSafeStoFb (h : Kept s₀ s) : Keeps s₀ (execSafeStoFb a b s) := (Kept.ite h.readRails h.readRails.safetyFault).next

/-- The release is under way from then on. -/
theorem execStoRelease (h : Kept s₀ s) : Keeps s₀ (execStoRelease s) :=
  (Kept.ite (h.onSaf fun _ _ hrel => nomatch (show true = false from hrel)) h).next

theorem execRailPresent (h : Kept s₀ s) : Keeps s₀ (execRailPresent a b s) :=
  (Kept.ite (.ite h.readRails.clearFault.safetyMove h.readRails.clearFault) h.readRails).next

theorem execSafeRailAbsent {a b : Nat} (h : Kept s₀ s) : Keeps s₀ (execSafeRailAbsent a b s) :=
  (Kept.ite h.readRails (.ite (h.readRails.onSaf fun _ _ _ => ⟨rfl, rfl⟩).raise (.ite h.readRails.raise h.readRails))).next

theorem beginSwitchTest (h : Kept s₀ s) : Kept s₀ s.beginSwitchTest :=
  .ite (h.safetyMove.onSaf fun hs hst hrel => ⟨(hs hst hrel).1, rfl⟩) h.safetyMove.onSaf

theorem execSwitchTestStart (h : Kept s₀ s) : Keeps s₀ (execSwitchTestStart s) := (Kept.ite h.beginSwitchTest h).next

theorem testPassed (h : Kept s₀ s) : Kept s₀ s.testPassed := by
  unfold State.testPassed
  extract_lets wasLocked t t₁ t₂ t₃ t₄
  have ht₁ : Kept s₀ t₁ := .ite h.clearFault.clearFault.clearFault.clearFault h.clearFault.clearFault.clearFault
  have ht₃ : Kept s₀ t₃ := ht₁.setDev.count.onSaf
  have ht₄ : Kept s₀ t₄ := .ite ht₃.safetyMove (.ite ht₃.safetyMove (.ite ht₃.stoActive.safetyMove
    (.ite ht₃.safetyMove ht₃.stoActive.safetyMove)))
  exact ht₄.endHostTest

theorem testFailed (h : Kept s₀ s) : Kept s₀ s.testFailed := h.safetyFault

/-- A switch test runs in TESTING or in BOOT. -/
theorem state_of_inTest (h : s.inTest = true) : s.saf.state ≠ .sto ∧ s.saf.state ≠ .locked := by
  constructor <;> intro hst <;> simp [State.inTest, hst] at h

/-- A step of the test on the readings of the rails. -/
theorem testStep {a b : Nat} {f : Safety → Safety} (h : Kept s₀ s) (htest : s.inTest = true) (hf : ∀ x, (f x).state = x.state) :
    Kept s₀ ((s.readRails a b).onSaf f) :=
  have hst := state_of_inTest htest
  h.readRails.onSaf fun _ => secure_of_state (fun h => absurd ((hf _).symm.trans h) hst.1) (fun h => absurd ((hf _).symm.trans h) hst.2)

theorem execSwitchTestStep {a b : Nat} {inTime : Bool} (h : Kept s₀ s) : Keeps s₀ (execSwitchTestStep a b inTime s) := by
  refine next ?_
  dsimp only
  split
  · exact h.readRails
  · next htest =>
    have htest : s.inTest = true := by simpa using htest
    refine .ite h.readRails.testFailed ?_
    split
    · exact .ite (h.testStep htest fun _ => rfl) h.readRails
    · exact .ite (h.testStep htest fun _ => rfl) h.readRails
    · exact .ite h.readRails (.ite h.readRails.enterSto (h.testStep htest fun _ => rfl))
    · exact .ite (h.testStep htest fun _ => rfl) h.readRails
    · exact .ite h.readRails.testPassed h.readRails

theorem execSafeTestFail (h : Kept s₀ s) : Keeps s₀ (execSafeTestFail s) := (Kept.ite h.testFailed h).next

theorem execSafeTestOverdue (h : Kept s₀ s) : Keeps s₀ (execSafeTestOverdue s) := (Kept.ite h.raise.onSaf h).next

theorem execSafeTestGrace (h : Kept s₀ s) : Keeps s₀ (execSafeTestGrace s) := (Kept.ite h.raise.onSaf h).next

theorem ageTest (h : Kept s₀ s) : Kept s₀ s.ageTest := h.count

theorem islandReset (h : Kept s₀ s) : Kept s₀ s.islandReset := by
  unfold State.islandReset
  exact h.safetyMove.endHostTest.onSaf fun _ _ _ => ⟨rfl, rfl⟩

theorem execSafetyDiagnosticFail (h : Kept s₀ s) : Keeps s₀ (execSafetyDiagnosticFail d s) := by
  refine next ?_
  split
  · exact h.islandReset.onSaf
  · exact h.safetyFault.onSaf
  · exact h.safetyFault.onSaf
  · exact h.safetyFault

theorem safetyBoot (h : Kept s₀ s) : Kept s₀ (s.safetyBoot passed code) :=
  .ite h.safetyFault (.ite h.safetyMove (.ite h.safetyMove h.stoActive.safetyMove))

theorem startBootTest (h : Kept s₀ s) : Kept s₀ s.startBootTest := by
  unfold State.startBootTest
  split
  · next hboot => exact h.onSaf fun _ => secure_of_state (by simp [hboot.1]) (by simp [hboot.1])
  · exact h

theorem execVgdLockoutRelease (h : Kept s₀ s) : Keeps s₀ (execVgdLockoutRelease die s) :=
  (Kept.ite (h.onDie.each fun _ _ ht => ht.releaseBay).clearFault.startBootTest (h.onDie.each fun _ _ ht =>
    ht.releaseBay).clearFault).next

theorem execSafetyStatus (h : Kept s₀ s) : Keeps s₀ (execSafetyStatus r s) := (h.request fun _ _ ht => ht.answer).next

theorem execSafetyStopRequest (h : Kept s₀ s) : Keeps s₀ (execSafetyStopRequest r scope s) := by
  refine (h.request fun _ _ ht => ht.checked fun _ ht => ?_).next
  split
  · exact ht.startSs1.answer
  · exact ht.enterSto.answer
  all_goals exact ht.answer

end Kept
end Sys2Proof.Proofs
end

section
/-! PROOF. What the operations on snapshots, memories and parameters keep. -/

namespace Sys2Proof.Proofs
open Sys2Proof.Machine

namespace Kept
variable {s₀ s t : State}
variable {a b i k n new old place rank seg status w1c : Nat} {axis bay counter flags handle hb space sub : Byte}
variable {done flash held multi truncated : Bool} {address length w : Word} {kind slot : Fin 2} {x x' : Int} {bs bytes : List Byte}
variable {node : Fin 8} {report : FlashReport} {index : Half} {hd : Handle} {cmd : Instr} {entries : List (Half × Byte)}
variable {es : List WriteEntry} {value : Long} {m : MemoryKind} {o : Option Handle} {block : QuarryBlock} {c : QuarrySetup}
variable {r : Req} {f : Slot → Slot} {e : WriteEntry}

/-! ### Snapshots and packets (R54 to R88) -/

theorem patchSlot {f : List Byte → List Byte} (h : Kept s₀ s) : Kept s₀ (s.patchSlot f) := h.only rfl

theorem latchSnapshot (h : Kept s₀ s) : Kept s₀ s.latchSnapshot := h.only rfl

/-! ### Quarry (R424 to R442) -/

theorem errorSaturation (h : Kept s₀ s) : Kept s₀ (s.errorSaturation k old new) := .ite h.firstSaturation h

theorem countCorrected (h : Kept s₀ s) : Kept s₀ (s.countCorrected m) := h.set.errorSaturation

theorem countUncorrectable (h : Kept s₀ s) : Kept s₀ (s.countUncorrectable m n) := h.set.errorSaturation

theorem putHeader {r : Record} (h : Kept s₀ s) : Kept s₀ (s.putHeader c r done truncated) := h.dramWrite

theorem onQry {f : Quarry → Quarry} (h : Kept s₀ s) : Kept s₀ (s.onQry f) := h.only rfl

theorem quarryEvent {r : Record} (h : Kept s₀ s) : Kept s₀ (s.quarryEvent r held) := h.only rfl

theorem quarryArmOn (h : Kept s₀ s) : Kept s₀ (s.quarryArmOn c seg) := h.onQry.putHeader.setDev

theorem quarryRearm (h : Kept s₀ s) : Kept s₀ (s.quarryRearm c) := by
  unfold State.quarryRearm
  split
  · exact h.quarryArmOn
  · exact .ite h h.onQry.count.stick.raise

theorem closeRecord {r : Record} (h : Kept s₀ s) : Kept s₀ (s.closeRecord c r truncated) := h.putHeader.onQry.quarryEvent

theorem freeCurrent {r : Record} (h : Kept s₀ s) : Kept s₀ (s.freeCurrent r) := h.onQry.setDev

theorem quarryDormant (h : Kept s₀ s) : Kept s₀ s.quarryDormant := by
  unfold State.quarryDormant
  split
  · exact h.closeRecord
  · exact h

theorem quarryEvaluate {b : QuarryBlock} (h : Kept s₀ s) : Kept s₀ (s.quarryEvaluate b) := by
  unfold State.quarryEvaluate
  dsimp only
  split
  · split
    · exact h
    · exact .ite h.onQry.onQry h.onQry
  · split
    · exact h.onQry
    · exact h
  · exact h

theorem quarryGather {r : Record} (h : Kept s₀ s) : Kept s₀ (s.quarryGather c r) := .ite h.dramWrite.onQry h.onQry

theorem quarryFrame (h : Kept s₀ s) : Kept s₀ s.quarryFrame := by
  unfold State.quarryFrame
  split
  · exact .ite (.ite h h.quarryGather.quarryEvaluate.onQry) h
  · exact h

theorem quarryFault (h : Kept s₀ s) : Kept s₀ s.quarryFault := by
  unfold State.quarryFault
  split
  · exact .ite h.onQry h
  · exact h

theorem ignoreTrigger (h : Kept s₀ s) : Kept s₀ s.ignoreTrigger := h.count.stick

theorem anchor {r : Record} {x : Trigger} (h : Kept s₀ s) : Kept s₀ (s.anchor c r x) := by
  unfold State.anchor
  refine (Kept.putHeader ?_).quarryEvent
  split
  · exact h.onQry.patchSlot
  · exact h.onQry

theorem acceptTrigger {x : Trigger} (h : Kept s₀ s) : Kept s₀ (s.acceptTrigger x) := by
  unfold State.acceptTrigger
  split
  · exact .ite h (.ite (.ite h.ignoreTrigger h.anchor) (.ite (.ite h.anchor.onQry h.ignoreTrigger) h))
  · exact h

theorem execQuarryTrigger (h : Kept s₀ s) : Keeps s₀ (execQuarryTrigger s) := (h.onQry.each fun _ _ ht => ht.acceptTrigger).next

theorem execRingTrigger (h : Kept s₀ s) : Keeps s₀ (execRingTrigger node s) := by
  refine next ?_
  split
  · dsimp only
    split
    · exact h
    · exact .ite h h.acceptTrigger
  · exact h

theorem execQuarryRecordEnd (h : Kept s₀ s) : Keeps s₀ (execQuarryRecordEnd s) := by
  refine next ?_
  split
  · exact .ite (.ite h.closeRecord.quarryRearm h.closeRecord) h
  · exact h

theorem execQuarryRearm (h : Kept s₀ s) : Keeps s₀ (execQuarryRearm s) := by
  refine next ?_
  split
  · exact .ite h.quarryRearm h
  · exact h

theorem execQuarrySetup (h : Kept s₀ s) : Keeps s₀ (execQuarrySetup r block s) :=
  (h.request fun _ _ ht => ht.checked fun _ ht => ht.onQry.clearFault.answer).next

theorem quarryArm {flags : Byte} (h : Kept s₀ s) : Kept s₀ (s.quarryArm flags).1 := by
  unfold State.quarryArm
  split
  · split
    · split <;> dsimp only
      · exact h.closeRecord.onQry
      · exact h.freeCurrent.onQry
    · split <;> dsimp only
      · exact h
      · exact h.onQry.clearFault
  · split
    · exact h
    · split
      · split <;> dsimp only
        · exact h.onQry.quarryArmOn.clearFault
        · exact h
      · exact h

theorem execQuarryArm (h : Kept s₀ s) : Keeps s₀ (execQuarryArm r flags s) :=
  (h.request fun _ _ ht => ht.checked fun _ ht => ht.stageOr (fun _ ht => ht) (fun _ ht => ht.quarryArm.answer)).next

theorem execQuarryForce (h : Kept s₀ s) : Keeps s₀ (execQuarryForce r s) :=
  (h.request fun _ _ ht => .ite ht.answer (.ite ht.onQry.answer ht.refuse)).next

theorem execQuarryStatus (h : Kept s₀ s) : Keeps s₀ (execQuarryStatus r s) := (h.request fun _ _ ht => ht.answer).next

theorem quarryRelease (h : Kept s₀ s) : Kept s₀ (s.quarryRelease w) := .ite h.onQry.setDev h.onQry.setDev.clearFault

/-! ### The Template image (R294, R295) -/

theorem startSave (h : Kept s₀ s) : Kept s₀ s.startSave := h.dramWrite.set

theorem execTemplateSaveComplete (h : Kept s₀ s) : Keeps s₀ (execTemplateSaveComplete report s) :=
  (Kept.ite (.ite h.flashErase.set.flashProgram.clearFault.set.event h.flashErase.set.raise) h).next

theorem loadTemplate (h : Kept s₀ s) : Kept s₀ s.loadTemplate := by
  unfold State.loadTemplate
  split
  · exact h.set
  · exact h.set.raise

/-! ### Errors in the memories (R25) -/

theorem onSlot {k : Fin 8} (h : Kept s₀ s) : Kept s₀ (s.onSlot k f) := h.only rfl

theorem onImage (h : Kept s₀ s) : Kept s₀ (s.onImage kind slot f) := .ite h.set h.set

theorem flashCorrected (h : Kept s₀ s) : Kept s₀ (s.flashCorrected a) := by
  unfold State.flashCorrected
  dsimp only
  split
  · exact h.onImage.stick.raise
  · exact h.onSlot.stick.raise
  · exact h
  · exact h

theorem memoryEvent (h : Kept s₀ s) : Kept s₀ (s.memoryEvent place rank) := h.only rfl

theorem flashUncorrectable (h : Kept s₀ s) : Kept s₀ (s.flashUncorrectable a) := by
  unfold State.flashUncorrectable
  dsimp only
  split
  · exact h.set.onImage
  · exact .ite h.set.onSlot.raise h.set.onSlot
  · exact h.set.set.set.memoryEvent
  · exact h.set

theorem mortarUncorrectable (h : Kept s₀ s) : Kept s₀ (s.mortarUncorrectable a) := by
  unfold State.mortarUncorrectable
  refine .ite h.set.raise ?_
  dsimp only
  split
  · exact .ite h.raise.abortTxn h.raise.putTxn
  · exact h.raise

theorem dramUncorrectable (h : Kept s₀ s) : Kept s₀ (s.dramUncorrectable a) :=
  .ite h.set.stick.raise (.ite h.set.memoryEvent (.ite h.set.mortarUncorrectable (.ite (.ite h.set.startCopy h.set)
    (.ite h.set.set.memoryEvent h.set))))

theorem meetBad (h : Kept s₀ s) : Kept s₀ (s.meetBad flash a n) :=
  h.each fun _ _ ht => .ite ht.countUncorrectable.flashUncorrectable ht.countUncorrectable.dramUncorrectable

/-! ### The data port (R354 to R362) -/

theorem copyTable (h : Kept s₀ s) : Kept s₀ s.copyTable := by
  refine each (store h rfl rfl fun hs => ?_) fun _ _ ht => ht.dramWrite
  rw [canonical_iff] at hs ⊢
  exact ⟨hs.1, wf_filter _ hs.2.1, hs.2.2⟩

theorem portRead (h : Kept s₀ s) : Kept s₀ (s.portRead hd a n).1 := by
  unfold State.portRead
  dsimp only
  split
  · exact h
  · split <;> exact h.meetBad

theorem setHandle {i : Fin 8} (h : Kept s₀ s) : Kept s₀ (s.setHandle i o) := h.only rfl

theorem releaseHandles {k : Fin 8} (h : Kept s₀ s) : Kept s₀ (s.releaseHandles k) := h.only rfl

theorem endBursts (h : Kept s₀ s) : Kept s₀ s.endBursts := h.only rfl

theorem execDataOpen (h : Kept s₀ s) : Keeps s₀ (execDataOpen r space flags address length s) := by
  refine (h.requestRow fun _ _ ht => ht.checked fun _ ht => ?_).next
  split
  · exact (Kept.ite ht.copyTable ht).setHandle.answer
  · exact ht.refuse

theorem execDataRead {handle : Byte} {length : Half} (h : Kept s₀ s) : Keeps s₀ (execDataRead r handle length s) := by
  refine (h.request fun _ _ ht => ?_).next
  split
  · exact ht.refuse
  · refine ht.checked fun _ hu => ?_
    split
    · next hread => exact (hu.portRead.of_fst hread).setHandle.answer
    · next hread => exact (hu.portRead.of_fst hread).refuse

theorem execDataWrite (h : Kept s₀ s) : Keeps s₀ (execDataWrite r handle bytes s) := by
  refine (h.request fun _ _ ht => ?_).next
  split
  · exact ht.refuse
  · exact ht.checked fun _ ht => ht.dramWrite.setHandle.answer

theorem execDataClose {handle : Byte} (h : Kept s₀ s) : Keeps s₀ (execDataClose r handle s) := by
  refine (h.request fun _ _ ht => ?_).next
  split
  · exact ht.refuse
  · refine .ite ht.refuse ?_
    split
    · next hread => exact (ht.portRead.of_fst hread).setHandle.answer
    · next hread => exact (ht.portRead.of_fst hread).refuse

theorem frameError (h : Kept s₀ s) : Kept s₀ s.frameError := .ite h.count h.count.stick.raiseAgain

theorem onPins {f : SpiPins → SpiPins} (h : Kept s₀ s) : Kept s₀ (s.onPins f) := h.only rfl

theorem spiFrame {f : SpiFrame} {delay : Option Nat} {act : State → State} (h : Kept s₀ s)
    (hact : ∀ t, Kept s₀ t → Kept s₀ (act t)) : Kept s₀ (s.spiFrame f delay act) := by
  unfold State.spiFrame
  refine .ite h (.ite h.onPins.frameError ?_)
  split
  · exact hact _ h.onPins
  · exact hact _ h.set.onPins

theorem setBurst (h : Kept s₀ s) : Kept s₀ (s.setBurst status) := h.only rfl

theorem driveOut (h : Kept s₀ s) : Kept s₀ (s.driveOut bs) := h.only rfl

theorem execRawRead {f : SpiFrame} {handle : Byte} {length : Word} (h : Kept s₀ s) : Keeps s₀ (execRawRead f handle length s) := by
  refine (h.spiFrame fun _ ht => ?_).next
  dsimp only
  split
  · exact ht.setBurst.driveOut
  · split
    · next hread => exact (ht.onPins.portRead.of_fst hread).setBurst.driveOut
    · next hread =>
      have hu := ht.onPins.portRead.of_fst hread
      exact driveOut (.ite hu.setHandle.setBurst hu.setHandle)

theorem execRawWrite {f : SpiFrame} {handle : Byte} {length : Word} {bytes : List Byte} {crc : Word} (h : Kept s₀ s) :
    Keeps s₀ (execRawWrite f handle length bytes crc s) := by
  refine (h.spiFrame fun _ ht => ?_).next
  dsimp only
  split
  · exact ht.set.onPins.setBurst
  · exact .ite ht.set.onPins.onPins.dramWrite.setHandle.setBurst ht.set.onPins.onPins.dramWrite.set.count.stick.setBurst

/-! ### Parameter access (R69 to R73) -/

theorem overrideBlocked (h : Kept s₀ s) : Kept s₀ (s.overrideBlocked es n) := by
  unfold State.overrideBlocked
  split
  · exact .ite h.stick.raise h
  · exact h

theorem writeCarrier (h : Kept s₀ s) : Kept s₀ (s.writeCarrier b x) := h.each fun _ _ ht => ht.setPar.onBay

theorem writeLock {x : Nat} (h : Kept s₀ s) : Kept s₀ (s.writeLock x x') := (Kept.ite (.ite h h.onFio) h.onFio).setPar

theorem takeValue (h : Kept s₀ s) : Kept s₀ (s.takeValue i k x) :=
  .ite h.writeCarrier (.ite h.startSave (.ite h.setPar.presetCounter (.ite h.writeLock (.ite h.setPar.quarryRelease h.setPar))))

theorem clearBits (h : Kept s₀ s) : Kept s₀ (s.clearBits i k w1c x) := h.setPar

theorem applyEntry (h : Kept s₀ s) : Kept s₀ (s.applyEntry e) := by
  unfold State.applyEntry
  dsimp only
  split
  · exact h
  · split
    · exact h.clearBits
    · exact h.set
    · exact h.takeValue

theorem applyEntries (h : Kept s₀ s) : Kept s₀ (s.applyEntries es) := h.each fun _ _ ht => ht.applyEntry

theorem writeRequest (h : Kept s₀ s) : Kept s₀ (s.writeRequest multi r cmd es) := by
  unfold State.writeRequest
  refine h.request fun _ _ ht => .ite ht.refuse ?_
  split
  · exact ht.overrideBlocked.answer
  · exact ht.stageOr (fun _ ht => ht) (fun _ ht => .ite ht.applyEntries.set.answer
        (.ite ht.applyEntries.set.answer ht.applyEntries.answer))

theorem execParamRead (h : Kept s₀ s) : Keeps s₀ (execParamRead r index sub s) :=
  (h.request fun _ _ ht => .ite ht.refuse ht.answer).next

theorem execParamReadMulti (h : Kept s₀ s) : Keeps s₀ (execParamReadMulti r entries s) :=
  (h.request fun _ _ ht => .ite ht.refuse ht.answer).next

theorem execParamWrite (h : Kept s₀ s) : Keeps s₀ (execParamWrite r e s) := h.writeRequest.next

theorem execParamWriteMulti {entries : List WriteEntry} (h : Kept s₀ s) : Keeps s₀ (execParamWriteMulti r entries s) :=
  (h.writeRequest).next

theorem execStatusWordWrite (h : Kept s₀ s) : Keeps s₀ (execStatusWordWrite r e s) := h.writeRequest.next

theorem execTplSave (h : Kept s₀ s) : Keeps s₀ (execTplSave r value s) := h.writeRequest.next

theorem execQryRelease (h : Kept s₀ s) : Keeps s₀ (execQryRelease r value s) := h.writeRequest.next

theorem execCntPreset (h : Kept s₀ s) : Keeps s₀ (execCntPreset r counter value s) := h.writeRequest.next

theorem execGateOverride (h : Kept s₀ s) : Keeps s₀ (execGateOverride r hb value s) := h.writeRequest.next

theorem execCarrierWrite (h : Kept s₀ s) : Keeps s₀ (execCarrierWrite r bay value s) := h.writeRequest.next

theorem execBankSwap (h : Kept s₀ s) : Keeps s₀ (execBankSwap r axis value s) := h.writeRequest.next

end Kept
end Sys2Proof.Proofs
end

section
/-! PROOF. What the operations on configuration sets, images and sessions keep. -/

namespace Sys2Proof.Proofs
open Sys2Proof.Machine

namespace Kept
variable {s₀ s t : State}
variable {area code detail generation length offset opcode status : Nat} {axes classes client from_ sections : Word}
variable {flags image max : Byte} {k n slot : Fin 8} {bs bytes fields : List Byte} {commanded ok : Bool} {keepalive period : Half}
variable {e : Entry} {kind : Fin 2} {q : Fin 5} {op : FlashOp} {report : FlashReport} {l : List (List Byte)}
variable {f : List OutPacket → List OutPacket} {events : List Word} {o : Option (Fin 8)} {trial : Option Nat} {p : OutPacket}
variable {rk : RecordKind} {r : Req} {role : Role}

/-! ### Configuration sets (R456 to R466) -/

theorem appendRecord (h : Kept s₀ s) : Kept s₀ (s.appendRecord area bs) := by
  unfold State.appendRecord
  split
  · exact h.flashProgram
  · exact h

theorem recordSlot {kind : RecordKind} (h : Kept s₀ s) : Kept s₀ (s.recordSlot k kind generation) := h.appendRecord.onSlot

theorem recordImage {slot : Fin 2} (h : Kept s₀ s) : Kept s₀ (s.recordImage kind slot rk generation) := h.appendRecord.onImage

theorem configEvent (h : Kept s₀ s) : Kept s₀ (s.configEvent k detail) := h.only rfl

theorem storeKey {k : List Byte} (h : Kept s₀ s) : Kept s₀ (s.storeKey k) := .ite h.set h.set

theorem storeKeys (h : Kept s₀ s) : Kept s₀ (s.storeKeys l) := .ite h (h.each fun _ _ ht => ht.storeKey).flashErase.flashProgram

theorem applySet (h : Kept s₀ s) : Kept s₀ (s.applySet o) :=
  (h.each fun _ _ ht => .ite ht.takeValue ht.setPar).each fun _ _ ht => .ite ht.takeValue ht

theorem loadSafetyValues (h : Kept s₀ s) : Kept s₀ (s.loadSafetyValues bs) :=
  (h.each fun _ _ ht => ht.setPar).setDev.clearFault.onSaf.leaveLocked

theorem loadSafetySet (h : Kept s₀ s) : Kept s₀ (s.loadSafetySet bs) := by
  unfold State.loadSafetySet
  dsimp only
  exact h.flashErase.flashProgram.set.loadSafetyValues

theorem startFlash (h : Kept s₀ s) : Kept s₀ (s.startFlash r slot code op offset length) := h.only rfl

theorem stagedBytes {offset length : Nat} (h : Kept s₀ s) : Kept s₀ (s.stagedBytes offset length).2 := h.meetBad

theorem execCfgStage {slot : Byte} {offset length : Word} (h : Kept s₀ s) : Keeps s₀ (execCfgStage r slot offset length s) := by
  refine (h.request fun _ _ ht => ht.checked fun _ hu => ?_).next
  split
  · next hread => exact (hu.stagedBytes.of_snd hread).refuse
  · next hread =>
    have hv := hu.stagedBytes.of_snd hread
    split
    · exact hv.refuse
    · exact hv.startFlash

theorem becomeActive (h : Kept s₀ s) : Kept s₀ (s.becomeActive k trial) := h.recordSlot.configEvent.set

theorem execCfgActivate {slot : Byte} {trial : Half} (h : Kept s₀ s) : Keeps s₀ (execCfgActivate r slot flags trial s) :=
  (h.request fun _ _ ht => ht.checked fun _ ht => .ite ht.set.answer ht.applySet.becomeActive.answer).next

theorem imageEvent {slot : Fin 2} (h : Kept s₀ s) : Kept s₀ (s.imageEvent kind slot detail) := h.only rfl

theorem confirmImage (h : Kept s₀ s) : Kept s₀ (s.confirmImage kind).1 := by
  unfold State.confirmImage
  dsimp only
  split
  · exact h
  · exact h.recordImage.imageEvent

theorem confirmSlot (h : Kept s₀ s) : Kept s₀ (s.confirmSlot n).1 := by
  unfold State.confirmSlot
  dsimp only
  split
  · exact h.recordSlot.configEvent.set
  · split <;> exact h

theorem execCfgConfirm {slot : Byte} (h : Kept s₀ s) : Keeps s₀ (execCfgConfirm r slot s) := by
  refine (h.request fun _ _ ht => ?_).next
  dsimp only
  split
  · exact ht.confirmImage.answer
  · split
    · exact ht.confirmImage.answer
    · split
      · exact ht.confirmSlot.answer
      · exact ht.answer

theorem landRollback (h : Kept s₀ s) : Kept s₀ s.landRollback := h.applySet.set

theorem rollBack (h : Kept s₀ s) : Kept s₀ (s.rollBack commanded) := by
  unfold State.rollBack
  refine .ite (Kept.set ?_).set (Kept.set ?_).landRollback
  · split
    · refine Kept.recordSlot ?_
      split
      · exact h.recordSlot.configEvent
      · exact h
    · split
      · exact h.recordSlot.configEvent
      · exact h
  · split
    · refine Kept.recordSlot ?_
      split
      · exact h.recordSlot.configEvent
      · exact h
    · split
      · exact h.recordSlot.configEvent
      · exact h

theorem execCfgRollback (h : Kept s₀ s) : Keeps s₀ (execCfgRollback r s) :=
  (h.request fun _ _ ht => .ite ht.answer (ht.checked fun _ ht => .ite ht.rollBack.set.answer ht.rollBack.answer)).next

theorem execTrialExpiry (h : Kept s₀ s) : Keeps s₀ (execTrialExpiry s) := (Kept.ite h.rollBack.raise.stick h).next

/-! ### Images and safety sets (R466, R467, R318, R319) -/

theorem execFwStage {image : Byte} {offset length : Word} (h : Kept s₀ s) : Keeps s₀ (execFwStage r image offset length s) := by
  refine (h.request fun _ _ ht => ht.checked fun _ hu => ?_).next
  split
  · next hread => exact (hu.stagedBytes.of_snd hread).refuse
  · next hread =>
    have hv := hu.stagedBytes.of_snd hread
    exact .ite hv.refuse (.ite hv.refuse hv.startFlash)

theorem execFwActivate (h : Kept s₀ s) : Keeps s₀ (execFwActivate r image s) :=
  (h.request fun _ _ ht => ht.checked fun _ ht => (ht.each fun _ _ ht => ht.recordImage.imageEvent).answer).next

theorem execSafetySetLoad {offset length : Word} (h : Kept s₀ s) : Keeps s₀ (execSafetySetLoad r offset length s) :=
  (h.request fun _ _ ht => ht.checked fun _ ht => ht.onSaf.set.answer).next

theorem execSafetySetCheckDone (h : Kept s₀ s) : Keeps s₀ (execSafetySetCheckDone s) := by
  refine next ?_
  split
  · have ht : Kept s₀ { s.onSaf (fun x => { x with setChecking := none }) with cfg := { s.cfg with flashRange := none } } := set h.onSaf
    dsimp only
    split
    · next hread => exact (ht.stagedBytes.of_snd hread).complete
    · next hread =>
      have hu := ht.stagedBytes.of_snd hread
      split
      · exact hu.complete
      · exact hu.onSaf.complete
  · exact h

theorem endFlash (h : Kept s₀ s) : Kept s₀ (s.endFlash status) := by
  unfold State.endFlash
  dsimp only
  split
  · exact h.set.complete
  · exact h.set

theorem setStaged (h : Kept s₀ s) : Kept s₀ (s.setStaged k bs ok) :=
  .ite h.flashErase.flashProgram.onSlot.recordSlot.clearFault.clearFault.configEvent
    h.flashErase.flashProgram.onSlot.recordSlot.clearFault.clearFault.raise

theorem imageStaged {slot : Fin 2} {ok : Bool} (h : Kept s₀ s) : Kept s₀ (s.imageStaged kind slot bs ok) := by
  unfold State.imageStaged
  extract_lets t t₁ t₂
  have ht₁ : Kept s₀ t₁ := h.flashErase.flashProgram.onImage.recordImage
  have ht₂ : Kept s₀ t₂ := .ite ht₁ ht₁.clearFault
  exact .ite ht₂.imageEvent ht₂

theorem execFlashOpComplete (h : Kept s₀ s) : Keeps s₀ (execFlashOpComplete report s) := by
  refine next ?_
  dsimp only
  split
  · exact h.setStaged.endFlash
  · exact h.imageStaged.endFlash
  · exact h
  · exact h

/-! ### Sessions (R60 to R80) -/

theorem onOut (h : Kept s₀ s) : Kept s₀ (s.onOut q f) := h.only rfl

theorem send (h : Kept s₀ s) : Kept s₀ (s.send p) := .ite h.set h.onOut

theorem admitLate (h : Kept s₀ s) : Kept s₀ s.admitLate := by
  unfold State.admitLate
  split
  · exact h
  · exact .ite h h.set.onOut

theorem sendNow (h : Kept s₀ s) : Kept s₀ (s.sendNow r opcode status fields) := h.send

theorem push (h : Kept s₀ s) : Kept s₀ (s.push k opcode fields events) := by
  unfold State.push
  split
  · exact h
  · exact .ite h.onSession.count h.onSession.send

theorem pushEntry (h : Kept s₀ s) : Kept s₀ (s.pushEntry e) := by
  unfold State.pushEntry
  refine h.each fun _ _ ht => ?_
  split
  · exact .ite ht.push ht
  · exact ht

theorem execStatusPush (h : Kept s₀ s) : Keeps s₀ (execStatusPush slot s) := by
  refine next ?_
  split
  · exact .ite h.onSession.push h
  · exact h

theorem sessionEvent (h : Kept s₀ s) : Kept s₀ (s.sessionEvent k detail client role) := h.only rfl

theorem endSession (h : Kept s₀ s) : Kept s₀ (s.endSession k detail) := by
  unfold State.endSession
  split
  · exact h
  · exact h.abortOpen.releaseRecords.releaseHandles.set.sessionEvent

theorem execSessionExpiry (h : Kept s₀ s) : Keeps s₀ (execSessionExpiry slot s) := by
  refine next ?_
  split
  · exact .ite (.ite h.endSession.stick.raiseWith h.endSession) h
  · exact h

theorem takeOver (h : Kept s₀ s) : Kept s₀ (s.takeOver k) := by
  unfold State.takeOver
  dsimp only
  split
  · exact h.set.abortOpen.onSession.sessionEvent
  · exact h.set.abortOpen.onSession

theorem openSession {opener : List Byte} {role flags : Byte} {keepalive : Half} {client : Word} (h : Kept s₀ s) :
    Kept s₀ (s.openSession opener r role flags keepalive client) := by
  unfold State.openSession
  dsimp only
  split
  · exact h.onSession.send
  · split
    · exact h.sendNow
    · split
      · exact h.sendNow
      · refine (Kept.set ?_).sessionEvent.send
        split
        · refine .ite (takeOver ?_) ?_ <;> split
          · exact h.endSession
          · exact h
          · exact h.endSession
          · exact h
        · split
          · exact h.endSession
          · exact h

theorem execSessionOpen {role : Byte} (h : Kept s₀ s) : Keeps s₀ (execSessionOpen r role flags keepalive client s) :=
  (h.openSession).next

theorem execSessionClose (h : Kept s₀ s) : Keeps s₀ (execSessionClose r s) := (h.request fun _ _ ht => ht.answer.endSession).next

theorem execPing (h : Kept s₀ s) : Keeps s₀ (execPing r bytes s) := h.sendNow.next

theorem execIdentify (h : Kept s₀ s) : Keeps s₀ (execIdentify r s) := h.sendNow.next

theorem execSnapshot (h : Kept s₀ s) : Keeps s₀ (execSnapshot r sections s) :=
  (h.request fun _ _ ht => ht.checked fun _ ht => ht.answer).next

theorem execStatusAxes (h : Kept s₀ s) : Keeps s₀ (execStatusAxes r axes s) :=
  (h.request fun _ _ ht => ht.checked fun _ ht => ht.answer).next

theorem execEventRead (h : Kept s₀ s) : Keeps s₀ (execEventRead r from_ max s) :=
  (h.request fun _ _ ht => ht.checked fun _ ht => ht.answer).next

theorem execSubscribe (h : Kept s₀ s) : Keeps s₀ (execSubscribe r classes period axes s) :=
  (h.request fun _ _ ht => ht.checked fun _ ht => ht.onSession.answer).next

end Kept
end Sys2Proof.Proofs
end

section
/-! PROOF. What the operations of ring transactions and of the link keep. -/

namespace Sys2Proof.Proofs
open Sys2Proof.Machine

namespace Kept
variable {s₀ s t : State}
variable {code interval loop n number residence roundTrip : Nat} {epoch flags master ports y : Byte} {index p port : Fin 2}
variable {k node slot : Fin 8} {a b c : Long} {bad running : Bool} {tag timeout : Half} {block bytes : List Byte}
variable {echo : EchoReport} {r : Req} {f : Ring → Ring} {txn : Txn} {frame : Word}

/-! ### Committing a transaction (R95 to R103) -/

theorem publish (h : Kept s₀ s) : Kept s₀ (s.publish a b bytes) := h.only rfl

theorem relatchFields (h : Kept s₀ s) : Kept s₀ s.relatchFields := h.only rfl

theorem execTxnBegin (h : Kept s₀ s) : Keeps s₀ (execTxnBegin r flags timeout s) := (h.request fun _ _ ht => ht.beginTxn).next

theorem commitLocal (h : Kept s₀ s) : Kept s₀ (s.commitLocal r txn c) := h.only rfl

theorem prepare (h : Kept s₀ s) : Kept s₀ (s.prepare r txn c) := h.putTxn.publish.publish.relatchFields.answer

theorem execTxnCommitAt (h : Kept s₀ s) : Keeps s₀ (execTxnCommitAt r flags frame s) := by
  refine (h.request fun _ _ ht => ?_).next
  split
  · exact ht.refuse
  · split
    · exact ht.refuse
    · exact ht.checked fun _ ht => .ite ht.prepare ht.commitLocal

theorem execPrepareReceived (h : Kept s₀ s) : Keeps s₀ (execPrepareReceived node index s) := by
  refine next ?_
  split
  · exact h
  · refine .ite h ?_
    dsimp only
    split
    · exact h.publish
    · exact .ite h.putTxn.publish (Kept.ite h.endTxn h).publish

theorem execCommitDecision (h : Kept s₀ s) : Keeps s₀ (execCommitDecision slot tag s) := by
  refine next ?_
  split
  · exact h
  · exact .ite h (Kept.ite h.putTxn (Kept.ite h.endTxn.set h.endTxn.set.putTxn).set).publish

theorem execDecisionReceived (h : Kept s₀ s) : Keeps s₀ (execDecisionReceived node index s) := by
  refine next ?_
  split
  · exact h
  · split
    · exact h
    · exact .ite h (Kept.ite h.putTxn h.endTxn).publish

theorem isolate (h : Kept s₀ s) : Kept s₀ (s.isolate txn) := h.endTxn.set.count.stick.raise

theorem gatherAcks (h : Kept s₀ s) : Kept s₀ s.gatherAcks := h.only rfl

/-! ### The link (R365 to R391) -/

theorem onRing (h : Kept s₀ s) : Kept s₀ (s.onRing f) := h.only rfl

theorem onPort {f : RingPort → RingPort} (h : Kept s₀ s) : Kept s₀ (s.onPort p f) := h.only rfl

theorem onTb {f : Timebase → Timebase} (h : Kept s₀ s) : Kept s₀ (s.onTb f) := h.only rfl

theorem portFault (h : Kept s₀ s) : Kept s₀ (s.portFault code p) := h.raiseWith

theorem raiseIf (h : Kept s₀ s) : Kept s₀ (s.raiseIf bad code) := .ite h.raise h.clearFault

theorem portFaultIf (h : Kept s₀ s) : Kept s₀ (s.portFaultIf bad code p) := .ite h.portFault h.clearFault

theorem checkLoop (h : Kept s₀ s) : Kept s₀ (s.checkLoop loop) := .ite h.setPar.stick.raise h.setPar.clearFault

theorem retrained (h : Kept s₀ s) : Kept s₀ (s.retrained ports) := by
  unfold State.retrained
  split
  · exact .ite h.onRing.complete h
  · exact h

theorem portInService (h : Kept s₀ s) : Kept s₀ (s.portInService p) := (Kept.ite h.onPort h.onPort.clearFault).clearFault.retrained

theorem learnWrap (h : Kept s₀ s) : Kept s₀ s.learnWrap := .ite h.onRing h.onRing.onRing.count

theorem endPortAt (h : Kept s₀ s) : Kept s₀ (s.endPortAt p) := h.onPort.learnWrap

theorem linkDown (h : Kept s₀ s) : Kept s₀ (s.linkDown p) := by
  unfold State.linkDown
  split
  · exact h.endPortAt.onPort.portFault
  · exact h.endPortAt.onPort.portFault
  · exact h

theorem execRingStatus (h : Kept s₀ s) : Keeps s₀ (execRingStatus r s) := (h.request fun _ _ ht => ht.answer).next

theorem execRingTopology (h : Kept s₀ s) : Keeps s₀ (execRingTopology r s) := (h.request fun _ _ ht => ht.answer).next

theorem execRingRetrain (h : Kept s₀ s) : Keeps s₀ (execRingRetrain r ports s) :=
  (h.request fun _ _ ht => ht.checked fun _ ht => ht.onRing.answer).next

theorem execRetrainTimeout (h : Kept s₀ s) : Keeps s₀ (execRetrainTimeout s) := by
  refine next ?_
  split
  · exact .ite h.onRing.complete h
  · exact h

theorem damaged (h : Kept s₀ s) : Kept s₀ (s.damaged p) := h.only rfl

theorem codeErrors (h : Kept s₀ s) : Kept s₀ (s.codeErrors n) := h.countN

theorem detach (h : Kept s₀ s) : Kept s₀ s.detach := (Kept.ite h.onRing.onTb h.onRing.onTb.raise).raise

theorem followMaster {frame : Byte} (h : Kept s₀ s) : Kept s₀ (s.followMaster master epoch frame) :=
  .ite h (.ite (.ite h.onRing.clearFault h.onRing.clearFault.count) (Kept.ite h.onRing.clearFault h.onRing.clearFault.count).detach)

theorem sendJoin (h : Kept s₀ s) : Kept s₀ s.sendJoin := h.only rfl

theorem originate (h : Kept s₀ s) : Kept s₀ s.originate := h.only rfl

theorem relink (h : Kept s₀ s) : Kept s₀ s.relink := h.patchSlot.originate

theorem forwardTick (h : Kept s₀ s) : Kept s₀ (s.forwardTick port block number residence) := .ite h.onPort.onRing h

theorem hearTick (h : Kept s₀ s) : Kept s₀ (s.hearTick port block number) := h.only rfl

theorem execTickSymbolReceived {residence errors : Nat} (h : Kept s₀ s) :
    Keeps s₀ (execTickSymbolReceived port block number residence errors s) := by
  refine next (.ite h.codeErrors.damaged (.ite h.codeErrors.hearTick ?_))
  extract_lets state master t t₁ t₂ t₃ path up t₄ other e inTime
  have ht₁ : Kept s₀ t₁ := forwardTick (.ite h.codeErrors.onPort.learnWrap h.codeErrors.onPort)
  have ht₄ : Kept s₀ t₄ := ht₁.followMaster.onRing.onPort
  exact .ite ht₁ (.ite ht₄.onTb ht₄)

theorem execHoldover (h : Kept s₀ s) : Keeps s₀ (execHoldover s) := (Kept.ite h.onTb.raise h).next

theorem execTbPhaseAlarm (h : Kept s₀ s) : Keeps s₀ (execTbPhaseAlarm s) := (Kept.ite h.raise h).next

theorem becomeMaster (h : Kept s₀ s) : Kept s₀ (s.becomeMaster epoch) := h.onRing.onTb.clearFault.clearFault

theorem execMasterLost (h : Kept s₀ s) : Keeps s₀ (execMasterLost s) := (Kept.ite h (.ite h.raise h.raise.onTb)).next

theorem succeed (h : Kept s₀ s) : Kept s₀ s.succeed := .ite (.ite h.onTb.becomeMaster.count.raise h.onTb) h

theorem execRingLinkDown (h : Kept s₀ s) : Keeps s₀ (execRingLinkDown port s) := by
  refine next ?_
  split
  · exact h.onPort
  · exact h.onPort
  · exact h

theorem echoed (h : Kept s₀ s) : Kept s₀ (s.echoed p interval) := h.only rfl

theorem throughEcho (h : Kept s₀ s) : Kept s₀ (s.throughEcho interval y) := by
  unfold State.throughEcho
  dsimp only
  split
  · exact h.echoed.onPort.onPort.onPort
  · exact h.echoed.onPort.onPort

theorem execEchoExchange (h : Kept s₀ s) : Keeps s₀ (execEchoExchange port roundTrip echo s) := by
  refine next ?_
  dsimp only
  split
  · exact h.codeErrors.echoed
  · exact h.codeErrors.echoed
  · exact h.codeErrors.echoed
  · exact .ite h.codeErrors.throughEcho h.codeErrors
  · exact h.codeErrors

theorem execTrainingComplete {train : TrainReport} {errors : Nat} (h : Kept s₀ s) :
    Keeps s₀ (execTrainingComplete port train errors s) := by
  refine next (.ite h.codeErrors ?_)
  extract_lets foreign other t t₁ loop t₂
  have ht₁ : Kept s₀ t₁ := .ite h.codeErrors.portFaultIf.stick.portFault h.codeErrors.portFaultIf.clearFault
  exact .ite ht₁ (.ite ht₁.checkLoop ht₁.checkLoop.onPort)

theorem execRingTrainFail (h : Kept s₀ s) : Keeps s₀ (execRingTrainFail port s) := (Kept.ite h.onPort.portFault h).next

theorem execUnwrap (h : Kept s₀ s) : Keeps s₀ (execUnwrap s) := by
  refine next ?_
  split
  · exact .ite (h.each fun _ _ ht => .ite ht.portInService ht).onRing.relink h
  · exact h

theorem execRetrainAtFrame (h : Kept s₀ s) : Keeps s₀ (execRetrainAtFrame port s) := by
  refine next ?_
  split
  · exact .ite h.endPortAt.relink h
  · exact h

theorem fillPair (h : Kept s₀ s) : Kept s₀ (s.fillPair k) := h.only rfl

theorem execJoinReceived {node : Byte} {item : JoinReport} (h : Kept s₀ s) : Keeps s₀ (execJoinReceived port node item s) := by
  refine next (.ite h.codeErrors (.ite h.codeErrors.stick.portFault ?_))
  extract_lets inside t t₁
  have ht₁ : Kept s₀ t₁ := .ite h.codeErrors.onPort.fillPair h.codeErrors.onPort
  exact .ite ht₁.portInService ht₁

theorem masterHears {b : List Byte} (h : Kept s₀ s) : Kept s₀ (s.masterHears k b) := by
  unfold State.masterHears
  refine .ite h ?_
  split
  · exact .ite h.onRing h
  · exact .ite h h.onRing

theorem execStateSlotReceived {node : Fin 8} {slot : List Byte} {errors : Nat} (h : Kept s₀ s) :
    Keeps s₀ (execStateSlotReceived port node slot errors s) := by
  refine next (.ite h.codeErrors.damaged (.ite h.codeErrors.onRing (.ite h.codeErrors ?_)))
  extract_lets back joins ends t t₁ t₂ t₃ t₄
  have ht₁ : Kept s₀ t₁ := .ite h.codeErrors.onRing.fillPair h.codeErrors.onRing
  have ht₂ : Kept s₀ t₂ := .ite ht₁.learnWrap ht₁
  have ht₃ : Kept s₀ t₃ := .ite ht₂.detach ht₂
  have ht₄ : Kept s₀ t₄ := .ite ht₃.raise ht₃
  exact ht₄.masterHears

theorem execCreditReturn (h : Kept s₀ s) : Keeps s₀ (execCreditReturn node s) := (Kept.ite h h.onRing).next

theorem execRingListenAcquired {report : ListenReport} (h : Kept s₀ s) : Keeps s₀ (execRingListenAcquired report s) := by
  refine next (.ite h ?_)
  extract_lets t t₁ t₂ t₃
  have ht₁ : Kept s₀ t₁ := .ite h.codeErrors.raiseIf.raise h.codeErrors.raiseIf
  have ht₃ : Kept s₀ t₃ := ht₁.checkLoop.onRing
  exact .ite ht₃.onRing ht₃

theorem opened (h : Kept s₀ s) : Kept s₀ (s.opened running) := h.onRing.onTb.clearFault.retrained

theorem execJoin (h : Kept s₀ s) : Keeps s₀ (execJoin s) := by
  refine next ?_
  split
  · exact h
  · exact .ite h h.opened.sendJoin

theorem execRingStart (h : Kept s₀ s) : Keeps s₀ (execRingStart s) :=
  (Kept.ite h (.ite h.opened.becomeMaster.sendJoin.raise h.opened.becomeMaster.sendJoin)).next

theorem execInsertionWindowAnnounce (h : Kept s₀ s) : Keeps s₀ (execInsertionWindowAnnounce s) := (Kept.ite h.onRing h).next

theorem leaveRing (h : Kept s₀ s) : Kept s₀ s.leaveRing := by
  unfold State.leaveRing
  exact (h.each fun _ _ ht => ht.clearFault).onRing.onTb

theorem phaseCorrection (h : Kept s₀ s) : Kept s₀ s.phaseCorrection := by
  unfold State.phaseCorrection
  refine .ite (.ite h.onTb.clearFault h.onTb) ?_
  dsimp only
  split
  · exact .ite h.onTb.onRing.clearFault.clearFault h.onTb.onRing.clearFault
  · exact h.onTb

theorem deliverSlots (h : Kept s₀ s) : Kept s₀ s.deliverSlots :=
  (Kept.ite h.countN.stick.raise h).onRing.each fun _ _ ht => .ite ht.linkDown ht

theorem masterAnnounces (h : Kept s₀ s) : Kept s₀ s.masterAnnounces :=
  .ite h.onRing (.ite h.onRing.onRing (.ite h.onRing.onRing h.onRing))

theorem measureLoop (h : Kept s₀ s) : Kept s₀ s.measureLoop := .ite (.ite h.setPar.clearFault h.setPar) h

theorem ringTick (h : Kept s₀ s) : Kept s₀ s.ringTick := by
  unfold State.ringTick
  refine (Kept.originate ?_).each fun _ _ ht => ht.onPort
  split
  · exact .ite (Kept.ite h.deliverSlots.onRing.masterAnnounces.measureLoop
        h.deliverSlots.onRing.masterAnnounces.measureLoop.clearFault).leaveRing
        (.ite h.deliverSlots.onRing.masterAnnounces.measureLoop h.deliverSlots.onRing.masterAnnounces.measureLoop.clearFault)
  · exact .ite h.deliverSlots.onRing.masterAnnounces.measureLoop h.deliverSlots.onRing.masterAnnounces.measureLoop.clearFault

end Kept
end Sys2Proof.Proofs
end

section
/-! PROOF. What the operations on modes, boot, the debug port and FAULT_CLEAR keep. -/

namespace Sys2Proof.Proofs
open Sys2Proof.Machine

namespace Kept
variable {s₀ s t : State}
variable {a address before cause code errors mv n src status test : Nat}
variable {bit fellBack flash passed present rolledBack testsOk : Bool} {die kind lane slot : Fin 2} {bs dr token : List Byte}
variable {inst mode : Byte} {latency tests : Word} {f : Active} {c : ClearCount} {op : CoreOp} {e : Entry} {row : FaultRow}
variable {b : Fin 16} {hb : Fin 48} {mask : Half} {m : Mode} {r : Req} {source : WakeSource}

/-! ### The modes (R443 to R455) -/

theorem onPower {f : Power → Power} (h : Kept s₀ s) : Kept s₀ (s.onPower f) := h.only rfl

theorem setMode (h : Kept s₀ s) : Kept s₀ (s.setMode m) := (Kept.ite (h.each fun _ _ ht => ht.endTeach) h).onPower.event

theorem wakeDormant (h : Kept s₀ s) : Kept s₀ (s.wakeDormant cause) :=
  .ite (.ite h.setMode.onPower.count.onTb.onRing.set.startBootTest h.setMode.onPower.count.onTb.onRing.set)
    h.setMode.onPower.count.onTb.onRing.set.safetyBoot

theorem execModeSet (h : Kept s₀ s) : Keeps s₀ (execModeSet r mode s) := by
  refine (h.request fun _ _ ht => ?_).next
  split
  · exact ht.refuse
  · refine .ite ht.answer (.ite ht.answer ?_)
    split
    · exact ht.answer
    · refine .ite (.ite ht.wakeDormant.answer ht.wakeDormant.onPower.answer) ?_
      dsimp only
      exact .ite ht.onPower.answer ht.onPower.answer

theorem execLatencySet (h : Kept s₀ s) : Keeps s₀ (execLatencySet r latency s) := (h.request fun _ _ ht => ht.setDev.answer).next

theorem execModeStatus (h : Kept s₀ s) : Keeps s₀ (execModeStatus r s) := (h.request fun _ _ ht => ht.answer).next

theorem retypePairs (h : Kept s₀ s) : Kept s₀ (s.retypePairs before) :=
  h.each fun _ _ ht => .ite ht (.ite ht.onAx.onAx.writeCarrier ht.onAx.onAx)

theorem valuesChanged {before : State} (h : Kept s₀ s) : Kept s₀ (s.valuesChanged before) := by
  unfold State.valuesChanged
  extract_lets t t₁ t₂
  have ht₁ : Kept s₀ t₁ := h.retypePairs.each fun _ _ hu => .ite hu.invalidateTable hu
  have ht₂ : Kept s₀ t₂ := .ite ht₁ ht₁.leaveRing
  exact ht₂.configureCounters.configureCan.configureCan

theorem leaveService (h : Kept s₀ s) : Kept s₀ s.leaveService := by
  unfold State.leaveService
  extract_lets t t₁ t₂ t₃ t₄ t₅ t₆
  have ht : Kept s₀ t := by
    dsimp only [t]
    split
    · split
      · exact .ite h.applySet.becomeActive.storeKeys.loadSafetySet h.applySet.becomeActive.storeKeys
      · exact h.applySet.becomeActive.storeKeys
    · exact h
  have ht₂ : Kept s₀ t₂ := by
    dsimp only [t₂]
    split
    · exact (ht.each fun _ _ hu => hu.takeValue).loadSafetySet
    · exact ht.each fun _ _ hu => hu.takeValue
  have ht₆ : Kept s₀ t₆ :=
    ((ht₂.each fun _ _ hu => hu.setPar).valuesChanged.each fun _ _ hu => hu.complete).each fun _ _ hu => hu.complete
  exact (ht₆.onSaf (f := fun x => { x with setAccepted := none })).set

theorem endTransition (h : Kept s₀ s) : Kept s₀ (s.endTransition status) := by
  unfold State.endTransition
  dsimp only
  split
  · exact h.onPower.complete
  · exact h.onPower

theorem execModeTransitionComplete (h : Kept s₀ s) : Keeps s₀ (execModeTransitionComplete s) := by
  refine next ?_
  split
  · exact h
  · refine .ite h ?_
    split
    · exact .ite h.leaveService.setMode.endTransition h.leaveService.setMode.onPower
    · exact .ite (.ite h.endTransition h.setMode.endTransition) (.ite h.endTransition
          (.ite h.setMode.endTransition h.setMode.onPower))
    · exact .ite (.ite h.endTransition h.setMode.endTransition) (.ite h.endTransition
          (.ite h.setMode.endTransition h.setMode.onPower))
    · refine .ite h (.ite h.setMode.endTransition (.ite h.endTransition ?_))
      split
      · exact h.endTransition
      · exact h.setMode.endTransition
    · exact h
    · exact h

theorem execRollbackApply (h : Kept s₀ s) : Keeps s₀ (execRollbackApply s) := by
  refine next (.ite h ?_)
  dsimp only
  split
  · refine (Kept.set ?_).complete
    split
    · exact (Kept.ite h.landRollback.valuesChanged.enterSto h.landRollback.valuesChanged).loadSafetySet
    · exact .ite h.landRollback.valuesChanged.enterSto h.landRollback.valuesChanged
  · split
    · exact (Kept.ite h.landRollback.valuesChanged.enterSto h.landRollback.valuesChanged).loadSafetySet
    · exact .ite h.landRollback.valuesChanged.enterSto h.landRollback.valuesChanged

theorem flashEntry (h : Kept s₀ s) : Kept s₀ (s.flashEntry e) := (Kept.ite h.flashErase h).flashProgram

theorem flushLog (h : Kept s₀ s) : Kept s₀ s.flushLog := (h.each fun _ _ ht => ht.flashEntry).set

theorem execEventFlashProgram (h : Kept s₀ s) : Keeps s₀ (execEventFlashProgram s) := h.flushLog.next

theorem safetySleep (h : Kept s₀ s) : Kept s₀ s.safetySleep := h.islandReset

theorem lockDebug (h : Kept s₀ s) : Kept s₀ s.lockDebug := h.set.clearFault

theorem execIdleDescent (h : Kept s₀ s) : Keeps s₀ (execIdleDescent s) := (Kept.ite h.onPower h).next

theorem execDormantEntry (h : Kept s₀ s) : Keeps s₀ (execDormantEntry s) :=
  (Kept.ite h (Kept.ite (h.quarryDormant.safetySleep.lockDebug.each fun _ _ ht => ht.bayOff).leaveRing
    (h.quarryDormant.safetySleep.lockDebug.each fun _ _ ht => ht.bayOff)).endTransition.setMode.onTb.flushLog).next

theorem survive (h : Kept s₀ s) : Kept s₀ s.survive := by
  have hboot : s.survive.saf.state = .boot := rfl
  refine ⟨h.queue, fun hs => ?_, fun _ => secure_of_state (by simp [hboot]) (by simp [hboot])⟩
  have hcanonical := h.canonical hs
  rw [canonical_iff] at hcanonical ⊢
  exact ⟨wf_filter _ hcanonical.1, rfl, hcanonical.2.2⟩

theorem restart (h : Kept s₀ s) : Kept s₀ (s.restart cause) := by
  unfold State.restart
  extract_lets t t₁ t₂
  have ht₁ : Kept s₀ t₁ := h.survive.onPower
  refine setDev (ht₁.store rfl rfl fun hs => ?_)
  rw [canonical_iff] at hs ⊢
  exact ⟨wf_filter _ hs.1, hs.2⟩

theorem execKeepEntry (h : Kept s₀ s) : Keeps s₀ (execKeepEntry s) :=
  (Kept.ite h (.ite (h.each fun _ _ ht => ht.endSession).endTransition.setMode.flushLog.survive.onPower.onTb.onPower.count.restart
    (h.each fun _ _ ht => ht.endSession).endTransition.setMode.flushLog.survive.onPower.onTb)).next

theorem execWake (h : Kept s₀ s) : Keeps s₀ (execWake source s) := by
  refine next (.ite h ?_)
  split
  · exact h.wakeDormant
  · exact .ite h.onPower.count.restart h
  · exact .ite h.onPower h

theorem execReset {cause : ResetReport} (h : Kept s₀ s) : Keeps s₀ (execReset cause s) := by
  refine next ?_
  dsimp only
  split
  · exact h.restart.onPower.set.setPar
  · exact h.restart.onPower.onPower
  · exact h.restart.onPower

theorem execSupplyReset {supply : Supply} (h : Kept s₀ s) : Keeps s₀ (execSupplyReset supply s) := h.execReset

theorem execPwrStartRetry (h : Kept s₀ s) : Keeps s₀ (execPwrStartRetry s) := (Kept.ite h (.ite h.onPower h.onPower.onTb)).next

theorem execPwrVbatLow (h : Kept s₀ s) : Keeps s₀ (execPwrVbatLow mv s) := (Kept.ite h.setDev.onPower.raise h.setDev).next

theorem execQuarryInitDone (h : Kept s₀ s) : Keeps s₀ (execQuarryInitDone s) := h.onPower.next

theorem execDiagSelftest (h : Kept s₀ s) : Keeps s₀ (execDiagSelftest r tests s) :=
  (h.request fun _ _ ht => ht.checked fun _ ht => (Kept.ite ht.onPower.onSaf.beginSwitchTest ht.onPower).answer).next

theorem execSelftestComplete (h : Kept s₀ s) : Keeps s₀ (execSelftestComplete test passed s) := by
  refine next ?_
  split
  · exact .ite h (.ite h.onPower.complete (.ite h.onPower.complete h.onPower))
  · exact h

theorem lateShort (h : Kept s₀ s) : Kept s₀ (s.lateShort hb) := h.only rfl

theorem execTbClockLoss (h : Kept s₀ s) : Keeps s₀ (execTbClockLoss s) := by
  refine next ?_
  refine .ite h (Kept.doFailstate ?_)
  split
  · exact (h.each fun _ _ ht => ht.each fun _ _ ht => .ite ht.latchHb.lateShort (.ite ht ht.onHb)).set.onTb.raise.beginReaction
  · exact (h.each fun _ _ ht => ht.each fun _ _ ht => .ite ht.latchHb.lateShort (.ite ht ht.onHb)).set.onTb.raise

/-! ### The boot sequence (R453) -/

theorem mirrorEntry (h : Kept s₀ s) : Kept s₀ (s.mirrorEntry e) := h.dramWrite

theorem rebuildLog (h : Kept s₀ s) : Kept s₀ s.rebuildLog := by
  unfold State.rebuildLog
  dsimp only
  split
  · exact h
  · exact (h.each fun _ _ ht => ht.mirrorEntry).set

theorem bootImage (h : Kept s₀ s) : Kept s₀ (s.bootImage kind slot fellBack) :=
  .ite (Kept.ite (.ite h.set h.set) (Kept.ite h.set h.set).recordImage).raise.imageEvent (.ite (.ite h.set h.set)
    (Kept.ite h.set h.set).recordImage)

theorem endTrialAtBoot (h : Kept s₀ s) : Kept s₀ s.endTrialAtBoot.1 := by
  unfold State.endTrialAtBoot
  split
  · exact h
  · refine Kept.set ?_
    split
    · refine (Kept.raise ?_).stick.loadSafetySet
      split
      · exact h.set.recordSlot.configEvent.recordSlot
      · exact h.set.recordSlot.configEvent
    · refine (Kept.raise ?_).stick
      split
      · exact h.set.recordSlot.configEvent.recordSlot
      · exact h.set.recordSlot.configEvent

theorem bootConfig (h : Kept s₀ s) : Kept s₀ s.bootConfig := by
  unfold State.bootConfig
  dsimp only
  split
  · exact h.each fun _ _ ht => ht.raise
  · exact (h.each fun _ _ ht => ht.raise).applySet.set

theorem bootLanes {r : BootReport} (h : Kept s₀ s) : Kept s₀ (s.bootLanes r) := .ite h.onLanes h.onLanes.raise.raise

theorem finishSafety {r : BootReport} (h : Kept s₀ s) : Kept s₀ (s.finishSafety r rolledBack) :=
  .ite h.safetyBoot (.ite h.onSaf (.ite h.safetyBoot (.ite h.setDev.count.enterSto h.setDev.count.safetyBoot)))

theorem bootSafety {r : BootReport} (h : Kept s₀ s) : Kept s₀ (s.bootSafety r rolledBack) := by
  unfold State.bootSafety
  split
  · exact .ite h.safetyFault.onSaf h.loadSafetyValues.finishSafety
  · exact h.finishSafety

theorem execIslandSupplyRestored (h : Kept s₀ s) : Keeps s₀ (execIslandSupplyRestored testsOk s) :=
  (Kept.ite h (.ite h.raise.onSaf.safetyBoot (.ite h.raise.onSaf.safetyFault.onSaf
    (.ite h.raise.onSaf.onSaf.startBootTest h.raise.onSaf.onSaf)))).next

theorem bootSupplies (h : Kept s₀ s) : Kept s₀ s.bootSupplies := by
  unfold State.bootSupplies
  exact (Kept.ite (Kept.ite h.raise h).raise.stick (.ite h.raise h)).onPower

theorem bootVgd (h : Kept s₀ s) : Kept s₀ (s.bootVgd present) :=
  .ite h (h.each fun _ _ ht => (ht.onDie.each fun _ _ ht => ht.latchBay).raise)

/-- The end of the boot sequence, step by step (Table 19.4). -/
theorem execBoot {r : BootReport} (h : Kept s₀ s) : Keeps s₀ (execBoot r s) := by
  refine next (.ite h ?_)
  extract_lets lane safe t t₁ t₂ t₃ broken
  clear_value lane safe broken
  have ht₁ : Kept s₀ t₁ := h.onRing.rebuildLog.bootSupplies
  have ht₂ : Kept s₀ t₂ := by
    dsimp only [t₂]
    split
    · exact ht₁.bootImage
    · exact ht₁
  have ht₃ : Kept s₀ t₃ := by
    dsimp only [t₃]
    split
    · exact ht₂.bootImage
    · exact ht₂
  have hended := ht₃.endTrialAtBoot
  generalize t₃.endTrialAtBoot = ended at hended ⊢
  obtain ⟨u, rolledBack⟩ := ended
  dsimp -zeta only at hended ⊢
  extract_lets u₁ u₂ u₃ u₄ u₅ listed u₆
  have hu₂ : Kept s₀ u₂ := .ite hended.bootConfig (hended.bootConfig.each fun _ _ hv => hv.onBay).raise
  have hu₄ : Kept s₀ u₄ := hu₂.configureCounters.configureCan.configureCan.loadTemplate.bootLanes.bootVgd.bootSafety
  have hu₅ : Kept s₀ u₅ := .ite hu₄.raise hu₄
  have hu₆ : Kept s₀ u₆ := .ite hu₅ hu₅.raise
  exact hu₆.setDev.onRing.event.onPower

/-! ### The debug port and the scrubbers (R492 to R495, R25) -/

theorem onDbg {f : Debug → Debug} (h : Kept s₀ s) : Kept s₀ (s.onDbg f) := h.only rfl

theorem selects (h : Kept s₀ s) : Kept s₀ (s.selects code dr) := .ite h.onDbg h

theorem execIdcode (h : Kept s₀ s) : Keeps s₀ (execIdcode s) := h.selects.next

theorem execChallenge (h : Kept s₀ s) : Keeps s₀ (execChallenge s) := h.selects.next

theorem execUnlock (h : Kept s₀ s) : Keeps s₀ (execUnlock token s) := (Kept.ite h.selects h.selects.onDbg).next

theorem execTokenCheckDone (h : Kept s₀ s) : Keeps s₀ (execTokenCheckDone s) := by
  refine next ?_
  split
  · exact h
  · exact .ite h.onDbg.onDbg.raise h.onDbg.onDbg.raise

theorem execDbgStatus (h : Kept s₀ s) : Keeps s₀ (execDbgStatus s) := h.selects.next

theorem execDebugReset (h : Kept s₀ s) : Keeps s₀ (execDebugReset bit s) := (Kept.ite (.ite h.selects.restart h.selects) h).next

theorem execBypass (h : Kept s₀ s) : Keeps s₀ (execBypass s) := h.selects.next

theorem execScrubRead {m : MemoryKind} (h : Kept s₀ s) : Keeps s₀ (execScrubRead m address errors s) := by
  refine next ?_
  refine .ite h (.ite ?_ ?_)
  · dsimp only
    split
    · exact h.countCorrected.flashCorrected
    all_goals exact h.countCorrected
  · dsimp only
    split
    · exact h.countUncorrectable.flashUncorrectable
    · exact h.countUncorrectable.dramUncorrectable
    · exact h.countUncorrectable.onLanes
    · exact h.countUncorrectable.onLanes

theorem writeTable (h : Kept s₀ s) : Kept s₀ (s.writeTable lane a bs) := .ite h.onLanes h.set

theorem coreRead (h : Kept s₀ s) : Kept s₀ (s.coreRead flash a n) := h.meetBad.onDbg.set

theorem execCoreAccess (h : Kept s₀ s) : Keeps s₀ (execCoreAccess lane op s) := by
  refine next ?_
  dsimp only
  split
  · exact .ite (Kept.ite h.selects h).onDbg (.ite h.selects h)
  · exact .ite (Kept.ite h.selects h).onDbg (.ite h.selects h)
  · exact .ite (Kept.ite h.selects h).onDbg (.ite h.selects h)
  · exact .ite (Kept.ite h.selects h).onDbg.set (.ite h.selects h)
  · exact .ite (Kept.ite h.selects h).onDbg (.ite h.selects h)
  · exact .ite (.ite (Kept.ite h.selects h).writeTable.onDbg (Kept.ite h.selects h).writeTable) (.ite h.selects h)
  · exact .ite (Kept.ite h.selects h).onDbg.set (.ite h.selects h)
  · exact .ite (Kept.ite h.selects h).onDbg.set (.ite h.selects h)
  · exact .ite (Kept.ite h.selects h).coreRead (.ite h.selects h)
  · exact .ite (Kept.ite h.selects h).coreRead (.ite h.selects h)

/-! ### FAULT_CLEAR (R501) -/

theorem attemptsSaturate (h : Kept s₀ s) : Kept s₀ (s.attemptsSaturate f n) := by
  unfold State.attemptsSaturate
  refine .ite h ?_
  dsimp only
  exact h.firstSaturation

theorem countAttempt (h : Kept s₀ s) : Kept s₀ (s.countAttempt row f) := by
  unfold State.countAttempt
  refine .ite h.count ?_
  split
  · exact h.set.attemptsSaturate
  · exact h.each fun _ _ ht => ht.count

theorem zeroAttempts (h : Kept s₀ s) : Kept s₀ (s.zeroAttempts row f) := .ite h.setPar (h.each fun _ _ ht => ht.setPar)

theorem releaseFault (h : Kept s₀ s) : Kept s₀ (s.releaseFault src b) := .ite h h.releaseBay

theorem releaseBraked (h : Kept s₀ s) : Kept s₀ (s.releaseBraked die) :=
  .ite h (h.onDie.each fun _ _ ht => .ite (ht.onAx.each fun _ _ ht => ht.releaseFault).setDisabled (ht.onAx.each fun _ _ ht =>
    ht.releaseFault))

theorem releaseOutputs {f : FieldIo → FieldIo} (h : Kept s₀ s) : Kept s₀ (s.releaseOutputs mask f) := h.only rfl

theorem clearLatch {row : FaultRow} {f : Active} (h : Kept s₀ s) : Kept s₀ (s.clearLatch row f) := by
  unfold State.clearLatch
  extract_lets bays t die hb t₁
  have ht : Kept s₀ t := h.zeroAttempts.clearFault
  have hreleased {k : Nat} : Kept s₀ (t.each bays fun b u => u.releaseFault k b) := ht.each fun _ _ hu => hu.releaseFault
  refine .ite ht.clearShort.onBay (.ite (ht.clearBoot.onBoot.each fun _ _ hu => hu.releaseFault) (.ite ht.releaseWith ?_))
  refine .ite (ht.each fun _ _ hu => hu.releaseBay) (.ite (ht.each fun _ _ hu => hu.releaseBay) ?_)
  refine .ite (ht.each fun _ _ hu => hu.releaseBay.onBay) (.ite ht.releaseBraked (.ite ht.set (.ite ht.leaveLocked ?_)))
  exact .ite ht.onLanes.startCopy (.ite ht.releaseOutputs (.ite ht.releaseOutputs (.ite ht.releaseOutputs hreleased)))

theorem afterClear {a : Fin 16} (h : Kept s₀ s) : Kept s₀ (s.afterClear a) := .ite h.setAxisState (.ite h.setDisabled h)

theorem clearOne (h : Kept s₀ s) : Kept s₀ (s.clearOne c f).1 := by
  unfold State.clearOne
  split
  · exact h
  · dsimp only
    split
    · exact h.set
    · split
      · split
        · exact h.set.clearLatch.each fun _ _ ht => ht.afterClear
        · exact h.set.countAttempt
      · exact h

theorem clearEach {counts : ClearCount} {faults : List Active} (h : Kept s₀ s) : Kept s₀ (s.clearEach counts faults).1 := by
  induction faults generalizing s counts with
  | nil => exact h
  | cons f faults ih => exact ih h.clearOne

theorem acknowledge (h : Kept s₀ s) : Kept s₀ s.acknowledge.1 := by
  unfold State.acknowledge
  split
  · exact h
  · split
    · dsimp only
      exact h.onSaf
    · exact h

theorem clearedBy {before : State} {slot : Fin 8} (h : Kept s₀ s) : Kept s₀ (s.clearedBy before slot) := h.only rfl

theorem execFaultClear {code : Half} (h : Kept s₀ s) : Keeps s₀ (execFaultClear r code inst s) := by
  refine (h.request fun _ _ ht => .ite (.ite ht.clearEach.clearedBy.answer ht.refuse) ?_).next
  split
  · exact ht.refuse
  · exact .ite ht.refuse (.ite ht.acknowledge.answer ht.clearEach.clearedBy.answer)

end Kept
end Sys2Proof.Proofs
end

section
/-! PROOF. What packets, requests and the tick keep. -/

namespace Sys2Proof.Proofs
open Sys2Proof.Machine

namespace Kept
variable {s₀ s t : State}
variable {arrived code errors inst n number op q receive status time transmit : Nat} {g host k x : Fin 8} {b c port : Fin 2}
variable {block bytes payload : List Byte} {missing : Bool} {node : Byte} {e : CanEntry} {frame : CanFrame} {p : CanPacket}
variable {ev : Event} {a : Fin 16} {cmd : Instr} {l : List Word} {old : Long} {ingress : Port} {r : Req} {src : Source}
variable {f : SpiFrame} {view : State} {txn : Txn}

/-! ### The execution of a request -/

theorem ran {o : Host.Outcome State Fault Refusal} (h : Kept s₀ s) (ho : Keeps s₀ o) : Kept s₀ (ranNext o s) := by
  unfold ranNext
  split
  · exact ho _ rfl
  · exact h
  · exact h

/-- A request that executes at its tick (steps 4 to 6 of Table 4.1); no other command does. -/
theorem run {c : Instr} (h : Kept s₀ s) : Kept s₀ (s.run c) := by
  cases c
  case ping => exact h.ran h.execPing
  case identify => exact h.ran h.execIdentify
  case sessionOpen => exact h.ran h.execSessionOpen
  case sessionClose => exact h.ran h.execSessionClose
  case paramRead => exact h.ran h.execParamRead
  case paramWrite => exact h.ran h.execParamWrite
  case paramReadMulti => exact h.ran h.execParamReadMulti
  case paramWriteMulti => exact h.ran h.execParamWriteMulti
  case txnBegin => exact h.ran h.execTxnBegin
  case txnCommitAt => exact h.ran h.execTxnCommitAt
  case txnAbort => exact h.ran h.execTxnAbort
  case txnStatus => exact h.ran h.execTxnStatus
  case moveAbs => exact h.ran h.execMoveAbs
  case moveRel => exact h.ran h.execMoveRel
  case moveVel => exact h.ran h.execMoveVel
  case moveGroup => exact h.ran h.execMoveGroup
  case queueFlush => exact h.ran h.execQueueFlush
  case axisAbort => exact h.ran h.execAxisAbort
  case gearEngage => exact h.ran h.execGearEngage
  case gearRelease => exact h.ran h.execGearRelease
  case latchArm => exact h.ran h.execLatchArm
  case stepFollow => exact h.ran h.execStepFollow
  case axisEnable => exact h.ran h.execAxisEnable
  case axisDisable => exact h.ran h.execAxisDisable
  case axisShortBrake => exact h.ran h.execAxisShortBrake
  case axisHome => exact h.ran h.execAxisHome
  case faultClear => exact h.ran h.execFaultClear
  case motorIdentify => exact h.ran h.execMotorIdentify
  case snapshot => exact h.ran h.execSnapshot
  case statusAxes => exact h.ran h.execStatusAxes
  case eventRead => exact h.ran h.execEventRead
  case subscribe => exact h.ran h.execSubscribe
  case dataOpen => exact h.ran h.execDataOpen
  case dataRead => exact h.ran h.execDataRead
  case dataWrite => exact h.ran h.execDataWrite
  case dataClose => exact h.ran h.execDataClose
  case quarrySetup => exact h.ran h.execQuarrySetup
  case quarryArm => exact h.ran h.execQuarryArm
  case quarryForce => exact h.ran h.execQuarryForce
  case quarryStatus => exact h.ran h.execQuarryStatus
  case cfgStage => exact h.ran h.execCfgStage
  case cfgActivate => exact h.ran h.execCfgActivate
  case cfgConfirm => exact h.ran h.execCfgConfirm
  case cfgRollback => exact h.ran h.execCfgRollback
  case fwStage => exact h.ran h.execFwStage
  case fwActivate => exact h.ran h.execFwActivate
  case safetyStatus => exact h.ran h.execSafetyStatus
  case safetyStopRequest => exact h.ran h.execSafetyStopRequest
  case safetySetLoad => exact h.ran h.execSafetySetLoad
  case ringStatus => exact h.ran h.execRingStatus
  case ringTopology => exact h.ran h.execRingTopology
  case ringRetrain => exact h.ran h.execRingRetrain
  case modeSet => exact h.ran h.execModeSet
  case latencySet => exact h.ran h.execLatencySet
  case modeStatus => exact h.ran h.execModeStatus
  case diagSelftest => exact h.ran h.execDiagSelftest
  case laneSwap => exact h.ran h.execLaneSwap
  case templateLearn => exact h.ran h.execTemplateLearn
  case templateFreeze => exact h.ran h.execTemplateFreeze
  case templateReset => exact h.ran h.execTemplateReset
  case statusWordWrite => exact h.ran h.execStatusWordWrite
  case tplSave => exact h.ran h.execTplSave
  case qryRelease => exact h.ran h.execQryRelease
  case cntPreset => exact h.ran h.execCntPreset
  case gateOverride => exact h.ran h.execGateOverride
  case carrierWrite => exact h.ran h.execCarrierWrite
  case bankSwap => exact h.ran h.execBankSwap
  all_goals exact h

/-! ### Packets of the ports (R57 to R63) -/

theorem finishReply {x : Awaiting} (h : Kept s₀ s) : Kept s₀ (s.finishReply view x) := by
  unfold State.finishReply
  dsimp only
  split
  · exact h.send
  · exact h.send.onSession

theorem finishReplies (h : Kept s₀ s) : Kept s₀ (s.finishReplies view) := h.set.each fun _ _ ht => ht.finishReply

theorem forwardTo (h : Kept s₀ s) : Kept s₀ (s.forwardTo src bytes node) := h.each fun _ _ ht => ht.onOut

theorem refuseNow (h : Kept s₀ s) : Kept s₀ (s.refuseNow r op status) := h.sendNow

theorem acceptRequest (h : Kept s₀ s) : Kept s₀ (s.acceptRequest ingress r op cmd) := .ite h.run.finishReplies h.set

theorem sequenceCheck {x : Session} (h : Kept s₀ s) : Kept s₀ (s.sequenceCheck k x ingress r op payload cmd) := by
  unfold State.sequenceCheck
  dsimp only
  split
  · exact .ite h.count.refuseNow (.ite h.count.onSession h.count.onSession.send)
  · exact .ite h.count.refuseNow h.onSession.acceptRequest

theorem localRequest (h : Kept s₀ s) : Kept s₀ (s.localRequest ingress r op bytes payload) := by
  unfold State.localRequest
  split
  · refine .ite ?_ ?_
    · split
      · exact h.openSession
      · exact h.run
    · split
      · exact h.refuseNow
      · split
        · exact h.refuseNow
        · exact h.sequenceCheck
  · exact h.refuseNow

theorem receivePacket (h : Kept s₀ s) : Kept s₀ (s.receivePacket src ingress bytes arrived) := by
  unfold State.receivePacket
  refine .ite (.ite h.count h.count.refuseNow) (.ite h (.ite h.refuseNow (.ite h.refuseNow ?_)))
  split
  · exact h.refuseNow
  · exact .ite h.refuseNow (.ite h.localRequest (.ite (.ite h.localRequest.forwardTo h.localRequest) (.ite h
        (.ite h.forwardTo h.send))))

theorem eventsRead (h : Kept s₀ s) : Kept s₀ (s.eventsRead l) := h.only rfl

theorem execPacketWrite {f : SpiFrame} (h : Kept s₀ s) : Keeps s₀ (execPacketWrite f arrived bytes s) :=
  (h.spiFrame fun _ ht => .ite ht.frameError ht.set.onPins.receivePacket).next

theorem execPacketRead (h : Kept s₀ s) : Keeps s₀ (execPacketRead f s) := by
  refine (h.spiFrame fun _ ht => ?_).next
  split
  · exact ht.driveOut
  · split
    · exact ht.driveOut
    · exact .ite ht.driveOut.onOut.admitLate.set.eventsRead ht.driveOut

theorem execStatusRead (h : Kept s₀ s) : Keeps s₀ (execStatusRead f s) := (h.spiFrame fun _ ht => ht.driveOut).next

theorem execPacketReread (h : Kept s₀ s) : Keeps s₀ (execPacketReread f s) := (h.spiFrame fun _ ht => ht.driveOut).next

theorem deliverReply (h : Kept s₀ s) : Kept s₀ (s.deliverReply code bytes) := by
  unfold State.deliverReply
  dsimp only
  split
  · exact h.send
  · exact h.send
  · exact h

theorem ringPacket (h : Kept s₀ s) : Kept s₀ (s.ringPacket port src bytes arrived) := by
  unfold State.ringPacket
  refine .ite (Kept.count ?_) (.ite (.ite (Kept.deliverReply ?_) (Kept.count ?_)) (Kept.receivePacket ?_))
  · split
    · exact h.onRing
    · exact h
  · split
    · exact h.onRing
    · exact h
  · split
    · exact h.onRing
    · exact h
  · split
    · exact h.onRing
    · exact h

theorem passBlock (h : Kept s₀ s) : Kept s₀ (s.passBlock port block) := .ite h.onPort h

theorem execAsyncBlockReceived (h : Kept s₀ s) : Keeps s₀ (execAsyncBlockReceived port block errors number s) := by
  refine next ?_
  refine .ite h.codeErrors (.ite h.codeErrors.damaged.onPort.count (.ite (.ite h.codeErrors h.codeErrors.passBlock) ?_))
  dsimp only
  split
  · exact .ite h.codeErrors h.codeErrors.passBlock
  · exact .ite (Kept.ite h.codeErrors h.codeErrors.passBlock).onPort.ringPacket
        (Kept.ite h.codeErrors h.codeErrors.passBlock).onPort

/-! ### The CAN controllers (R412 to R421) -/

theorem onCan {f : Can → Can} (h : Kept s₀ s) : Kept s₀ (s.onCan c f) := h.only rfl

theorem storeFrame (h : Kept s₀ s) : Kept s₀ (s.storeFrame c q e) := .ite (.ite h.count h.count.stick.raiseAgain) h.onCan

theorem execCanFrameReceived (h : Kept s₀ s) : Keeps s₀ (execCanFrameReceived c frame arrived s) := by
  refine next (.ite h ?_)
  dsimp only
  split
  · exact h
  · exact .ite h.storeFrame h

theorem discardSegment (h : Kept s₀ s) : Kept s₀ (s.discardSegment c) := h.count.raise

theorem dropPacket (h : Kept s₀ s) : Kept s₀ (s.dropPacket c x) := h.only rfl

theorem restartSource (h : Kept s₀ s) : Kept s₀ (s.restartSource c x) := .ite h.dropPacket.discardSegment h

theorem canPacket {host : Fin 8} {time : Nat} (h : Kept s₀ s) : Kept s₀ (s.canPacket c host bytes time) := h.set.receivePacket

theorem canProgress (h : Kept s₀ s) : Kept s₀ (s.canProgress c p time) := .ite h.dropPacket.canPacket h.dropPacket.onCan

theorem segment (h : Kept s₀ s) : Kept s₀ (s.segment c e) := by
  unfold State.segment
  dsimp only
  split
  · exact .ite h.restartSource.discardSegment h.restartSource.canPacket
  · exact .ite h.restartSource.discardSegment h.restartSource.canProgress
  · split
    · exact h.discardSegment
    · exact .ite h.dropPacket.discardSegment h.canProgress
  · exact h.discardSegment

theorem execCanSegment (h : Kept s₀ s) : Keeps s₀ (execCanSegment c s) := by
  refine next ?_
  dsimp only
  split
  · exact .ite h h.onCan.segment
  · exact .ite h h.onCan.segment
  · exact h

theorem execCanSegmentTimeout (h : Kept s₀ s) : Keeps s₀ (execCanSegmentTimeout c host s) := by
  refine next ?_
  split
  · exact .ite h.dropPacket.discardSegment h
  · exact h

theorem fillBuffer (h : Kept s₀ s) : Kept s₀ (s.fillBuffer c b) := by
  unfold State.fillBuffer
  refine .ite h ?_
  dsimp only
  split
  · exact h
  · exact .ite h.onOut h.onOut.onCan

theorem sendSegment (h : Kept s₀ s) : Kept s₀ (s.sendSegment c b) := by
  unfold State.sendSegment
  split
  · exact h
  · split
    · exact h.onCan
    · exact .ite h.onCan.eventsRead h.onCan

theorem execCanTransmit (h : Kept s₀ s) : Keeps s₀ (execCanTransmit c s) := by
  refine next (.ite h ?_)
  dsimp only
  split
  · exact h.fillBuffer.fillBuffer
  · exact h.fillBuffer.fillBuffer.sendSegment
  · exact h.fillBuffer.fillBuffer.sendSegment
  · exact h.fillBuffer.fillBuffer.onCan

theorem execCanStatusFrame (h : Kept s₀ s) : Keeps s₀ (execCanStatusFrame c s) := (Kept.ite h h.onCan).next

theorem execCanErrorPassive (h : Kept s₀ s) : Keeps s₀ (execCanErrorPassive c transmit receive s) :=
  (Kept.ite h.onCan.errorCounters.raise h).next

theorem execCanBusOff (h : Kept s₀ s) : Keeps s₀ (execCanBusOff c s) :=
  (Kept.ite h (h.each fun _ _ ht => ht.dropPacket.discardSegment).onCan.count.stick.clearFault.raise).next

theorem execCanBusOffRecovered (h : Kept s₀ s) : Keeps s₀ (execCanBusOffRecovered c s) := (Kept.ite h.onCan.joinBus h).next

theorem canRecovers (h : Kept s₀ s) : Kept s₀ (s.canRecovers c) := .ite (.ite h.set.set.onCan.errorCounters.clearFault h.set) h

theorem ageCan (h : Kept s₀ s) : Kept s₀ (s.ageCan c) := h.only rfl

/-! ### Completions and reactions (Table 4.1, steps 1 and 2) -/

theorem finishDone (h : Kept s₀ s) : Kept s₀ (s.finishDone a n) := by
  induction n generalizing s with
  | zero => exact h
  | succ n ih =>
    unfold State.finishDone
    split
    · exact h
    · extract_lets t
      have ht : Kept s₀ t := by
        dsimp only [t]
        split
        · exact h.endPassOf
        · exact h
      split
      · exact ht
      · exact ih ht.leaveGroup.finishEntry.strokeCompleted.onAx

theorem latchDelivered (h : Kept s₀ s) : Kept s₀ (s.latchDelivered a) := by
  unfold State.latchDelivered
  split
  · exact h
  · exact h.onAx.setPar.setPar.event

theorem completeAxis (h : Kept s₀ s) : Kept s₀ (s.completeAxis a) := (Kept.ite h h.finishDone.homingComplete).latchDelivered

theorem selfClear (h : Kept s₀ s) : Kept s₀ s.selfClear := by
  unfold State.selfClear
  extract_lets t t₁ t₂
  have ht₁ : Kept s₀ t₁ := (h.each fun _ _ hu => .ite hu.clearFault hu).each fun _ u hu => by
    extract_lets l u₁ u₂
    have hu₁ : Kept s₀ u₁ := .ite hu hu.clearFault
    have hu₂ : Kept s₀ u₂ := .ite hu₁.clearFault hu₁
    exact .ite hu₂.clearFault hu₂
  have ht₂ : Kept s₀ t₂ := .ite ht₁.onPower.clearFault ht₁
  exact ht₂.diagnosticsClear

theorem beginReactions (h : Kept s₀ s) : Kept s₀ s.beginReactions := h.each fun _ _ ht => ht.beginReaction

theorem leaveWaiting (h : Kept s₀ s) : Kept s₀ (s.leaveWaiting g) := by
  unfold State.leaveWaiting
  split
  · exact h
  · exact .ite h h.set

theorem endGroupStop (h : Kept s₀ s) : Kept s₀ (s.endGroupStop g) := .ite h.set h

theorem stopSingle (h : Kept s₀ s) : Kept s₀ (s.stopSingle a) := by
  unfold State.stopSingle
  split
  · exact h
  · exact h
  · exact h.disableAxis
  · exact h.disableAxis
  · exact h.disableAxis
  · exact .ite h.disableAxis h
  · exact .ite h.disableAxis h
  · exact h.reactAxis
  · exact h.reactAxis

theorem singleLane (h : Kept s₀ s) : Kept s₀ s.singleLane :=
  .ite h (.ite (.ite h.setMode h) (.ite (.ite h.setMode (h.each fun _ _ ht => ht.stopSingle)) h))

theorem completions (h : Kept s₀ s) : Kept s₀ s.completions := (h.each fun _ _ ht => ht.completeAxis).selfClear

theorem reactions (h : Kept s₀ s) : Kept s₀ s.reactions :=
  ((h.each fun _ _ ht => ht.losRetry.regenShort).beginReactions.each fun _ _ ht => ht.leaveWaiting.endGroupStop).singleLane

theorem safetyWord (h : Kept s₀ s) : Kept s₀ s.safetyWord := by
  unfold State.safetyWord
  split
  · exact h.each fun _ _ ht => ht.reactAxis
  · exact h.each fun _ _ ht => ht.reactAxis
  · exact h.each fun _ _ ht => ht.reactAxis
  · exact h.each fun _ _ ht => ht.releaseSlaves.onAx
  · exact h
  · exact h

/-! ### Commits and direct requests (Table 4.1, steps 4 to 6) -/

theorem dropEntry {e : Staged} (h : Kept s₀ s) : Kept s₀ (s.dropEntry e inst) := h.countN.stick.set.raise

theorem applyOne {e : Staged} (h : Kept s₀ s) : Kept s₀ (s.applyOne e) := by
  unfold State.applyOne
  split
  · refine h.each fun _ _ ht => ?_
    dsimp only
    exact ht.enqueue
  · refine h.each fun _ _ ht => ?_
    dsimp only
    exact ht.enqueue
  · refine h.each fun _ _ ht => ?_
    dsimp only
    exact ht.enqueue
  · exact h.enqueueGroup
  · split
    · exact h.flushAxes
    · exact h
  · split
    · exact h.engage
    · exact h
  · split
    · exact h.ungear
    · exact h
  · split
    · exact h.armLatch
    · exact h
  · split
    · exact h.followAxis
    · exact h
  · split
    · exact .ite h.enableAxis h
    · exact h
  · split
    · exact h.freezeAxis
    · exact h
  · exact h.quarryArm
  · exact h.applyEntries

theorem applyStaged {entries : List Staged} (h : Kept s₀ s) : Kept s₀ (s.applyStaged entries).1 := by
  induction entries generalizing s with
  | nil => exact h
  | cons e entries ih =>
    unfold State.applyStaged
    dsimp only
    split
    · exact ih h.unreserve.dropEntry
    · exact ih h.unreserve.applyOne

theorem applyTxn (h : Kept s₀ s) : Kept s₀ (s.applyTxn txn missing) := .ite h.applyStaged.endTxn h.applyStaged.endTxn

theorem ringCommit (h : Kept s₀ s) : Kept s₀ (s.ringCommit txn) := by
  unfold State.ringCommit
  split
  · exact .ite (Kept.ite h.unreserve h).isolate h.applyTxn
  · exact .ite h.abortTxn h.isolate
  · exact h

theorem sealTxn (h : Kept s₀ s) : Kept s₀ (s.sealTxn txn) := h.only rfl

theorem commitRing (h : Kept s₀ s) : Kept s₀ s.commitRing := h.set.each fun _ _ ht => .ite ht.complete ht.ringCommit.sealTxn

theorem commitLocals (h : Kept s₀ s) : Kept s₀ s.commitLocals := h.each fun _ _ ht => ht.applyTxn.sealTxn

theorem execute {counts : List (Option (Fin 8))} {arrivals : List Arrival} (h : Kept s₀ s) : Kept s₀ (s.execute counts arrivals) := by
  induction arrivals generalizing s counts with
  | nil => exact h
  | cons x arrivals ih => exact .ite (.ite (ih h.set) (ih h.run)) (ih h.run)

theorem executeEligible (h : Kept s₀ s) : Kept s₀ s.executeEligible := h.set.execute

theorem wakeValues (h : Kept s₀ s) : Kept s₀ s.wakeValues := by
  unfold State.wakeValues
  refine .ite h ((h.each fun _ _ ht => ?_).each fun _ _ ht => ?_).set
  · dsimp only
    exact ht.takeValue
  · dsimp only
    exact ht.complete

/-! ### The tick (R36 to R39) -/

theorem advance (h : Kept s₀ s) : Kept s₀ s.advance := by
  unfold State.advance
  refine .ite h.set ?_
  dsimp only
  split
  · exact h.set
  · exact .ite h.set.firstSaturation h.set

theorem checkBooks (h : Kept s₀ s) : Kept s₀ s.checkBooks := .ite h.set h.set.stick.raise

theorem logEntry (h : Kept s₀ s) : Kept s₀ (s.logEntry ev).1 :=
  .ite (Kept.ite h.set.set h.set).mirrorEntry.count.stick.raise (Kept.ite h.set.set h.set).mirrorEntry

theorem logEntries {events : List Event} (h : Kept s₀ s) : Kept s₀ (s.logEntries events).1 := by
  induction events generalizing s with
  | nil => exact h
  | cons e events ih => exact ih h.logEntry

theorem numberEvents (h : Kept s₀ s) : Kept s₀ s.numberEvents.1 := by
  unfold State.numberEvents
  dsimp only
  split
  · exact h.set.logEntries
  · exact h.set.raise.set.countN.stick.logEntries

theorem drain {q : Fin 5} {share : Nat} (h : Kept s₀ s) : Kept s₀ (s.drain q port share n) := by
  induction n generalizing s share with
  | zero => exact h
  | succ n ih =>
    unfold State.drain
    split
    · exact h
    · have ht {first : Bool} {f : Ring → Ring} : Kept s₀ (if first then s.onRing f else s) := .ite h.onRing h
      exact .ite h (.ite (ih ht.onPort.onOut.eventsRead) ht.onPort.onOut)

theorem fillStream (h : Kept s₀ s) : Kept s₀ (s.fillStream port) := .ite h h.drain

theorem drainRing (h : Kept s₀ s) : Kept s₀ s.drainRing := .ite h.fillStream.fillStream h

theorem endFrame (h : Kept s₀ s) : Kept s₀ s.endFrame :=
  ((h.drainRing.quarryFrame.idleCounters.gatherAcks.ageCan.ageCan.canRecovers.canRecovers.each fun _ _ ht =>
    ht.onDie).diesFrame.each fun _ _ ht => ht.peakFrame).set

theorem stamp (h : Kept s₀ s) : Kept s₀ (s.stamp old) := h.only rfl

theorem resultLane (h : Kept s₀ s) : Kept s₀ s.resultLane := .ite h.onLanes h

theorem latch {old : Long} (h : Kept s₀ s) : Kept s₀ (s.latch old) := by
  unfold State.latch
  exact (h.set.checkBooks.quarryFault.numberEvents.resultLane.latchSnapshot.finishReplies.each fun _ _ ht => ht.pushEntry).set.onLanes

theorem dropOccurrences (h : Kept s₀ s) : Kept s₀ (s.dropOccurrences old) := h.only rfl

theorem demandTick (h : Kept s₀ s) : Kept s₀ (s.demandTick a) := h.only rfl

theorem seconds (h : Kept s₀ s) : Kept s₀ s.seconds := .ite h.set.ageTest.count.setPar h

theorem beginFrame (h : Kept s₀ s) : Kept s₀ s.beginFrame := by
  unfold State.beginFrame
  exact h.laneTick.safetyWord.onQry.ringTick.outputWord.seconds.onPower.onRing

theorem tick (h : Kept s₀ s) : Kept s₀ s.tick := by
  unfold State.tick
  extract_lets old t t₁ motion t₂ t₃ t₄ t₅ t₆
  have ht₂ : Kept s₀ t₂ := h.endFrame.advance.stretchPeriods.phaseCorrection.endBursts.outputUpdate.set.lapseSwap
  have ht₄ : Kept s₀ t₄ := ht₂.completions.reactions.stamp.latch.succeed.dropOccurrences.latchInputs.latchStatus
  have ht₅ : Kept s₀ t₅ := ht₄.each fun _ _ hu => hu.demandTick
  exact ht₅.commitRing.commitLocals.wakeValues.executeEligible.shadowTransfer.beginFrame

theorem execTick (h : Kept s₀ s) : Keeps s₀ (execTick s) := (Kept.ite h (.ite h.advance h.tick)).next

end Kept
end Sys2Proof.Proofs
end

section
/-! PROOF. What every command keeps, and the statements that rest on it. -/

namespace Sys2Proof.Proofs
open Sys2Proof.Machine

namespace Kept
variable {s₀ s t : State}

/-! ### Every command -/

/-- Every command. -/
theorem exec (h : Kept s₀ s) (c : Instr) : Keeps s₀ (Machine.exec c s) :=
  match c with
  | .ping .. => h.execPing
  | .identify .. => h.execIdentify
  | .sessionOpen .. => h.execSessionOpen
  | .sessionClose .. => h.execSessionClose
  | .paramRead .. => h.execParamRead
  | .paramWrite .. => h.execParamWrite
  | .paramReadMulti .. => h.execParamReadMulti
  | .paramWriteMulti .. => h.execParamWriteMulti
  | .txnBegin .. => h.execTxnBegin
  | .txnCommitAt .. => h.execTxnCommitAt
  | .txnAbort .. => h.execTxnAbort
  | .txnStatus .. => h.execTxnStatus
  | .moveAbs .. => h.execMoveAbs
  | .moveRel .. => h.execMoveRel
  | .moveVel .. => h.execMoveVel
  | .moveGroup .. => h.execMoveGroup
  | .queueFlush .. => h.execQueueFlush
  | .axisAbort .. => h.execAxisAbort
  | .gearEngage .. => h.execGearEngage
  | .gearRelease .. => h.execGearRelease
  | .latchArm .. => h.execLatchArm
  | .stepFollow .. => h.execStepFollow
  | .axisEnable .. => h.execAxisEnable
  | .axisDisable .. => h.execAxisDisable
  | .axisShortBrake .. => h.execAxisShortBrake
  | .axisHome .. => h.execAxisHome
  | .faultClear .. => h.execFaultClear
  | .motorIdentify .. => h.execMotorIdentify
  | .snapshot .. => h.execSnapshot
  | .statusAxes .. => h.execStatusAxes
  | .eventRead .. => h.execEventRead
  | .subscribe .. => h.execSubscribe
  | .dataOpen .. => h.execDataOpen
  | .dataRead .. => h.execDataRead
  | .dataWrite .. => h.execDataWrite
  | .dataClose .. => h.execDataClose
  | .quarrySetup .. => h.execQuarrySetup
  | .quarryArm .. => h.execQuarryArm
  | .quarryForce .. => h.execQuarryForce
  | .quarryStatus .. => h.execQuarryStatus
  | .cfgStage .. => h.execCfgStage
  | .cfgActivate .. => h.execCfgActivate
  | .cfgConfirm .. => h.execCfgConfirm
  | .cfgRollback .. => h.execCfgRollback
  | .fwStage .. => h.execFwStage
  | .fwActivate .. => h.execFwActivate
  | .safetyStatus .. => h.execSafetyStatus
  | .safetyStopRequest .. => h.execSafetyStopRequest
  | .safetySetLoad .. => h.execSafetySetLoad
  | .ringStatus .. => h.execRingStatus
  | .ringTopology .. => h.execRingTopology
  | .ringRetrain .. => h.execRingRetrain
  | .modeSet .. => h.execModeSet
  | .latencySet .. => h.execLatencySet
  | .modeStatus .. => h.execModeStatus
  | .diagSelftest .. => h.execDiagSelftest
  | .laneSwap .. => h.execLaneSwap
  | .templateLearn .. => h.execTemplateLearn
  | .templateFreeze .. => h.execTemplateFreeze
  | .templateReset .. => h.execTemplateReset
  | .statusWordWrite .. => h.execStatusWordWrite
  | .tplSave .. => h.execTplSave
  | .qryRelease .. => h.execQryRelease
  | .cntPreset .. => h.execCntPreset
  | .gateOverride .. => h.execGateOverride
  | .carrierWrite .. => h.execCarrierWrite
  | .bankSwap .. => h.execBankSwap
  | .packetWrite .. => h.execPacketWrite
  | .packetRead .. => h.execPacketRead
  | .statusRead .. => h.execStatusRead
  | .rawRead .. => h.execRawRead
  | .rawWrite .. => h.execRawWrite
  | .packetReread .. => h.execPacketReread
  | .statusPush .. => h.execStatusPush
  | .sessionExpiry .. => h.execSessionExpiry
  | .tick .. => h.execTick
  | .txnTimeout .. => h.execTxnTimeout
  | .recordRelease .. => h.execRecordRelease
  | .tbPhaseAlarm .. => h.execTbPhaseAlarm
  | .axisComputeSlot .. => h.execAxisComputeSlot
  | .laneDeadline .. => h.execLaneDeadline
  | .copyFinalPhase .. => h.execCopyFinalPhase
  | .copyRelease .. => h.execCopyRelease
  | .laneCopyFail .. => h.execLaneCopyFail
  | .proofSwap .. => h.execProofSwap
  | .proofSwapResult .. => h.execProofSwapResult
  | .laneSwapOverdue .. => h.execLaneSwapOverdue
  | .carrierPeriodStart .. => h.execCarrierPeriodStart
  | .adcTrigger .. => h.execAdcTrigger
  | .sampleRecord .. => h.execSampleRecord
  | .snsMissing .. => h.execSnsMissing
  | .snsRange .. => h.execSnsRange
  | .snsPeak .. => h.execSnsPeak
  | .dieLinkCrcFail .. => h.execDieLinkCrcFail
  | .shortComparatorTrip .. => h.execShortComparatorTrip
  | .bootUv .. => h.execBootUv
  | .autoRetryTry .. => h.execAutoRetryTry
  | .shootThroughInterlock .. => h.execShootThroughInterlock
  | .vgdLockout .. => h.execVgdLockout
  | .vgdLockoutRelease .. => h.execVgdLockoutRelease
  | .gdVgdHigh .. => h.execGdVgdHigh
  | .ov1Assert .. => h.execOv1Assert
  | .brakeOff .. => h.execBrakeOff
  | .ov2Assert .. => h.execOv2Assert
  | .ov2Release .. => h.execOv2Release
  | .gdBrakeFail .. => h.execGdBrakeFail
  | .gdBrakeOverload .. => h.execGdBrakeOverload
  | .gdBrakeShorted .. => h.execGdBrakeShorted
  | .gdVbusUv .. => h.execGdVbusUv
  | .gdVbusMismatch .. => h.execGdVbusMismatch
  | .gdDieHot .. => h.execGdDieHot
  | .gdDieOvertemp .. => h.execGdDieOvertemp
  | .tbClockLoss .. => h.execTbClockLoss
  | .pwmDebugHalt .. => h.execPwmDebugHalt
  | .chopTrip .. => h.execChopTrip
  | .chopOffTimeEnd .. => h.execChopOffTimeEnd
  | .diodeTest .. => h.execDiodeTest
  | .catchBrakeEnd .. => h.execCatchBrakeEnd
  | .acquisitionDecision .. => h.execAcquisitionDecision
  | .injectionConverged .. => h.execInjectionConverged
  | .comInjConverge .. => h.execComInjConverge
  | .polarityTestEnd .. => h.execPolarityTestEnd
  | .dcAlignEnd .. => h.execDcAlignEnd
  | .comLos .. => h.execComLos
  | .comPlausibility .. => h.execComPlausibility
  | .comOverspeed .. => h.execComOverspeed
  | .comHallInvalid .. => h.execComHallInvalid
  | .comEncIndex .. => h.execComEncIndex
  | .identifyStepDone .. => h.execIdentifyStepDone
  | .stepperEnergise .. => h.execStepperEnergise
  | .stpCatchFail .. => h.execStpCatchFail
  | .holdCurrent .. => h.execHoldCurrent
  | .stpStall .. => h.execStpStall
  | .stpStallBlind .. => h.execStpStallBlind
  | .stpNoRegulation .. => h.execStpNoRegulation
  | .stpOpenCoil .. => h.execStpOpenCoil
  | .reversalRequest .. => h.execReversalRequest
  | .groupStart .. => h.execGroupStart
  | .prfGroupStop .. => h.execPrfGroupStop
  | .ringGroupStop .. => h.execRingGroupStop
  | .prfEotExceeded .. => h.execPrfEotExceeded
  | .homeFound .. => h.execHomeFound
  | .prfHomeFail .. => h.execPrfHomeFail
  | .latchCapture .. => h.execLatchCapture
  | .gearSynchronised .. => h.execGearSynchronised
  | .lpFollowErr .. => h.execLpFollowErr
  | .lpEnvelopeExceeded .. => h.execLpEnvelopeExceeded
  | .lpCurrentLimit .. => h.execLpCurrentLimit
  | .gainRampEnd .. => h.execGainRampEnd
  | .templateSaveComplete .. => h.execTemplateSaveComplete
  | .siChange .. => h.execSiChange
  | .safeSiDiscrepancy .. => h.execSafeSiDiscrepancy
  | .stoReqPulse .. => h.execStoReqPulse
  | .heartbeat .. => h.execHeartbeat
  | .safeWatchdog .. => h.execSafeWatchdog
  | .safetyStateWord .. => h.execSafetyStateWord
  | .safetyScan .. => h.execSafetyScan
  | .ss1TimerExpiry .. => h.execSs1TimerExpiry
  | .plumbSs1Expiry .. => h.execPlumbSs1Expiry
  | .safeStoFb .. => h.execSafeStoFb
  | .stoRelease .. => h.execStoRelease
  | .safeRailAbsent .. => h.execSafeRailAbsent
  | .switchTestStart .. => h.execSwitchTestStart
  | .switchTestStep .. => h.execSwitchTestStep
  | .safeTestFail .. => h.execSafeTestFail
  | .safeTestOverdue .. => h.execSafeTestOverdue
  | .safeTestGrace .. => h.execSafeTestGrace
  | .safetyDiagnosticFail .. => h.execSafetyDiagnosticFail
  | .diEdge .. => h.execDiEdge
  | .counterEdge .. => h.execCounterEdge
  | .freqGateEnd .. => h.execFreqGateEnd
  | .vfieldUv .. => h.execVfieldUv
  | .vfieldOv .. => h.execVfieldOv
  | .vfieldRecover .. => h.execVfieldRecover
  | .fioDoGroupOverload .. => h.execFioDoGroupOverload
  | .fioDoOverload .. => h.execFioDoOverload
  | .fioDoMismatch .. => h.execFioDoMismatch
  | .fioDoOpen .. => h.execFioDoOpen
  | .fioDoThermal .. => h.execFioDoThermal
  | .canFrameReceived .. => h.execCanFrameReceived
  | .canSegment .. => h.execCanSegment
  | .canSegmentTimeout .. => h.execCanSegmentTimeout
  | .canTransmit .. => h.execCanTransmit
  | .canStatusFrame .. => h.execCanStatusFrame
  | .canErrorPassive .. => h.execCanErrorPassive
  | .canBusOff .. => h.execCanBusOff
  | .canBusOffRecovered .. => h.execCanBusOffRecovered
  | .tickSymbolReceived .. => h.execTickSymbolReceived
  | .holdover .. => h.execHoldover
  | .masterLost .. => h.execMasterLost
  | .ringLinkDown .. => h.execRingLinkDown
  | .trainingComplete .. => h.execTrainingComplete
  | .ringTrainFail .. => h.execRingTrainFail
  | .echoExchange .. => h.execEchoExchange
  | .stateSlotReceived .. => h.execStateSlotReceived
  | .asyncBlockReceived .. => h.execAsyncBlockReceived
  | .creditReturn .. => h.execCreditReturn
  | .ringListenAcquired .. => h.execRingListenAcquired
  | .join .. => h.execJoin
  | .insertionWindowAnnounce .. => h.execInsertionWindowAnnounce
  | .ringStart .. => h.execRingStart
  | .unwrap .. => h.execUnwrap
  | .retrainAtFrame .. => h.execRetrainAtFrame
  | .prepareReceived .. => h.execPrepareReceived
  | .commitDecision .. => h.execCommitDecision
  | .decisionReceived .. => h.execDecisionReceived
  | .quarryTrigger .. => h.execQuarryTrigger
  | .ringTrigger .. => h.execRingTrigger
  | .quarryRecordEnd .. => h.execQuarryRecordEnd
  | .quarryRearm .. => h.execQuarryRearm
  | .wake .. => h.execWake
  | .idleDescent .. => h.execIdleDescent
  | .dormantEntry .. => h.execDormantEntry
  | .keepEntry .. => h.execKeepEntry
  | .modeTransitionComplete .. => h.execModeTransitionComplete
  | .reset .. => h.execReset
  | .boot .. => h.execBoot
  | .supplyReset .. => h.execSupplyReset
  | .pwrStartRetry .. => h.execPwrStartRetry
  | .pwrVbatLow .. => h.execPwrVbatLow
  | .quarryInitDone .. => h.execQuarryInitDone
  | .flashOpComplete .. => h.execFlashOpComplete
  | .trialExpiry .. => h.execTrialExpiry
  | .rollbackApply .. => h.execRollbackApply
  | .eventFlashProgram .. => h.execEventFlashProgram
  | .scrubRead .. => h.execScrubRead
  | .idcode .. => h.execIdcode
  | .challenge .. => h.execChallenge
  | .unlock .. => h.execUnlock
  | .tokenCheckDone .. => h.execTokenCheckDone
  | .dbgStatus .. => h.execDbgStatus
  | .coreAccess .. => h.execCoreAccess
  | .debugReset .. => h.execDebugReset
  | .bypass .. => h.execBypass
  | .vgdBrkLow .. => h.execVgdBrkLow
  | .safetySetCheckDone .. => h.execSafetySetCheckDone
  | .selftestComplete .. => h.execSelftestComplete
  | .railPresent .. => h.execRailPresent
  | .joinReceived .. => h.execJoinReceived
  | .retrainTimeout .. => h.execRetrainTimeout
  | .islandSupplyRestored .. => h.execIslandSupplyRestored

end Kept

/-! ### A step -/

/-- A step keeps canonical form and what the channel denies: it runs a command on the rest of the queue, or idles. -/
theorem step_keeps {s t : State} (heq : step s = .next t) :
    (s.canonical = true → t.canonical = true) ∧ (Secure s.saf → Secure t.saf) := by
  unfold step at heq
  split at heq
  · cases heq
    exact ⟨id, id⟩
  · next c rest _ =>
    have hexec := (Kept.refl { s with pending := rest }).exec c t heq
    exact ⟨hexec.canonical, hexec.secure⟩

/-- Settles O2: no operation that a command is composed of changes the queue. -/
theorem queueOnlyShrinks : Obligations.QueueOnlyShrinks :=
  ⟨fun s hs => by rw [step, hs], fun c s t heq => ((Kept.refl s).exec c t heq).queue⟩

/-- Settles O4: parameters and memories change by `setPar`, `writeBytes` and filters alone, and each keeps the order of the list. -/
theorem everyStepKeepsCanonicalForm : Obligations.EveryStepKeepsCanonicalForm := fun _ _ hs heq => (step_keeps heq).1 hs

/-- Settles O30: the channel enters STO and LOCKED with both switches open, and closes one there only for a release. -/
theorem everyStepKeepsTorqueDenied : Obligations.EveryStepKeepsTorqueDenied := fun _ _ hs heq =>
  secure_iff.mp ((step_keeps heq).2 (secure_iff.mpr hs))

end Sys2Proof.Proofs
end
